-- ==== Sys2Proof/Word.lean ====
section
/-! DEFINITION. The word types of the device's structures: 32-bit little-endian words (R6), bytes, and the plainest
arithmetic on them. -/

namespace Sys2Proof

/-- A 32-bit word of a register or of a structure in host memory (R5, R6). -/
abbrev Word := BitVec 32

/-- One byte of a frame. -/
abbrev Byte := BitVec 8

end Sys2Proof
end

