-- ==== Sys2Proof/Machine/Args.lean ====
section
/-! DEFINITION. The operand types of the commands. Log entries: 5, 19, 40, 46, 92, 111. -/

namespace Sys2Proof

/-- Where a command came from (R92, R95): the function, its command ring, the descriptor's index in the ring, TAG, and
IRQ_NOW. -/
structure CmdHdr where
  fn : BitVec 6
  ring : BitVec 4
  idx : BitVec 32
  tag : BitVec 16
  irqNow : Bool
  deriving DecidableEq, Repr

/-- What a read of the host memory that a command names returned: the words, or `none` when the read failed (R94). -/
abbrev Dma := Option (List Word)

/-- The path of a register access (R80, R492): PF BAR0, the 16 KiB window of a function (PF BAR2 for function 0, BAR0 of
a virtual function otherwise); in PCI Express configuration space, the SR-IOV control, or the MSI-X capability or the Advanced Error
Reporting capability of a function (R79); or the JTAG port (R483), one rising edge of TCK. -/
inductive BusPath where
  | bar0
  | window (f : BitVec 6)
  | sriov
  | msixCap (f : BitVec 6)
  | aer (f : BitVec 6)
  | jtag
  deriving DecidableEq, Repr

/-- A register access as it reaches the device (R493): path, offset, size in bytes, data, and whether it is a read. -/
structure BusAcc where
  path : BusPath
  offset : BitVec 26
  size : BitVec 4
  data : BitVec 64
  rd : Bool := false
  deriving DecidableEq, Repr

/-! ## Memory errors -/

/-- A word that an access did not find clean (R408): its target, the access (0 a read, 1 a partial write, 2 a write of the whole word,
which makes it clean, R410), the syndrome's class (0 correctable, 1 uncorrectable, 2 address error, 3 poison), the syndrome and the
word address. The check matrix is not in the spec, so the class comes with the syndrome. -/
structure EccHit where
  t : BitVec 4
  acc : BitVec 2 := 0
  kind : BitVec 2
  synd : BitVec 8
  addr : BitVec 34
  deriving DecidableEq, Repr

/-- Words of an SRAM region (R407). -/
def regionWords (t : Nat) : Nat :=
  match t with
  | 0 => 2 ^ 24 | 1 => 12582912 | 2 => 5242880 | 3 => 2 ^ 21 | 4 => 2 ^ 22 | 5 => 2 ^ 20 | 10 => 2 ^ 20 | _ => 0

/-- The poison syndrome of a target's words: all ones over 7 or 8 check bits (R407, R408). -/
def poisonSynd (t : Nat) : Nat := if t = 0 ∨ t = 10 then 127 else 255

/-- A target has the word at `addr`: within its region, or an HBM address that the stack holds (R391, R407, R408). -/
def wordOf (t addr : Nat) : Bool :=
  if 6 ≤ t ∧ t ≤ 9 then decide (addr < 93 * 2 ^ 27) && addr / 32 % 4 = t - 6 else decide (addr < regionWords t)

/-- The parity of an 8-bit syndrome's weight. -/
def oddWeight (x : BitVec 8) : Bool := ((List.range 8).filter (fun i => x.getLsbD i)).length % 2 = 1

/-- What R408 lets a word be found as: an address its target has, and a syndrome of its class: all ones for poison, a column of odd
weight for a correctable word or an address error, any other but 0 and all ones for an uncorrectable word. -/
def EccHit.ok (e : EccHit) : Bool :=
  wordOf e.t.toNat e.addr.toNat && e.acc ≠ 3 && (e.acc = 2 ||
    (decide (e.synd.toNat ≤ poisonSynd e.t.toNat) && e.synd ≠ 0 && ((e.kind = 3) == (e.synd.toNat = poisonSynd e.t.toNat))
      && (e.kind = 1 || e.kind = 3 || oddWeight e.synd)))

/-- A received frame without its FCS, and the words of the packet buffer that reading it did not find clean (R123, R412). -/
structure RxFrame where
  bytes : List (BitVec 8)
  hits : List EccHit := []
  deriving DecidableEq, Repr

/-- The subport whose next frame is read from the packet buffer to be sent, and the words that reading did not find clean (R412). -/
structure TxRead where
  sub : BitVec 2
  hits : List EccHit := []
  deriving DecidableEq, Repr

/-! ## Brush instructions -/

/-- The core an instruction runs on (BRUSH_ID), whether its encoding takes a second instruction word (the encoding is not in the
spec, R255), and the memory errors it meets: which of its memory operands deliver 0 (R412) and every word not found clean. -/
structure BrushRef where
  core : BitVec 9
  two : Bool
  bad : BitVec 2
  hits : List EccHit
  deriving DecidableEq, Repr

/-- A register of R243 that MOVE and LDI name. -/
inductive BReg where
  | d (n : BitVec 3)
  | a (n : BitVec 2)
  | p (n : BitVec 3)
  | o (n : BitVec 3)
  | l (n : BitVec 3)
  deriving DecidableEq, Repr

/-- The addressing modes of R249, in its order. -/
inductive BMode where
  | at'
  | inc
  | dec
  | addO
  | idxO
  | revO
  deriving DecidableEq, Repr

/-- A memory operand (R249): X or Y memory, pointer, mode. -/
structure BEa where
  y : Bool
  p : BitVec 3
  m : BMode
  deriving DecidableEq, Repr

/-- The conditions of BR.cond (R255). -/
inductive BCond where
  | eq | ne | lt | ge | gt | le | hr | nhr | wrap | clamp
  deriving DecidableEq, Repr

/-- The count of LOOP (R252): immediate or a data register. -/
inductive BCount where
  | imm (n : BitVec 16)
  | reg (n : BitVec 3)
  deriving DecidableEq, Repr

/-! ## Firmware data and video -/

/-- What an uncorrectable word of firmware's own data held (R513): something with a good copy in HBM, state of one item without a
good copy, or other state without one. -/
inductive FwData where
  | copyOk
  | leg (id : BitVec 14)
  | layout (id : BitVec 9)
  | dec (ctx : BitVec 12)
  | enc (ctx : BitVec 10)
  | other
  deriving DecidableEq, Repr

/-- What decoding a frame by its standard finds (R278, R289): the size and luma area over every layer of the target, 10-bit depth, the
header's outcome (0 good, 1 error, 2 a feature outside R276), the RTP timestamps of the frames it refers to and of those kept as
references after it, the rows that each slice with a syntax error leaves (first, count), the row of each suppressed write, rows missing
(first, count), the colour matrix signalled (3 another) and the range, whether every layer of the target was present, and the samples:
luma by rows, then Cb and Cr alternating by rows. -/
structure VidFacts where
  w : BitVec 16
  h : BitVec 16
  area : BitVec 32
  ten : Bool
  hdr : BitVec 2
  refs : List (BitVec 32)
  keep : List (BitVec 32)
  syn : List (BitVec 16 × BitVec 16)
  bounds : List (BitVec 16)
  missing : List (BitVec 16 × BitVec 16)
  mtx : Option (BitVec 2)
  full : Bool
  layers : Bool
  y : List (BitVec 10)
  c : List (BitVec 10)
  deriving DecidableEq, Repr

/-- One unit of bitstream that an encode slice completes (R295): spatial layer, whether it goes on a unit begun in an earlier
slice, whether a later slice goes on with it, and its bytes. -/
structure EncUnit where
  sid : BitVec 2
  cont : Bool
  more : Bool
  data : List (BitVec 8)
  deriving DecidableEq, Repr

/-- What of a tick's mix does not finish in WORK (R39): the sinks of these legs, and the noise suppression, level or VAD of these; and the
words it did not find clean, with the sinks and the measures abandoned for an uncorrectable one, which are no overrun (R412). -/
structure Late where
  sinks : List (BitVec 14)
  measures : List (BitVec 14)
  hits : List EccHit := []
  badSinks : List (BitVec 14) := []
  badMeasures : List (BitVec 14) := []
  deriving DecidableEq, Repr

/-- What a slice of Canvas leaves out: layers whose picture held an uncorrectable word (R412), and, where the phase end stopped it, all row
pairs but the first so many (R331). -/
structure SliceSkip where
  layers : List (BitVec 6)
  stop : Option (BitVec 14)
  deriving DecidableEq, Repr

/-- Copies of Gesso's records that read differently from what the OTP store holds (R424, R425): class, index, the words that each of the
three copies reads as. -/
abbrev GessoImage := List (BitVec 8 × BitVec 16 × List (List (BitVec 32)))

/-- An image of CNV_VARNISH_LOAD as it was read: its bytes R, G, B, A by pixel and line, LINE_STRIDE apart. -/
abbrev ImgData := List (BitVec 8)

end Sys2Proof
end

