-- ==== Sys2Proof/Syntax.lean ====
section
/-! DEFINITION. The commands the block takes: one constructor per row of the opcode table, with the row's operands. A row
that is a host command carries the descriptor's header and the named fields of its command area; a row that is an event
carries what the surroundings bring with it (a frame's bytes, a doorbell line's words, a temperature). -/

namespace Sys2Proof

/-- The commands, in the table's order; each docstring names the row's rule. -/
inductive Instr where
  /-- TICK_START (R22). -/
  | tickStart (errs : List (BitVec 16 × BitVec 16 × Bool)) (slow : List (BitVec 16)) (hits : List EccHit) (fw : List FwData)
  /-- WORK_OPEN (R29). -/
  | workOpen
  /-- EMIT_OPEN (R29). -/
  | emitOpen
  /-- PACKET_LAUNCH (R173). -/
  | packetLaunch (p : BitVec 2) (u : TxRead)
  /-- PHASE_END (R39). -/
  | phaseEnd (phase : BitVec 2)
  /-- LATCH_POINT (R35). -/
  | latchPoint
  /-- TICK_OUT_PULSE (R42). -/
  | tickOutPulse
  /-- STEP_APPLY (R342). -/
  | stepApply
  /-- TICK_LOCK_LOST (R24). -/
  | tickLockLost
  /-- AUDIO_DECODE (R38). -/
  | audioDecode (hd : BitVec 16) (pcm : List (BitVec 16)) (ns : Option (List Word)) (hits : List EccHit)
  /-- MIX (R216). -/
  | mix (late : Late)
  /-- ACTIVE_SPEAKER_SWAP (R219). -/
  | activeSpeakerSwap (conf : BitVec 12) (bus : BitVec 2)
  /-- DOMINANT_SPEAKER_CHANGE (R220). -/
  | dominantSpeakerChange (conf : BitVec 12)
  /-- AUDIO_ENCODE (R226). -/
  | audioEncode (hd : BitVec 16) (pay : List Byte) (sid : Bool) (hits : List EccHit)
  /-- GROUP_WAKE (R235). -/
  | groupWake (g : BitVec 4)
  /-- SIL_HOLD_REACHED (R234). -/
  | silHoldReached (leg : BitVec 14)
  /-- TASK_ARRIVAL (R262). -/
  | taskArrival (leg : BitVec 14) (pt : BitVec 2)
  /-- MOVE (R248). -/
  | move (b : BrushRef) (dst src : BReg)
  /-- LDI (R255). -/
  | ldi (b : BrushRef) (dst : BReg) (imm : BitVec 24)
  /-- LD_H (R248). -/
  | ldH (b : BrushRef) (d : BitVec 3) (e : BEa)
  /-- LD_L (R248). -/
  | ldL (b : BrushRef) (d : BitVec 3) (e : BEa)
  /-- ST_H (R248). -/
  | stH (b : BrushRef) (d : BitVec 3) (e : BEa)
  /-- ST_L (R248). -/
  | stL (b : BrushRef) (d : BitVec 3) (e : BEa)
  /-- LDBUS (R248). -/
  | ldbus (b : BrushRef) (n : BitVec 2) (e : BEa)
  /-- STBUS (R246). -/
  | stbus (b : BrushRef) (n : BitVec 2) (e : BEa)
  /-- MOVD (R246). -/
  | movd (b : BrushRef) (d : BitVec 3) (n : BitVec 2)
  /-- MOVD_R (R246). -/
  | movdR (b : BrushRef) (d : BitVec 3) (n : BitVec 2)
  /-- MUL (R245). -/
  | mul (b : BrushRef) (n : BitVec 2) (x y : BitVec 3)
  /-- MLA (R245). -/
  | mla (b : BrushRef) (n : BitVec 2) (x y : BitVec 3)
  /-- MLS (R245). -/
  | mls (b : BrushRef) (n : BitVec 2) (x y : BitVec 3)
  /-- MUL_R (R247). -/
  | mulR (b : BrushRef) (n : BitVec 2) (x y : BitVec 3)
  /-- MLA_R (R247). -/
  | mlaR (b : BrushRef) (n : BitVec 2) (x y : BitVec 3)
  /-- MLA_M (R255). -/
  | mlaM (b : BrushRef) (n : BitVec 2) (x y : BEa)
  /-- MLS_M (R255). -/
  | mlsM (b : BrushRef) (n : BitVec 2) (x y : BEa)
  /-- MLA2 (R255). -/
  | mla2 (b : BrushRef) (n : BitVec 2) (u : BitVec 3) (x : BEa) (m : BitVec 2) (v : BitVec 3) (y : BEa)
  /-- ADD (R245). -/
  | add (b : BrushRef) (n m : BitVec 2)
  /-- SUB (R245). -/
  | sub (b : BrushRef) (n m : BitVec 2)
  /-- NEG (R245). -/
  | neg (b : BrushRef) (n : BitVec 2)
  /-- ABS (R245). -/
  | abs (b : BrushRef) (n : BitVec 2)
  /-- CLR (R255). -/
  | clr (b : BrushRef) (n : BitVec 2)
  /-- CMP (R255). -/
  | cmp (b : BrushRef) (n m : BitVec 2)
  /-- SHL (R245). -/
  | shl (b : BrushRef) (n : BitVec 2) (k : BitVec 5)
  /-- SHR (R255). -/
  | shr (b : BrushRef) (n : BitVec 2) (k : BitVec 5)
  /-- RNDC (R247). -/
  | rndc (b : BrushRef) (n : BitVec 2)
  /-- SAT (R246). -/
  | sat (b : BrushRef) (n : BitVec 2)
  /-- CLS (R255). -/
  | cls (b : BrushRef) (d : BitVec 3) (n : BitVec 2)
  /-- ADDD (R255). -/
  | addd (b : BrushRef) (d x y : BitVec 3)
  /-- SUBD (R255). -/
  | subd (b : BrushRef) (d x y : BitVec 3)
  /-- AND (R255). -/
  | and (b : BrushRef) (d x y : BitVec 3)
  /-- OR (R255). -/
  | or (b : BrushRef) (d x y : BitVec 3)
  /-- XOR (R255). -/
  | xor (b : BrushRef) (d x y : BitVec 3)
  /-- NOT (R255). -/
  | not (b : BrushRef) (d x : BitVec 3)
  /-- LSL (R255). -/
  | lsl (b : BrushRef) (d x : BitVec 3) (k : BitVec 5)
  /-- LSR (R255). -/
  | lsr (b : BrushRef) (d x : BitVec 3) (k : BitVec 5)
  /-- ASRD (R255). -/
  | asrd (b : BrushRef) (d x : BitVec 3) (k : BitVec 5)
  /-- CMPD (R255). -/
  | cmpd (b : BrushRef) (x y : BitVec 3)
  /-- LEA (R250). -/
  | lea (b : BrushRef) (p : BitVec 3) (m : BMode)
  /-- BR (R255). -/
  | br (b : BrushRef) (t : BitVec 16)
  /-- BR_COND (R255). -/
  | brCond (b : BrushRef) (c : BCond) (t : BitVec 16)
  /-- CALL (R254). -/
  | call (b : BrushRef) (t : BitVec 16)
  /-- RET (R254). -/
  | ret (b : BrushRef)
  /-- LOOP (R252). -/
  | loop (b : BrushRef) (n : BCount) (e : BitVec 16)
  /-- LEAVE (R253). -/
  | leave (b : BrushRef)
  /-- CLRF (R244). -/
  | clrf (b : BrushRef)
  /-- NOP (R255). -/
  | nop (b : BrushRef)
  /-- XFER_R (R265). -/
  | xferR (b : BrushRef) (d p : BitVec 3) (y : Bool) (len : BitVec 11)
  /-- XFER_W (R265). -/
  | xferW (b : BrushRef) (d p : BitVec 3) (y : Bool) (len : BitVec 11)
  /-- XFER_COMPLETE (R265). -/
  | xferComplete (core : BitVec 9) (bad : List (BitVec 11)) (hits : List EccHit)
  /-- WAIT (R266). -/
  | wait (b : BrushRef)
  /-- SIG (R266). -/
  | sig (b : BrushRef)
  /-- HALT (R264). -/
  | halt (b : BrushRef)
  /-- WAIT_TIMEOUT (R267). -/
  | waitTimeout (core : BitVec 9)
  /-- INSTANCE_SUSPEND (R270). -/
  | instanceSuspend (leg : BitVec 14) (pt : BitVec 2)
  /-- VIDEO_DECODE_SLICE (R283). -/
  | videoDecodeSlice (ctx : BitVec 12) (facts : List VidFacts) (hits : List EccHit)
  /-- VIDEO_ENCODE_SLICE (R294). -/
  | videoEncodeSlice (ctx : BitVec 10) (blocks : List (BitVec 24)) (units : List EncUnit) (params : List (List (BitVec 8))) (hits : List EccHit)
  /-- KEY_INT_EXPIRY (R305). -/
  | keyIntExpiry (ctx : BitVec 10)
  /-- CANVAS_SLICE (R319). -/
  | canvasSlice (ctx : BitVec 10) (hits : List EccHit) (skip : SliceSkip) (lost : List (BitVec 12 × List (BitVec 13 × BitVec 13)))
  /-- FRAME_BOUNDARY (R320). -/
  | frameBoundary (ctx : BitVec 10)
  /-- FLIP_TIMEOUT (R323). -/
  | flipTimeout (layout : BitVec 9)
  /-- LAYER_STALE (R320). -/
  | layerStale (layout : BitVec 9) (layer : BitVec 6)
  /-- PLATE_VALID (R329). -/
  | plateValid (plate : BitVec 12)
  /-- DOORBELL_POLL (R90). -/
  | doorbellPoll
  /-- DOORBELL_LINE_READ (R88). -/
  | doorbellLineRead (f : BitVec 6) (line : BitVec 3) (words : Option (List Word)) (media : List (BitVec 6 × List (List Word × List Word)))
  /-- HPA_CONTROL_READ (R129). -/
  | hpaControlRead (f : BitVec 6) (line : Dma) (slots : List (List Word))
  /-- DESCRIPTOR_FETCH (R94). -/
  | descriptorFetch (f : BitVec 6) (q : BitVec 4) (words : Option (List Word)) (dma : Dma) (bad : Option (BitVec 16)) (imgs : Option (List ImgData))
  /-- HOST_STALL (R106). -/
  | hostStall (f : BitVec 6) (q : BitVec 7)
  /-- MODERATION_POINT (R108). -/
  | moderationPoint (f : BitVec 6)
  /-- MEDIA_ENTRY_FINISH (R104). -/
  | mediaEntryFinish (f : BitVec 6) (m : BitVec 6)
  /-- RING_DRAIN_DONE (R109). -/
  | ringDrainDone (f : BitVec 6) (q : BitVec 7)
  /-- FUNCTION_LEVEL_RESET (R110). -/
  | functionLevelReset (f : BitVec 6)
  /-- VF_ENABLE_CLEAR (R110). -/
  | vfEnableClear
  /-- HIF_FN_RESET (R110). -/
  | hifFnReset (f : BitVec 6)
  /-- FN_RESET_COMPLETE (R110). -/
  | fnResetComplete (f : BitVec 6)
  /-- HIF_FN_EN (R109). -/
  | hifFnEn (f : BitVec 6) (en : Bool)
  /-- HIF_RING_EN (R84). -/
  | hifRingEn (f : BitVec 6) (q : BitVec 7) (en : Bool)
  /-- GEN_NOP (R115). -/
  | genNop (h : CmdHdr)
  /-- GEN_FN_INFO (R115). -/
  | genFnInfo (h : CmdHdr)
  /-- GEN_EVENT_MASK (R100). -/
  | genEventMask (h : CmdHdr) (enable : Bool) (code : BitVec 16)
  /-- GEN_VF_RESET (R111). -/
  | genVfReset (h : CmdHdr) (f : BitVec 6)
  /-- ADM_CONF_OPEN (R48). -/
  | admConfOpen (h : CmdHdr) (conf audPmax vidPmax : BitVec 12) (hops : BitVec 5)
  /-- ADM_CONF_CLOSE (R48). -/
  | admConfClose (h : CmdHdr) (conf : BitVec 12)
  /-- ADM_LEG_ADMIT (R61). -/
  | admLegAdmit (h : CmdHdr) (conf : BitVec 12) (leg : BitVec 14) (addr : BitVec 64) (dma : Dma)
  /-- ADM_LEG_MODIFY (R64). -/
  | admLegModify (h : CmdHdr) (conf : BitVec 12) (leg : BitVec 14) (addr : BitVec 64) (dma : Dma)
  /-- ADM_LEG_RELEASE (R65). -/
  | admLegRelease (h : CmdHdr) (leg : BitVec 14)
  /-- ADM_LEG_STATS (R75). -/
  | admLegStats (h : CmdHdr) (clr : Bool) (hd : BitVec 16)
  /-- ADM_FN_BUDGET_SET (R74). -/
  | admFnBudgetSet (h : CmdHdr) (f : BitVec 6) (r : BitVec 4) (v : BitVec 11)
  /-- ADM_LAYOUT_ADMIT (R58). -/
  | admLayoutAdmit (h : CmdHdr) (id : BitVec 9) (conf : BitVec 12) (w ht : BitVec 16) (per : BitVec 12) (codec cprof : BitVec 8) (depth : BitVec 1)
  /-- ADM_LAYOUT_RELEASE (R65). -/
  | admLayoutRelease (h : CmdHdr) (id : BitVec 9)
  /-- ADM_HOST_CLOSE (R46). -/
  | admHostClose (v : Bool)
  /-- NET_STREAM_BIND (R134). -/
  | netStreamBind (h : CmdHdr) (hd : BitVec 16) (addr : BitVec 64) (dma : Dma)
  /-- NET_STREAM_UNBIND (R134). -/
  | netStreamUnbind (h : CmdHdr) (hd : BitVec 16)
  /-- NET_PORT_STATS (R146). -/
  | netPortStats (h : CmdHdr) (clr : Bool) (p u : BitVec 2) (addr : BitVec 64)
  /-- NET_JB_SET (R137). -/
  | netJbSet (h : CmdHdr) (reanchor : Bool) (hd : BitVec 16) (run : BitVec 4)
  /-- NET_QUEUE_FLUSH (R142). -/
  | netQueueFlush (h : CmdHdr) (hd : BitVec 16)
  /-- FRAME_RECEIVE (R123). -/
  | frameReceive (p u : BitVec 2) (fcsOk : Bool) (frame : RxFrame)
  /-- LATE_RUN_REACHED (R137). -/
  | lateRunReached (hd : BitVec 16) (i : BitVec 2)
  /-- LINK_DOWN (R121). -/
  | linkDown (p u : BitVec 2)
  /-- LINK_UP (R121). -/
  | linkUp (p u : BitVec 2)
  /-- FWD_SUB_SET (R152). -/
  | fwdSubSet (h : CmdHdr) (id : BitVec 20) (src dst : BitVec 16) (ssrc tsOfs : BitVec 32) (seqStart : BitVec 16) (ptEn : Bool) (ptOut : BitVec 7) (ddIn ddOut fmIn fmOut : BitVec 4) (pause kpFir : Bool) (prio : BitVec 3) (capS capT : BitVec 2)
  /-- FWD_SUB_CLEAR (R153). -/
  | fwdSubClear (h : CmdHdr) (id : BitVec 20)
  /-- FWD_SUB_CAP (R166). -/
  | fwdSubCap (h : CmdHdr) (id : BitVec 20) (pause kpFir : Bool) (prio : BitVec 3) (capS capT : BitVec 2)
  /-- FWD_EST_READ (R174). -/
  | fwdEstRead (h : CmdHdr) (leg : BitVec 14)
  /-- FWD_KEY_PIC_REQ (R169). -/
  | fwdKeyPicReq (h : CmdHdr) (i : BitVec 2) (hd : BitVec 16)
  /-- FWD_PACE_SET (R163). -/
  | fwdPaceSet (h : CmdHdr) (emode : BitVec 2) (leg : BitVec 14) (line init max : BitVec 32)
  /-- EST_UPDATE (R164). -/
  | estUpdate (leg : BitVec 14)
  /-- UP_HOLD_REACHED (R166). -/
  | upHoldReached (id : BitVec 20)
  /-- KP_GAP_END (R170). -/
  | kpGapEnd (hd : BitVec 16) (i : BitVec 2)
  /-- KP_WAIT_EXPIRY (R167). -/
  | kpWaitExpiry (id : BitVec 20)
  /-- KEY_KEK_INFO (R184). -/
  | keyKekInfo (h : CmdHdr) (addr : BitVec 64)
  /-- KEK_AGREE (R185). -/
  | kekAgree (h : CmdHdr) (addr : BitVec 64) (dma : Dma)
  /-- KEY_IMPORT (R188). -/
  | keyImport (h : CmdHdr) (suite : BitVec 8) (slot : BitVec 16) (addr : BitVec 64) (dma : Dma)
  /-- KEY_DERIVE (R189). -/
  | keyDerive (h : CmdHdr) (master sess : BitVec 16)
  /-- KEY_ERASE (R190). -/
  | keyErase (h : CmdHdr) (slot : BitVec 16)
  /-- CIP_BIND (R193). -/
  | cipBind (h : CmdHdr) (keep clear : Bool) (rplW : BitVec 3) (dir : Bool) (hd slot : BitVec 16) (txRoc : BitVec 32) (txSeq : BitVec 16) (roc0 roc1 roc2 roc3 : BitVec 32) (tcpIdx : BitVec 31)
  /-- CIP_UNBIND (R193). -/
  | cipUnbind (h : CmdHdr) (dir : Bool) (hd : BitVec 16)
  /-- CIP_STATS (R203). -/
  | cipStats (h : CmdHdr) (clr : Bool) (i : BitVec 2) (dir : Bool) (hd : BitVec 16) (addr : BitVec 64)
  /-- RX_OVERLAP_END (R195). -/
  | rxOverlapEnd (hd : BitVec 16)
  /-- RESEED (R199). -/
  | reseed (pass : Bool)
  /-- ENTROPY_HEALTH_FAIL (R200). -/
  | entropyHealthFail
  /-- AUD_ROUTE_SET (R221). -/
  | audRouteSet (h : CmdHdr) (leg : BitVec 14) (contrib listen minus : BitVec 4) (force dtx : Bool) (xf : BitVec 3) (c0 c1 c2 c3 l0 l1 l2 l3 : BitVec 16)
  /-- AUD_BUS_SETTING (R214). -/
  | audBusSetting (h : CmdHdr) (bus : BitVec 2) (conf : BitVec 12) (n : BitVec 7)
  /-- AUD_ROUTE_CLEAR (R221). -/
  | audRouteClear (h : CmdHdr) (leg : BitVec 14) (xf : BitVec 3)
  /-- AUD_SINK_DYN (R225). -/
  | audSinkDyn (h : CmdHdr) (compEn limEn : Bool) (leg : BitVec 14) (thr ratio att rel makeup ceil limRel : BitVec 16)
  /-- AUD_TONE_PLAY (R229). -/
  | audTonePlay (h : CmdHdr) (onBus replace : Bool) (bus : BitVec 2) (id : BitVec 14) (tone : BitVec 8) (rep onT offT f1 f2 l1 l2 : BitVec 16)
  /-- AUD_TONE_STOP (R229). -/
  | audToneStop (h : CmdHdr) (onBus : Bool) (bus : BitVec 2) (id : BitVec 14)
  /-- AUD_LEVELS (R236). -/
  | audLevels (h : CmdHdr) (clr : Bool) (leg : BitVec 14)
  /-- AUD_MEDIA_BIND (R230). -/
  | audMediaBind (h : CmdHdr) (m : BitVec 6) (point : BitVec 2) (id : BitVec 14) (bus : BitVec 2) (gain : BitVec 16)
  /-- AUD_MEDIA_UNBIND (R230). -/
  | audMediaUnbind (h : CmdHdr) (m : BitVec 6)
  /-- BRS_PROG_LOAD (R258). -/
  | brsProgLoad (h : CmdHdr) (prog : BitVec 8) (addr : BitVec 64) (dma : Dma) (bad : Option (BitVec 16))
  /-- BRS_PROG_UNLOAD (R258). -/
  | brsProgUnload (h : CmdHdr) (prog : BitVec 8)
  /-- BRS_TASK_BIND (R260). -/
  | brsTaskBind (h : CmdHdr) (prog : BitVec 8) (pt : BitVec 2) (leg : BitVec 14) (p0 p1 p2 p3 : BitVec 24)
  /-- BRS_TASK_UNBIND (R261). -/
  | brsTaskUnbind (h : CmdHdr) (pt : BitVec 2) (leg : BitVec 14)
  /-- BRS_STATS (R271). -/
  | brsStats (h : CmdHdr) (clr : Bool) (pt : BitVec 2) (leg : BitVec 14)
  /-- VID_DEC_OPEN (R280). -/
  | vidDecOpen (h : CmdHdr) (kpFir : Bool) (opS opT : BitVec 2) (holds : BitVec 3) (dpb : BitVec 5) (hd : BitVec 16)
  /-- VID_DEC_CLOSE (R308). -/
  | vidDecClose (h : CmdHdr) (ctx : BitVec 12)
  /-- VID_ENC_OPEN (R280). -/
  | vidEncOpen (h : CmdHdr) (own : Bool) (id : BitVec 14) (topW topH : BitVec 16) (sl tl : BitVec 2) (ext : BitVec 4) (pt : BitVec 7) (keyInt : BitVec 16) (tsOfs : BitVec 32)
  /-- VID_ENC_CLOSE (R308). -/
  | vidEncClose (h : CmdHdr) (ctx : BitVec 10)
  /-- VID_ENC_RATE (R303). -/
  | vidEncRate (h : CmdHdr) (ctx : BitVec 10) (kbps cap : BitVec 32) (pct : BitVec 8) (mult : BitVec 4)
  /-- VID_KEY_PIC (R305). -/
  | vidKeyPic (h : CmdHdr) (ctx : BitVec 10)
  /-- VID_MEDIA_BIND (R307). -/
  | vidMediaBind (h : CmdHdr) (point : BitVec 2) (m : BitVec 6) (ctx : BitVec 12) (w ht : BitVec 16)
  /-- VID_MEDIA_UNBIND (R307). -/
  | vidMediaUnbind (h : CmdHdr) (m : BitVec 6)
  /-- VID_STATS (R309). -/
  | vidStats (h : CmdHdr) (clr enc : Bool) (ctx : BitVec 12) (addr : BitVec 64)
  /-- CNV_LAYOUT_SET (R315). -/
  | cnvLayoutSet (h : CmdHdr) (layout : BitVec 9) (mtx : BitVec 2) (full : Bool) (bgY bgCb bgCr : BitVec 10)
  /-- CNV_LAYER_SET (R317). -/
  | cnvLayerSet (h : CmdHdr) (kind : BitVec 2) (hideDmg selfHide : Bool) (group : BitVec 4) (layer : BitVec 6) (layout : BitVec 9) (src : BitVec 32) (x y w ht cx cy cw ch : BitVec 16) (alpha : BitVec 8) (fence : BitVec 2)
  /-- CNV_LAYER_CLEAR (R317). -/
  | cnvLayerClear (h : CmdHdr) (group : BitVec 4) (layer : BitVec 6) (layout : BitVec 9)
  /-- CNV_GROUP_FLIP (R322). -/
  | cnvGroupFlip (h : CmdHdr) (group : BitVec 4) (layout : BitVec 9)
  /-- CNV_VARNISH_LOAD (R329). -/
  | cnvVarnishLoad (h : CmdHdr) (plate : BitVec 12) (w ht : BitVec 16) (mtx : BitVec 2) (full : Bool) (count : BitVec 5) (addr : BitVec 64) (dma : Dma) (imgs : Option (List ImgData))
  /-- CNV_VARNISH_DROP (R330). -/
  | cnvVarnishDrop (h : CmdHdr) (plate : BitVec 12)
  /-- PTP_STEP (R341). -/
  | ptpStep (h : CmdHdr) (newEpoch set : Bool) (v : BitVec 64) (n : BitVec 30)
  /-- PTP_RATE (R353). -/
  | ptpRate (h : CmdHdr) (synced : Bool) (r : BitVec 32)
  /-- PTP_SERVO_CFG (R356). -/
  | ptpServoCfg (h : CmdHdr) (en : Bool) (src : BitVec 2) (ports : BitVec 4) (domain : BitVec 8) (dest : Bool) (prio stepNs : BitVec 32) (lockCnt : BitVec 8) (lockNs : BitVec 16)
  /-- PTP_STATUS (R356). -/
  | ptpStatus (h : CmdHdr)
  /-- DELAY_REQ_SEND (R350). -/
  | delayReqSend (ofs : BitVec 19)
  /-- ANNOUNCE_TIMEOUT (R350). -/
  | announceTimeout
  /-- MEASUREMENT_TIMEOUT (R352). -/
  | measurementTimeout
  /-- HOLDOVER_LIMIT (R352). -/
  | holdoverLimit
  /-- PPS_OUT_PULSE (R348). -/
  | ppsOutPulse
  /-- PPS_IN_EDGE (R349). -/
  | ppsInEdge (falling : Bool)
  /-- PPS_IN_LOSS (R349). -/
  | ppsInLoss
  /-- PTP_LAUNCH_MISS (R347). -/
  | ptpLaunchMiss
  /-- MSH_PORT_CFG (R386). -/
  | mshPortCfg (h : CmdHdr) (m : BitVec 2) (en : Bool) (width : BitVec 2) (tree exp wake : Bool) (node : BitVec 5)
  /-- MSH_ROUTE_SET (R378). -/
  | mshRouteSet (h : CmdHdr) (node : BitVec 5) (m : BitVec 2)
  /-- MSH_STREAM_EXPORT (R378). -/
  | mshStreamExport (h : CmdHdr) (hd : BitVec 16) (relay : BitVec 20) (dst : BitVec 5) (remove : Bool)
  /-- MSH_STREAM_IMPORT (R379). -/
  | mshStreamImport (h : CmdHdr) (hd : BitVec 16) (relay : BitVec 20) (valid : BitVec 4) (s0 s1 s2 s3 : BitVec 32) (remove : Bool)
  /-- MSH_TRACE_SET (R366). -/
  | mshTraceSet (h : CmdHdr) (id : BitVec 112)
  /-- MSH_APS_CMD (R369). -/
  | mshApsCmd (h : CmdHdr) (m : BitVec 2) (req lane : BitVec 4)
  /-- MSH_PEER_STATUS (R386). -/
  | mshPeerStatus (h : CmdHdr) (m : BitVec 2)
  /-- MSH_WAKE_SEND (R385). -/
  | mshWakeSend (h : CmdHdr) (mask : BitVec 4)
  /-- LANE_FRAME_RECEIVE (R364). -/
  | laneFrameReceive (m : BitVec 2) (l : BitVec 4) (b : List (BitVec 8)) (delay unc sym : BitVec 16)
  /-- AM_LOCK (R364). -/
  | amLock (m : BitVec 2) (l : BitVec 4)
  /-- AM_LOSS (R364). -/
  | amLoss (m : BitVec 2) (l : BitVec 4)
  /-- TRACE_ACCEPT (R366). -/
  | traceAccept (m : BitVec 2) (l : BitVec 4)
  /-- SF_HOLDOFF_EXPIRY (R368). -/
  | sfHoldoffExpiry (m : BitVec 2) (l : BitVec 3)
  /-- APS_SELECT (R370). -/
  | apsSelect (m : BitVec 2)
  /-- WTR_EXPIRY (R371). -/
  | wtrExpiry (m : BitVec 2)
  /-- PARTIAL_UNIT_RECEIVE (R377). -/
  | partialUnitReceive (m : BitVec 2) (body : List (BitVec 8)) (cut : Bool)
  /-- MEDIA_UNIT_RECEIVE (R378). -/
  | mediaUnitReceive (m : BitVec 2) (body : List (BitVec 8)) (cut : Bool)
  /-- TICK_MARKER_RECEIVE (R382). -/
  | tickMarkerReceive (m : BitVec 2) (body : List (BitVec 8))
  /-- CREDIT_UNIT_RECEIVE (R374). -/
  | creditUnitReceive (m : BitVec 2) (body : List (BitVec 8))
  /-- CONTROL_UNIT_RECEIVE (R372). -/
  | controlUnitReceive (m : BitVec 2) (type : BitVec 4) (vc : BitVec 2) (body : List (BitVec 8)) (cut : Bool)
  /-- CREDIT_UNIT_SEND (R373). -/
  | creditUnitSend (m : BitVec 2)
  /-- TICK_MARKER_SEND (R381). -/
  | tickMarkerSend (ofs : List (BitVec 11))
  /-- MEDIA_UNIT_TIMEOUT (R378). -/
  | mediaUnitTimeout (m : BitVec 2)
  /-- PART_FORGET (R377). -/
  | partForget (conf : BitVec 12) (node : BitVec 5)
  /-- TICK_LOCK_ACQUIRE (R383). -/
  | tickLockAcquire
  /-- WAKE_PATTERN_DETECT (R385). -/
  | wakePatternDetect (m : BitVec 2) (bursts : List (BitVec 16 × BitVec 16))
  /-- MEM_SWEEP (R417). -/
  | memSweep (h : CmdHdr) (repair : Bool) (t : BitVec 4)
  /-- SWEEP_COMPLETE (R417). -/
  | sweepComplete (read skipped : BitVec 40) (hits : List EccHit)
  /-- MEM_SOFT_REPAIR (R416). -/
  | memSoftRepair (h : CmdHdr) (t : BitVec 4) (m row : BitVec 11)
  /-- SOFT_REPAIR_CLEAR_ALL (R418). -/
  | softRepairClearAll (h : CmdHdr) (t : BitVec 4) (m row : BitVec 11)
  /-- MEM_SPARE_STATUS (R418). -/
  | memSpareStatus (h : CmdHdr)
  /-- MEM_ERR_LOG (R414). -/
  | memErrLog (h : CmdHdr) (clr : Bool) (addr : BitVec 64)
  /-- HBM_REFRESH (R398). -/
  | hbmRefresh (st : BitVec 2) (p : BitVec 5)
  /-- HBM_TEMP_READ (R398). -/
  | hbmTempRead (st : BitVec 2) (temp : BitVec 8)
  /-- RETRAIN_INTERVAL (R401). -/
  | retrainInterval (st : BitVec 2) (p : BitVec 5)
  /-- RETRAIN_PIECE (R433). -/
  | retrainPiece (st : BitVec 2) (p : BitVec 5) (cand : List (BitVec 16)) (margin good : List (BitVec 8))
  /-- PC_FAIL (R402). -/
  | pcFail (st : BitVec 2) (p : BitVec 5)
  /-- MIGRATION_CHUNK (R403). -/
  | migrationChunk (st : BitVec 2) (hits : List EccHit)
  /-- MIGRATION_END (R403). -/
  | migrationEnd (st : BitVec 2)
  /-- BUCKET_LEAK (R413). -/
  | bucketLeak
  /-- BUCKET_OVERFLOW (R413). -/
  | bucketOverflow (t : BitVec 4) (synd : BitVec 8) (addr : BitVec 34)
  /-- CAL_GLAZE_LOAD (R427). -/
  | calGlazeLoad (h : CmdHdr) (clear : Bool) (addr : BitVec 64) (dma : Dma)
  /-- CAL_GLAZE_READ (R434). -/
  | calGlazeRead (h : CmdHdr) (sel : Bool) (addr : BitVec 64)
  /-- CAL_LIVE_READ (R432). -/
  | calLiveRead (h : CmdHdr) (cls : BitVec 8) (first count : BitVec 16) (addr : BitVec 64)
  /-- CAL_GESSO_READ (R434). -/
  | calGessoRead (h : CmdHdr) (cls : BitVec 8) (idx : BitVec 16) (addr : BitVec 64)
  /-- SERDES_TRIM_SLOT (R431). -/
  | serdesTrimSlot (msh : Bool) (lane : BitVec 6) (cand : List (BitVec 16)) (v h v0 h0 : BitVec 16)
  /-- SENSOR_TRIM_SLOT (R430). -/
  | sensorTrimSlot (temps volts : List (BitVec 16)) (osc : Option (BitVec 16))
  /-- PWR_MODE_REQ_RUN (R447). -/
  | pwrModeReqRun (h : CmdHdr)
  /-- PWR_MODE_REQ_DRAIN (R446). -/
  | pwrModeReqDrain (h : CmdHdr)
  /-- PWR_MODE_REQ_DOZE (R447). -/
  | pwrModeReqDoze (h : CmdHdr)
  /-- PWR_MODE_REQ_SLEEP (R448). -/
  | pwrModeReqSleep (h : CmdHdr)
  /-- PWR_RESIDENCY (R459). -/
  | pwrResidency (h : CmdHdr) (clr : Bool) (addr : BitVec 64)
  /-- PWR_SIL_HOLD_SET (R454). -/
  | pwrSilHoldSet (h : CmdHdr) (v : BitVec 16)
  /-- PWR_THERMAL (R463). -/
  | pwrThermal (h : CmdHdr)
  /-- DOZE_DOMAINS_OFF (R447). -/
  | dozeDomainsOff
  /-- DOZE_EXIT_READY (R447). -/
  | dozeExitReady
  /-- SLEEP_ENTRY (R448). -/
  | sleepEntry
  /-- CLOCK_STOP (R354). -/
  | clockStop
  /-- ETH_SIGNAL_WAKE (R449). -/
  | ethSignalWake (p : BitVec 2)
  /-- PCIE_WAKE (R449). -/
  | pcieWake
  /-- SLEEP_TIMER_WAKE (R449). -/
  | sleepTimerWake
  /-- WAKE (R450). -/
  | wake
  /-- CLOCK_RESTART (R354). -/
  | clockRestart (c : BitVec 64)
  /-- POWERUP_TIMEOUT (R451). -/
  | powerupTimeout (src : BitVec 3)
  /-- POWERUP_RETRY (R451). -/
  | powerupRetry
  /-- RAIL_RAISE (R440). -/
  | railRaise
  /-- RAIL_LOWER (R440). -/
  | railLower
  /-- RAIL_FAULT (R441). -/
  | railFault (i : BitVec 3)
  /-- COLD_RESET (R442). -/
  | coldReset
  /-- COLD_RESET_END (R442). -/
  | coldResetEnd
  /-- PERST_N_ASSERT (R442). -/
  | perstNAssert (width : BitVec 32) (taken : Bool)
  /-- SYS_RESET_N_ASSERT (R442). -/
  | sysResetNAssert (width : BitVec 32) (taken : Bool)
  /-- RESET_RELEASE (R442). -/
  | resetRelease
  /-- BOOT_IMAGE_CHECK (R503). -/
  | bootImageCheck (found : Bool) (len : BitVec 32) (readOk sigOk : Bool) (dev : BitVec 16) (svn : BitVec 8) (ver : BitVec 32) (edges : BitVec 32) (gesso : GessoImage) (flash : List (BitVec 32))
  /-- PRIME_TRAINING (R399). -/
  | primeTraining (res : List (BitVec 7 × List (BitVec 8) × List (BitVec 16)))
  /-- PRIME_COMPLETE (R499). -/
  | primeComplete
  /-- TEMP_READING (R461). -/
  | tempReading (raw : List (BitVec 16))
  /-- CRIT_DRAIN_EXPIRY (R461). -/
  | critDrainExpiry
  /-- THERMAL_TRIP (R462). -/
  | thermalTrip
  /-- PMBUS_POLL (R482). -/
  | pmbusPoll
  /-- FIRMWARE_STOP (R514). -/
  | firmwareStop
  /-- SYS_SETUP_DONE (R500). -/
  | sysSetupDone
  /-- CTL_BOOT_GO (R502). -/
  | ctlBootGo
  /-- TIK_OUT_EN (R43). -/
  | tikOutEn (en : Bool)
  /-- PAD_REL_TIME (R456). -/
  | padRelTime
  /-- PAD_REL_GPIO (R456). -/
  | padRelGpio
  /-- TIK_NOW_LO (R522). -/
  | tikNowLo (wide : Bool)
  /-- TIK_OVR_LAST_LO (R522). -/
  | tikOvrLastLo (wide : Bool)
  /-- PTP_TIME_NS (R337). -/
  | ptpTimeNs (wide : Bool)
  /-- PTP_SLEEP_CNT_LO (R522). -/
  | ptpSleepCntLo (wide : Bool)
  /-- SYS_SERIAL_LO (R522). -/
  | sysSerialLo (wide : Bool)
  /-- REGISTER_WRITE (R496). -/
  | registerWrite (acc : BusAcc)
  /-- TIK_CLR_LAST (R44). -/
  | tikClrLast
  /-- TIK_CLR_HOLD (R44). -/
  | tikClrHold
  /-- TIK_CLR_SKIP (R44). -/
  | tikClrSkip
  /-- TIK_CLR_EMIT (R44). -/
  | tikClrEmit
  /-- TIK_CLR_WORK (R44). -/
  | tikClrWork
  /-- TIK_CLR_GATHER (R44). -/
  | tikClrGather
  /-- SPQ_CLR_UE (R150). -/
  | spqClrUe
  /-- SPQ_CLR_CE (R150). -/
  | spqClrCe
  /-- FWD_CLR_KP (R177). -/
  | fwdClrKp
  /-- FWD_CLR_STALE (R177). -/
  | fwdClrStale
  /-- FWD_CLR_LIMIT (R177). -/
  | fwdClrLimit
  /-- CIP_CLR_RETRY (R206). -/
  | cipClrRetry
  /-- CIP_CLR_REFUSE (R206). -/
  | cipClrRefuse
  /-- CIP_CLR_REPLAY (R206). -/
  | cipClrReplay
  /-- CIP_CLR_AUTH (R206). -/
  | cipClrAuth
  /-- KEY_CLR_UNWRAP (R207). -/
  | keyClrUnwrap
  /-- AUD_CLR_PART (R240). -/
  | audClrPart
  /-- AUD_CLR_SAT (R240). -/
  | audClrSat
  /-- AUD_CLR_CLIP (R240). -/
  | audClrClip
  /-- BRS_CLR_FAULT (R274). -/
  | brsClrFault
  /-- VID_CLR_BOUND (R312). -/
  | vidClrBound
  /-- VID_CLR_DROP (R312). -/
  | vidClrDrop
  /-- VID_CLR_MIN (R312). -/
  | vidClrMin
  /-- VID_CLR_DMG (R312). -/
  | vidClrDmg
  /-- CNV_CLR_UE (R335). -/
  | cnvClrUe
  /-- CNV_CLR_OMIT (R335). -/
  | cnvClrOmit
  /-- CNV_CLR_FLIP (R335). -/
  | cnvClrFlip
  /-- PTP_CLR_RXDROP (R359). -/
  | ptpClrRxdrop
  /-- PTP_CLR_LAUNCH (R359). -/
  | ptpClrLaunch
  /-- PTP_CLR_TSLOST (R359). -/
  | ptpClrTslost
  /-- MSH_CLR_CREDIT (R389). -/
  | mshClrCredit
  /-- MSH_CLR_MEDIA (R389). -/
  | mshClrMedia
  /-- MSH_CLR_LATE (R389). -/
  | mshClrLate
  /-- MSH_CLR_DROP (R389). -/
  | mshClrDrop
  /-- MSH_CLR_UNIT (R389). -/
  | mshClrUnit
  /-- MEM_CLR_POISON (R421). -/
  | memClrPoison
  /-- ECC_CLR (R422). -/
  | eccClr (t : BitVec 4)
  /-- CAL_CLR_WIDE (R437). -/
  | calClrWide
  /-- CAL_CLR_HELD (R437). -/
  | calClrHeld
  /-- PCIE_LINK_UP (R450). -/
  | pcieLinkUp
  /-- CYCLE_BUDGET_REACHED (R268). -/
  | cycleBudgetReached (core : BitVec 9)
  /-- WAKE_PATTERN_SEND_END (R385). -/
  | wakePatternSendEnd (m : BitVec 2)
  deriving DecidableEq, Repr

end Sys2Proof
end

