-- ==== Sys2Proof/Config.lean ====
section
/-! DEFINITION. What one device fixes and the spec leaves open: constants without a body, so that no proof can lean on a
value of them.
Log entries: 22, 23, 24, 27, 38, 43, 45, 54, 56, 60, 64, 65, 66, 68, 72, 73, 74, 81, 91, 93, 103, 106, 109, 112. -/

namespace Sys2Proof

/-- The private scalar of the device's P-256 agreement key pair, fixed at manufacture and never readable (R184). -/
opaque Config.agreementKey : Nat

/-- The payload type of audio that the device originates on a stream, by stream and order of its bind, which no rule states. -/
opaque Config.audioPt : Nat → Nat → BitVec 7

/-- The marker bit of the n-th packet of audio that the device originates on a stream, which no rule states. -/
opaque Config.audioMarker : Nat → Nat → Bool

/-- The RTP timestamp that tick 0 would have on audio the device originates on a stream, by stream and order of its
bind, which no rule states. -/
opaque Config.audioTs0 : Nat → Nat → BitVec 32

/-- Sample `j` that a leg's stream gives in a tick for which no packet was decoded, which no rule states where no decode was
abandoned (R38, R40): the kernels and their loss concealment are not given. -/
opaque Config.gapSample : Nat → Nat → Nat → BitVec 32

/-- The index that EV_KEY_REKEY reports for a packet to which R197 gives none: one without a record (cause 4), or one
whose estimate lies below 0. -/
opaque Config.rekeyIdx : Word → Nat → BitVec 48

/-- Which uncorrectable error PCI Express logs for a failed read of host memory, by function and cycle: no rule says how a read fails
(R79, R90). -/
opaque Config.aerBit : Nat → Nat → BitVec 5

/-- The length of the JTAG instruction register, and the instruction (R483) that a code other than all ones selects, by its place in the
rule's list: both stand in the device's boundary-scan description, not in the spec. -/
opaque Config.tapIrLen : Nat
opaque Config.tapCode : List Bool → Nat

/-- The boundary register (R483): its cells, the level each ball that a cell observes has, by cell and cycle, which cells stand for
AON balls, for inputs and for SerDes lanes, the ball of a cell (VR_EN 0 to 5, ALERT_N 6, WAKE_N 7, GPIO 8 to 23, TICK_OUT 24, PPS_OUT 25,
others above), and what the update latches hold before the first update. -/
opaque Config.boundaryLen : Nat
opaque Config.ballIn : Nat → Nat → Bool
opaque Config.ballAon : Nat → Bool
opaque Config.ballInput : Nat → Bool
opaque Config.ballName : Nat → Nat
opaque Config.boundary0 : Nat → Bool
opaque Config.ballLane : Nat → Bool

/-- The QUEUE_ID of a stream's spill queue, by stream and order of its bind, which no rule fixes (R134, R145). -/
opaque Config.queueId : Nat → Nat → BitVec 16

/-- A sample of a picture of one bit depth, taken as a concealed sample of a picture of the other: no rule states how (R290). -/
opaque Config.otherDepth : Nat → BitVec 10

/-- Codewords corrected (19) or uncorrectable (20) that an Ethernet subport has counted, by subport, counter and cycle: no
row brings a codeword (R146). -/
opaque Config.fecCount : Nat → Nat → Nat → BitVec 64

/-- Firmware's choice of a home group for a leg, among those R234 allows, by leg and cycle. -/
opaque Config.groupPick : Nat → Nat → Nat

/-- Firmware's choice of the number of a new decode or encode context, by what it serves and cycle (R280). -/
opaque Config.ctxPick : Nat → Nat → Nat

/-- What link training of a SerDes lane finds for an item of its record, by record, item and cycle (R120, R429). -/
opaque Config.trained : Nat → Nat → Nat → BitVec 16

/-- The eye margin that training of a pseudo-channel finds, by pseudo-channel, place (byte lane and side) and cycle, and how its retrain
on a wake ends: 0 a proven setting, 1 to 3 outcomes 0 to 2 (R399, R433). -/
opaque Config.margin : Nat → Nat → Nat → BitVec 8
opaque Config.wakeTrained : Nat → Nat → BitVec 2

/-- Rising edges of CLK32K_IN between two local cycles: its phase and error are the board's (R354, R459). -/
opaque Config.edges32k : Nat → Nat → Nat

/-- The copies of Gesso's records at their OTP locations, fixed at the factory, by class, index and copy (R423, R424). -/
opaque Config.gesso : Nat → Nat → Nat → List Word

/-- The words of the Woyvex kernels in the program stores, whose content the spec does not give (R242). -/
opaque Config.kernelWord : Nat → Word

/-- What a modulo length register holds after a value above 16,384 is written to it: its range is given, the result is
not (R243). -/
opaque Config.brushLen : Nat → BitVec 15

/-- The index that BRS_PROG_LOAD reports when a header field, which is no code word, is out of range (R258, R271). -/
opaque Config.imageIdx : Nat → BitVec 32

/-- What EV_PTP_MEAS reports as port and sequenceId of a measurement from the n-th PPS_IN edge, which has neither (R358). -/
opaque Config.ppsMeasId : Nat → BitVec 32

/-- Bytes that the Meash sends and no rule states, by cycle and place: behind the CRC of a unit's last block, in idle blocks, and in a
payload without a logical lane (R370, R372). -/
opaque Config.mshFill : Nat → Nat → BitVec 8

/-- The hop limit a device uses to relay partials of a conference it does not carry, whose MESH_HOPS it does not know
(R377). -/
opaque Config.relayHops : Nat → BitVec 5

/-- The least security version that one-time-programmable storage accepts of a firmware image (R503). -/
opaque Config.svnFloor : BitVec 8

/-- Spare rows the fuse map's factory repairs use in a macro of an SRAM region (R416). -/
opaque Config.fuseRows : Nat → Nat → BitVec 3

/-- The built-in conservative default of an item of a Gesso record, by class, index and item, where R423 gives no number. -/
opaque Config.calDefault : Nat → Nat → Nat → BitVec 16

/-- The built-in limits LIM_LO and LIM_HI of a class (R425). -/
opaque Config.calLimLo : Nat → BitVec 16
opaque Config.calLimHi : Nat → BitVec 16

/-- The entry that CAL_GLAZE_LOAD reports when the image's header or CRC is refused, where no entry fails (R427). -/
opaque Config.glazeIdx : Nat → BitVec 32

/-- The outcome field that CAL_GESSO_READ reports for three equal copies, which have no outcome code (R425, R434). -/
opaque Config.gessoOutcome : Nat → BitVec 2

/-- The factory serial number in SYS_SERIAL (R504). -/
opaque Config.serial : BitVec 64

/-- Whether the device is of grade E, which SYS_GRADE tells (R504). -/
opaque Config.gradeE : Bool

/-- The level of a GPIO pad that the device does not drive, as the board sets it, at a cycle of the local clock (R456, R467). -/
opaque Config.gpioIn : Nat → Nat → Bool

end Sys2Proof
end

