-- ==== Sys2Proof/Machine/Types.lean ====
section
/-! DEFINITION. The shapes the register map and the sparse tables of the state are made of. -/

namespace Sys2Proof.Machine

/-- The access types of R496; `rwsc` is RWS of a field whose Meaning says "written 1 clears". -/
inductive Access where
  | ro | rw | rw1c | wo | rws | rwsc | rof | rwl
  deriving DecidableEq, Repr

/-- One field of a register table: bits `hi` to `lo`, access type, reset value, and the least and largest value that is
not a reserved encoding (R11). -/
structure FieldDef where
  hi : Nat
  lo : Nat
  acc : Access
  rst : Nat
  least : Nat
  most : Nat
  deriving DecidableEq, Repr

/-- One register, or an indexed family of registers: its offset in BAR0 and, for each index, stride and count. -/
structure RegDef where
  name : String
  base : Nat
  dims : List (Nat × Nat)
  fields : List FieldDef
  deriving DecidableEq, Repr

/-- A named field: the BAR0 offset of its register and its bits. -/
structure Field where
  addr : Nat
  hi : Nat
  lo : Nat
  deriving DecidableEq, Repr

/-- A sparse table: pairs of key and value, keys strictly rising. -/
abbrev Table (α : Type) := List (Nat × α)

end Sys2Proof.Machine
end

