-- ==== Sys2Proof/Machine/StAdm.lean ====
section
/-! DEFINITION. The state of admission: conferences, leg profiles, jobs and their charges, and what the device counts of a
stream (R46 to R78). -/

namespace Sys2Proof.Machine

/-- A conference (R48): its owner and the limits AUD_PMAX, VID_PMAX and MESH_HOPS. -/
structure Conf where
  owner : Nat
  audPmax : Nat
  vidPmax : Nat
  hops : Nat
  deriving DecidableEq, Repr

/-- A stream record of a profile block (R51). -/
structure StreamRec where
  rxEn : Bool := false
  txEn : Bool := false
  rxDec : Bool := false
  rxFwd : Bool := false
  codec : Nat := 0
  cprof : Nat := 0
  layS : Nat := 0
  layT : Nat := 0
  rxDepth : Nat := 0
  txDepth : Nat := 0
  pRx : Nat := 0
  pTx : Nat := 0
  jRx : Nat := 0
  rxW : Nat := 0
  rxH : Nat := 0
  txW : Nat := 0
  txH : Nat := 0
  rxKbps : Nat := 0
  rxPps : Nat := 0
  rxPktMax : Nat := 0
  rxBurstP : Nat := 0
  rxBurstB : Nat := 0
  txKbps : Nat := 0
  txPps : Nat := 0
  txPktMax : Nat := 0
  deriving DecidableEq, Repr

/-- A leg's profile (R50). -/
structure Profile where
  ownEnc : Bool := false
  compose : Bool := false
  nsup : Bool := false
  egrPort : Nat := 0
  egrSub : Nat := 0
  layout : Nat := 0
  recs : List StreamRec := []
  subMax : Nat := 0
  subKbps : Nat := 0
  subPps : Nat := 0
  subPktMax : Nat := 0
  deriving DecidableEq, Repr

/-- The jobs of R57 and R58, and the Brush program tasks of R260. -/
inductive JobKind where
  | ingress | audDec | audTick | audResTx | audEnc | vidDec | ownEnc | vidSend | subs | layout | brush
  deriving DecidableEq, Repr

/-- The phase a charge falls in: ingress (every segment), GATHER, WORK or EMIT (R53). -/
inductive ChPhase where
  | ingress | gather | work | emit
  deriving DecidableEq, Repr

/-- One charge of a job: phase, resource index of R53, amount per tick in which the job runs. -/
structure Charge where
  phase : ChPhase
  res : Nat
  amt : Nat
  deriving DecidableEq, Repr

/-- A job: what it is, its stream index, codec, period and slot, whether it is charged every tick, and its charges. -/
structure Job where
  kind : JobKind
  stream : Nat
  codec : Nat
  period : Nat
  slot : Nat
  flat : Bool
  charges : List Charge
  deriving DecidableEq, Repr

/-- An admitted item: its owner, its jobs, its counted resources (index of R55, count), its egress subport (4 × port +
subport), and whether it is releasing (R65). -/
structure Item where
  owner : Nat
  jobs : List Job
  counts : List (Nat × Nat)
  sport : Nat
  releasing : Bool := false
  deriving DecidableEq, Repr

/-- A leg: its conference, the profile committed, and the profile in force since its effect tick (R63, R64). -/
structure Leg where
  conf : Nat
  item : Item
  prof : Profile
  live : Option Profile := none
  liveJobs : List Job := []
  deriving DecidableEq, Repr

/-- A layout as admitted (R58). -/
structure LayoutAdm where
  conf : Nat
  item : Item
  w : Nat
  h : Nat
  period : Nat
  codec : Nat
  cprof : Nat
  depth : Nat
  live : Bool := false
  deriving DecidableEq, Repr

/-- Policing and counts of one received stream (R69, R70, R75, R77). Tokens are in units of 10^−9 of a token; `at` is the
local time in ns of the last refill. -/
structure Police where
  pkt : Nat := 0
  byt : Nat := 0
  stamp : Nat := 0
  accepted : Nat := 0
  policed : Nat := 0
  late : Nat := 0
  overrun : Nat := 0
  polSince : Nat := 0
  lateSince : Nat := 0
  lastEvt : Option Nat := none
  deriving DecidableEq, Repr

/-- Admission: conferences, legs, layouts, the charges of Brush program instances (R260), the policing state of streams by
handle, shares set but not yet in force (key 16 × f + r), and whether DEGRADED holds a fault (R46). -/
structure Adm where
  confs : Table Conf := []
  legs : Table Leg := []
  layouts : Table LayoutAdm := []
  tasks : Table Item := []
  police : Table Police := []
  shareNext : Table Nat := []
  degFault : Bool := false
  deriving DecidableEq, Repr

end Sys2Proof.Machine
end

