-- ==== Sys2Proof/Machine/Table.lean ====
section
/-! DEFINITION. The operations on sparse tables: lookup, insertion that keeps the keys strictly rising, removal; and the
same for a store whose unlisted addresses read as a default, which lists no entry equal to that default.
Log entries: 81. -/

namespace Sys2Proof.Machine

variable {α : Type}

/-- The value at key `k`, if the table lists it. -/
def tget (t : Table α) (k : Nat) : Option α :=
  match t with
  | [] => none
  | (j, v) :: r => if j = k then some v else tget r k

/-- The table with `v` at key `k`. -/
def tset (t : Table α) (k : Nat) (v : α) : Table α :=
  match t with
  | [] => [(k, v)]
  | (j, w) :: r =>
    if k < j then (k, v) :: (j, w) :: r
    else if k = j then (k, v) :: r
    else (j, w) :: tset r k v

/-- The table without key `k`. -/
def tdel (t : Table α) (k : Nat) : Table α :=
  match t with
  | [] => []
  | (j, w) :: r => if j = k then tdel r k else (j, w) :: tdel r k

/-- Change the value at `k`, where the table lists one. -/
def tmod (t : Table α) (k : Nat) (f : α → α) : Table α :=
  match tget t k with
  | none => t
  | some v => tset t k (f v)

/-- Whether the table lists key `k`. -/
def thas (t : Table α) (k : Nat) : Bool := (tget t k).isSome

/-- The first key of the table is above `k`, or there is none. -/
def tabove (k : Nat) : Table α → Bool
  | [] => true
  | (j, _) :: _ => decide (k < j)

/-- Keys strictly rising. -/
def tsorted : Table α → Bool
  | [] => true
  | (j, _) :: r => tabove j r && tsorted r

/-- What a store whose unlisted address `k` reads as `d k` reads at `k`. -/
def mget (d : Nat → Word) (t : Table Word) (k : Nat) : Word := (tget t k).getD (d k)

/-- The store after writing `v` at `k`: writing what the address reads as when unlisted removes its entry. -/
def mset (d : Nat → Word) (t : Table Word) (k : Nat) (v : Word) : Table Word :=
  if v = d k then tdel t k else tset t k v

/-- The canonical form of such a store: keys strictly rising and no entry equal to its default. -/
def mcanon (d : Nat → Word) (t : Table Word) : Bool :=
  tsorted t && t.all (fun p => decide (p.2 ≠ d p.1))

/-- A number below `n` at which the table lists nothing: the first from `r` on, going round. -/
def tfree (t : Table α) (n r : Nat) : Option Nat :=
  ((List.range n).map (fun k => (k + r) % n)).find? (fun k => !thas t k)

end Sys2Proof.Machine
end

