-- ==== Sys2Proof/Machine/AdmMath.lean ====
section
/-! DEFINITION. The arithmetic of admission, free of the rest of the state: codecs (R56, R276), profile blocks (R50, R51),
jobs and charges (R57, R58), segments and usable capacity (R30, R32, R53, R54), the admission map (R60), slot choice and
the rate checks (R61), the excess of a rejection (R62), and delivery bounds (R66). Log entries: 29, 85, 86. -/

namespace Sys2Proof.Machine

/-- a / b rounded up. -/
def cdiv (a b : Nat) : Nat := (a + b - 1) / b

/-! ## Codecs -/

/-- Cycle costs of an audio codec (R56): F_dec, D_dec, F_enc, D_enc and resampling per tick and direction. -/
structure AudCost where
  fDec : Nat
  dDec : Nat
  fEnc : Nat
  dEnc : Nat
  resamp : Nat

/-- An audio codec's periods in ticks (R56); empty for a code that R56 does not list. -/
def audPeriods (codec : Nat) : List Nat :=
  match codec with
  | 1 => [3, 6, 12, 24, 48, 72]
  | 2 => [6, 12, 24]
  | 3 => [6, 12, 24]
  | 4 => [12, 24]
  | 5 => [12, 24]
  | 6 => [24]
  | 7 => [24]
  | _ => []

/-- An audio codec's costs (R56); EVS resamples by its CPROF: WB, SWB or FB. -/
def audCost (codec cprof : Nat) : AudCost :=
  match codec with
  | 1 => ⟨12000, 6500, 24000, 19000, 0⟩
  | 2 => ⟨600, 150, 600, 150, 700⟩
  | 3 => ⟨600, 150, 600, 150, 700⟩
  | 4 => ⟨2000, 1500, 2000, 2600, 900⟩
  | 5 => ⟨2000, 2800, 2000, 7500, 700⟩
  | 6 => ⟨8000, 5000, 10000, 16000, 900⟩
  | 7 => ⟨12000, 8500, 20000, 26000, if cprof = 0 then 900 else if cprof = 1 then 1100 else 0⟩
  | _ => ⟨0, 0, 0, 0, 0⟩

/-- The sample rate of an audio codec in Hz (R56). -/
def audRate (codec cprof : Nat) : Nat :=
  match codec with
  | 1 => 48000
  | 2 => 8000
  | 3 => 8000
  | 4 => 16000
  | 5 => 8000
  | 6 => 16000
  | 7 => if cprof = 0 then 16000 else if cprof = 1 then 32000 else 48000
  | _ => 48000

/-- The RTP clock rate C of R135. -/
def rtpClock (codec : Nat) : Nat :=
  match codec with
  | 1 => 48000
  | 2 => 8000
  | 3 => 8000
  | 4 => 8000
  | 5 => 8000
  | 6 => 16000
  | 7 => 16000
  | _ => 90000

def isAudio (codec : Nat) : Bool := decide (1 ≤ codec) && decide (codec ≤ 7)
def isVideo (codec : Nat) : Bool := decide (0x10 ≤ codec) && decide (codec ≤ 0x13)

/-- One row of R276. -/
structure VidCap where
  encode : Bool
  ten : Bool
  block : Nat
  maxW : Nat
  maxH : Nat
  area : Nat
  maxTemporal : Nat

/-- R276's row for a codec and profile, if the table lists it. -/
def vidCap (codec cprof : Nat) : Option VidCap :=
  match codec, cprof with
  | 0x10, 0 => some ⟨true, false, 16, 4096, 2304, 9437184, 3⟩
  | 0x10, 1 => some ⟨false, false, 16, 4096, 2304, 9437184, 0⟩
  | 0x10, 2 => some ⟨true, false, 16, 4096, 2304, 9437184, 3⟩
  | 0x11, 0 => some ⟨true, false, 32, 8444, 8444, 8912896, 1⟩
  | 0x11, 1 => some ⟨false, true, 32, 8444, 8444, 8912896, 0⟩
  | 0x12, 0 => some ⟨true, true, 64, 8192, 4352, 8912896, 3⟩
  | 0x13, 0 => some ⟨true, false, 16, 4096, 2304, 9437184, 3⟩
  | _, _ => none

/-- Whether a picture size meets R276. -/
def sizeOk (c : VidCap) (w h : Nat) : Bool :=
  w % 2 = 0 && h % 2 = 0 && 64 ≤ w && 64 ≤ h && w ≤ c.maxW && h ≤ c.maxH && w * h ≤ c.area

/-- Whether R276 allows a combination to be decoded (`enc` false) or encoded (`enc` true). -/
def vidOk (enc : Bool) (codec cprof depth w h : Nat) : Bool :=
  match vidCap codec cprof with
  | none => false
  | some c => (!enc || c.encode) && (depth = 0 || c.ten) && sizeOk c w h

/-- The receive direction of R277: one layer by R276, several by the area budget. -/
def vidRxOk (r : StreamRec) : Bool :=
  match vidCap r.codec r.cprof with
  | none => false
  | some c =>
    (r.rxDepth = 0 || c.ten) &&
    (if r.layS = 0 then sizeOk c r.rxW r.rxH
     else r.rxW % 2 = 0 && 64 ≤ r.rxW && r.rxW ≤ c.maxW && 64 ≤ r.rxH && r.rxH ≤ c.maxH && r.rxW * r.rxH ≤ c.area)

/-! ## Profile blocks (R50, R51) -/

/-- Bits `hi` to `lo` of word `i` of a block. -/
def wbits (ws : List Word) (i hi lo : Nat) : Nat := ((ws.getD i 0).toNat / 2 ^ lo) % 2 ^ (hi + 1 - lo)

def wbool (ws : List Word) (i b : Nat) : Bool := wbits ws i b b = 1

/-- The stream record that starts at word `o`. -/
def parseRec (ws : List Word) (o : Nat) : StreamRec where
  rxEn := wbool ws o 31
  txEn := wbool ws o 30
  rxDec := wbool ws o 29
  rxFwd := wbool ws o 28
  codec := wbits ws o 23 16
  cprof := wbits ws o 15 8
  layS := wbits ws o 7 6
  layT := wbits ws o 5 4
  rxDepth := wbits ws o 3 2
  txDepth := wbits ws o 1 0
  pRx := wbits ws (o + 1) 31 20
  pTx := wbits ws (o + 1) 19 8
  jRx := wbits ws (o + 1) 7 0
  rxW := wbits ws (o + 2) 31 16
  rxH := wbits ws (o + 2) 15 0
  txW := wbits ws (o + 3) 31 16
  txH := wbits ws (o + 3) 15 0
  rxKbps := wbits ws (o + 4) 31 0
  rxPps := wbits ws (o + 5) 31 16
  rxPktMax := wbits ws (o + 5) 15 0
  rxBurstP := wbits ws (o + 6) 31 16
  rxBurstB := wbits ws (o + 7) 31 0
  txKbps := wbits ws (o + 8) 31 0
  txPps := wbits ws (o + 9) 31 16
  txPktMax := wbits ws (o + 9) 15 0

/-- The profile block of R50. -/
def parseProfile (ws : List Word) : Profile where
  ownEnc := wbool ws 0 2
  compose := wbool ws 0 1
  nsup := wbool ws 0 0
  egrPort := wbits ws 1 15 14
  egrSub := wbits ws 1 13 12
  layout := wbits ws 1 8 0
  recs := [parseRec ws 8, parseRec ws 20, parseRec ws 32]
  subMax := wbits ws 44 19 0
  subKbps := wbits ws 45 31 0
  subPps := wbits ws 46 31 0
  subPktMax := wbits ws 47 15 0

/-- Every reserved bit of bytes 0x00 to 0xBF is 0 and PROF_VER is 1 (R50, R52). -/
def profBlockOk (ws : List Word) : Bool :=
  wbits ws 0 31 24 = 1 && wbits ws 0 23 3 = 0 && wbits ws 1 31 16 = 0 && wbits ws 1 11 9 = 0
  && (List.range 6).all (fun i => ws.getD (2 + i) 0 = 0)
  && [8, 20, 32].all (fun o => wbits ws o 27 24 = 0 && wbits ws (o + 6) 15 0 = 0 &&
      ws.getD (o + 10) 0 = 0 && ws.getD (o + 11) 0 = 0)
  && wbits ws 44 31 20 = 0 && wbits ws 47 31 16 = 0

/-- Record `i` of a profile. -/
def Profile.rec' (p : Profile) (i : Nat) : StreamRec := p.recs.getD i {}

/-- Whether a record's field values are ones its Meanings list (R52). -/
def recListed (i : Nat) (r : StreamRec) : Bool :=
  if !r.rxEn && !r.txEn then r = {}
  else
    r.rxDepth ≤ 1 && r.txDepth ≤ 1 &&
    (if i = 0 then isAudio r.codec && (if r.codec = 7 then r.cprof ≤ 2 else r.cprof = 0)
     else isVideo r.codec && (vidCap r.codec r.cprof).isSome)

/-- Whether R276 and R277 allow what a video record uses: the receive direction as a decode, the transmit
direction as an encode unless stream 1 shares its layout's encode. -/
def recVideoOk (p : Profile) (i : Nat) (r : StreamRec) : Bool :=
  if i = 0 then true
  else (!r.rxEn || vidRxOk r) &&
    (!r.txEn || (i = 1 && p.compose && !p.ownEnc) || vidOk true r.codec r.cprof r.txDepth r.txW r.txH)

/-- Whether an enabled direction's period is accepted (R52 check 5). -/
def periodOk (i codec p : Nat) : Bool :=
  p ≠ 0 && 3600 % p = 0 && (i ≠ 0 || (audPeriods codec).contains p)

def recPeriodsOk (i : Nat) (r : StreamRec) : Bool :=
  (!r.rxEn || periodOk i r.codec r.pRx) && (!r.txEn || periodOk i r.codec r.pTx)

/-- The spill queue limit L of R134. -/
def queueLimit (r : StreamRec) : Nat :=
  (cdiv (r.rxPps * (2 * (r.jRx + r.pRx) + 2)) 1200 + r.rxBurstP) * (1 + cdiv r.rxPktMax 64)

/-- The queue limit of a stream with record `r`: none without receive (R134, R142). -/
def rxLimit (r : StreamRec) : Nat := if r.rxEn then queueLimit r else 0

/-! ## Jobs and charges (R57, R58) -/

def depthF (d : Nat) : Nat := if d = 1 then 2 else 1

/-- The jobs of record `i` that are charged every tick; `leg` gives the slot (R60). -/
def recFlat (p : Profile) (leg i : Nat) (r : StreamRec) : List Job :=
  let bi := cdiv (r.rxKbps * 125) 1200 + r.rxBurstB
  let ni := cdiv r.rxPps 1200 + r.rxBurstP
  let c := audCost r.codec r.cprof
  let pxRx := cdiv (r.rxW * r.rxH) r.pRx
  let pxTx := cdiv (r.txW * r.txH) r.pTx
  let bo := cdiv (r.txKbps * 125) 1200
  let no := cdiv r.txPps 1200
  let mk (k : JobKind) (per : Nat) (cs : List Charge) : Job := ⟨k, i, r.codec, per, leg % per, true, cs⟩
  (if r.rxEn then [mk .ingress r.pRx [⟨.ingress, 5, ni⟩, ⟨.ingress, 6, 8 * bi⟩, ⟨.ingress, 7, bi⟩]] else []) ++
  (if i = 0 && r.rxEn && r.rxDec then
    [mk .audTick r.pRx [⟨.work, 0, 600 + (if p.nsup then 7200 else 0) + c.resamp⟩, ⟨.work, 8, 480⟩]] else []) ++
  (if i = 0 && r.txEn && c.resamp ≠ 0 then [mk .audResTx r.pTx [⟨.work, 0, c.resamp⟩]] else []) ++
  (if i ≠ 0 && r.rxEn && r.rxDec then
    [mk .vidDec r.pRx [⟨.work, 1, pxRx⟩, ⟨.work, 7, 4 * depthF r.rxDepth * pxRx⟩]] else []) ++
  (if i = 1 && p.ownEnc then
    [mk .ownEnc r.pTx [⟨.work, 2, pxTx⟩, ⟨.work, 3, pxTx⟩, ⟨.work, 7, 8 * depthF r.txDepth * pxTx⟩,
      ⟨.work, 8, cdiv (3 * pxTx) 4⟩]] else []) ++
  (if i ≠ 0 && r.txEn then
    [mk .vidSend r.pTx [⟨.emit, 4, bo + 90 * no⟩, ⟨.emit, 5, no⟩, ⟨.emit, 6, 8 * bo⟩, ⟨.emit, 7, bo⟩]] else [])

/-- Every job of a profile that is charged every tick (R57). -/
def flatJobs (p : Profile) (leg : Nat) : List Job :=
  recFlat p leg 0 (p.rec' 0) ++ recFlat p leg 1 (p.rec' 1) ++ recFlat p leg 2 (p.rec' 2) ++
  (if p.subMax ≠ 0 then
    let bs := cdiv (p.subKbps * 125) 1200
    let nsn := cdiv p.subPps 1200
    [⟨.subs, 3, 0, 1, 0, true, [⟨.emit, 4, bs + 90 * nsn⟩, ⟨.emit, 5, nsn⟩, ⟨.emit, 6, 8 * bs⟩, ⟨.emit, 7, bs⟩]⟩]
   else [])

/-- The jobs charged in slot ticks only, decode before encode (R57, R61); their slots are chosen later. -/
def pulsedJobs (p : Profile) : List Job :=
  let r := p.rec' 0
  let c := audCost r.codec r.cprof
  let n := cdiv (r.txPps * r.pTx) 1200
  (if r.rxEn && r.rxDec then
    [⟨.audDec, 0, r.codec, r.pRx, 0, false,
      [⟨.work, 0, c.fDec + c.dDec * r.pRx⟩, ⟨.gather, 7, cdiv (r.rxKbps * 125 * r.pRx) 1200⟩]⟩] else []) ++
  (if r.txEn then
    [⟨.audEnc, 0, r.codec, r.pTx, 0, false,
      [⟨.work, 0, c.fEnc + c.dEnc * r.pTx⟩, ⟨.emit, 4, n * (r.txPktMax + 90)⟩, ⟨.emit, 5, n⟩,
       ⟨.emit, 6, n * (8 * r.txPktMax)⟩, ⟨.work, 8, cdiv (480 * r.pTx) 24⟩]⟩] else [])

/-- The counted resources of a leg (R55). -/
def legCounts (p : Profile) : List (Nat × Nat) :=
  let cnt (f : StreamRec → Bool) : Nat := (p.recs.filter f).length
  [(9, 1), (10, cnt (fun r => r.rxEn && r.rxDec && isVideo r.codec)), (11, if p.ownEnc then 1 else 0),
   (13, p.subMax), (15, cnt (fun r => r.rxEn))]

/-- The job of a layout and its shared encode (R58). -/
def layoutJob (w h per codec depth id : Nat) : Job :=
  let px := cdiv (w * h) per
  ⟨.layout, 0, codec, per, id % per, true,
    [⟨.work, 2, px⟩, ⟨.work, 3, px⟩, ⟨.work, 7, 8 * depthF depth * px⟩, ⟨.work, 8, cdiv (3 * px) 4⟩]⟩

/-! ## Segments, capacity and the map (R30, R32, R53, R54, R60) -/

/-- The length of segment `g` (1 to 4) of a tick of 833,333 ns (R30). -/
def segLen (g : Nat) : Nat :=
  match g with
  | 1 => 83333
  | 2 => 291667
  | 3 => 333333
  | _ => 125000

/-- Capacity per tick of a rate resource (R53); `mode` is the NET_PORT_MODE of the port for resource 4. -/
def capOf (res mode : Nat) : Nat :=
  match res with
  | 0 => 853333333
  | 1 => 26666666
  | 2 => 13333333
  | 3 => 13333333
  | 4 => if mode = 1 then 41666666 else if mode = 2 then 20833333 else if mode = 3 then 10416666 else 0
  | 5 => 250000
  | 6 => 2000000000
  | 7 => 3306666666
  | _ => 853333333

/-- Capacity of a counted resource (R55). -/
def countCap (res : Nat) : Nat :=
  match res with
  | 9 => 16384
  | 10 => 4096
  | 11 => 1024
  | 12 => 512
  | 13 => 1048576
  | 14 => 65536
  | _ => 65536

/-- Usable capacity in a segment (R54). -/
def usable (cap g reserve : Nat) : Nat := cap * segLen g * (1000 - reserve) / (833333 * 1000)

/-- The segments a phase spans as (segment, ticks after the job's tick), and the phase's length (R29, R30, R32). -/
def phaseSegs : ChPhase → List (Nat × Nat) × Nat
  | .ingress => ([(1, 0), (2, 0), (3, 0), (4, 0)], 833333)
  | .gather => ([(1, 0)], 83333)
  | .work => ([(2, 0), (3, 0)], 625000)
  | .emit => ([(4, 0), (1, 1), (2, 1)], 500000)

/-- What one charge of a job that runs at index `t0` mod its period puts into segment `g` of index `t` (R32, R54). -/
def chargeAt (j : Job) (c : Charge) (t g : Nat) : Nat :=
  let (segs, len) := phaseSegs c.phase
  segs.foldl (fun acc (sg, d) =>
    if sg = g ∧ (j.flat ∨ (t + 3600 - d) % j.period = j.slot % j.period)
    then acc + cdiv (c.amt * segLen g) len else acc) 0

/-- A job's demand on a resource in segment `g` of index `t`. -/
def jobAt (j : Job) (res t g : Nat) : Nat :=
  j.charges.foldl (fun acc c => if c.res = res then acc + chargeAt j c t g else acc) 0

/-- Demand of items on a resource in one cell of the map; resource 4 counts only items of subport `sp`. -/
def demand (items : List Item) (res sp t g : Nat) : Nat :=
  items.foldl (fun acc i =>
    if res = 4 ∧ i.sport ≠ sp then acc
    else i.jobs.foldl (fun a j => a + jobAt j res t g) acc) 0

/-- The number of tick indices after which the map of these items repeats. -/
def mapPeriod (items : List Item) : Nat :=
  items.foldl (fun acc i => i.jobs.foldl (fun a j => if j.flat then a else Nat.lcm a j.period) acc) 1

/-- What the items hold of a counted resource. -/
def counted (items : List Item) (res : Nat) : Nat :=
  items.foldl (fun acc i => i.counts.foldl (fun a (r, n) => if r = res then a + n else a) acc) 0

/-! ## Slot choice (R61) -/

/-- The score of slot `sl` for job `j` beside `items`, as numerator and denominator: the largest use of any cell the job
charges. -/
def slotScore (items : List Item) (sp pmode reserve : Nat) (j : Job) (sl : Nat) : Nat × Nat :=
  let j := { j with slot := sl }
  let period := Nat.lcm (mapPeriod items) j.period
  let ticks := (List.range (period / j.period)).map (fun k => sl + k * j.period)
  ticks.foldl (fun best t =>
    j.charges.foldl (fun best c =>
      (phaseSegs c.phase).1.foldl (fun best (g, d) =>
        let u := usable (capOf c.res pmode) g reserve
        let x := demand items c.res sp (t + d) g + jobAt j c.res (t + d) g
        if best.1 * u < x * best.2 then (x, u) else best) best) best) (0, 1)

/-- The slot R61 chooses: the first of the lowest score in search order from `leg` mod the period. -/
def chooseSlot (items : List Item) (sp pmode reserve leg : Nat) (j : Job) : Nat :=
  let cand := (List.range j.period).map (fun i =>
    let sl := (leg + i) % j.period
    (sl, slotScore items sp pmode reserve j sl))
  match cand with
  | [] => 0
  | c :: cs => (cs.foldl (fun b x => if x.2.1 * b.2.2 < b.2.1 * x.2.2 then x else b) c).1

/-- Place the pulsed jobs one after the other (R61); a job that matches one of `old` in kind, codec and period keeps its
slot (R64). -/
def placeJobs (others : List Item) (mine : Item) (pmode reserve leg : Nat) (old : List Job) : List Job → Item
  | [] => mine
  | j :: js =>
    let sl := match old.find? (fun o => o.kind = j.kind ∧ o.codec = j.codec ∧ o.period = j.period) with
      | some o => o.slot
      | none => chooseSlot (others ++ [mine]) mine.sport pmode reserve leg j
    placeJobs others { mine with jobs := mine.jobs ++ [{ j with slot := sl }] } pmode reserve leg old js

/-! ## The rate checks and rejections (R61, R62) -/

/-- Where a rejection fell: status, resource, tick index, segment and excess (R62). -/
structure Reject where
  st : BitVec 16
  res : Nat := 0
  tick : Nat := 0
  seg : Nat := 0
  excess : Nat := 0
  deriving DecidableEq, Repr

/-- Excess of demand over a limit in 0.01 %, rounded up; 0xFFFF_FFFF when the limit is 0 (R62). Both may be given in any unit, so that
a share's limit, in 1/1,024 of a unit, is not rounded. -/
def excessOf (demand limit : Nat) : Nat :=
  if limit = 0 then 0xffffffff else cdiv ((demand - limit) * 10000) limit

/-- The result area of a rejection (R75). -/
def Reject.area (r : Reject) : List Word :=
  [BitVec.ofNat 32 (r.res * 2 ^ 16 + r.seg * 2 ^ 12 + r.tick), BitVec.ofNat 32 r.excess]

/-- The first rate check of R61 that fails: resource, tick index, segment; first the device's limit, then the share. -/
def rateCheck (items mine : List Item) (share : Nat → Nat) (sp pmode reserve : Nat)
    (stCap stFn : BitVec 16) : Option Reject :=
  let period := mapPeriod items
  (List.range 9).findSome? (fun r =>
    (List.range period).findSome? (fun t =>
      [1, 2, 3, 4].findSome? (fun g =>
        let u := usable (capOf r pmode) g reserve
        let x := demand items r sp t g
        let y := demand mine r sp t g
        if u < x then some ⟨stCap, r, t, g, excessOf x u⟩
        else if share r * u < 1024 * y then some ⟨stFn, r, t, g, excessOf (1024 * y) (share r * u)⟩
        else none)))

/-- Peak use in 1/1,024 of a limit, rounded up (R78), over every segment and index. -/
def peakUse (all items : List Item) (res sp pmode reserve : Nat) : Nat :=
  (List.range (mapPeriod all)).foldl (fun m t =>
    [1, 2, 3, 4].foldl (fun m g =>
      let u := usable (capOf res pmode) g reserve
      if u = 0 then m else max m (cdiv (demand items res sp t g * 1024) u)) m) 0

/-! ## Delivery bounds (R66) -/

/-- BOUND_A of record `i`. -/
def boundA (i : Nat) (r : StreamRec) (pA pV hops : Nat) : Nat :=
  if r.rxEn && r.rxDec then
    if i = 0 then (r.jRx + pA + hops) * 833334 + 385000
    else (r.jRx + r.pRx + 3 * pV - 1 + hops) * 833334 + 385000
  else 0

/-- BOUND_F of a record. -/
def boundF (r : StreamRec) (hops : Nat) : Nat :=
  if r.rxEn && r.rxFwd then (r.jRx + 1 + hops) * 833334 + 385000 else 0

/-- R59's per-task limits on a record. -/
def recTaskOk (p : Profile) (i : Nat) (r : StreamRec) : Bool :=
  let c := audCost r.codec r.cprof
  if i = 0 then
    (!(r.rxEn && r.rxDec) || c.fDec + c.dDec * r.pRx ≤ 1250000) && (!r.txEn || c.fEnc + c.dEnc * r.pTx ≤ 1250000)
  else
    (!(r.rxEn && r.rxDec) || cdiv (r.rxW * r.rxH) r.pRx ≤ 1250000) &&
    (!(i = 1 && p.ownEnc) || (cdiv (r.txW * r.txH) r.pTx ≤ 625000 && cdiv (r.txW * r.txH) r.pTx ≤ 2500000))

end Sys2Proof.Machine
end

