-- ==== Sys2Proof/Machine/Codes.lean ====
section
/-! DEFINITION. The three code spaces of R114 as the chapters' tables give them: opcodes (R118 and the command tables),
status codes and event codes. -/

namespace Sys2Proof.Machine

/-- Success, status 0x0000 (R93). -/
def ST_OK : BitVec 16 := 0x0000

def GEN_ST_RESERVED : BitVec 16 := 0x0101
def GEN_ST_OPCODE : BitVec 16 := 0x0102
def GEN_ST_NOT_PERMITTED : BitVec 16 := 0x0103
def GEN_ST_MODE : BitVec 16 := 0x0104
def GEN_ST_DMA : BitVec 16 := 0x0105
def GEN_ST_ALIGN : BitVec 16 := 0x0106
def GEN_ST_MEDIA_LATE : BitVec 16 := 0x0107
def GEN_ST_MEDIA_FORMAT : BitVec 16 := 0x0108
def GEN_ST_MEDIA_ABORTED : BitVec 16 := 0x0109
def GEN_ST_FN_UNKNOWN : BitVec 16 := 0x010A
def ADM_ST_CLOSED : BitVec 16 := 0x0201
def ADM_ST_PROFILE_INVALID : BitVec 16 := 0x0202
def ADM_ST_NO_CAPACITY : BitVec 16 := 0x0203
def ADM_ST_FN_BUDGET : BitVec 16 := 0x0204
def ADM_ST_COUNT : BitVec 16 := 0x0205
def ADM_ST_LEG_BUSY : BitVec 16 := 0x0206
def ADM_ST_LEG_UNKNOWN : BitVec 16 := 0x0207
def ADM_ST_CONF_UNKNOWN : BitVec 16 := 0x0208
def ADM_ST_PERIOD : BitVec 16 := 0x0209
def ADM_ST_NOT_OWNER : BitVec 16 := 0x020A
def ADM_ST_BUDGET_BELOW_USE : BitVec 16 := 0x020B
def ADM_ST_CONF_LIMIT : BitVec 16 := 0x020C
def ADM_ST_CONF_BUSY : BitVec 16 := 0x020D
def ADM_ST_BUDGET_SUM : BitVec 16 := 0x020E
def ADM_ST_CONF_MISMATCH : BitVec 16 := 0x020F
def NET_ST_BIND_INVALID : BitVec 16 := 0x0301
def NET_ST_NOT_ADMITTED : BitVec 16 := 0x0302
def NET_ST_BOUND : BitVec 16 := 0x0303
def NET_ST_UNBOUND : BitVec 16 := 0x0304
def NET_ST_SOCKET_BUSY : BitVec 16 := 0x0305
def NET_ST_SSRC_BUSY : BitVec 16 := 0x0306
def NET_ST_TABLE_FULL : BitVec 16 := 0x0307
def NET_ST_POOL : BitVec 16 := 0x0308
def NET_ST_PORT : BitVec 16 := 0x0309
def NET_ST_NOT_OWNER : BitVec 16 := 0x030A
def FWD_ST_SUB_BUSY : BitVec 16 := 0x0340
def FWD_ST_SUB_UNKNOWN : BitVec 16 := 0x0341
def FWD_ST_SRC_INVALID : BitVec 16 := 0x0342
def FWD_ST_DST_INVALID : BitVec 16 := 0x0343
def FWD_ST_SUB_MAX : BitVec 16 := 0x0344
def FWD_ST_PORT : BitVec 16 := 0x0345
def FWD_ST_SRC_CONFLICT : BitVec 16 := 0x0346
def FWD_ST_NOT_OWNER : BitVec 16 := 0x0347
def FWD_ST_CONF : BitVec 16 := 0x0348
def FWD_ST_SSRC_BUSY : BitVec 16 := 0x0349
def FWD_ST_LEG_UNKNOWN : BitVec 16 := 0x034A
def FWD_ST_CODEC : BitVec 16 := 0x034B
def KEY_ST_SLOT_STATE : BitVec 16 := 0x0401
def KEY_ST_NOT_OWNER : BitVec 16 := 0x0402
def KEY_ST_FN_BUDGET : BitVec 16 := 0x0403
def KEY_ST_NO_KEK : BitVec 16 := 0x0404
def KEY_ST_UNWRAP : BitVec 16 := 0x0405
def KEY_ST_KEK_POINT : BitVec 16 := 0x0406
def KEY_ST_SUITE : BitVec 16 := 0x0407
def KEY_ST_SLOT_BOUND : BitVec 16 := 0x0408
def KEY_ST_SLOT_SPENT : BitVec 16 := 0x0409
def KEY_ST_SAME_SLOT : BitVec 16 := 0x040A
def KEY_ST_STREAM : BitVec 16 := 0x040B
def KEY_ST_CLEAR : BitVec 16 := 0x040C
def KEY_ST_UNBOUND : BitVec 16 := 0x040D
def AUD_ST_LEG : BitVec 16 := 0x0501
def AUD_ST_NOT_OWNER : BitVec 16 := 0x0502
def AUD_ST_CONF : BitVec 16 := 0x0503
def AUD_ST_RING : BitVec 16 := 0x0504
def AUD_ST_TONE_FULL : BitVec 16 := 0x0505
def AUD_ST_NO_TONE : BitVec 16 := 0x0506
def AUD_ST_DTX : BitVec 16 := 0x0507
def BRS_ST_IMAGE : BitVec 16 := 0x0601
def BRS_ST_PROG_BUSY : BitVec 16 := 0x0602
def BRS_ST_PROG_UNKNOWN : BitVec 16 := 0x0603
def BRS_ST_STORE_FULL : BitVec 16 := 0x0604
def BRS_ST_LEG : BitVec 16 := 0x0605
def BRS_ST_NOT_OWNER : BitVec 16 := 0x0606
def BRS_ST_POINT_BUSY : BitVec 16 := 0x0607
def BRS_ST_POINT_FREE : BitVec 16 := 0x0608
def BRS_ST_CLOSED : BitVec 16 := 0x0609
def BRS_ST_NO_CAPACITY : BitVec 16 := 0x060A
def BRS_ST_FN_BUDGET : BitVec 16 := 0x060B
def BRS_ST_GROUP : BitVec 16 := 0x060C
def BRS_ST_NO_MEMORY : BitVec 16 := 0x060D
def VID_ST_STREAM : BitVec 16 := 0x0701
def VID_ST_NOT_OWNER : BitVec 16 := 0x0702
def VID_ST_CTX_BUSY : BitVec 16 := 0x0703
def VID_ST_CTX_UNKNOWN : BitVec 16 := 0x0704
def VID_ST_NO_MEMORY : BitVec 16 := 0x0705
def VID_ST_ENGINE : BitVec 16 := 0x0706
def VID_ST_PARAM : BitVec 16 := 0x0707
def VID_ST_CAP : BitVec 16 := 0x0708
def VID_ST_RING : BitVec 16 := 0x0709
def CNV_ST_LAYOUT : BitVec 16 := 0x0801
def CNV_ST_NOT_OWNER : BitVec 16 := 0x0802
def CNV_ST_SOURCE : BitVec 16 := 0x0803
def CNV_ST_GEOMETRY : BitVec 16 := 0x0804
def CNV_ST_LINE_BUFFER : BitVec 16 := 0x0805
def CNV_ST_READ : BitVec 16 := 0x0806
def CNV_ST_HOLDS : BitVec 16 := 0x0807
def CNV_ST_STAGED : BitVec 16 := 0x0808
def CNV_ST_FLIP_PENDING : BitVec 16 := 0x0809
def CNV_ST_GROUP_EMPTY : BitVec 16 := 0x080A
def CNV_ST_VARNISH_FULL : BitVec 16 := 0x080B
def CNV_ST_PLATE_BUSY : BitVec 16 := 0x080C
def CNV_ST_PLATE_IMAGE : BitVec 16 := 0x080D
def CNV_ST_LAYER_EMPTY : BitVec 16 := 0x080E
def PTP_ST_EPOCH : BitVec 16 := 0x0901
def PTP_ST_RANGE : BitVec 16 := 0x0902
def PTP_ST_SERVO : BitVec 16 := 0x0903
def PTP_ST_PORT : BitVec 16 := 0x0904
def PTP_ST_DOMAIN : BitVec 16 := 0x0905
def PTP_ST_STEP_PENDING : BitVec 16 := 0x0906
def MSH_ST_PORT : BitVec 16 := 0x0A01
def MSH_ST_STREAM : BitVec 16 := 0x0A02
def MSH_ST_RELAY_BUSY : BitVec 16 := 0x0A03
def MSH_ST_RELAY_UNKNOWN : BitVec 16 := 0x0A04
def MSH_ST_NOT_OWNER : BitVec 16 := 0x0A05
def MSH_ST_APS_DENIED : BitVec 16 := 0x0A06
def MSH_ST_LINK_UP : BitVec 16 := 0x0A07
def MSH_ST_POOL : BitVec 16 := 0x0A08
def MEM_ST_TARGET : BitVec 16 := 0x0B01
def MEM_ST_BUSY : BitVec 16 := 0x0B02
def MEM_ST_DOMAIN : BitVec 16 := 0x0B03
def MEM_ST_REPAIR_FULL : BitVec 16 := 0x0B04
def MEM_ST_REPAIR_DUP : BitVec 16 := 0x0B05
def CAL_ST_IMAGE : BitVec 16 := 0x0C01
def CAL_ST_ITEM : BitVec 16 := 0x0C02
def CAL_ST_DUP : BitVec 16 := 0x0C03
def CAL_ST_LIMIT : BitVec 16 := 0x0C04
def CAL_ST_MAPOUT : BitVec 16 := 0x0C05
def PWR_ST_TARGET : BitVec 16 := 0x0D01
def PWR_ST_NOT_EMPTY : BitVec 16 := 0x0D02
def PWR_ST_NO_WAKE : BitVec 16 := 0x0D03
def PWR_ST_RANGE : BitVec 16 := 0x0D04

def EV_GEN_EVT_LOST : BitVec 16 := 0x0180
def EV_GEN_HOST_STALL : BitVec 16 := 0x0181
def EV_GEN_FN_RESET : BitVec 16 := 0x0182
def EV_GEN_RING_ERR : BitVec 16 := 0x0183
def EV_GEN_MEDIA_GAP : BitVec 16 := 0x0184
def EV_ADM_STATE : BitVec 16 := 0x0280
def EV_ADM_POLICE : BitVec 16 := 0x0281
def EV_ADM_BUDGET_BAD : BitVec 16 := 0x0282
def EV_TICK_OVERRUN : BitVec 16 := 0x02F0
def EV_TICK_SKIP : BitVec 16 := 0x02F1
def EV_TICK_HOLD : BitVec 16 := 0x02F2
def EV_TICK_SRC : BitVec 16 := 0x02F3
def EV_NET_LINK : BitVec 16 := 0x0380
def EV_NET_JB_RESYNC : BitVec 16 := 0x0381
def EV_SPQ_UE : BitVec 16 := 0x0382
def EV_NET_HPA_ERR : BitVec 16 := 0x0383
def EV_NET_HPA_DROP : BitVec 16 := 0x0384
def EV_FWD_LAYER : BitVec 16 := 0x03C0
def EV_FWD_SRC_UNSUP : BitVec 16 := 0x03C1
def EV_FWD_EST_STALE : BitVec 16 := 0x03C2
def EV_FWD_LIMIT_DROP : BitVec 16 := 0x03C3
def EV_FWD_KP_TIMEOUT : BitVec 16 := 0x03C4
def EV_KEY_REKEY : BitVec 16 := 0x0480
def EV_KEY_ENTROPY : BitVec 16 := 0x0481
def EV_AUD_SPEAKER : BitVec 16 := 0x0580
def EV_AUD_TONE_DONE : BitVec 16 := 0x0581
def EV_AUD_PART_MISS : BitVec 16 := 0x0582
def EV_AUD_CLIP : BitVec 16 := 0x0583
def EV_AUD_GROUP : BitVec 16 := 0x0584
def EV_BRS_FAULT : BitVec 16 := 0x0680
def EV_BRS_SUSPEND : BitVec 16 := 0x0681
def EV_BRS_SIGNAL : BitVec 16 := 0x0682
def EV_VID_DAMAGED : BitVec 16 := 0x0780
def EV_VID_CLEAN : BitVec 16 := 0x0781
def EV_VID_KEY_PIC : BitVec 16 := 0x0782
def EV_VID_MIN_MODE : BitVec 16 := 0x0783
def EV_VID_TX_DROP : BitVec 16 := 0x0784
def EV_CNV_FLIP : BitVec 16 := 0x0880
def EV_CNV_LAYER_OMIT : BitVec 16 := 0x0881
def EV_CNV_STALE : BitVec 16 := 0x0882
def EV_CNV_PLATE_LOST : BitVec 16 := 0x0883
def EV_PTP_STATE : BitVec 16 := 0x0980
def EV_PTP_STEP : BitVec 16 := 0x0981
def EV_PTP_MEAS : BitVec 16 := 0x0982
def EV_PTP_OFFSET : BitVec 16 := 0x0983
def EV_PTP_PPS : BitVec 16 := 0x0984
def EV_MSH_LINK : BitVec 16 := 0x0A80
def EV_MSH_APS : BitVec 16 := 0x0A81
def EV_MSH_TRACE : BitVec 16 := 0x0A82
def EV_MSH_CREDIT : BitVec 16 := 0x0A83
def EV_MSH_LANE : BitVec 16 := 0x0A84
def EV_MEM_UE : BitVec 16 := 0x0B80
def EV_MEM_CE_BUCKET : BitVec 16 := 0x0B81
def EV_MEM_SPARE : BitVec 16 := 0x0B82
def EV_MEM_REFRESH : BitVec 16 := 0x0B83
def EV_CAL_GESSO : BitVec 16 := 0x0C80
def EV_CAL_GLAZE : BitVec 16 := 0x0C81
def EV_CAL_RETRAIN : BitVec 16 := 0x0C82
def EV_CAL_TRIM_LIMIT : BitVec 16 := 0x0C83
def EV_PWR_MODE : BitVec 16 := 0x0D80
def EV_PWR_WAKE : BitVec 16 := 0x0D81
def EV_PWR_THERMAL : BitVec 16 := 0x0D82

def OP_GEN_NOP : BitVec 16 := 0x0101
def OP_GEN_FN_INFO : BitVec 16 := 0x0102
def OP_GEN_EVENT_MASK : BitVec 16 := 0x0103
def OP_GEN_VF_RESET : BitVec 16 := 0x0104
def OP_ADM_CONF_OPEN : BitVec 16 := 0x0201
def OP_ADM_CONF_CLOSE : BitVec 16 := 0x0202
def OP_ADM_LEG_ADMIT : BitVec 16 := 0x0203
def OP_ADM_LEG_MODIFY : BitVec 16 := 0x0204
def OP_ADM_LEG_RELEASE : BitVec 16 := 0x0205
def OP_ADM_LEG_STATS : BitVec 16 := 0x0206
def OP_ADM_FN_BUDGET_SET : BitVec 16 := 0x0207
def OP_ADM_LAYOUT_ADMIT : BitVec 16 := 0x0208
def OP_ADM_LAYOUT_RELEASE : BitVec 16 := 0x0209
def OP_NET_STREAM_BIND : BitVec 16 := 0x0301
def OP_NET_STREAM_UNBIND : BitVec 16 := 0x0302
def OP_NET_PORT_STATS : BitVec 16 := 0x0303
def OP_NET_JB_SET : BitVec 16 := 0x0304
def OP_NET_QUEUE_FLUSH : BitVec 16 := 0x0305
def OP_FWD_SUB_SET : BitVec 16 := 0x0310
def OP_FWD_SUB_CLEAR : BitVec 16 := 0x0311
def OP_FWD_SUB_CAP : BitVec 16 := 0x0312
def OP_FWD_EST_READ : BitVec 16 := 0x0313
def OP_FWD_KEY_PIC_REQ : BitVec 16 := 0x0314
def OP_FWD_PACE_SET : BitVec 16 := 0x0315
def OP_KEY_KEK_INFO : BitVec 16 := 0x0401
def OP_KEY_IMPORT : BitVec 16 := 0x0402
def OP_KEY_DERIVE : BitVec 16 := 0x0403
def OP_KEY_ERASE : BitVec 16 := 0x0404
def OP_CIP_BIND : BitVec 16 := 0x0405
def OP_CIP_UNBIND : BitVec 16 := 0x0406
def OP_CIP_STATS : BitVec 16 := 0x0407
def OP_AUD_ROUTE_SET : BitVec 16 := 0x0501
def OP_AUD_ROUTE_CLEAR : BitVec 16 := 0x0502
def OP_AUD_SINK_DYN : BitVec 16 := 0x0503
def OP_AUD_TONE_PLAY : BitVec 16 := 0x0504
def OP_AUD_TONE_STOP : BitVec 16 := 0x0505
def OP_AUD_LEVELS : BitVec 16 := 0x0506
def OP_AUD_MEDIA_BIND : BitVec 16 := 0x0507
def OP_BRS_PROG_LOAD : BitVec 16 := 0x0601
def OP_BRS_PROG_UNLOAD : BitVec 16 := 0x0602
def OP_BRS_TASK_BIND : BitVec 16 := 0x0603
def OP_BRS_TASK_UNBIND : BitVec 16 := 0x0604
def OP_BRS_STATS : BitVec 16 := 0x0605
def OP_VID_DEC_OPEN : BitVec 16 := 0x0701
def OP_VID_DEC_CLOSE : BitVec 16 := 0x0702
def OP_VID_ENC_OPEN : BitVec 16 := 0x0703
def OP_VID_ENC_CLOSE : BitVec 16 := 0x0704
def OP_VID_ENC_RATE : BitVec 16 := 0x0705
def OP_VID_KEY_PIC : BitVec 16 := 0x0706
def OP_VID_MEDIA_BIND : BitVec 16 := 0x0707
def OP_VID_STATS : BitVec 16 := 0x0708
def OP_CNV_LAYOUT_SET : BitVec 16 := 0x0801
def OP_CNV_LAYER_SET : BitVec 16 := 0x0802
def OP_CNV_LAYER_CLEAR : BitVec 16 := 0x0803
def OP_CNV_GROUP_FLIP : BitVec 16 := 0x0804
def OP_CNV_VARNISH_LOAD : BitVec 16 := 0x0805
def OP_CNV_VARNISH_DROP : BitVec 16 := 0x0806
def OP_PTP_STEP : BitVec 16 := 0x0901
def OP_PTP_RATE : BitVec 16 := 0x0902
def OP_PTP_SERVO_CFG : BitVec 16 := 0x0903
def OP_PTP_STATUS : BitVec 16 := 0x0904
def OP_MSH_PORT_CFG : BitVec 16 := 0x0A01
def OP_MSH_TRACE_SET : BitVec 16 := 0x0A02
def OP_MSH_APS_CMD : BitVec 16 := 0x0A03
def OP_MSH_PEER_STATUS : BitVec 16 := 0x0A04
def OP_MSH_WAKE_SEND : BitVec 16 := 0x0A05
def OP_MEM_SWEEP : BitVec 16 := 0x0B01
def OP_MEM_SOFT_REPAIR : BitVec 16 := 0x0B02
def OP_MEM_SPARE_STATUS : BitVec 16 := 0x0B03
def OP_MEM_ERR_LOG : BitVec 16 := 0x0B04
def OP_CAL_GLAZE_LOAD : BitVec 16 := 0x0C01
def OP_CAL_GLAZE_READ : BitVec 16 := 0x0C02
def OP_CAL_LIVE_READ : BitVec 16 := 0x0C03
def OP_CAL_GESSO_READ : BitVec 16 := 0x0C04
def OP_PWR_MODE_REQ : BitVec 16 := 0x0D01
def OP_PWR_RESIDENCY : BitVec 16 := 0x0D02
def OP_PWR_SIL_HOLD_SET : BitVec 16 := 0x0D03
def OP_PWR_THERMAL : BitVec 16 := 0x0D04

/-- The code of every event of the chapters' event tables (R100). -/
def eventCodes : List (BitVec 16) := [
  EV_GEN_EVT_LOST, EV_GEN_HOST_STALL, EV_GEN_FN_RESET, EV_GEN_RING_ERR, EV_GEN_MEDIA_GAP, EV_ADM_STATE,
  EV_ADM_POLICE, EV_ADM_BUDGET_BAD, EV_TICK_OVERRUN, EV_TICK_SKIP, EV_TICK_HOLD, EV_TICK_SRC,
  EV_NET_LINK, EV_NET_JB_RESYNC, EV_SPQ_UE, EV_NET_HPA_ERR, EV_NET_HPA_DROP, EV_FWD_LAYER,
  EV_FWD_SRC_UNSUP, EV_FWD_EST_STALE, EV_FWD_LIMIT_DROP, EV_FWD_KP_TIMEOUT, EV_KEY_REKEY, EV_KEY_ENTROPY,
  EV_AUD_SPEAKER, EV_AUD_TONE_DONE, EV_AUD_PART_MISS, EV_AUD_CLIP, EV_AUD_GROUP, EV_BRS_FAULT,
  EV_BRS_SUSPEND, EV_BRS_SIGNAL, EV_VID_DAMAGED, EV_VID_CLEAN, EV_VID_KEY_PIC, EV_VID_MIN_MODE,
  EV_VID_TX_DROP, EV_CNV_FLIP, EV_CNV_LAYER_OMIT, EV_CNV_STALE, EV_CNV_PLATE_LOST, EV_PTP_STATE,
  EV_PTP_STEP, EV_PTP_MEAS, EV_PTP_OFFSET, EV_PTP_PPS, EV_MSH_LINK, EV_MSH_APS,
  EV_MSH_TRACE, EV_MSH_CREDIT, EV_MSH_LANE, EV_MEM_UE, EV_MEM_CE_BUCKET, EV_MEM_SPARE,
  EV_MEM_REFRESH, EV_CAL_GESSO, EV_CAL_GLAZE, EV_CAL_RETRAIN, EV_CAL_TRIM_LIMIT, EV_PWR_MODE,
  EV_PWR_WAKE, EV_PWR_THERMAL]

end Sys2Proof.Machine
end

