-- ==== Sys2Proof/Machine/Fields.lean ====
section
/-! DEFINITION. The named register fields: each name of the spec's register tables, as the register's offset and the bits
of the field. Indexed registers take their indices (function f, ring q, vector v, port p, subport s, lane l, target t). -/

namespace Sys2Proof.Machine

def SYS_DEV_ID : Field := ⟨0x0, 31, 16⟩
def SYS_STEP : Field := ⟨0x0, 15, 8⟩
def SYS_GRADE : Field := ⟨0x0, 7, 4⟩
def SYS_COMPAT_CUR : Field := ⟨0x4, 31, 24⟩
def SYS_COMPAT_SEL : Field := ⟨0x4, 23, 16⟩
def SYS_COMPAT_MAX : Field := ⟨0x4, 15, 8⟩
def SYS_COMPAT_MIN : Field := ⟨0x4, 7, 0⟩
def SYS_FW_MAJOR : Field := ⟨0x8, 31, 24⟩
def SYS_FW_MINOR : Field := ⟨0x8, 23, 16⟩
def SYS_FW_BUILD : Field := ⟨0x8, 15, 0⟩
def SYS_SERIAL_LO : Field := ⟨0x10, 31, 0⟩
def SYS_SERIAL_HI : Field := ⟨0x14, 31, 0⟩
def SYS_LOCKED : Field := ⟨0x20, 8, 8⟩
def SYS_MODE_PREV : Field := ⟨0x20, 6, 4⟩
def SYS_MODE : Field := ⟨0x20, 2, 0⟩
def SYS_SETUP_DONE : Field := ⟨0x24, 0, 0⟩
def SYS_ST_SETUP : Field := ⟨0x28, 3, 3⟩
def SYS_ST_LOCK_WR : Field := ⟨0x28, 2, 2⟩
def SYS_ST_UNMAPPED : Field := ⟨0x28, 1, 1⟩
def SYS_ST_ACCESS : Field := ⟨0x28, 0, 0⟩
def SYS_LOCK_OFS : Field := ⟨0x2c, 25, 0⟩
def SYS_RST_CAUSE : Field := ⟨0x30, 3, 0⟩
def HIF_HOST_SERVICE_TICKS : Field := ⟨0x100000, 15, 8⟩
def HIF_DB_POLL_RATE : Field := ⟨0x100000, 1, 0⟩
def HIF_FN_RESET (f : Nat) : Field := ⟨0x110000 + 0x1000 * f, 31, 31⟩
def HIF_FN_EN (f : Nat) : Field := ⟨0x110000 + 0x1000 * f, 16, 16⟩
def HIF_FN_ERR_VEC (f : Nat) : Field := ⟨0x110000 + 0x1000 * f, 4, 0⟩
def HIF_ST_DMA_ERR (f : Nat) : Field := ⟨0x110004 + 0x1000 * f, 7, 7⟩
def HIF_ST_RING_ERR (f : Nat) : Field := ⟨0x110004 + 0x1000 * f, 6, 6⟩
def HIF_ST_EVT_LOST (f : Nat) : Field := ⟨0x110004 + 0x1000 * f, 5, 5⟩
def HIF_ST_STALL (f : Nat) : Field := ⟨0x110004 + 0x1000 * f, 4, 4⟩
def HIF_ST_STALLED (f : Nat) : Field := ⟨0x110004 + 0x1000 * f, 3, 3⟩
def HIF_FN_STATE (f : Nat) : Field := ⟨0x110004 + 0x1000 * f, 2, 0⟩
def HIF_DB_BASE_LO (f : Nat) : Field := ⟨0x110008 + 0x1000 * f, 31, 9⟩
def HIF_DB_BASE_HI (f : Nat) : Field := ⟨0x11000c + 0x1000 * f, 31, 0⟩
def HIF_FN_IRQ_OFS (f : Nat) : Field := ⟨0x110010 + 0x1000 * f, 19, 0⟩
def HIF_EVT_LOST_CNT (f : Nat) : Field := ⟨0x110014 + 0x1000 * f, 31, 0⟩
def HIF_RING_BASE_LO (f : Nat) (q : Nat) : Field := ⟨0x110100 + 0x1000 * f + 0x10 * q, 31, 12⟩
def HIF_RING_BASE_HI (f : Nat) (q : Nat) : Field := ⟨0x110104 + 0x1000 * f + 0x10 * q, 31, 0⟩
def HIF_RING_EN (f : Nat) (q : Nat) : Field := ⟨0x110108 + 0x1000 * f + 0x10 * q, 31, 31⟩
def HIF_RING_IRQ_EN (f : Nat) (q : Nat) : Field := ⟨0x110108 + 0x1000 * f + 0x10 * q, 30, 30⟩
def HIF_RING_VEC (f : Nat) (q : Nat) : Field := ⟨0x110108 + 0x1000 * f + 0x10 * q, 24, 20⟩
def HIF_RING_CPL (f : Nat) (q : Nat) : Field := ⟨0x110108 + 0x1000 * f + 0x10 * q, 19, 16⟩
def HIF_RING_DIR (f : Nat) (q : Nat) : Field := ⟨0x110108 + 0x1000 * f + 0x10 * q, 8, 8⟩
def HIF_RING_LOG2 (f : Nat) (q : Nat) : Field := ⟨0x110108 + 0x1000 * f + 0x10 * q, 4, 0⟩
def HIF_RING_STATE (f : Nat) (q : Nat) : Field := ⟨0x11010c + 0x1000 * f + 0x10 * q, 31, 30⟩
def HIF_RING_ERR (f : Nat) (q : Nat) : Field := ⟨0x11010c + 0x1000 * f + 0x10 * q, 29, 28⟩
def HIF_RING_PHASE (f : Nat) (q : Nat) : Field := ⟨0x11010c + 0x1000 * f + 0x10 * q, 16, 16⟩
def HIF_RING_DEV_IDX (f : Nat) (q : Nat) : Field := ⟨0x11010c + 0x1000 * f + 0x10 * q, 15, 0⟩
def HIF_VEC_MOD_CNT (f : Nat) (v : Nat) : Field := ⟨0x110a00 + 0x1000 * f + 0x4 * v, 23, 16⟩
def HIF_VEC_MOD_TICKS (f : Nat) (v : Nat) : Field := ⟨0x110a00 + 0x1000 * f + 0x4 * v, 7, 0⟩
def TIK_SRC : Field := ⟨0x200000, 1, 0⟩
def TIK_NOW_LO : Field := ⟨0x200008, 31, 0⟩
def TIK_NOW_HI : Field := ⟨0x20000c, 31, 0⟩
def TIK_SEG : Field := ⟨0x200010, 22, 20⟩
def TIK_OFS : Field := ⟨0x200010, 19, 0⟩
def TIK_OUT_EN : Field := ⟨0x200020, 31, 31⟩
def TIK_OUT_MODE : Field := ⟨0x200020, 25, 24⟩
def TIK_OUT_WIDTH : Field := ⟨0x200020, 15, 0⟩
def TIK_OUT_ADV : Field := ⟨0x200024, 11, 0⟩
def TIK_ST_SRC_LOST : Field := ⟨0x200030, 5, 5⟩
def TIK_ST_HOLD : Field := ⟨0x200030, 4, 4⟩
def TIK_ST_SKIP : Field := ⟨0x200030, 3, 3⟩
def TIK_ST_OVR_EMIT : Field := ⟨0x200030, 2, 2⟩
def TIK_ST_OVR_WORK : Field := ⟨0x200030, 1, 1⟩
def TIK_ST_OVR_GATHER : Field := ⟨0x200030, 0, 0⟩
def TIK_OVR_GATHER_CNT : Field := ⟨0x200040, 31, 0⟩
def TIK_OVR_WORK_CNT : Field := ⟨0x200044, 31, 0⟩
def TIK_OVR_EMIT_CNT : Field := ⟨0x200048, 31, 0⟩
def TIK_SKIP_CNT : Field := ⟨0x20004c, 31, 0⟩
def TIK_HOLD_CNT : Field := ⟨0x200050, 31, 0⟩
def TIK_OVR_LAST_LO : Field := ⟨0x200058, 31, 0⟩
def TIK_OVR_LAST_HI : Field := ⟨0x20005c, 31, 0⟩
def TIK_CLR_LAST : Field := ⟨0x200060, 5, 5⟩
def TIK_CLR_HOLD : Field := ⟨0x200060, 4, 4⟩
def TIK_CLR_SKIP : Field := ⟨0x200060, 3, 3⟩
def TIK_CLR_EMIT : Field := ⟨0x200060, 2, 2⟩
def TIK_CLR_WORK : Field := ⟨0x200060, 1, 1⟩
def TIK_CLR_GATHER : Field := ⟨0x200060, 0, 0⟩
def TIK_INGRESS_ALLOW : Field := ⟨0x200070, 15, 0⟩
def ADM_RESERVE : Field := ⟨0x300000, 9, 0⟩
def ADM_HOST_CLOSE : Field := ⟨0x300004, 0, 0⟩
def ADM_CAUSE : Field := ⟨0x300008, 3, 1⟩
def ADM_OPEN : Field := ⟨0x300008, 0, 0⟩
def ADM_LEG_CNT : Field := ⟨0x30000c, 14, 0⟩
def ADM_CONF_CNT : Field := ⟨0x300010, 14, 0⟩
def ADM_FN_BUDGET (f : Nat) (r : Nat) : Field := ⟨0x300400 + 0x40 * f + 0x4 * r, 10, 0⟩
def ADM_FN_BUDGET_CUR (f : Nat) (r : Nat) : Field := ⟨0x301400 + 0x40 * f + 0x4 * r, 10, 0⟩
def ADM_FN_USE (f : Nat) (r : Nat) : Field := ⟨0x302400 + 0x40 * f + 0x4 * r, 10, 0⟩
def ADM_USE (r : Nat) : Field := ⟨0x303400 + 0x4 * r, 10, 0⟩
def NET_TTL : Field := ⟨0x400000, 31, 24⟩
def NET_MISS_TO_HOST : Field := ⟨0x400000, 16, 16⟩
def NET_HOSTFN : Field := ⟨0x400000, 5, 0⟩
def NET_PORT_MODE (p : Nat) : Field := ⟨0x400100 + 0x40 * p, 31, 30⟩
def NET_AN_EN (p : Nat) : Field := ⟨0x400100 + 0x40 * p, 29, 29⟩
def NET_PORT_MAXF (p : Nat) : Field := ⟨0x400100 + 0x40 * p, 13, 0⟩
def NET_LINK_CHG (p : Nat) : Field := ⟨0x400104 + 0x40 * p, 7, 4⟩
def NET_LINK_UP (p : Nat) : Field := ⟨0x400104 + 0x40 * p, 3, 0⟩
def NET_PORT_MAC_LO (p : Nat) (s : Nat) : Field := ⟨0x400110 + 0x40 * p + 0x8 * s, 31, 0⟩
def NET_PORT_MAC_HI (p : Nat) (s : Nat) : Field := ⟨0x400114 + 0x40 * p + 0x8 * s, 15, 0⟩
def NET_HPA_BASE_LO (f : Nat) : Field := ⟨0x401000 + 0x20 * f, 31, 12⟩
def NET_HPA_BASE_HI (f : Nat) : Field := ⟨0x401004 + 0x20 * f, 31, 0⟩
def NET_HPA_EN (f : Nat) : Field := ⟨0x401008 + 0x20 * f, 31, 31⟩
def NET_HPA_IRQ_EN (f : Nat) : Field := ⟨0x401008 + 0x20 * f, 30, 30⟩
def NET_HPA_VEC (f : Nat) : Field := ⟨0x401008 + 0x20 * f, 28, 24⟩
def NET_HPA_TX_LOG2 (f : Nat) : Field := ⟨0x401008 + 0x20 * f, 23, 20⟩
def NET_HPA_RX_LOG2 (f : Nat) : Field := ⟨0x401008 + 0x20 * f, 19, 16⟩
def NET_HPA_TICK_MAX (f : Nat) : Field := ⟨0x401008 + 0x20 * f, 7, 0⟩
def NET_HPA_STATE (f : Nat) : Field := ⟨0x40100c + 0x20 * f, 31, 30⟩
def NET_HPA_DROP_CNT (f : Nat) : Field := ⟨0x40100c + 0x20 * f, 15, 0⟩
def SPQ_POOL_UNITS : Field := ⟨0x500000, 12, 0⟩
def SPQ_POOL_FREE : Field := ⟨0x500004, 31, 0⟩
def SPQ_CE_CNT : Field := ⟨0x500008, 31, 0⟩
def SPQ_UE_CNT : Field := ⟨0x50000c, 31, 0⟩
def SPQ_ST_UE : Field := ⟨0x500010, 1, 1⟩
def SPQ_ST_CE : Field := ⟨0x500010, 0, 0⟩
def SPQ_CLR_UE : Field := ⟨0x500014, 1, 1⟩
def SPQ_CLR_CE : Field := ⟨0x500014, 0, 0⟩
def SPQ_UE_QUEUE : Field := ⟨0x500018, 15, 0⟩
def FWD_EST_Q_HI : Field := ⟨0x600000, 31, 24⟩
def FWD_EST_Q_LO : Field := ⟨0x600000, 23, 16⟩
def FWD_EST_LOSS_HI : Field := ⟨0x600000, 15, 8⟩
def FWD_EST_LOSS_LO : Field := ⟨0x600000, 7, 0⟩
def FWD_EST_HEADROOM : Field := ⟨0x600004, 31, 16⟩
def FWD_EST_INC : Field := ⟨0x600004, 15, 8⟩
def FWD_EST_MIN : Field := ⟨0x600008, 31, 16⟩
def FWD_EST_INIT : Field := ⟨0x600008, 15, 0⟩
def FWD_EST_STALE : Field := ⟨0x60000c, 31, 16⟩
def FWD_EST_INC_MIN : Field := ⟨0x60000c, 15, 0⟩
def FWD_EST_USE : Field := ⟨0x600010, 31, 22⟩
def FWD_UP_MARGIN : Field := ⟨0x600010, 21, 11⟩
def FWD_UP_HOLD : Field := ⟨0x600010, 7, 0⟩
def FWD_KP_GAP : Field := ⟨0x600014, 31, 16⟩
def FWD_KP_WAIT : Field := ⟨0x600014, 15, 0⟩
def FWD_ST_UNSUP : Field := ⟨0x600020, 2, 2⟩
def FWD_ST_SEQ_STALE : Field := ⟨0x600020, 1, 1⟩
def FWD_ST_LIMIT_DROP : Field := ⟨0x600020, 0, 0⟩
def FWD_DROP_LIMIT_CNT : Field := ⟨0x600024, 31, 0⟩
def FWD_DROP_STALE_CNT : Field := ⟨0x600028, 31, 0⟩
def FWD_KP_SENT_CNT : Field := ⟨0x60002c, 31, 0⟩
def FWD_CLR_KP : Field := ⟨0x600030, 2, 2⟩
def FWD_CLR_STALE : Field := ⟨0x600030, 1, 1⟩
def FWD_CLR_LIMIT : Field := ⟨0x600030, 0, 0⟩
def FWD_SUB_CNT : Field := ⟨0x600034, 20, 0⟩
def CIP_RX_OVERLAP : Field := ⟨0x700000, 31, 16⟩
def CIP_RETRY_MAX : Field := ⟨0x700000, 15, 0⟩
def CIP_RETRY_LIMIT : Field := ⟨0x700004, 2, 2⟩
def CIP_REKEY : Field := ⟨0x700004, 1, 1⟩
def CIP_AUTH_FAIL : Field := ⟨0x700004, 0, 0⟩
def CIP_AUTH_FAIL_CNT : Field := ⟨0x700008, 31, 0⟩
def CIP_REPLAY_CNT : Field := ⟨0x70000c, 31, 0⟩
def CIP_REFUSE_CNT : Field := ⟨0x700010, 31, 0⟩
def CIP_RETRY_DROP_CNT : Field := ⟨0x700014, 31, 0⟩
def CIP_CLR_RETRY : Field := ⟨0x700018, 3, 3⟩
def CIP_CLR_REFUSE : Field := ⟨0x700018, 2, 2⟩
def CIP_CLR_REPLAY : Field := ⟨0x700018, 1, 1⟩
def CIP_CLR_AUTH : Field := ⟨0x700018, 0, 0⟩
def KEY_CLEAR_EN : Field := ⟨0x780000, 0, 0⟩
def KEY_ENT_OK : Field := ⟨0x780004, 2, 2⟩
def KEY_ENT_FAIL : Field := ⟨0x780004, 1, 1⟩
def KEY_UNWRAP_FAIL : Field := ⟨0x780004, 0, 0⟩
def KEY_SLOT_CNT : Field := ⟨0x780008, 16, 0⟩
def KEY_UNWRAP_FAIL_CNT : Field := ⟨0x78000c, 31, 0⟩
def KEY_CLR_UNWRAP : Field := ⟨0x780010, 0, 0⟩
def AUD_FINAL_CEIL : Field := ⟨0x800000, 23, 16⟩
def AUD_FINAL_REL : Field := ⟨0x800000, 15, 0⟩
def AUD_AS_HOLD : Field := ⟨0x800004, 31, 24⟩
def AUD_AS_HYST : Field := ⟨0x800004, 23, 12⟩
def AUD_AS_DECAY : Field := ⟨0x800004, 11, 0⟩
def AUD_DS_HOLD : Field := ⟨0x800008, 15, 0⟩
def AUD_VAD_HANG : Field := ⟨0x80000c, 31, 24⟩
def AUD_VAD_RISE : Field := ⟨0x80000c, 23, 16⟩
def AUD_VAD_SNR : Field := ⟨0x80000c, 15, 0⟩
def AUD_SIL_THRESH : Field := ⟨0x800010, 15, 0⟩
def AUD_ST_PART_MISS : Field := ⟨0x800014, 2, 2⟩
def AUD_ST_BUS_SAT : Field := ⟨0x800014, 1, 1⟩
def AUD_ST_CLIP : Field := ⟨0x800014, 0, 0⟩
def AUD_CLIP_CNT : Field := ⟨0x800018, 31, 0⟩
def AUD_BUS_SAT_CNT : Field := ⟨0x80001c, 31, 0⟩
def AUD_PART_MISS_CNT : Field := ⟨0x800020, 31, 0⟩
def AUD_CLR_PART : Field := ⟨0x800024, 2, 2⟩
def AUD_CLR_SAT : Field := ⟨0x800024, 1, 1⟩
def AUD_CLR_CLIP : Field := ⟨0x800024, 0, 0⟩
def AUD_GRP_GATED : Field := ⟨0x800028, 15, 0⟩
def BRS_ST_SIG_DROP : Field := ⟨0x900000, 2, 2⟩
def BRS_ST_SUSPEND : Field := ⟨0x900000, 1, 1⟩
def BRS_ST_FAULT : Field := ⟨0x900000, 0, 0⟩
def BRS_FAULT_CNT : Field := ⟨0x900004, 31, 0⟩
def BRS_CLR_FAULT : Field := ⟨0x900008, 0, 0⟩
def BRS_STORE_FREE : Field := ⟨0x90000c, 16, 0⟩
def BRS_STUDIO_FREE : Field := ⟨0x900010, 22, 0⟩
def BRS_PROG_CNT : Field := ⟨0x900014, 15, 0⟩
def BRS_TASK_CNT : Field := ⟨0x900018, 15, 0⟩
def SCH_FAULT_SUSPEND : Field := ⟨0xa00000, 31, 24⟩
def SCH_WAIT_TO : Field := ⟨0xa00000, 15, 0⟩
def VID_POOL_UNITS : Field := ⟨0xb00000, 10, 0⟩
def VID_ENC_KP_GAP : Field := ⟨0xb00004, 15, 0⟩
def VID_ST_POOL_CUT : Field := ⟨0xb00008, 4, 4⟩
def VID_ST_BOUND : Field := ⟨0xb00008, 3, 3⟩
def VID_ST_TX_DROP : Field := ⟨0xb00008, 2, 2⟩
def VID_ST_MIN_MODE : Field := ⟨0xb00008, 1, 1⟩
def VID_ST_DEC_DAMAGED : Field := ⟨0xb00008, 0, 0⟩
def VID_DEC_DMG_CNT : Field := ⟨0xb0000c, 31, 0⟩
def VID_ENC_MIN_CNT : Field := ⟨0xb00010, 31, 0⟩
def VID_TX_DROP_CNT : Field := ⟨0xb00014, 31, 0⟩
def VID_BOUND_CNT : Field := ⟨0xb00018, 31, 0⟩
def VID_CLR_BOUND : Field := ⟨0xb0001c, 3, 3⟩
def VID_CLR_DROP : Field := ⟨0xb0001c, 2, 2⟩
def VID_CLR_MIN : Field := ⟨0xb0001c, 1, 1⟩
def VID_CLR_DMG : Field := ⟨0xb0001c, 0, 0⟩
def VID_POOL_FREE : Field := ⟨0xb00020, 31, 0⟩
def VID_ENC_OPEN_CNT : Field := ⟨0xb00024, 26, 16⟩
def VID_DEC_OPEN_CNT : Field := ⟨0xb00024, 12, 0⟩
def CNV_FLIP_TO : Field := ⟨0xc00000, 31, 24⟩
def CNV_STALE_FRAMES : Field := ⟨0xc00000, 15, 0⟩
def CNV_ST_PLATE_UE : Field := ⟨0xc00004, 2, 2⟩
def CNV_ST_OMIT : Field := ⟨0xc00004, 1, 1⟩
def CNV_ST_FLIP_TO : Field := ⟨0xc00004, 0, 0⟩
def CNV_FLIP_TO_CNT : Field := ⟨0xc00008, 31, 0⟩
def CNV_OMIT_CNT : Field := ⟨0xc0000c, 31, 0⟩
def CNV_PLATE_UE_CNT : Field := ⟨0xc00010, 31, 0⟩
def CNV_CLR_UE : Field := ⟨0xc00014, 2, 2⟩
def CNV_CLR_OMIT : Field := ⟨0xc00014, 1, 1⟩
def CNV_CLR_FLIP : Field := ⟨0xc00014, 0, 0⟩
def CNV_VARNISH_FREE : Field := ⟨0xc00018, 12, 0⟩
def CNV_PLATE_CNT : Field := ⟨0xc0001c, 12, 0⟩
def PTP_HOLD_LIMIT : Field := ⟨0xd00000, 31, 16⟩
def PTP_TS_EN : Field := ⟨0xd00000, 11, 8⟩
def PTP_TSFN : Field := ⟨0xd00000, 5, 0⟩
def PTP_KP : Field := ⟨0xd00004, 31, 16⟩
def PTP_KI : Field := ⟨0xd00004, 15, 0⟩
def PPS_OUT_EN : Field := ⟨0xd00008, 31, 31⟩
def PPS_SQUELCH : Field := ⟨0xd00008, 30, 30⟩
def PPS_IN_EN : Field := ⟨0xd00008, 29, 29⟩
def PPS_IN_EDGE : Field := ⟨0xd00008, 28, 28⟩
def PTP_PPS_ADV : Field := ⟨0xd00008, 27, 16⟩
def PPS_WIDTH : Field := ⟨0xd00008, 12, 0⟩
def PTP_TX_DLY (p : Nat) : Field := ⟨0xd00010 + 0x4 * p, 31, 16⟩
def PTP_RX_DLY (p : Nat) : Field := ⟨0xd00010 + 0x4 * p, 15, 0⟩
def PTP_TIME_NS : Field := ⟨0xd00020, 29, 0⟩
def PTP_TIME_SL : Field := ⟨0xd00024, 31, 0⟩
def PTP_TIME_SH : Field := ⟨0xd00028, 15, 0⟩
def PTP_STATE : Field := ⟨0xd00030, 10, 8⟩
def PTP_UNCERTAIN : Field := ⟨0xd00030, 7, 7⟩
def PTP_STEP_USED : Field := ⟨0xd00030, 6, 6⟩
def PTP_ST_OFFSET : Field := ⟨0xd00030, 3, 3⟩
def PTP_ST_PPS_LOSS : Field := ⟨0xd00030, 2, 2⟩
def PTP_ST_LAUNCH_MISS : Field := ⟨0xd00030, 1, 1⟩
def PTP_ST_TS_LOST : Field := ⟨0xd00030, 0, 0⟩
def PTP_EPOCH : Field := ⟨0xd00034, 15, 0⟩
def PTP_RATE : Field := ⟨0xd00038, 31, 0⟩
def PTP_TS_LOST_CNT : Field := ⟨0xd0003c, 31, 0⟩
def PTP_LAUNCH_MISS_CNT : Field := ⟨0xd00040, 31, 0⟩
def PTP_RX_DROP_CNT : Field := ⟨0xd00044, 31, 0⟩
def PTP_CLR_RXDROP : Field := ⟨0xd00048, 2, 2⟩
def PTP_CLR_LAUNCH : Field := ⟨0xd00048, 1, 1⟩
def PTP_CLR_TSLOST : Field := ⟨0xd00048, 0, 0⟩
def PTP_SLEEP_CNT_LO : Field := ⟨0xd00050, 31, 0⟩
def PTP_SLEEP_CNT_HI : Field := ⟨0xd00054, 31, 0⟩
def MSH_AM_M : Field := ⟨0xe00000, 23, 20⟩
def MSH_AM_N : Field := ⟨0xe00000, 19, 16⟩
def MSH_TICK_PORT : Field := ⟨0xe00000, 9, 8⟩
def MESH_NODE : Field := ⟨0xe00000, 4, 0⟩
def MSH_NONREV : Field := ⟨0xe00004, 31, 31⟩
def MSH_WTR : Field := ⟨0xe00004, 25, 16⟩
def MSH_HOLDOFF : Field := ⟨0xe00004, 6, 0⟩
def MSH_SD_SYM : Field := ⟨0xe00008, 31, 16⟩
def MSH_SF_UNCORR : Field := ⟨0xe00008, 15, 0⟩
def MSH_TLOCK_N : Field := ⟨0xe0000c, 31, 24⟩
def MSH_PART_FORGET : Field := ⟨0xe0000c, 15, 0⟩
def MSH_ST_TRACE : Field := ⟨0xe00010, 4, 4⟩
def MSH_ST_APS : Field := ⟨0xe00010, 3, 3⟩
def MSH_ST_CREDIT : Field := ⟨0xe00010, 2, 2⟩
def MSH_ST_PART : Field := ⟨0xe00010, 1, 1⟩
def MSH_ST_UNIT_ERR : Field := ⟨0xe00010, 0, 0⟩
def MSH_UNIT_ERR_CNT : Field := ⟨0xe00014, 31, 0⟩
def MSH_PART_DROP_CNT : Field := ⟨0xe00018, 31, 0⟩
def MSH_PART_LATE_CNT : Field := ⟨0xe0001c, 31, 0⟩
def MSH_MEDIA_DROP_CNT : Field := ⟨0xe00020, 31, 0⟩
def MSH_CREDIT_ERR_CNT : Field := ⟨0xe00024, 31, 0⟩
def MSH_CLR_CREDIT : Field := ⟨0xe00028, 4, 4⟩
def MSH_CLR_MEDIA : Field := ⟨0xe00028, 3, 3⟩
def MSH_CLR_LATE : Field := ⟨0xe00028, 2, 2⟩
def MSH_CLR_DROP : Field := ⟨0xe00028, 1, 1⟩
def MSH_CLR_UNIT : Field := ⟨0xe00028, 0, 0⟩
def MSH_TICK_PHASE : Field := ⟨0xe0002c, 31, 0⟩
def MSH_TICK_DELAY : Field := ⟨0xe00030, 31, 0⟩
def MSH_GROUP_UP (m : Nat) : Field := ⟨0xe00100 + 0x40 * m, 31, 31⟩
def MSH_TIM (m : Nat) : Field := ⟨0xe00100 + 0x40 * m, 30, 30⟩
def MSH_PEER_NODE (m : Nat) : Field := ⟨0xe00100 + 0x40 * m, 29, 25⟩
def MSH_LANES_OK (m : Nat) : Field := ⟨0xe00100 + 0x40 * m, 24, 16⟩
def MSH_APS_STATE (m : Nat) : Field := ⟨0xe00100 + 0x40 * m, 15, 8⟩
def MSH_TICK_LOCK (m : Nat) : Field := ⟨0xe00100 + 0x40 * m, 1, 0⟩
def MSH_ASYM (m : Nat) : Field := ⟨0xe00104 + 0x40 * m, 15, 0⟩
def MSH_AM_STATE (m : Nat) (l : Nat) : Field := ⟨0xe00110 + 0x40 * m + 0x4 * l, 31, 30⟩
def MSH_LANE_DEF (m : Nat) (l : Nat) : Field := ⟨0xe00110 + 0x40 * m + 0x4 * l, 29, 26⟩
def MSH_LOG_LANE (m : Nat) (l : Nat) : Field := ⟨0xe00110 + 0x40 * m + 0x4 * l, 25, 22⟩
def MSH_SKEW (m : Nat) (l : Nat) : Field := ⟨0xe00110 + 0x40 * m + 0x4 * l, 10, 0⟩
def MEM_SWEEP_RATE : Field := ⟨0xf00000, 31, 24⟩
def MEM_UE_FAIL : Field := ⟨0xf00000, 23, 16⟩
def MEM_AGE_MAX : Field := ⟨0xf00000, 15, 0⟩
def MEM_REF_INT : Field := ⟨0xf00004, 31, 16⟩
def MEM_HOT_C : Field := ⟨0xf00004, 15, 8⟩
def MEM_RETRAIN_DT : Field := ⟨0xf00004, 7, 0⟩
def MEM_RETRAIN_TICKS : Field := ⟨0xf00008, 31, 16⟩
def MEM_MARGIN_MIN : Field := ⟨0xf00008, 4, 0⟩
def MEM_HASH_BA0 : Field := ⟨0xf00010, 29, 0⟩
def MEM_HASH_BA1 : Field := ⟨0xf00014, 29, 0⟩
def MEM_HASH_BG0 : Field := ⟨0xf00018, 29, 0⟩
def MEM_HASH_BG1 : Field := ⟨0xf0001c, 29, 0⟩
def MEM_ST_HOT : Field := ⟨0xf00020, 2, 2⟩
def MEM_ST_POISON : Field := ⟨0xf00020, 1, 1⟩
def MEM_ST_SPARE : Field := ⟨0xf00020, 0, 0⟩
def MEM_POISON_CNT : Field := ⟨0xf00024, 31, 0⟩
def MEM_CLR_POISON : Field := ⟨0xf00028, 0, 0⟩
def MEM_TEMP (s : Nat) : Field := ⟨0xf00100 + 0x10 * s, 31, 24⟩
def MEM_REF_HALF (s : Nat) : Field := ⟨0xf00100 + 0x10 * s, 23, 23⟩
def MEM_SPARE_STATE (s : Nat) : Field := ⟨0xf00100 + 0x10 * s, 22, 21⟩
def MEM_SPARE_PC (s : Nat) : Field := ⟨0xf00100 + 0x10 * s, 20, 15⟩
def MEM_OUT_PC (s : Nat) : Field := ⟨0xf00100 + 0x10 * s, 13, 8⟩
def ECC_LEAK_TICKS : Field := ⟨0x1000000, 31, 16⟩
def ECC_CE_THRESH : Field := ⟨0x1000000, 15, 0⟩
def ECC_ST_BUCKET : Field := ⟨0x1000004, 3, 3⟩
def ECC_ST_ADDR : Field := ⟨0x1000004, 2, 2⟩
def ECC_ST_UE : Field := ⟨0x1000004, 1, 1⟩
def ECC_ST_CE : Field := ⟨0x1000004, 0, 0⟩
def ECC_CLR : Field := ⟨0x1000008, 10, 0⟩
def ECC_CE_CNT (t : Nat) : Field := ⟨0x1000100 + 0x10 * t, 31, 0⟩
def ECC_UE_CNT (t : Nat) : Field := ⟨0x1000104 + 0x10 * t, 31, 0⟩
def ECC_ADDR_CNT (t : Nat) : Field := ⟨0x1000108 + 0x10 * t, 31, 0⟩
def ECC_BUCKET (t : Nat) : Field := ⟨0x100010c + 0x10 * t, 15, 0⟩
def ECC_REPAIR_FREE (t : Nat) : Field := ⟨0x1000200 + 0x4 * t, 12, 0⟩
def CAL_FLASH_EN : Field := ⟨0x1100000, 31, 31⟩
def CAL_FLASH_OFS : Field := ⟨0x1100000, 15, 0⟩
def CAL_GLZ_SRC : Field := ⟨0x1100004, 9, 8⟩
def CAL_ST_TRIM_LIMIT : Field := ⟨0x1100004, 5, 5⟩
def CAL_ST_RETRAIN_FAIL : Field := ⟨0x1100004, 4, 4⟩
def CAL_ST_RETRAIN_WIDE : Field := ⟨0x1100004, 3, 3⟩
def CAL_ST_RETRAIN_HELD : Field := ⟨0x1100004, 2, 2⟩
def CAL_ST_GLAZE_SKIP : Field := ⟨0x1100004, 1, 1⟩
def CAL_ST_DEFAULT : Field := ⟨0x1100004, 0, 0⟩
def CAL_GESSO_DEF : Field := ⟨0x1100008, 31, 16⟩
def CAL_GESSO_VOTE : Field := ⟨0x1100008, 15, 0⟩
def CAL_GLAZE_SKIP : Field := ⟨0x110000c, 26, 16⟩
def CAL_GLAZE_APPLIED : Field := ⟨0x110000c, 10, 0⟩
def CAL_RETRAIN_HELD_CNT : Field := ⟨0x1100010, 31, 0⟩
def CAL_RETRAIN_WIDE_CNT : Field := ⟨0x1100014, 31, 0⟩
def CAL_CLR_WIDE : Field := ⟨0x1100018, 1, 1⟩
def CAL_CLR_HELD : Field := ⟨0x1100018, 0, 0⟩
def PWR_WARN_C : Field := ⟨0x1200000, 31, 24⟩
def PWR_CRIT_C : Field := ⟨0x1200000, 23, 16⟩
def PWR_HYST_C : Field := ⟨0x1200000, 15, 12⟩
def PWR_ALERT_WARN : Field := ⟨0x1200000, 11, 11⟩
def PWR_CRIT_DRAIN : Field := ⟨0x1200000, 10, 0⟩
def PWR_SEQ_GAP : Field := ⟨0x1200004, 9, 0⟩
def PWR_WAKE_EN_ETH : Field := ⟨0x1200008, 3, 0⟩
def PWR_WAKE_EN_PCIE : Field := ⟨0x1200008, 6, 6⟩
def PWR_WAKE_EN_TIMER : Field := ⟨0x1200008, 7, 7⟩
def PWR_SLEEP_TIMER : Field := ⟨0x120000c, 31, 0⟩
def PWR_FAULT_SRC : Field := ⟨0x1200010, 31, 28⟩
def PWR_WAKE_LAST : Field := ⟨0x1200010, 27, 24⟩
def PWR_THERM_STATE : Field := ⟨0x1200010, 17, 16⟩
def PWR_ST_BOOT_FAIL : Field := ⟨0x1200010, 5, 5⟩
def PWR_ST_TRIP : Field := ⟨0x1200010, 4, 4⟩
def PWR_ST_THERM_SHUT : Field := ⟨0x1200010, 3, 3⟩
def PWR_ST_RAIL_FAULT : Field := ⟨0x1200010, 2, 2⟩
def PWR_ST_WAKE_FAULT : Field := ⟨0x1200010, 1, 1⟩
def PWR_ST_WARN : Field := ⟨0x1200010, 0, 0⟩
def PWR_TEMP_MAX : Field := ⟨0x1200014, 23, 16⟩
def PWR_TEMP_SENSOR : Field := ⟨0x1200014, 4, 0⟩
def PWR_DOM_ON : Field := ⟨0x1200018, 9, 0⟩
def PWR_SIL_HOLD : Field := ⟨0x120001c, 15, 0⟩
def PAD_ST_GPIO : Field := ⟨0x1300000, 5, 4⟩
def PAD_ST_TIME : Field := ⟨0x1300000, 3, 2⟩
def PAD_ST_MGMT : Field := ⟨0x1300000, 1, 0⟩
def PAD_REL_GPIO : Field := ⟨0x1300004, 1, 1⟩
def PAD_REL_TIME : Field := ⟨0x1300004, 0, 0⟩
def PAD_GPIO_DIR : Field := ⟨0x1300008, 15, 0⟩
def PAD_GPIO_OUT : Field := ⟨0x130000c, 15, 0⟩
def PAD_GPIO_IN : Field := ⟨0x1300010, 15, 0⟩
def PAD_FAN_AUTO : Field := ⟨0x1300014, 31, 31⟩
def PAD_FAN_MIN : Field := ⟨0x1300014, 22, 16⟩
def PAD_FAN_T0 : Field := ⟨0x1300014, 15, 8⟩
def PAD_FAN_SLOPE : Field := ⟨0x1300014, 7, 0⟩
def CTL_BOOT_SRC : Field := ⟨0x1400000, 31, 31⟩
def CTL_BOOT_FLASH_OFS : Field := ⟨0x1400000, 15, 0⟩
def CTL_BOOT_ADDR_LO : Field := ⟨0x1400004, 31, 12⟩
def CTL_BOOT_ADDR_HI : Field := ⟨0x1400008, 31, 0⟩
def CTL_BOOT_GO : Field := ⟨0x140000c, 0, 0⟩
def CTL_BOOT_SVN : Field := ⟨0x1400010, 31, 24⟩
def CTL_BOOT_ERR : Field := ⟨0x1400010, 15, 8⟩
def CTL_BOOT_STATE : Field := ⟨0x1400010, 2, 0⟩

end Sys2Proof.Machine
end

