-- ==== Sys2Proof/Machine/RegMap.lean ====
section
/-! DEFINITION. The register map of BAR0 (R492): every register with its offset and index dimensions, and every field
with its bits, access type (R496), reset value and legal range (R11), as the register tables of R44, R78, R113, R149,
R150, R177, R206, R207, R240, R274, R275, R312, R335, R359, R389, R421, R422, R437, R466, R467, R504 and R505 give them. -/

namespace Sys2Proof.Machine

/-- Registers of the SYS block (R504). -/
def regMapSys : List RegDef := [
  ⟨"SYS_ID", 0x0, [], [⟨31, 16, .rof, 0x9416, 0, 65535⟩, ⟨15, 8, .rof, 0xa1, 0, 255⟩, ⟨7, 4, .rof, 0x0, 0, 15⟩]⟩,
  ⟨"SYS_COMPAT", 0x4, [], [⟨31, 24, .ro, 0x0, 0, 255⟩, ⟨23, 16, .rwl, 0x1, 1, 1⟩, ⟨15, 8, .rof, 0x1, 0, 255⟩, ⟨7, 0, .rof, 0x1, 0, 255⟩]⟩,
  ⟨"SYS_FW_VER", 0x8, [], [⟨31, 24, .ro, 0x0, 0, 255⟩, ⟨23, 16, .ro, 0x0, 0, 255⟩, ⟨15, 0, .ro, 0x0, 0, 65535⟩]⟩,
  ⟨"SYS_SERIAL_LO", 0x10, [], [⟨31, 0, .rof, 0x0, 0, 0xffffffff⟩]⟩,
  ⟨"SYS_SERIAL_HI", 0x14, [], [⟨31, 0, .rof, 0x0, 0, 0xffffffff⟩]⟩,
  ⟨"SYS_MODE", 0x20, [], [⟨8, 8, .ro, 0x0, 0, 1⟩, ⟨6, 4, .ro, 0x0, 0, 7⟩, ⟨2, 0, .ro, 0x0, 0, 7⟩]⟩,
  ⟨"SYS_CTL", 0x24, [], [⟨0, 0, .wo, 0x0, 0, 1⟩]⟩,
  ⟨"SYS_STAT", 0x28, [], [⟨3, 3, .ro, 0x0, 0, 1⟩, ⟨2, 2, .rw1c, 0x0, 0, 1⟩, ⟨1, 1, .rw1c, 0x0, 0, 1⟩, ⟨0, 0, .rw1c, 0x0, 0, 1⟩]⟩,
  ⟨"SYS_LOCK_ADDR", 0x2c, [], [⟨25, 0, .ro, 0x0, 0, 0x3ffffff⟩]⟩,
  ⟨"SYS_RESET_CAUSE", 0x30, [], [⟨3, 0, .ro, 0x0, 0, 15⟩]⟩]

/-- Registers of the HIF block (R113). -/
def regMapHif : List RegDef := [
  ⟨"HIF_CFG", 0x100000, [], [⟨15, 8, .rwl, 0x18, 1, 255⟩, ⟨1, 0, .rwl, 0x2, 0, 3⟩]⟩,
  ⟨"HIF_FN_CTL", 0x110000, [(0x1000, 64)], [⟨31, 31, .wo, 0x0, 0, 1⟩, ⟨16, 16, .rw, 0x0, 0, 1⟩, ⟨4, 0, .rw, 0x0, 0, 31⟩]⟩,
  ⟨"HIF_FN_STAT", 0x110004, [(0x1000, 64)], [⟨7, 7, .rw1c, 0x0, 0, 1⟩, ⟨6, 6, .rw1c, 0x0, 0, 1⟩, ⟨5, 5, .rw1c, 0x0, 0, 1⟩, ⟨4, 4, .ro, 0x0, 0, 1⟩, ⟨3, 3, .rw1c, 0x0, 0, 1⟩, ⟨2, 0, .ro, 0x0, 0, 7⟩]⟩,
  ⟨"HIF_DB_BASE_LO", 0x110008, [(0x1000, 64)], [⟨31, 9, .rw, 0x0, 0, 0x7fffff⟩]⟩,
  ⟨"HIF_DB_BASE_HI", 0x11000c, [(0x1000, 64)], [⟨31, 0, .rw, 0x0, 0, 0xffffffff⟩]⟩,
  ⟨"HIF_FN_IRQ_OFS", 0x110010, [(0x1000, 64)], [⟨19, 0, .rw, 0x0, 0, 0xcb734⟩]⟩,
  ⟨"HIF_EVT_LOST_CNT", 0x110014, [(0x1000, 64)], [⟨31, 0, .ro, 0x0, 0, 0xffffffff⟩]⟩,
  ⟨"HIF_RING_BASE_LO", 0x110100, [(0x1000, 64), (0x10, 34)], [⟨31, 12, .rw, 0x0, 0, 0xfffff⟩]⟩,
  ⟨"HIF_RING_BASE_HI", 0x110104, [(0x1000, 64), (0x10, 34)], [⟨31, 0, .rw, 0x0, 0, 0xffffffff⟩]⟩,
  ⟨"HIF_RING_CFG", 0x110108, [(0x1000, 64), (0x10, 16)], [⟨31, 31, .rw, 0x0, 0, 1⟩, ⟨30, 30, .rw, 0x0, 0, 1⟩, ⟨24, 20, .rw, 0x0, 0, 31⟩, ⟨19, 16, .rw, 0x0, 0, 15⟩, ⟨4, 0, .rw, 0x6, 6, 16⟩]⟩,
  ⟨"HIF_RING_STAT", 0x11010c, [(0x1000, 64), (0x10, 34)], [⟨31, 30, .ro, 0x0, 0, 3⟩, ⟨29, 28, .ro, 0x0, 0, 3⟩, ⟨16, 16, .ro, 0x1, 0, 1⟩, ⟨15, 0, .ro, 0x0, 0, 65535⟩]⟩,
  ⟨"HIF_RING_CFG", 0x110208, [(0x1000, 64), (0x10, 16)], [⟨31, 31, .rw, 0x0, 0, 1⟩, ⟨30, 30, .rw, 0x0, 0, 1⟩, ⟨24, 20, .rw, 0x0, 0, 31⟩, ⟨4, 0, .rw, 0x6, 6, 16⟩]⟩,
  ⟨"HIF_RING_CFG", 0x110308, [(0x1000, 64), (0x10, 1)], [⟨31, 31, .rw, 0x0, 0, 1⟩, ⟨30, 30, .rw, 0x0, 0, 1⟩, ⟨24, 20, .rw, 0x0, 0, 31⟩, ⟨4, 0, .rw, 0x8, 8, 16⟩]⟩,
  ⟨"HIF_RING_CFG", 0x110318, [(0x1000, 64), (0x10, 1)], [⟨31, 31, .rw, 0x0, 0, 1⟩, ⟨30, 30, .rw, 0x0, 0, 1⟩, ⟨24, 20, .rw, 0x0, 0, 31⟩, ⟨4, 0, .rw, 0x6, 6, 6⟩]⟩,
  ⟨"HIF_RING_BASE_LO", 0x110500, [(0x1000, 64), (0x10, 64)], [⟨31, 12, .rw, 0x0, 0, 0xfffff⟩]⟩,
  ⟨"HIF_RING_BASE_HI", 0x110504, [(0x1000, 64), (0x10, 64)], [⟨31, 0, .rw, 0x0, 0, 0xffffffff⟩]⟩,
  ⟨"HIF_RING_CFG", 0x110508, [(0x1000, 64), (0x10, 64)], [⟨31, 31, .rw, 0x0, 0, 1⟩, ⟨30, 30, .rw, 0x0, 0, 1⟩, ⟨24, 20, .rw, 0x0, 0, 31⟩, ⟨8, 8, .rw, 0x0, 0, 1⟩, ⟨4, 0, .rw, 0x6, 4, 12⟩]⟩,
  ⟨"HIF_RING_STAT", 0x11050c, [(0x1000, 64), (0x10, 64)], [⟨31, 30, .ro, 0x0, 0, 3⟩, ⟨29, 28, .ro, 0x0, 0, 3⟩, ⟨16, 16, .ro, 0x1, 0, 1⟩, ⟨15, 0, .ro, 0x0, 0, 65535⟩]⟩,
  ⟨"HIF_VEC_MOD", 0x110a00, [(0x1000, 64), (0x4, 32)], [⟨23, 16, .rw, 0x0, 0, 255⟩, ⟨7, 0, .rw, 0x1, 0, 255⟩]⟩]

/-- Registers of the TIK block (R44). -/
def regMapTik : List RegDef := [
  ⟨"TIK_CFG", 0x200000, [], [⟨1, 0, .rwl, 0x0, 0, 1⟩]⟩,
  ⟨"TIK_NOW_LO", 0x200008, [], [⟨31, 0, .ro, 0x0, 0, 0xffffffff⟩]⟩,
  ⟨"TIK_NOW_HI", 0x20000c, [], [⟨31, 0, .ro, 0x0, 0, 0xffffffff⟩]⟩,
  ⟨"TIK_POS", 0x200010, [], [⟨22, 20, .ro, 0x0, 0, 7⟩, ⟨19, 0, .ro, 0x0, 0, 0xfffff⟩]⟩,
  ⟨"TIK_OUT_CFG", 0x200020, [], [⟨31, 31, .rwl, 0x0, 0, 1⟩, ⟨25, 24, .rwl, 0x0, 0, 2⟩, ⟨15, 0, .rwl, 0x7d, 1, 52083⟩]⟩,
  ⟨"TIK_OUT_ADV", 0x200024, [], [⟨11, 0, .rwl, 0x0, 0, 4095⟩]⟩,
  ⟨"TIK_STAT", 0x200030, [], [⟨5, 5, .rw1c, 0x0, 0, 1⟩, ⟨4, 4, .rw1c, 0x0, 0, 1⟩, ⟨3, 3, .rw1c, 0x0, 0, 1⟩, ⟨2, 2, .rw1c, 0x0, 0, 1⟩, ⟨1, 1, .rw1c, 0x0, 0, 1⟩, ⟨0, 0, .rw1c, 0x0, 0, 1⟩]⟩,
  ⟨"TIK_OVR_GATHER_CNT", 0x200040, [], [⟨31, 0, .ro, 0x0, 0, 0xffffffff⟩]⟩,
  ⟨"TIK_OVR_WORK_CNT", 0x200044, [], [⟨31, 0, .ro, 0x0, 0, 0xffffffff⟩]⟩,
  ⟨"TIK_OVR_EMIT_CNT", 0x200048, [], [⟨31, 0, .ro, 0x0, 0, 0xffffffff⟩]⟩,
  ⟨"TIK_SKIP_CNT", 0x20004c, [], [⟨31, 0, .ro, 0x0, 0, 0xffffffff⟩]⟩,
  ⟨"TIK_HOLD_CNT", 0x200050, [], [⟨31, 0, .ro, 0x0, 0, 0xffffffff⟩]⟩,
  ⟨"TIK_OVR_LAST_LO", 0x200058, [], [⟨31, 0, .ro, 0x0, 0, 0xffffffff⟩]⟩,
  ⟨"TIK_OVR_LAST_HI", 0x20005c, [], [⟨31, 0, .ro, 0x0, 0, 0xffffffff⟩]⟩,
  ⟨"TIK_CNT_CLR", 0x200060, [], [⟨5, 5, .wo, 0x0, 0, 1⟩, ⟨4, 4, .wo, 0x0, 0, 1⟩, ⟨3, 3, .wo, 0x0, 0, 1⟩, ⟨2, 2, .wo, 0x0, 0, 1⟩, ⟨1, 1, .wo, 0x0, 0, 1⟩, ⟨0, 0, .wo, 0x0, 0, 1⟩]⟩,
  ⟨"TIK_INGRESS_ALLOW", 0x200070, [], [⟨15, 0, .ro, 0x2710, 0, 65535⟩]⟩]

/-- Registers of the ADM block (R78). -/
def regMapAdm : List RegDef := [
  ⟨"ADM_CFG", 0x300000, [], [⟨9, 0, .rwl, 0x50, 30, 500⟩]⟩,
  ⟨"ADM_CTL", 0x300004, [], [⟨0, 0, .rw, 0x0, 0, 1⟩]⟩,
  ⟨"ADM_STAT", 0x300008, [], [⟨3, 1, .ro, 0x1, 0, 7⟩, ⟨0, 0, .ro, 0x0, 0, 1⟩]⟩,
  ⟨"ADM_LEG_CNT", 0x30000c, [], [⟨14, 0, .ro, 0x0, 0, 32767⟩]⟩,
  ⟨"ADM_CONF_CNT", 0x300010, [], [⟨14, 0, .ro, 0x0, 0, 32767⟩]⟩,
  ⟨"ADM_FN_BUDGET", 0x300400, [(0x4, 16)], [⟨10, 0, .rwl, 0x400, 0, 1024⟩]⟩,
  ⟨"ADM_FN_BUDGET", 0x300440, [(0x40, 63), (0x4, 16)], [⟨10, 0, .rwl, 0x0, 0, 1024⟩]⟩,
  ⟨"ADM_FN_BUDGET_CUR", 0x301400, [(0x4, 16)], [⟨10, 0, .ro, 0x400, 0, 1024⟩]⟩,
  ⟨"ADM_FN_BUDGET_CUR", 0x301440, [(0x40, 63), (0x4, 16)], [⟨10, 0, .ro, 0x0, 0, 1024⟩]⟩,
  ⟨"ADM_FN_USE", 0x302400, [(0x40, 64), (0x4, 16)], [⟨10, 0, .ro, 0x0, 0, 1024⟩]⟩,
  ⟨"ADM_USE", 0x303400, [(0x4, 16)], [⟨10, 0, .ro, 0x0, 0, 1024⟩]⟩]

/-- Registers of the NET block (R149). -/
def regMapNet : List RegDef := [
  ⟨"NET_CFG", 0x400000, [], [⟨31, 24, .rwl, 0x40, 1, 255⟩, ⟨16, 16, .rw, 0x0, 0, 1⟩, ⟨5, 0, .rwl, 0x0, 0, 63⟩]⟩,
  ⟨"NET_PORT_CFG", 0x400100, [(0x40, 4)], [⟨31, 30, .rwl, 0x0, 0, 3⟩, ⟨29, 29, .rwl, 0x1, 0, 1⟩, ⟨13, 0, .rwl, 0x5f2, 1518, 9600⟩]⟩,
  ⟨"NET_PORT_STAT", 0x400104, [(0x40, 4)], [⟨7, 4, .rw1c, 0x0, 0, 15⟩, ⟨3, 0, .ro, 0x0, 0, 15⟩]⟩,
  ⟨"NET_PORT_MAC_LO", 0x400110, [(0x40, 4), (0x8, 4)], [⟨31, 0, .rwl, 0x0, 0, 0xffffffff⟩]⟩,
  ⟨"NET_PORT_MAC_HI", 0x400114, [(0x40, 4), (0x8, 4)], [⟨15, 0, .rwl, 0x0, 0, 65535⟩]⟩,
  ⟨"NET_HPA_BASE_LO", 0x401000, [(0x20, 64)], [⟨31, 12, .rw, 0x0, 0, 0xfffff⟩]⟩,
  ⟨"NET_HPA_BASE_HI", 0x401004, [(0x20, 64)], [⟨31, 0, .rw, 0x0, 0, 0xffffffff⟩]⟩,
  ⟨"NET_HPA_CFG", 0x401008, [(0x20, 64)], [⟨31, 31, .rw, 0x0, 0, 1⟩, ⟨30, 30, .rw, 0x0, 0, 1⟩, ⟨28, 24, .rw, 0x0, 0, 31⟩, ⟨23, 20, .rw, 0x6, 4, 12⟩, ⟨19, 16, .rw, 0x6, 4, 12⟩, ⟨7, 0, .rw, 0x40, 1, 255⟩]⟩,
  ⟨"NET_HPA_STAT", 0x40100c, [(0x20, 64)], [⟨31, 30, .ro, 0x0, 0, 3⟩, ⟨15, 0, .ro, 0x0, 0, 65535⟩]⟩]

/-- Registers of the SPQ block (R150). -/
def regMapSpq : List RegDef := [
  ⟨"SPQ_POOL_CFG", 0x500000, [], [⟨12, 0, .rwl, 0x100, 16, 6144⟩]⟩,
  ⟨"SPQ_POOL_FREE", 0x500004, [], [⟨31, 0, .ro, 0x0, 0, 0xffffffff⟩]⟩,
  ⟨"SPQ_CE_CNT", 0x500008, [], [⟨31, 0, .ro, 0x0, 0, 0xffffffff⟩]⟩,
  ⟨"SPQ_UE_CNT", 0x50000c, [], [⟨31, 0, .ro, 0x0, 0, 0xffffffff⟩]⟩,
  ⟨"SPQ_STAT", 0x500010, [], [⟨1, 1, .rw1c, 0x0, 0, 1⟩, ⟨0, 0, .rw1c, 0x0, 0, 1⟩]⟩,
  ⟨"SPQ_CNT_CLR", 0x500014, [], [⟨1, 1, .wo, 0x0, 0, 1⟩, ⟨0, 0, .wo, 0x0, 0, 1⟩]⟩,
  ⟨"SPQ_UE_LAST", 0x500018, [], [⟨15, 0, .ro, 0x0, 0, 65535⟩]⟩]

/-- Registers of the FWD block (R177). -/
def regMapFwd : List RegDef := [
  ⟨"FWD_EST_CFG0", 0x600000, [], [⟨31, 24, .rwl, 0x1e, 2, 255⟩, ⟨23, 16, .rwl, 0xa, 1, 254⟩, ⟨15, 8, .rwl, 0x1a, 2, 255⟩, ⟨7, 0, .rwl, 0x5, 1, 254⟩]⟩,
  ⟨"FWD_EST_CFG1", 0x600004, [], [⟨31, 16, .rwl, 0x9c4, 1000, 8000⟩, ⟨15, 8, .rwl, 0x8, 1, 100⟩]⟩,
  ⟨"FWD_EST_CFG2", 0x600008, [], [⟨31, 16, .rwl, 0x64, 16, 65535⟩, ⟨15, 0, .rwl, 0x3e8, 16, 65535⟩]⟩,
  ⟨"FWD_EST_CFG3", 0x60000c, [], [⟨31, 16, .rwl, 0x960, 24, 65535⟩, ⟨15, 0, .rwl, 0x10, 1, 1000⟩]⟩,
  ⟨"FWD_SEL_CFG", 0x600010, [], [⟨31, 22, .rwl, 0x3b6, 500, 1000⟩, ⟨21, 11, .rwl, 0x47e, 1000, 2000⟩, ⟨7, 0, .rwl, 0x5, 1, 255⟩]⟩,
  ⟨"FWD_KP_CFG", 0x600014, [], [⟨31, 16, .rwl, 0x168, 24, 65535⟩, ⟨15, 0, .rwl, 0x78, 24, 65535⟩]⟩,
  ⟨"FWD_STAT", 0x600020, [], [⟨2, 2, .rw1c, 0x0, 0, 1⟩, ⟨1, 1, .rw1c, 0x0, 0, 1⟩, ⟨0, 0, .rw1c, 0x0, 0, 1⟩]⟩,
  ⟨"FWD_DROP_LIMIT_CNT", 0x600024, [], [⟨31, 0, .ro, 0x0, 0, 0xffffffff⟩]⟩,
  ⟨"FWD_DROP_STALE_CNT", 0x600028, [], [⟨31, 0, .ro, 0x0, 0, 0xffffffff⟩]⟩,
  ⟨"FWD_KP_SENT_CNT", 0x60002c, [], [⟨31, 0, .ro, 0x0, 0, 0xffffffff⟩]⟩,
  ⟨"FWD_CNT_CLR", 0x600030, [], [⟨2, 2, .wo, 0x0, 0, 1⟩, ⟨1, 1, .wo, 0x0, 0, 1⟩, ⟨0, 0, .wo, 0x0, 0, 1⟩]⟩,
  ⟨"FWD_SUB_CNT", 0x600034, [], [⟨20, 0, .ro, 0x0, 0, 0x1fffff⟩]⟩]

/-- Registers of the CIP block (R206). -/
def regMapCip : List RegDef := [
  ⟨"CIP_CFG", 0x700000, [], [⟨31, 16, .rwl, 0x4b0, 24, 65535⟩, ⟨15, 0, .rwl, 0x800, 0, 16384⟩]⟩,
  ⟨"CIP_STAT", 0x700004, [], [⟨2, 2, .rw1c, 0x0, 0, 1⟩, ⟨1, 1, .rw1c, 0x0, 0, 1⟩, ⟨0, 0, .rw1c, 0x0, 0, 1⟩]⟩,
  ⟨"CIP_AUTH_FAIL_CNT", 0x700008, [], [⟨31, 0, .ro, 0x0, 0, 0xffffffff⟩]⟩,
  ⟨"CIP_REPLAY_CNT", 0x70000c, [], [⟨31, 0, .ro, 0x0, 0, 0xffffffff⟩]⟩,
  ⟨"CIP_REFUSE_CNT", 0x700010, [], [⟨31, 0, .ro, 0x0, 0, 0xffffffff⟩]⟩,
  ⟨"CIP_RETRY_DROP_CNT", 0x700014, [], [⟨31, 0, .ro, 0x0, 0, 0xffffffff⟩]⟩,
  ⟨"CIP_CNT_CLR", 0x700018, [], [⟨3, 3, .wo, 0x0, 0, 1⟩, ⟨2, 2, .wo, 0x0, 0, 1⟩, ⟨1, 1, .wo, 0x0, 0, 1⟩, ⟨0, 0, .wo, 0x0, 0, 1⟩]⟩]

/-- Registers of the KEY block (R207). -/
def regMapKey : List RegDef := [
  ⟨"KEY_CFG", 0x780000, [], [⟨0, 0, .rwl, 0x0, 0, 1⟩]⟩,
  ⟨"KEY_STAT", 0x780004, [], [⟨2, 2, .ro, 0x0, 0, 1⟩, ⟨1, 1, .rw1c, 0x0, 0, 1⟩, ⟨0, 0, .rw1c, 0x0, 0, 1⟩]⟩,
  ⟨"KEY_SLOT_CNT", 0x780008, [], [⟨16, 0, .ro, 0x0, 0, 0x1ffff⟩]⟩,
  ⟨"KEY_UNWRAP_FAIL_CNT", 0x78000c, [], [⟨31, 0, .ro, 0x0, 0, 0xffffffff⟩]⟩,
  ⟨"KEY_CNT_CLR", 0x780010, [], [⟨0, 0, .wo, 0x0, 0, 1⟩]⟩]

/-- Registers of the AUD block (R240). -/
def regMapAud : List RegDef := [
  ⟨"AUD_CFG", 0x800000, [], [⟨23, 16, .rwl, 0xa, 0, 240⟩, ⟨15, 0, .rwl, 0x32, 1, 5000⟩]⟩,
  ⟨"AUD_AS_CFG", 0x800004, [], [⟨31, 24, .rwl, 0xc, 1, 255⟩, ⟨23, 12, .rwl, 0x200, 0, 4095⟩, ⟨11, 0, .rwl, 0x2, 1, 4095⟩]⟩,
  ⟨"AUD_DS_CFG", 0x800008, [], [⟨15, 0, .rwl, 0x4b0, 1, 65535⟩]⟩,
  ⟨"AUD_VAD_CFG", 0x80000c, [], [⟨31, 24, .rwl, 0xf0, 0, 255⟩, ⟨23, 16, .rwl, 0x1, 1, 255⟩, ⟨15, 0, .rwl, 0x3fc, 0, 65535⟩]⟩,
  ⟨"AUD_SIL_CFG", 0x800010, [], [⟨15, 0, .rwl, 0x258, 100, 960⟩]⟩,
  ⟨"AUD_STAT", 0x800014, [], [⟨2, 2, .rw1c, 0x0, 0, 1⟩, ⟨1, 1, .rw1c, 0x0, 0, 1⟩, ⟨0, 0, .rw1c, 0x0, 0, 1⟩]⟩,
  ⟨"AUD_CLIP_CNT", 0x800018, [], [⟨31, 0, .ro, 0x0, 0, 0xffffffff⟩]⟩,
  ⟨"AUD_BUS_SAT_CNT", 0x80001c, [], [⟨31, 0, .ro, 0x0, 0, 0xffffffff⟩]⟩,
  ⟨"AUD_PART_MISS_CNT", 0x800020, [], [⟨31, 0, .ro, 0x0, 0, 0xffffffff⟩]⟩,
  ⟨"AUD_CNT_CLR", 0x800024, [], [⟨2, 2, .wo, 0x0, 0, 1⟩, ⟨1, 1, .wo, 0x0, 0, 1⟩, ⟨0, 0, .wo, 0x0, 0, 1⟩]⟩,
  ⟨"AUD_GRP_GATED", 0x800028, [], [⟨15, 0, .ro, 0x0, 0, 65535⟩]⟩]

/-- Registers of the BRS block (R274). -/
def regMapBrs : List RegDef := [
  ⟨"BRS_STAT", 0x900000, [], [⟨2, 2, .rw1c, 0x0, 0, 1⟩, ⟨1, 1, .rw1c, 0x0, 0, 1⟩, ⟨0, 0, .rw1c, 0x0, 0, 1⟩]⟩,
  ⟨"BRS_FAULT_CNT", 0x900004, [], [⟨31, 0, .ro, 0x0, 0, 0xffffffff⟩]⟩,
  ⟨"BRS_CNT_CLR", 0x900008, [], [⟨0, 0, .wo, 0x0, 0, 1⟩]⟩,
  ⟨"BRS_STORE_FREE", 0x90000c, [], [⟨16, 0, .ro, 0x8000, 0, 0x1ffff⟩]⟩,
  ⟨"BRS_STUDIO_FREE", 0x900010, [], [⟨22, 0, .ro, 0x400000, 0, 0x7fffff⟩]⟩,
  ⟨"BRS_PROG_CNT", 0x900014, [], [⟨15, 0, .ro, 0x0, 0, 65535⟩]⟩,
  ⟨"BRS_TASK_CNT", 0x900018, [], [⟨15, 0, .ro, 0x0, 0, 65535⟩]⟩]

/-- Registers of the SCH block (R275). -/
def regMapSch : List RegDef := [
  ⟨"SCH_CFG", 0xa00000, [], [⟨31, 24, .rwl, 0x10, 1, 255⟩, ⟨15, 0, .rwl, 0xc8, 1, 6250⟩]⟩]

/-- Registers of the VID block (R312). -/
def regMapVid : List RegDef := [
  ⟨"VID_CFG", 0xb00000, [], [⟨10, 0, .rwl, 0x300, 0, 1488⟩]⟩,
  ⟨"VID_KP_CFG", 0xb00004, [], [⟨15, 0, .rwl, 0x78, 0, 65535⟩]⟩,
  ⟨"VID_STAT", 0xb00008, [], [⟨4, 4, .rw1c, 0x0, 0, 1⟩, ⟨3, 3, .rw1c, 0x0, 0, 1⟩, ⟨2, 2, .rw1c, 0x0, 0, 1⟩, ⟨1, 1, .rw1c, 0x0, 0, 1⟩, ⟨0, 0, .rw1c, 0x0, 0, 1⟩]⟩,
  ⟨"VID_DEC_DMG_CNT", 0xb0000c, [], [⟨31, 0, .ro, 0x0, 0, 0xffffffff⟩]⟩,
  ⟨"VID_ENC_MIN_CNT", 0xb00010, [], [⟨31, 0, .ro, 0x0, 0, 0xffffffff⟩]⟩,
  ⟨"VID_TX_DROP_CNT", 0xb00014, [], [⟨31, 0, .ro, 0x0, 0, 0xffffffff⟩]⟩,
  ⟨"VID_BOUND_CNT", 0xb00018, [], [⟨31, 0, .ro, 0x0, 0, 0xffffffff⟩]⟩,
  ⟨"VID_CNT_CLR", 0xb0001c, [], [⟨3, 3, .wo, 0x0, 0, 1⟩, ⟨2, 2, .wo, 0x0, 0, 1⟩, ⟨1, 1, .wo, 0x0, 0, 1⟩, ⟨0, 0, .wo, 0x0, 0, 1⟩]⟩,
  ⟨"VID_POOL_FREE", 0xb00020, [], [⟨31, 0, .ro, 0x0, 0, 0xffffffff⟩]⟩,
  ⟨"VID_CTX_CNT", 0xb00024, [], [⟨26, 16, .ro, 0x0, 0, 2047⟩, ⟨12, 0, .ro, 0x0, 0, 8191⟩]⟩]

/-- Registers of the CNV block (R335). -/
def regMapCnv : List RegDef := [
  ⟨"CNV_CFG", 0xc00000, [], [⟨31, 24, .rwl, 0x8, 1, 255⟩, ⟨15, 0, .rwl, 0xf, 1, 65535⟩]⟩,
  ⟨"CNV_STAT", 0xc00004, [], [⟨2, 2, .rw1c, 0x0, 0, 1⟩, ⟨1, 1, .rw1c, 0x0, 0, 1⟩, ⟨0, 0, .rw1c, 0x0, 0, 1⟩]⟩,
  ⟨"CNV_FLIP_TO_CNT", 0xc00008, [], [⟨31, 0, .ro, 0x0, 0, 0xffffffff⟩]⟩,
  ⟨"CNV_OMIT_CNT", 0xc0000c, [], [⟨31, 0, .ro, 0x0, 0, 0xffffffff⟩]⟩,
  ⟨"CNV_PLATE_UE_CNT", 0xc00010, [], [⟨31, 0, .ro, 0x0, 0, 0xffffffff⟩]⟩,
  ⟨"CNV_CNT_CLR", 0xc00014, [], [⟨2, 2, .wo, 0x0, 0, 1⟩, ⟨1, 1, .wo, 0x0, 0, 1⟩, ⟨0, 0, .wo, 0x0, 0, 1⟩]⟩,
  ⟨"CNV_VARNISH_FREE", 0xc00018, [], [⟨12, 0, .ro, 0x1000, 0, 8191⟩]⟩,
  ⟨"CNV_PLATE_CNT", 0xc0001c, [], [⟨12, 0, .ro, 0x0, 0, 8191⟩]⟩]

/-- Registers of the PTP block (R359). -/
def regMapPtp : List RegDef := [
  ⟨"PTP_CFG", 0xd00000, [], [⟨31, 16, .rwl, 0x3c, 1, 65535⟩, ⟨11, 8, .rwl, 0x0, 0, 15⟩, ⟨5, 0, .rwl, 0x0, 0, 63⟩]⟩,
  ⟨"PTP_SERVO_GAIN", 0xd00004, [], [⟨31, 16, .rwl, 0x3000, 1, 65535⟩, ⟨15, 0, .rwl, 0x300, 0, 65535⟩]⟩,
  ⟨"PTP_PPS_CFG", 0xd00008, [], [⟨31, 31, .rwl, 0x0, 0, 1⟩, ⟨30, 30, .rwl, 0x0, 0, 1⟩, ⟨29, 29, .rwl, 0x0, 0, 1⟩, ⟨28, 28, .rwl, 0x0, 0, 1⟩, ⟨27, 16, .rwl, 0x0, 0, 4095⟩, ⟨12, 0, .rwl, 0x3e8, 1, 5000⟩]⟩,
  ⟨"PTP_BRD_DLY", 0xd00010, [(0x4, 4)], [⟨31, 16, .rwl, 0x0, 0, 65535⟩, ⟨15, 0, .rwl, 0x0, 0, 65535⟩]⟩,
  ⟨"PTP_TIME_NS", 0xd00020, [], [⟨29, 0, .ro, 0x0, 0, 0x3fffffff⟩]⟩,
  ⟨"PTP_TIME_SL", 0xd00024, [], [⟨31, 0, .ro, 0x0, 0, 0xffffffff⟩]⟩,
  ⟨"PTP_TIME_SH", 0xd00028, [], [⟨15, 0, .ro, 0x0, 0, 65535⟩]⟩,
  ⟨"PTP_STAT", 0xd00030, [], [⟨10, 8, .ro, 0x4, 0, 7⟩, ⟨7, 7, .ro, 0x1, 0, 1⟩, ⟨6, 6, .ro, 0x0, 0, 1⟩, ⟨3, 3, .rw1c, 0x0, 0, 1⟩, ⟨2, 2, .rw1c, 0x0, 0, 1⟩, ⟨1, 1, .rw1c, 0x0, 0, 1⟩, ⟨0, 0, .rw1c, 0x0, 0, 1⟩]⟩,
  ⟨"PTP_EPOCH", 0xd00034, [], [⟨15, 0, .ro, 0x0, 0, 65535⟩]⟩,
  ⟨"PTP_RATE_CUR", 0xd00038, [], [⟨31, 0, .ro, 0x0, 0, 0xffffffff⟩]⟩,
  ⟨"PTP_TS_LOST_CNT", 0xd0003c, [], [⟨31, 0, .ro, 0x0, 0, 0xffffffff⟩]⟩,
  ⟨"PTP_LAUNCH_MISS_CNT", 0xd00040, [], [⟨31, 0, .ro, 0x0, 0, 0xffffffff⟩]⟩,
  ⟨"PTP_RX_DROP_CNT", 0xd00044, [], [⟨31, 0, .ro, 0x0, 0, 0xffffffff⟩]⟩,
  ⟨"PTP_CNT_CLR", 0xd00048, [], [⟨2, 2, .wo, 0x0, 0, 1⟩, ⟨1, 1, .wo, 0x0, 0, 1⟩, ⟨0, 0, .wo, 0x0, 0, 1⟩]⟩,
  ⟨"PTP_SLEEP_CNT_LO", 0xd00050, [], [⟨31, 0, .ro, 0x0, 0, 0xffffffff⟩]⟩,
  ⟨"PTP_SLEEP_CNT_HI", 0xd00054, [], [⟨31, 0, .ro, 0x0, 0, 0xffffffff⟩]⟩]

/-- Registers of the MSH block (R389). -/
def regMapMsh : List RegDef := [
  ⟨"MSH_CFG", 0xe00000, [], [⟨23, 20, .rwl, 0x4, 1, 15⟩, ⟨19, 16, .rwl, 0x4, 2, 15⟩, ⟨9, 8, .rwl, 0x0, 0, 3⟩, ⟨4, 0, .rwl, 0x0, 0, 31⟩]⟩,
  ⟨"MSH_APS_CFG", 0xe00004, [], [⟨31, 31, .rwl, 0x0, 0, 1⟩, ⟨25, 16, .rwl, 0x12c, 1, 720⟩, ⟨6, 0, .rwl, 0x0, 0, 100⟩]⟩,
  ⟨"MSH_THR_CFG", 0xe00008, [], [⟨31, 16, .rwl, 0x64, 1, 65535⟩, ⟨15, 0, .rwl, 0x10, 1, 65535⟩]⟩,
  ⟨"MSH_TICK_CFG", 0xe0000c, [], [⟨31, 24, .rwl, 0x10, 1, 255⟩, ⟨15, 0, .rwl, 0x4b0, 24, 65535⟩]⟩,
  ⟨"MSH_STAT", 0xe00010, [], [⟨4, 4, .rw1c, 0x0, 0, 1⟩, ⟨3, 3, .rw1c, 0x0, 0, 1⟩, ⟨2, 2, .rw1c, 0x0, 0, 1⟩, ⟨1, 1, .rw1c, 0x0, 0, 1⟩, ⟨0, 0, .rw1c, 0x0, 0, 1⟩]⟩,
  ⟨"MSH_UNIT_ERR_CNT", 0xe00014, [], [⟨31, 0, .ro, 0x0, 0, 0xffffffff⟩]⟩,
  ⟨"MSH_PART_DROP_CNT", 0xe00018, [], [⟨31, 0, .ro, 0x0, 0, 0xffffffff⟩]⟩,
  ⟨"MSH_PART_LATE_CNT", 0xe0001c, [], [⟨31, 0, .ro, 0x0, 0, 0xffffffff⟩]⟩,
  ⟨"MSH_MEDIA_DROP_CNT", 0xe00020, [], [⟨31, 0, .ro, 0x0, 0, 0xffffffff⟩]⟩,
  ⟨"MSH_CREDIT_ERR_CNT", 0xe00024, [], [⟨31, 0, .ro, 0x0, 0, 0xffffffff⟩]⟩,
  ⟨"MSH_CNT_CLR", 0xe00028, [], [⟨4, 4, .wo, 0x0, 0, 1⟩, ⟨3, 3, .wo, 0x0, 0, 1⟩, ⟨2, 2, .wo, 0x0, 0, 1⟩, ⟨1, 1, .wo, 0x0, 0, 1⟩, ⟨0, 0, .wo, 0x0, 0, 1⟩]⟩,
  ⟨"MSH_TICK_PHASE", 0xe0002c, [], [⟨31, 0, .ro, 0x0, 0, 0xffffffff⟩]⟩,
  ⟨"MSH_TICK_DELAY", 0xe00030, [], [⟨31, 0, .ro, 0x0, 0, 0xffffffff⟩]⟩,
  ⟨"MSH_PORT_STAT", 0xe00100, [(0x40, 4)], [⟨31, 31, .ro, 0x0, 0, 1⟩, ⟨30, 30, .ro, 0x0, 0, 1⟩, ⟨29, 25, .ro, 0x0, 0, 31⟩, ⟨24, 16, .ro, 0x0, 0, 511⟩, ⟨15, 8, .ro, 0x0, 0, 255⟩, ⟨1, 0, .ro, 0x0, 0, 3⟩]⟩,
  ⟨"MSH_ASYM", 0xe00104, [(0x40, 4)], [⟨15, 0, .rwl, 0x0, 0, 65535⟩]⟩,
  ⟨"MSH_LANE_STAT", 0xe00110, [(0x40, 4), (0x4, 9)], [⟨31, 30, .ro, 0x0, 0, 3⟩, ⟨29, 26, .ro, 0x0, 0, 15⟩, ⟨25, 22, .ro, 0xf, 0, 15⟩, ⟨10, 0, .ro, 0x0, 0, 2047⟩]⟩]

/-- Registers of the MEM block (R421). -/
def regMapMem : List RegDef := [
  ⟨"MEM_CFG", 0xf00000, [], [⟨31, 24, .rwl, 0x40, 1, 255⟩, ⟨23, 16, .rwl, 0x40, 1, 255⟩, ⟨15, 0, .rwl, 0x1f4, 10, 10000⟩]⟩,
  ⟨"MEM_REF_CFG", 0xf00004, [], [⟨31, 16, .rwl, 0x1e78, 1950, 7800⟩, ⟨15, 8, .rwl, 0x55, 70, 85⟩, ⟨7, 0, .rwl, 0x5, 1, 20⟩]⟩,
  ⟨"MEM_TRAIN_CFG", 0xf00008, [], [⟨31, 16, .rwl, 0x2ee0, 1200, 65535⟩, ⟨4, 0, .rwl, 0x4, 1, 31⟩]⟩,
  ⟨"MEM_HASH_BA0", 0xf00010, [], [⟨29, 0, .rwl, 0x8888400, 0, 0x3fffffff⟩]⟩,
  ⟨"MEM_HASH_BA1", 0xf00014, [], [⟨29, 0, .rwl, 0x11110800, 0, 0x3fffffff⟩]⟩,
  ⟨"MEM_HASH_BG0", 0xf00018, [], [⟨29, 0, .rwl, 0x22221000, 0, 0x3fffffff⟩]⟩,
  ⟨"MEM_HASH_BG1", 0xf0001c, [], [⟨29, 0, .rwl, 0x4442000, 0, 0x3fffffff⟩]⟩,
  ⟨"MEM_STAT", 0xf00020, [], [⟨2, 2, .rw1c, 0x0, 0, 1⟩, ⟨1, 1, .rw1c, 0x0, 0, 1⟩, ⟨0, 0, .rw1c, 0x0, 0, 1⟩]⟩,
  ⟨"MEM_POISON_CNT", 0xf00024, [], [⟨31, 0, .ro, 0x0, 0, 0xffffffff⟩]⟩,
  ⟨"MEM_CNT_CLR", 0xf00028, [], [⟨0, 0, .wo, 0x0, 0, 1⟩]⟩,
  ⟨"MEM_STACK_STAT", 0xf00100, [(0x10, 4)], [⟨31, 24, .ro, 0x0, 0, 255⟩, ⟨23, 23, .ro, 0x0, 0, 1⟩, ⟨22, 21, .ro, 0x0, 0, 3⟩, ⟨20, 15, .ro, 0x20, 0, 63⟩, ⟨13, 8, .ro, 0x20, 0, 63⟩]⟩]

/-- Registers of the ECC block (R422). -/
def regMapEcc : List RegDef := [
  ⟨"ECC_CFG", 0x1000000, [], [⟨31, 16, .rwl, 0x4b0, 1, 65535⟩, ⟨15, 0, .rwl, 0x10, 1, 65535⟩]⟩,
  ⟨"ECC_STAT", 0x1000004, [], [⟨3, 3, .rw1c, 0x0, 0, 1⟩, ⟨2, 2, .rw1c, 0x0, 0, 1⟩, ⟨1, 1, .rw1c, 0x0, 0, 1⟩, ⟨0, 0, .rw1c, 0x0, 0, 1⟩]⟩,
  ⟨"ECC_CNT_CLR", 0x1000008, [], [⟨10, 0, .wo, 0x0, 0, 2047⟩]⟩,
  ⟨"ECC_CE_CNT", 0x1000100, [(0x10, 11)], [⟨31, 0, .ro, 0x0, 0, 0xffffffff⟩]⟩,
  ⟨"ECC_UE_CNT", 0x1000104, [(0x10, 11)], [⟨31, 0, .ro, 0x0, 0, 0xffffffff⟩]⟩,
  ⟨"ECC_ADDR_CNT", 0x1000108, [(0x10, 11)], [⟨31, 0, .ro, 0x0, 0, 0xffffffff⟩]⟩,
  ⟨"ECC_BUCKET", 0x100010c, [(0x10, 11)], [⟨15, 0, .ro, 0x0, 0, 65535⟩]⟩,
  ⟨"ECC_REPAIR_FREE", 0x1000200, [(0x4, 6)], [⟨12, 0, .ro, 0x0, 0, 8191⟩]⟩,
  ⟨"ECC_REPAIR_FREE", 0x1000228, [], [⟨12, 0, .ro, 0x0, 0, 8191⟩]⟩]

/-- Registers of the CAL block (R437). -/
def regMapCal : List RegDef := [
  ⟨"CAL_CFG", 0x1100000, [], [⟨31, 31, .rws, 0x1, 0, 1⟩, ⟨15, 0, .rws, 0xf0, 0, 65535⟩]⟩,
  ⟨"CAL_STAT", 0x1100004, [], [⟨9, 8, .ro, 0x0, 0, 3⟩, ⟨5, 5, .rw1c, 0x0, 0, 1⟩, ⟨4, 4, .rw1c, 0x0, 0, 1⟩, ⟨3, 3, .rw1c, 0x0, 0, 1⟩, ⟨2, 2, .rw1c, 0x0, 0, 1⟩, ⟨1, 1, .rw1c, 0x0, 0, 1⟩, ⟨0, 0, .rw1c, 0x0, 0, 1⟩]⟩,
  ⟨"CAL_GESSO_CNT", 0x1100008, [], [⟨31, 16, .ro, 0x0, 0, 65535⟩, ⟨15, 0, .ro, 0x0, 0, 65535⟩]⟩,
  ⟨"CAL_GLAZE_CNT", 0x110000c, [], [⟨26, 16, .ro, 0x0, 0, 2047⟩, ⟨10, 0, .ro, 0x0, 0, 2047⟩]⟩,
  ⟨"CAL_RETRAIN_HELD_CNT", 0x1100010, [], [⟨31, 0, .ro, 0x0, 0, 0xffffffff⟩]⟩,
  ⟨"CAL_RETRAIN_WIDE_CNT", 0x1100014, [], [⟨31, 0, .ro, 0x0, 0, 0xffffffff⟩]⟩,
  ⟨"CAL_CNT_CLR", 0x1100018, [], [⟨1, 1, .wo, 0x0, 0, 1⟩, ⟨0, 0, .wo, 0x0, 0, 1⟩]⟩]

/-- Registers of the PWR block (R466). -/
def regMapPwr : List RegDef := [
  ⟨"PWR_THERM_CFG", 0x1200000, [], [⟨31, 24, .rwl, 0x62, 80, 100⟩, ⟨23, 16, .rwl, 0x69, 100, 110⟩, ⟨15, 12, .rwl, 0x3, 1, 15⟩, ⟨11, 11, .rwl, 0x1, 0, 1⟩, ⟨10, 0, .rwl, 0x78, 0, 1200⟩]⟩,
  ⟨"PWR_SEQ_CFG", 0x1200004, [], [⟨9, 0, .rws, 0x64, 10, 1000⟩]⟩,
  ⟨"PWR_WAKE_CFG", 0x1200008, [], [⟨3, 0, .rws, 0x0, 0, 15⟩, ⟨6, 6, .rws, 0x0, 0, 1⟩, ⟨7, 7, .rws, 0x0, 0, 1⟩]⟩,
  ⟨"PWR_SLEEP_TIMER", 0x120000c, [], [⟨31, 0, .rws, 0x0, 0, 0xffffffff⟩]⟩,
  ⟨"PWR_STAT", 0x1200010, [], [⟨31, 28, .ro, 0xf, 0, 15⟩, ⟨27, 24, .ro, 0x0, 0, 15⟩, ⟨17, 16, .ro, 0x0, 0, 3⟩, ⟨5, 5, .rwsc, 0x0, 0, 1⟩, ⟨4, 4, .rwsc, 0x0, 0, 1⟩, ⟨3, 3, .rwsc, 0x0, 0, 1⟩, ⟨2, 2, .rwsc, 0x0, 0, 1⟩, ⟨1, 1, .rwsc, 0x0, 0, 1⟩, ⟨0, 0, .rw1c, 0x0, 0, 1⟩]⟩,
  ⟨"PWR_TEMP", 0x1200014, [], [⟨23, 16, .ro, 0x0, 0, 255⟩, ⟨4, 0, .ro, 0x0, 0, 31⟩]⟩,
  ⟨"PWR_DOMAIN", 0x1200018, [], [⟨9, 0, .ro, 0x1, 0, 1023⟩]⟩,
  ⟨"PWR_GATE_CFG", 0x120001c, [], [⟨15, 0, .ro, 0xf0, 0, 65535⟩]⟩]

/-- Registers of the PAD block (R467). -/
def regMapPad : List RegDef := [
  ⟨"PAD_STATE", 0x1300000, [], [⟨5, 4, .ro, 0x0, 0, 3⟩, ⟨3, 2, .ro, 0x0, 0, 3⟩, ⟨1, 0, .ro, 0x0, 0, 3⟩]⟩,
  ⟨"PAD_RELEASE", 0x1300004, [], [⟨1, 1, .wo, 0x0, 0, 1⟩, ⟨0, 0, .wo, 0x0, 0, 1⟩]⟩,
  ⟨"PAD_GPIO_DIR", 0x1300008, [], [⟨15, 0, .rw, 0x0, 0, 65535⟩]⟩,
  ⟨"PAD_GPIO_OUT", 0x130000c, [], [⟨15, 0, .rw, 0x0, 0, 65535⟩]⟩,
  ⟨"PAD_GPIO_IN", 0x1300010, [], [⟨15, 0, .ro, 0x0, 0, 65535⟩]⟩,
  ⟨"PAD_FAN_CFG", 0x1300014, [], [⟨31, 31, .rw, 0x1, 0, 1⟩, ⟨22, 16, .rw, 0x1e, 0, 100⟩, ⟨15, 8, .rw, 0x3c, 0, 100⟩, ⟨7, 0, .rw, 0x3, 1, 100⟩]⟩]

/-- Registers of the CTL block (R505). -/
def regMapCtl : List RegDef := [
  ⟨"CTL_BOOT_CFG", 0x1400000, [], [⟨31, 31, .rws, 0x0, 0, 1⟩, ⟨15, 0, .rws, 0x0, 0, 65535⟩]⟩,
  ⟨"CTL_BOOT_ADDR_LO", 0x1400004, [], [⟨31, 12, .rw, 0x0, 0, 0xfffff⟩]⟩,
  ⟨"CTL_BOOT_ADDR_HI", 0x1400008, [], [⟨31, 0, .rw, 0x0, 0, 0xffffffff⟩]⟩,
  ⟨"CTL_BOOT_CTL", 0x140000c, [], [⟨0, 0, .wo, 0x0, 0, 1⟩]⟩,
  ⟨"CTL_BOOT_STAT", 0x1400010, [], [⟨31, 24, .ro, 0x0, 0, 255⟩, ⟨15, 8, .ro, 0x0, 0, 255⟩, ⟨2, 0, .ro, 0x0, 0, 7⟩]⟩]

/-- The registers of the block that holds BAR0 offset `a` (R492); an offset that no entry of the block covers, and
every offset of no block, is unmapped. -/
def regMapAt (a : Nat) : List RegDef :=
  match a / 0x100000 with
  | 0 => regMapSys
  | 1 => regMapHif
  | 2 => regMapTik
  | 3 => regMapAdm
  | 4 => regMapNet
  | 5 => regMapSpq
  | 6 => regMapFwd
  | 7 => if a < 0x780000 then regMapCip else regMapKey
  | 8 => regMapAud
  | 9 => regMapBrs
  | 10 => regMapSch
  | 11 => regMapVid
  | 12 => regMapCnv
  | 13 => regMapPtp
  | 14 => regMapMsh
  | 15 => regMapMem
  | 16 => regMapEcc
  | 17 => regMapCal
  | 18 => regMapPwr
  | 19 => regMapPad
  | 20 => regMapCtl
  | _ => []

end Sys2Proof.Machine
end

