-- ==== Sys2Proof/Machine/Regs.lean ====
section
/-! DEFINITION. Registers as a store of words by BAR0 offset: which register an offset names, its reset value, the bits
of a field, and what a write by host software does to one register by the access types of its fields (R9, R11, R496,
R499, R501). Log entries: 79. -/

namespace Sys2Proof.Machine

/-- Whether `d` is the offset of one of the registers that `dims` spans: for each index, stride and count. -/
def inDims (d : Nat) : List (Nat × Nat) → Bool
  | [] => d = 0
  | (s, c) :: r => decide (d / s < c) && inDims (d % s) r

/-- Whether the definition covers offset `a`. -/
def RegDef.covers (r : RegDef) (a : Nat) : Bool := decide (r.base ≤ a) && inDims (a - r.base) r.dims

/-- The definition of the register at offset `a`; none when `a` is unmapped (R492). -/
def regAt (a : Nat) : Option RegDef := (regMapAt a).find? (fun r => r.covers a)

/-- Bits `hi` to `lo` of a word, as a number. -/
def bitsOf (w : Word) (hi lo : Nat) : Nat := (w.toNat / 2 ^ lo) % 2 ^ (hi + 1 - lo)

/-- The word with bits `hi` to `lo` replaced by the low bits of `v`. -/
def setBits (w : Word) (hi lo v : Nat) : Word :=
  BitVec.ofNat 32 (w.toNat % 2 ^ lo + (v % 2 ^ (hi + 1 - lo)) * 2 ^ lo + w.toNat / 2 ^ (hi + 1) * 2 ^ (hi + 1))

/-- The reset value of a register (the Reset columns, R496): its fields at their reset values, reserved bits 0 (R9). -/
def RegDef.reset (r : RegDef) : Word :=
  r.fields.foldl (fun w f => setBits w f.hi f.lo f.rst) 0

/-- What the register at offset `a` reads as while the store lists nothing there. -/
def regReset (a : Nat) : Word :=
  match regAt a with
  | some r => r.reset
  | none => 0

/-- What a write of `d` leaves in one field that holds `old`, by its access type (R496) with reserved encodings discarded
(R11). `locked` is R499's lock. -/
def FieldDef.write (f : FieldDef) (locked : Bool) (old : Nat) (d : Nat) : Nat :=
  match f.acc with
  | .ro => old
  | .rof => old
  | .wo => old
  | .rw => if f.least ≤ d ∧ d ≤ f.most then d else old
  | .rws => if f.least ≤ d ∧ d ≤ f.most then d else old
  | .rwl => if locked then old else if f.least ≤ d ∧ d ≤ f.most then d else old
  | .rw1c => old &&& (d ^^^ (2 ^ (f.hi + 1 - f.lo) - 1))
  | .rwsc => old &&& (d ^^^ (2 ^ (f.hi + 1 - f.lo) - 1))

/-- A write of word `d` to a register that holds `w`, field by field. Bits of no field are ignored (R9). -/
def RegDef.write (r : RegDef) (locked : Bool) (w d : Word) : Word :=
  r.fields.foldl (fun acc f => setBits acc f.hi f.lo (f.write locked (bitsOf w f.hi f.lo) (bitsOf d f.hi f.lo))) w

/-- What a read returns of the stored word: a WO field reads 0 (R496). -/
def RegDef.readMask (r : RegDef) (w : Word) : Word :=
  r.fields.foldl (fun acc f => if f.acc = .wo then setBits acc f.hi f.lo 0 else acc) w

/-- Whether the register has a field of type RWL, so that a write while locked is recorded (R501). -/
def RegDef.hasRwl (r : RegDef) : Bool := r.fields.any (fun f => f.acc = .rwl)

end Sys2Proof.Machine
end

