-- ==== Sys2Proof/Machine/StAud.lean ====
section
/-! DEFINITION. The state of the audio fabric (R208 to R239) and of media rings (R102 to R105). Samples are bus samples as
integers; lists of samples of one tick hold 40. -/

namespace Sys2Proof.Machine

/-- A leg route (R214); the gains are those of buses 0 to 3. -/
structure Route where
  contrib : Nat
  listen : Nat
  minus : Nat
  force : Bool
  dtx : Bool
  cGain : List Nat
  lGain : List Nat
  deriving DecidableEq, Repr

/-- A route change that waits (R221, R223): its effect tick, the route (none: cleared), and K. -/
structure RouteChange where
  tick : Nat
  route : Option Route
  k : Nat
  deriving DecidableEq, Repr

/-- Sink dynamics as AUD_SINK_DYN gives them (R236). -/
structure SinkDyn where
  compEn : Bool := false
  limEn : Bool := false
  thr : Nat := 0
  ratio : Nat := 10
  att : Nat := 1
  rel : Nat := 10
  makeup : Nat := 0
  ceil : Nat := 0
  limRel : Nat := 1
  deriving DecidableEq, Repr

/-- One frequency of a tone (R228): phase step, amplitude factor, phase. -/
structure Osc where
  step : Nat
  amp : Nat
  phase : Nat := 0
  deriving DecidableEq, Repr

/-- A tone (R227 to R229): the function that started it, its frequencies, its cadence in ticks (on, off; none on:
continuous), the cycles left (none: until stopped), REPLACE, its place in the cadence (segment, sample, on or off), the
samples left of a ramp out after it ended, and the tick it started. -/
structure Tone where
  fn : Nat
  osc : List Osc
  cadence : List (Option Nat × Nat)
  left : Option Nat
  replace : Bool
  start : Nat
  seg : Nat := 0
  pos : Nat := 0
  ramp : Option Nat := none
  deriving DecidableEq, Repr

/-- A resampler's state: input samples of the past, newest first, and prototype samples to skip before the next output. -/
structure Resamp where
  hist : List Int := []
  skip : Nat := 0
  deriving DecidableEq, Repr

/-- The audio state of an admitted leg. `home`: its home group, given once it has audio (R234). `old`, `fadeAt`, `fadeK`,
`oldOn`: the route before the last change, its effect tick, K, and the buses on which the leg was mixed then. `pcm`: samples after
noise suppression not yet mixed; `pend`: payloads released and not yet decoded; `cur`: this tick's samples. `fFloor`, `fRun`,
`hang`: R218. `contribs`: the v_b of past ticks. `gc`, `gl`, `gf`: R225. `outs`: sink outputs, oldest first. `enc`: the packet due in
this EMIT; `dtxPay`, its repetition: R232. `raw`: this tick's samples before a source insert. `curAt`, `measAt`: the ticks for which
`cur` and the level stand; `nsLost`: the last tick whose noise suppression, level or VAD was abandoned. `decLost`: the decoder is
marked lost, or nothing has been decoded yet. `sinkIn`: the sink's samples that wait for a sink insert (R259). `repl`: the mix is
replaced by a tone (R229). `ueSink`, `ueMeas`: the tick in which a word of its sink or of its measurement could not be read (R412).
`dtxAt`: the tick of the last packet built. -/
structure AudLeg where
  conf : Nat
  home : Option Nat := none
  route : Option Route := none
  old : Option Route := none
  fadeAt : Nat := 0
  fadeK : Nat := 0
  oldOn : Nat := 0
  onPrev : Nat := 0
  staged : List RouteChange := []
  gone : Option Nat := none
  pcm : List Int := []
  pend : List (List (BitVec 8)) := []
  lastX : Int := 0
  raw : List Int := []
  cur : List Int := []
  curAt : Option Nat := none
  sinkIn : Option (List Int) := none
  ueSink : Option Nat := none
  ueMeas : Option Nat := none
  repl : Bool := false
  measAt : Option Nat := none
  nsLost : Option Nat := none
  decLost : Bool := true
  rsRx : Resamp := {}
  rsTx : Resamp := {}
  level : Int := -32768
  fFloor : Option Int := none
  fRun : Nat := 0
  hang : Nat := 0
  vad : Bool := false
  score : Int := -32768
  contribs : List (Nat × List (List Int)) := []
  dyn : SinkDyn := {}
  gc : Int := 0
  gl : Int := 0
  gf : Int := 0
  outs : List (List Int) := []
  lastOut : Int := 0
  sinkMax : Int := -32768
  clips : Nat := 0
  clipSince : Nat := 0
  clipLast : Option Nat := none
  quiet : Bool := false
  quietRun : Nat := 0
  silHeld : Bool := false
  encIn : List Int := []
  enc : Option (List (BitVec 8)) := none
  encAt : Option Nat := none
  dtxPay : Option (List (BitVec 8)) := none
  dtxAt : Option Nat := none
  deriving DecidableEq, Repr

/-- A peer device's partials of a conference (R239, R377): those received and not yet used, whether it is expected, ticks missed in the
gap in progress, its last samples per bus, its samples for the tick whose WORK is open, and the tick of its partial with LAST. -/
structure Peer where
  parts : List (Nat × List (List Int)) := []
  expected : Bool := false
  missed : Nat := 0
  last : List Int := [0, 0, 0, 0]
  now : List (List Int) := []
  lastTick : Option Nat := none
  deriving DecidableEq, Repr

/-- The audio state of a conference: its owner, MESH_HOPS, the tick at which it ends once closed, MIX_N per bus, selected sets, lead
counts by 4 × leg + bus, the dominant speaker and the leads over it by leg, own partials of past ticks, peers by MESH_NODE, and the last
tick mixed. -/
structure AudConf where
  owner : Nat := 0
  hops : Nat := 0
  closeAt : Option Nat := none
  mixN : List Nat := [16, 16, 16, 16]
  sel : List (List Nat) := [[], [], [], []]
  win : Table Nat := []
  dom : Option Nat := none
  domWin : Table Nat := []
  own : List (Nat × List (List Int)) := []
  peers : Table Peer := []
  mixedAt : Option Nat := none
  deriving DecidableEq, Repr

/-- One posted media entry (R102): index, its words, the buffer's words for an inject ring, the first tick it can start,
bytes used, the tick it started, late, and the status it is finished with. -/
structure MEnt where
  idx : BitVec 32
  ws : List (BitVec 32)
  data : List (BitVec 32)
  frm : Nat
  pos : Nat := 0
  start : Option Nat := none
  late : Bool := false
  st : Option (BitVec 16) := none
  deriving DecidableEq, Repr

/-- What a media ring is bound to: an audio point (R230), a decode point or an encode point (R307). -/
inductive MPoint where
  | audio (point id bus gain : Nat)
  | videoDec (ctx w h : Nat) (ten : Bool)
  | videoEnc (ctx w h : Nat) (ten : Bool)
  deriving DecidableEq, Repr

/-- A media ring: entries posted, its binding with whether it is in force, the last sample given (R231), the ticks missed
in a gap, and the last tick that counted. -/
structure MRing where
  ents : List MEnt := []
  point : Option MPoint := none
  live : Bool := false
  last : Int := 0
  gap : Option Nat := none
  gapAt : Nat := 0
  deriving DecidableEq, Repr

/-- The audio fabric: legs, conferences, tones by target (leg, or 65536 + 4 × conference + bus), tones ramping out, and media
rings by 64 × function + ring. -/
structure Aud where
  legs : Table AudLeg := []
  confs : Table AudConf := []
  tones : Table Tone := []
  ending : List (Nat × Tone) := []
  media : Table MRing := []
  deriving DecidableEq, Repr

end Sys2Proof.Machine
end

