-- ==== Sys2Proof/Machine/StMsh.lean ====
section
/-! DEFINITION. The state of the Meash ports (R360 to R385) beside their registers. -/

namespace Sys2Proof.Machine

/-- What MSH_PORT_CFG KIND 0 sets of a port (R386). -/
structure MshCfg where
  en : Bool := false
  w : Nat := 2
  tree : Bool := false
  exp : Bool := false
  wake : Bool := false
  node : Nat := 0
  deriving DecidableEq, Repr

/-- The receiver of one physical lane (R364 to R368): the bytes of its stream held, from the candidate's first marker or the last marker
on, and where among them the next test falls; confirmed markers, bad markers, MFC and PHY_LANE of the last marker, arrival
delay in ns, trace bytes of the multiframe in progress and of the last three, the accepted value, uncorrectable codewords of the tick
and of the one before, corrected symbols by tick, since when SF and SD hold (local ns), and whether each counts as a request. -/
structure Lane where
  buf : List (BitVec 8) := []
  ofs : Nat := 0
  cnt : Nat := 0
  bad : Nat := 0
  mfc : Nat := 0
  phy : Nat := 0
  delay : Nat := 0
  tti : List (BitVec 8) := []
  multi : List (List (BitVec 8)) := []
  acc : Option (List (BitVec 8)) := none
  uncTick : Nat := 0
  unc : Nat := 0
  uncPrev : Nat := 0
  syms : List (Nat × Nat) := []
  sfSince : Option Nat := none
  sdSince : Option Nat := none
  sfOn : Bool := false
  sdOn : Bool := false
  deriving DecidableEq, Repr

/-- A unit whose blocks wait to be sent (R372): its TYPE, whether its first block has gone, and the 64-byte blocks left. -/
structure TxUnit where
  type : Nat
  begun : Bool := false
  blocks : List (List (BitVec 8))
  deriving DecidableEq, Repr

/-- A payload that the deskew holds (R367): its frame's MFC, its logical lane, its 32 blocks. -/
structure RxPay where
  mfc : Nat
  log : Nat
  blocks : List (List (BitVec 8))
  deriving DecidableEq, Repr

/-- A Meash port: its configuration as committed and in force, the command's request and the peer's (request, lane), a wait-to-restore
(lane, local ns), a lane kept under MSH_NONREV, the request in force, the lane selected from protection, markers whose φ is discarded,
S_v, the limits L_v and F_v, partials waiting for credit (tick, body), the media queue (local ns, body), the last TX_OFS sent and RX_OFS
measured by tick, the latest first, the local time at which a wake pattern started, the cycle at which its lanes' frames began and the
frames sent since, single blocks and units that wait to be sent, the payloads received that the deskew holds, by physical lane and oldest
first (R367), the MFC and the group stream of the last whole frame period, and the blocks that fill each receive buffer (R373). -/
structure MshPort where
  cfg : MshCfg := {}
  live : MshCfg := {}
  cmd : Nat × Nat := (0, 15)
  peer : Nat × Nat := (0, 15)
  wtr : Option (Nat × Nat) := none
  keep : Option Nat := none
  force : Nat × Nat := (0, 15)
  sel : Option Nat := none
  skip : Nat := 0
  sent : List Nat := [0, 0, 0]
  lim : List Nat := [0, 0, 0]
  freed : List Nat := [0, 0, 0]
  q0 : List (Nat × List (BitVec 8)) := []
  qm : List (Nat × List (BitVec 8)) := []
  tx : List (Nat × Int) := []
  rx : List (Nat × Int) := []
  waking : Option Nat := none
  txFrom : Option Nat := none
  txN : Nat := 0
  txc : List (List (BitVec 8)) := []
  txu : List TxUnit := []
  rxPay : Table (List RxPay) := []
  rxLast : Option Nat := none
  stream : List (List (BitVec 8)) := []
  held : List Nat := [0, 0, 0]
  deriving DecidableEq, Repr

/-- An exported stream (R378): handle, DST_NODE, in force. -/
structure Export where
  hd : Nat
  dst : Nat
  live : Bool := false
  gone : Bool := false
  deriving DecidableEq, Repr

/-- Meash: ports, lanes by 16 × port + lane, CASCADE_ID in force, the port for each node, exports and imports by
RELAY_ID, the partials seen (origin, conference, tick), partials to relay (tick, arrival port, body), and of the markers the
follower takes: the tick of the last valid one, good and bad ones in a row, whether lock was lost, and the number and start in
1/8 ns to adopt. -/
structure Msh where
  ports : Table MshPort := []
  lanes : Table Lane := []
  cascade : Nat := 0
  routes : Table Nat := []
  exports : Table Export := []
  imports : Table Nat := []
  seen : List (Nat × Nat × Nat) := []
  relay : List (Nat × Nat × List (BitVec 8)) := []
  lastOk : Option Nat := none
  okRun : Nat := 0
  badRun : Nat := 0
  lost : Bool := false
  adopt : Option (Nat × Int) := none
  deriving DecidableEq, Repr

end Sys2Proof.Machine
end

