-- ==== Sys2Proof/Machine/StNet.lean ====
section
/-! DEFINITION. The state of the network side: bound streams, jitter buffers and spill queues (R129 to R144), frames on
their way out (R128, R171 to R173), subscriptions and estimates (R151 to R170), key slots and cipher contexts (R178 to
R200). Log entries: 99. -/

namespace Sys2Proof.Machine

/-- The template structure of an AV1 dependency descriptor (R157): the template id offset; per template its spatial and
temporal id, its DTI per decode target (0 not present, 1 discardable, 2 switch, 3 required) and its number of frame
dependencies; the number of decode targets. -/
structure DdStruct where
  offset : Nat
  templates : List (Nat × Nat × List Nat × Nat)
  dts : Nat
  deriving DecidableEq, Repr

/-- What a received packet's own coding headers say of its layer (R156, R157). `mark` is the codec's up-switch mark: the Y
bit, the B bit, or a TSA or STSA unit. `dti` gives, for AV1, the frame's DTI per decode target; `dd` says that a
dependency descriptor could be interpreted, `struct` the structure the packet carried. -/
structure LayerFacts where
  sid : Nat := 0
  tid : Nat := 0
  key : Bool := false
  mark : Bool := false
  eof : Bool := false
  dd : Bool := false
  dti : List Nat := []
  struct : Option DdStruct := none
  deriving DecidableEq, Repr

/-- The bind block of R133. Addresses are numbers, first byte most significant. -/
structure BindBlk where
  ipv6 : Bool := false
  vlanEn : Bool := false
  srcCheck : Bool := false
  port : Nat := 0
  sub : Nat := 0
  pcp : Nat := 0
  vlan : Nat := 0
  localUdp : Nat := 0
  remoteUdp : Nat := 0
  localIp : Nat := 0
  remoteIp : Nat := 0
  mac : Nat := 0
  ssrcs : List Word := []
  txSsrc : Word := 0
  dscp : Nat := 0
  valid : Nat := 0
  deriving DecidableEq, Repr

/-- A packet in a jitter buffer (R135, R138): its media tick, ingress timestamp, RTP header and payload in clear, its
extended sequence number (R194), its SSRC index, CARRIED, the UDP payload size, and its layer facts. -/
structure Pkt where
  tick : Nat
  tsNs : Nat
  ssrcIdx : Nat
  x : Nat
  ts : Word
  marker : Bool
  pt : Nat
  carried : Bool
  size : Nat
  cells : Nat
  hdr : List Byte
  pay : List Byte
  deriving DecidableEq, Repr

/-- The anchor of one receive SSRC (R135, R137): set or not, A, its RTP timestamp, the cause the next EV_NET_JB_RESYNC
carries, and the late run. -/
structure Anchor where
  set : Bool := false
  a : Nat := 0
  ts : Word := 0
  cause : Nat := 0
  lateRun : Nat := 0
  deriving DecidableEq, Repr

/-- A stream bound under R134: its bind block, the order of the bind, whether classification runs, whether an unbind is
committed, its jitter buffer (anchors per RX SSRC, tail, JB_LATE_RUN), its spill queue and limit L, and the UE events of R143. -/
structure Bound where
  blk : BindBlk
  order : Nat
  live : Bool := false
  gone : Bool := false
  anchors : List Anchor := [{}, {}, {}, {}]
  tail : Nat := 0
  lateRun : Nat := 3
  q : List Pkt := []
  limit : Nat := 0
  ueSince : Nat := 0
  ueLast : Option Nat := none
  deriving DecidableEq, Repr

/-- A frame the device will send in an EMIT: subport, launch time in ns, owning leg, its place in that leg's order (R172),
what it is (0 own stream, 1 forwarded, 2 RTCP the device sends, 3 host frame, 4 PTP), the stream handle or slot, the bytes
without FCS, for RTP its SSRC, sequence number and UDP payload size, a timestamp identifier (R345), and for a key-picture request
4 × handle + SSRC index and whether it is FIR (R169); `prot`: the handle whose SRTCP protection a host frame takes as it leaves (R131,
R193). -/
structure Egr where
  port : Nat
  sub : Nat
  launch : Nat
  leg : Nat
  ord : Nat
  kind : Nat
  handle : Nat
  bytes : List Byte
  ssrc : Word := 0
  seq : Nat := 0
  size : Nat := 0
  tsId : Option Nat := none
  kp : Option (Nat × Bool) := none
  prot : Option Nat := none
  deriving DecidableEq, Repr

/-- A function's host packet area (R129 to R132). -/
structure Hpa where
  rxDev : BitVec 32 := 0
  rxHost : BitVec 32 := 0
  txDev : BitVec 32 := 0
  txHost : BitVec 32 := 0
  slots : List (List Byte) := []
  rxTick : Nat := 0
  dropSince : Nat := 0
  dropLast : Option Nat := none
  deriving DecidableEq, Repr

/-- The network engines: bound streams by handle, the order of the next bind, port counters (key 32 × (4 × port +
subport) + index of R146), host packet areas by function, frames received in the tick (R507), frames to launch, and
protected RTCP waiting for the next EMIT. -/
structure Net where
  bound : Table Bound := []
  nextOrder : Nat := 0
  stats : Table Nat := []
  hpa : Table Hpa := []
  rxFrames : Nat := 0
  egress : List Egr := []
  busyUntil : Table Nat := []
  deriving DecidableEq, Repr

/-! ## Forwarding -/

/-- One packet a source released, for the rate of a layer (R158): its tick, SSRC index and size, its RTP header and the
first bytes of its payload, from which its layer is read. -/
structure HistRec where
  tick : Nat
  ssrcIdx : Nat
  size : Nat
  hdr : List Byte
  pay : List Byte
  deriving DecidableEq, Repr

/-- A released packet as the forwarding engine reads it: the packet, its layer, whether it starts a frame (R156), and the AV1
structure in force for it, or that one beyond the limits is (R157). -/
structure RelPkt where
  pkt : Pkt
  facts : LayerFacts
  start : Bool
  st : Option DdStruct := none
  unsup : Bool := false
  deriving DecidableEq, Repr

/-- A source stream of subscriptions: the AV1 structure of the latest packet that carried one, whether a structure beyond the limits is in
force and was reported, whether a missing structure was reported (R157), the releases of the last 600 ticks with the structure in force
before them, per SSRC the RTP timestamp of the last packet (frame starts, R156), and the packets released in this tick. -/
structure Src where
  struct : Option DdStruct := none
  unsup : Bool := false
  noStruct : Bool := false
  hist : List HistRec := []
  hist0 : Option DdStruct := none
  rel : List RelPkt := []
  lastTs : Table Word := []
  deriving DecidableEq, Repr

/-- A subscription (R151 to R168). Layers are 4 × s + t. The fields up to `kind` (R155: 0 audio, 1 one SSRC with layers, 2 simulcast) are
what FWD_SUB_SET gives. `live`: in force; `gone`: its end is staged, `byRel` by a release. Numbering (R160): `fresh` until the first
packet after a start or a pause set `base`, the input number that maps to `out0`; `counted`: input numbers left out since; `hiFwd`,
`hiSeen`: the highest forwarded and seen; `lastOut`, `neverSent`: the last output number. `ofs`, `lastTs`, `lastTick`: the RTP time offset
and the last output time with its tick; `enc`, `lastEnc`: the simulcast encoding whose packets are numbered, and the one last sent (R160,
R161). Layers (R166 to R168): `target` as last computed, with `hold`, the updates it has stood above the one applied; `applied`; `cur`,
the layer forwarded; `waiting` for a switch point, `first` until it has one target; `upSince`, since when an AV1 step up waits, and
`kpAsked` for it; `reason` of the next EV_FWD_LAYER, `was` the layer before a change that is not complete; `tries` and `toRaised` of the
key-picture wait (R170). `ended`: its end has been reported. -/
structure Sub where
  owner : Nat
  src : Nat
  dst : Nat
  outSsrc : Word
  seqStart : Nat
  ptEn : Bool
  ptOut : Nat
  ddIn : Nat
  ddOut : Nat
  fmIn : Nat
  fmOut : Nat
  pause : Bool
  kpFir : Bool
  prio : Nat
  capS : Nat
  capT : Nat
  kind : Nat := 0
  live : Bool := false
  gone : Bool := false
  byRel : Bool := false
  ended : Bool := false
  fresh : Bool := true
  neverSent : Bool := true
  base : Nat := 0
  out0 : Nat := 0
  counted : List Nat := []
  hiFwd : Option Nat := none
  hiSeen : Nat := 0
  lastOut : Nat := 0
  ofs : Word := 0
  lastTs : Word := 0
  lastTick : Nat := 0
  enc : Option Nat := none
  lastEnc : Option Nat := none
  target : Option Nat := none
  applied : Option Nat := none
  cur : Option Nat := none
  was : Option Nat := none
  hold : Nat := 0
  waiting : Bool := true
  first : Bool := true
  upSince : Option Nat := none
  reason : Nat := 0
  tries : Nat := 0
  toRaised : Bool := false
  kpAsked : Bool := false
  pkts : Nat := 0
  octets : Nat := 0
  deriving DecidableEq, Repr

/-- Key-picture requests to one source SSRC (R169, R170): due in the next EMIT, the tick of the last one sent, whether a
request was merged in the gap, and the FIR sequence number. -/
structure KpReq where
  due : Bool := false
  sentAt : Option Nat := none
  merged : Bool := false
  firSeq : Nat := 0
  deriving DecidableEq, Repr

/-- One packet in the send log of estimator mode 2 (R163); `got`: it has been reported received. -/
structure LogRec where
  ssrc : Word
  seq : Nat
  time : Nat
  tick : Nat
  size : Nat
  got : Bool := false
  deriving DecidableEq, Repr

/-- One packet an RFC 8888 report names: the tick the report arrived, received or not, its arrival time in 1/65,536 s, and
its log record as it stood before the report. -/
structure FbRec where
  at' : Nat
  got : Bool
  arr : Nat
  log : LogRec
  deriving DecidableEq, Repr

/-- A leg's bandwidth estimate (R163 to R165) and its drops under R171. Q is in µs. -/
structure Est where
  emode : Nat := 1
  line : Nat := 0
  init : Nat := 0
  max : Nat := 0
  est : Nat := 0
  quiet : Nat := 0
  stale : Bool := false
  q : Int := 0
  f : Nat := 0
  acked : Nat := 0
  loss : List (Nat × Nat) := []
  fb : List FbRec := []
  log : List LogRec := []
  prevGroup : Option (Nat × Nat) := none
  updAt : Option Nat := none
  sent : List (Nat × Nat) := []
  drops : Nat := 0
  dropSince : Nat := 0
  dropLast : Option Nat := none
  deriving DecidableEq, Repr

/-- The forwarding engine: subscriptions by SUB_ID, sources by handle, key-picture requests by 4 × handle + SSRC index,
estimates by leg, and sender reports to relay in the EMIT of the next tick (tick, subscription, NTP high, NTP
low, RTP timestamp). -/
structure Fwd where
  subs : Table Sub := []
  srcs : Table Src := []
  kps : Table KpReq := []
  ests : Table Est := []
  srs : List (Nat × Nat × Word × Word × Word) := []
  deriving DecidableEq, Repr

/-! ## Keys and cipher contexts -/

/-- A key slot that is not FREE (R187): owner, MASTER or SESSION, suite, key and salt of a MASTER, the six session keys of
a SESSION (R189), whether it was bound for sending once (R192), and whether its erasure is committed (R190). -/
structure KeySlot where
  owner : Nat
  session : Bool
  suite : Nat
  key : List Byte
  salt : List Byte
  keys : List (List Byte) := []
  spent : Bool := false
  erase : Bool := false
  deriving DecidableEq, Repr

/-- The key store: slots that are not FREE, KEKs by function, slots whose counted unit is held until an erase ends (slot,
owner). -/
structure KeySt where
  slots : Table KeySlot := []
  keks : Table (List Byte) := []
  erasing : Table Nat := []
  deriving DecidableEq, Repr

/-- Receive state of one RX SSRC (R194): `seen` bit i marks index h − i. `moved` once it authenticated under the new key
(R195). -/
structure RxRec where
  started : Bool := false
  roc0 : Nat := 0
  r : Nat := 0
  sl : Nat := 0
  h : Nat := 0
  seen : Nat := 0
  moved : Bool := false
  deriving DecidableEq, Repr

/-- Receive state of one SRTCP sender SSRC (R194). -/
structure TcpRec where
  ssrc : Word
  h : Nat
  seen : Nat
  moved : Bool
  deriving DecidableEq, Repr

/-- A receive direction: its slot (none: CLEAR), the window W, records of RX SSRC 0 to 3, SRTCP sender records with the
most recently accepted first, the old slot and the tick its overlap ends. -/
structure RxDir where
  slot : Option Nat
  w : Nat := 64
  recs : List RxRec := [{}, {}, {}, {}]
  tcp : List TcpRec := []
  old : Option (Option Nat × Nat) := none
  deriving DecidableEq, Repr

/-- Send state of one SSRC (R196, R197). -/
structure TxRec where
  ssrc : Word
  roc0 : Nat
  started : Bool := false
  r : Nat := 0
  sl : Nat := 0
  h : Option Nat := none
  retired : Bool := false
  deriving DecidableEq, Repr

/-- A send direction: its slot (none: CLEAR), records in the order they were made or retired, EVICTED, the next SRTCP
index, and the next sequence number of media the device originates. -/
structure TxDir where
  slot : Option Nat
  recs : List TxRec := []
  evicted : Bool := false
  tcpIdx : Nat := 0
  seq : Nat := 0
  deriving DecidableEq, Repr

/-- The counters of R203 of one direction of a stream, and the tick of its last EV_KEY_REKEY per cause (R198). They count whether
the direction is bound or not (R182). -/
structure DirCnt where
  ok : Nat := 0
  auth : Nat := 0
  replay : Nat := 0
  retry : Nat := 0
  refused : Nat := 0
  rekey : Table Nat := []
  deriving DecidableEq, Repr

/-- The cipher engines: receive and send directions by stream handle, their counters by 2 × handle + DIR, second attempts made in
the tick (R195), and whether the entropy source is failing (R200). -/
structure Cip where
  rx : Table RxDir := []
  tx : Table TxDir := []
  cnt : Table DirCnt := []
  retries : Nat := 0
  entFail : Bool := false
  deriving DecidableEq, Repr

end Sys2Proof.Machine
end

