-- ==== Sys2Proof/Machine/StVid.lean ====
section
/-! DEFINITION. The state of video coding (R276 to R312) and of Canvas (R313 to R335). -/

namespace Sys2Proof.Machine

/-- A picture (R284): size, depth, media tick, DAMAGED, whether it is a key picture and whether it meets FENCE 2, the colour
matrix signalled with its range, and its samples: luma by rows, then Cb and Cr alternating by rows. -/
structure Pic where
  w : Nat
  h : Nat
  ten : Bool
  tick : Nat
  damaged : Bool := false
  key : Bool := false
  clean : Bool := false
  mtx : Option Nat := none
  full : Bool := false
  y : List Nat := []
  c : List Nat := []
  deriving DecidableEq, Repr

/-- A released frame (R283, R289): RTP timestamp, media tick, the tick it was released, a gap within it, a frame lost before it, whether
it is a key picture, the luma samples decoded, whether an uncorrectable word of a reference was read, and the facts once the engine has
started it. -/
structure VFrame where
  ts : Word
  tick : Nat
  rel : Nat
  gap : Bool
  lostBefore : Bool
  key : Bool
  done : Nat := 0
  refUe : Bool := false
  facts : Option VidFacts := none
  deriving DecidableEq, Repr

/-- A decode context (R280 to R292). `refs`: the reference pictures kept, by RTP timestamp, with DAMAGED. `pubs`: pictures
completed in this WORK. `cur`: the current picture; `last`: the last published one. `tainted`: since which tick. `reqAt`:
the key-picture wait (tries, reported) of R170. -/
structure DecCtx where
  owner : Nat
  hd : Nat
  engine : Nat
  px : Nat
  units : Nat
  kpFir : Bool
  opS : Nat
  opT : Nat
  holds : Nat
  dpbN : Nat
  live : Bool := false
  gone : Bool := false
  needKey : Bool := true
  tainted : Option Nat := none
  nextX : Option Nat := none
  queue : List VFrame := []
  pubs : List Pic := []
  cur : Option Pic := none
  last : Option Pic := none
  refs : List (Word × Bool) := []
  ranAt : Option Nat := none
  nPic : Nat := 0
  nKey : Nat := 0
  nDmg : Nat := 0
  nBytes : Nat := 0
  lastCause : Nat := 0
  deriving DecidableEq, Repr

/-- Rate settings of VID_ENC_RATE (R303). -/
structure EncRate where
  kbps : Nat
  cap : Nat
  pct : Nat
  mult : Nat
  deriving DecidableEq, Repr

/-- A key-picture request that waits (R305): the tick from which a key picture satisfies it, the first tick at which it takes
effect, and its reason. -/
structure KeyReq where
  from' : Nat
  eff : Nat
  reason : Nat
  deriving DecidableEq, Repr

/-- A picture being encoded (R293 to R302): start tick, its number, its period, the buffer of its composition, key, temporal id, T_nom,
B_pic, TICK_CAP and F_pkt as they stood at its start, bytes so far, slices encoded, whether minimum-size coding holds to its end, whether
any block was coded in it, and whether a slice was abandoned. -/
structure EncPic where
  start : Nat
  no : Nat
  per : Nat
  buf : Nat
  key : Bool
  tid : Nat
  tNom : Nat
  bPic : Nat
  tickCap : Nat
  fPkt : Nat
  size : Nat := 0
  done : List Nat := []
  minMode : Bool := false
  minAny : Bool := false
  lost : Bool := false
  held : List (List Byte) := []
  deriving DecidableEq, Repr

/-- One packet ready to send: marker, header-extension element data (id 0: none) and payload. -/
structure EncPkt where
  marker : Bool
  ext : List Byte
  pay : List Byte
  deriving DecidableEq, Repr

/-- An encode context (R280, R293 to R306). `own`: of leg `item`, else of layout `item`; `layout`: the layout it composes. `k`: the index
in the pattern of R298; `lastKey`: the tick of the last key picture; `fpkt`, `tcap`: F_pkt and TICK_CAP as last computed (R295, R303);
`out`: packets due in EMIT of tick `outAt`, with their RTP timestamp. -/
structure EncCtx where
  owner : Nat
  own : Bool
  item : Nat
  layout : Nat
  engine : Nat
  cengine : Nat
  px : Nat
  units : Nat
  w : Nat
  h : Nat
  period : Nat
  codec : Nat
  cprof : Nat
  ten : Bool
  sLay : Nat
  tLay : Nat
  ext : Nat
  pt : Nat
  keyInt : Nat
  tsOfs : Word
  live : Bool := false
  gone : Bool := false
  rate : Option EncRate := none
  fpkt : Nat := 65535
  tcap : Nat := 0xffffffff
  debt : Nat := 0
  k : Nat := 0
  lastKey : Option Nat := none
  reqs : List KeyReq := []
  keyNext : Bool := false
  pic : Option EncPic := none
  frameNo : Nat := 0
  picId : Nat := 0
  tl0 : Nat := 0
  out : List EncPkt := []
  outAt : Option Nat := none
  outTs : Word := 0
  nPic : Nat := 0
  nKey : Nat := 0
  nDmg : Nat := 0
  nMin : Nat := 0
  nBytes : Nat := 0
  lastSize : Nat := 0
  minSince : Nat := 0
  minLast : Option Nat := none
  deriving DecidableEq, Repr

/-- Packets of stream 1 of a leg dropped under R297 since the last EV_VID_TX_DROP, and the tick of that event. -/
structure TxDrop where
  since : Nat := 0
  last : Option Nat := none
  deriving DecidableEq, Repr

/-- Video coding: decode and encode contexts by number, the video pool in 4 KiB units once the lock has set it (R393), and
the drops of each leg. -/
structure Vid where
  dec : Table DecCtx := []
  enc : Table EncCtx := []
  pool : Nat := 0
  drops : Table TxDrop := []
  deriving DecidableEq, Repr

/-! ## Canvas -/

/-- A layer's setting (R316); `kind` 0 decode context, 1 plate, 2 fill. -/
structure Layer where
  kind : Nat
  hideDmg : Bool
  selfHide : Bool
  src : Nat
  x : Nat
  y : Nat
  w : Nat
  h : Nat
  cx : Nat
  cy : Nat
  cw : Nat
  ch : Nat
  alpha : Nat
  fence : Nat
  deriving DecidableEq, Repr

/-- A staged change of one layer: its setting, or none to clear it. -/
structure StagedLayer where
  layer : Nat
  set : Option Layer
  deriving DecidableEq, Repr

/-- A group of staged changes (R322, R323). Group 0 changes flip alone. `flipAt`: the effect tick of a pending flip; `waits`:
boundaries passed without the group being ready. -/
structure CnvGroup where
  group : Nat
  changes : List StagedLayer
  flipAt : Option Nat := none
  waits : Nat := 0
  deriving DecidableEq, Repr

/-- The output description and background of a layout (R315). -/
structure OutDesc where
  mtx : Nat := 1
  full : Bool := false
  bgY : Nat := 64
  bgCb : Nat := 512
  bgCr : Nat := 512
  deriving DecidableEq, Repr

/-- A layout on Canvas: its descriptions with their effect ticks (before the first, BT.709 limited, R315), its layers, and
staged groups in the order they were formed (R322, R323). -/
structure CnvLayout where
  descs : List (Nat × OutDesc) := []
  layers : Table Layer := []
  groups : List CnvGroup := []
  deriving DecidableEq, Repr

/-- What a layer of a composition holds: the picture, the boundaries it has held it, whether EV_CNV_STALE told so, and
whether the layer is omitted with its reason (R318). -/
structure Held where
  pic : Option Pic := none
  n : Nat := 0
  stale : Bool := false
  omitted : Option Nat := none
  deriving DecidableEq, Repr

/-- A buffer of a composition (R314): samples of the output depth, and the rows the encode engine must code in minimum-size
mode because their content is old (R331). -/
structure CnvBuf where
  y : List Nat := []
  c : List Nat := []
  old : List Nat := []
  deriving DecidableEq, Repr

/-- The composition of an encode context (R313 to R320): the description and layers in force since its last boundary, what
its layers hold, its two buffers and which of them it writes, the last boundary with the period then, and the slices written since. -/
structure Comp where
  desc : OutDesc := {}
  layers : Table Layer := []
  held : Table Held := []
  bufs : List CnvBuf := [{}, {}]
  cur : Nat := 0
  bound : Option Nat := none
  per : Nat := 1
  done : List Nat := []
  plates : Table Nat := []
  deriving DecidableEq, Repr

/-- The content of a plate (R329): size, 8-bit samples and alpha, and the description it was built under. -/
structure PlateImg where
  w : Nat
  h : Nat
  y : List Nat
  c : List Nat
  a : List Nat
  mtx : Nat
  full : Bool
  deriving DecidableEq, Repr

/-- A plate (R330): owner, content in use, LOST, the content being loaded with the command that waits, older content that compositions still
show, by version, a version number that rises with each new content, and whether a drop waits for its effect tick. -/
structure Plate where
  owner : Nat
  img : Option PlateImg := none
  lost : Bool := false
  loading : Option (CmdHdr × PlateImg × Nat) := none
  old : Table PlateImg := []
  ver : Nat := 0
  gone : Bool := false
  deriving DecidableEq, Repr

/-- Canvas: layouts, compositions by encode context, plates. -/
structure Cnv where
  layouts : Table CnvLayout := []
  comps : Table Comp := []
  plates : Table Plate := []
  deriving DecidableEq, Repr

end Sys2Proof.Machine
end

