-- ==== Sys2Proof/Machine/StAgenda.lean ====
section
/-! DEFINITION. The changes that commands stage: each waits for the tick at whose start, or the EMIT at whose end, the
spec makes it take effect (R35, R65). -/

namespace Sys2Proof.Machine

/-- One staged change. -/
inductive Change where
  /-- A leg's committed profile comes into force (R63, R64). -/
  | legApply (leg : Nat) (prof : Profile) (jobs : List Job) (first : Bool)
  /-- A released leg's work stops (R65). -/
  | legStop (leg : Nat)
  /-- A released leg's charges leave the map (R65). -/
  | legGone (leg : Nat)
  | layoutApply (id : Nat)
  | layoutStop (id : Nat)
  | layoutGone (id : Nat)
  /-- A function's share of a resource (R74). -/
  | share (f r v : Nat)
  /-- Classification to a bound stream starts (R134). -/
  | netBind (hd : Nat)
  /-- Classification stops; the queue is flushed when the EMIT ends (R134). -/
  | netUnbind (hd : Nat)
  | netGone (hd : Nat)
  | jbReanchor (hd : Nat)
  | jbLate (hd n : Nat)
  /-- A subscription starts, stops and frees its SUB_ID (R153). -/
  | subStart (id : Nat)
  | subStop (id : Nat)
  | subGone (id : Nat)
  | subCap (id : Nat) (pause kpFir : Bool) (prio capS capT : Nat)
  /-- A subscription's applied target (R166). -/
  | subTarget (id : Nat) (tgt : Option Nat)
  | pace (leg emode line init max : Nat)
  /-- A slot is zeroised; its counted unit returns when the EMIT ends (R190). -/
  | keyErase (slot : Nat)
  | keyUnit (slot : Nat)
  /-- A receive or send direction is bound (R193). -/
  | cipRx (hd : Nat) (slot : Option Nat) (w : Nat) (keep : Bool) (rocs : List Nat)
  | cipTx (hd : Nat) (slot : Option Nat) (keep : Bool) (roc seq tcp : Nat)
  | cipUnbind (hd : Nat) (send : Bool)
  /-- A conference's audio state ends (R376). -/
  | confGone (conf : Nat)
  | mixN (conf bus n : Nat)
  | sinkDyn (leg : Nat) (d : SinkDyn)
  /-- A tone starts or stops on a target (R229). -/
  | tonePlay (tgt : Nat) (t : Tone)
  | toneStop (tgt : Nat)
  /-- A media binding comes into force or ends (R230, R307). -/
  | mediaBind (key : Nat)
  | mediaUnbind (key : Nat)
  /-- A program instance runs from now, ends, and its memory and charges return (R261). -/
  | brsStart (key : Nat)
  | brsStop (key : Nat)
  | brsGone (key : Nat)
  /-- A decode or encode context starts, closes, and returns its memory and engine room (R308). -/
  | vidStart (enc : Bool) (ctx : Nat)
  | vidStop (enc : Bool) (ctx : Nat)
  | vidGone (enc : Bool) (ctx : Nat)
  /-- Rate settings of an encode context (R304). -/
  | encRate (ctx : Nat) (r : EncRate)
  /-- A plate becomes FREE (R330). -/
  | plateDrop (id : Nat)
  /-- What the Meash commands set (R386). -/
  | mshPort (m : Nat) (c : MshCfg)
  | mshRoute (node m : Nat)
  | mshExport (relay : Nat)
  | mshExportEnd (relay : Nat)
  | mshTrace (id : Nat)
  | mshAps (m req lane : Nat)
  /-- The mode changes, for a cause of EV_PWR_MODE (R446, R461). -/
  | pwrMode (m cause : Nat)
  /-- SIL_HOLD (R454). -/
  | silHold (v : Nat)
  deriving DecidableEq, Repr

/-- A staged change with its time: at the start of `tick`, or at the end of EMIT(`tick`). -/
structure Staged where
  tick : Nat
  emitEnd : Bool
  ch : Change
  deriving DecidableEq, Repr

end Sys2Proof.Machine
end

