-- ==== Sys2Proof/Machine/StBrs.lean ====
section
/-! DEFINITION. The state of the Brush cores (R241 to R275): register banks, invocations and transfers, programs and their
instances. Log entries: 111. -/

namespace Sys2Proof.Machine

/-- The flags of R244. -/
structure BFlags where
  clamp : Bool := false
  wrap : Bool := false
  cy : Bool := false
  hr : Bool := false
  neg : Bool := false
  zero : Bool := false
  deriving DecidableEq, Repr

/-- One active loop (R252): LC, LS, LE. -/
structure BLoop where
  lc : Nat
  ls : Nat
  le : Nat
  deriving DecidableEq, Repr

/-- A register bank (R243). `el` and `pl` are the effective and pending lengths; `loops` has the innermost loop first: its
entry is LC, LS and LE, and LD is the number of entries; `calls` is the call stack. -/
structure BBank where
  d : List (BitVec 24) := List.replicate 8 0
  a : List (BitVec 56) := List.replicate 4 0
  p : List (BitVec 14) := List.replicate 8 0
  o : List (BitVec 16) := List.replicate 8 0
  el : List (BitVec 15) := List.replicate 8 0
  pl : List (BitVec 15) := List.replicate 8 0
  b : List (BitVec 14) := List.replicate 8 0
  loops : List BLoop := []
  calls : List (BitVec 16) := []
  pc : BitVec 16 := 0
  flg : BFlags := {}
  sam : Bool := false
  deriving DecidableEq, Repr

/-- An instruction as the core issues it: the forms of R255. -/
inductive BOp where
  | move (dst src : BReg)
  | ldi (dst : BReg) (imm : BitVec 24)
  | ldh (d : BitVec 3) (e : BEa)
  | ldl (d : BitVec 3) (e : BEa)
  | sth (d : BitVec 3) (e : BEa)
  | stl (d : BitVec 3) (e : BEa)
  | ldbus (n : BitVec 2) (e : BEa)
  | stbus (n : BitVec 2) (e : BEa)
  | movd (r : Bool) (d : BitVec 3) (n : BitVec 2)
  | mul (r : Bool) (n : BitVec 2) (a b : BitVec 3)
  | mla (r : Bool) (n : BitVec 2) (a b : BitVec 3)
  | mls (n : BitVec 2) (a b : BitVec 3)
  | mlam (sub : Bool) (n : BitVec 2) (x y : BEa)
  | mla2 (n : BitVec 2) (a : BitVec 3) (x : BEa) (m : BitVec 2) (b : BitVec 3) (y : BEa)
  | add (n m : BitVec 2)
  | sub (n m : BitVec 2)
  | neg (n : BitVec 2)
  | abs (n : BitVec 2)
  | clr (n : BitVec 2)
  | cmp (n m : BitVec 2)
  | shl (n : BitVec 2) (k : BitVec 5)
  | shr (n : BitVec 2) (k : BitVec 5)
  | rndc (n : BitVec 2)
  | sat (n : BitVec 2)
  | cls (d : BitVec 3) (n : BitVec 2)
  | addd (d a b : BitVec 3)
  | subd (d a b : BitVec 3)
  | and (d a b : BitVec 3)
  | or (d a b : BitVec 3)
  | xor (d a b : BitVec 3)
  | not (d a : BitVec 3)
  | lsl (d a : BitVec 3) (k : BitVec 5)
  | lsr (d a : BitVec 3) (k : BitVec 5)
  | asrd (d a : BitVec 3) (k : BitVec 5)
  | cmpd (a b : BitVec 3)
  | lea (p : BitVec 3) (m : BMode)
  | br (t : BitVec 16)
  | brCond (c : BCond) (t : BitVec 16)
  | call (t : BitVec 16)
  | ret
  | loop (n : BCount) (e : BitVec 16)
  | leave
  | clrf
  | nop
  | xferR (d p : BitVec 3) (y : Bool) (len : BitVec 11)
  | xferW (d p : BitVec 3) (y : Bool) (len : BitVec 11)
  | wait
  | sig
  | halt
  deriving DecidableEq, Repr

/-- A transfer issued and not complete (R265): into the window or out of it, studio word, window word, memory, words. -/
structure BXfer where
  toWin : Bool
  stu : Nat
  win : Nat
  y : Bool
  len : Nat
  deriving DecidableEq, Repr

/-- An instruction that waits: it takes two words or one, the local cycle since when, and the memory errors its operands meet, which
do not depend on the wait (R256, R412). -/
structure BStall where
  op : BOp
  two : Bool
  since : Nat
  bad : BitVec 2 := 0
  hits : List EccHit := []
  deriving DecidableEq, Repr

/-- An invocation in progress: its instance (4 × leg + point), cycles so far, transfers in issue order, words transferred,
the registers the last instruction loaded from memory, the input samples, the instruction that waits, and whether an uncorrectable
word was read, so that the output will be discarded (R412). -/
structure BRun where
  key : Nat
  cyc : Nat := 0
  xfers : List BXfer := []
  words : Nat := 0
  loaded : List BReg := []
  input : List Int := []
  stall : Option BStall := none
  dirty : Bool := false
  deriving DecidableEq, Repr

/-- A core: its active and its idle bank, the invocation that runs (R243, R263), and the words of its X and Y memories that lie in no
window of an instance and are not 0 (R241, R242). -/
structure BCore where
  act : BBank := {}
  idle : BBank := {}
  run : Option BRun := none
  x : Table (BitVec 32) := []
  y : Table (BitVec 32) := []
  deriving DecidableEq, Repr

/-- A loaded program (R257, R258): its image, and the address of its first code word in every group's store (R242). -/
structure BProg where
  owner : Nat
  code : List (BitVec 32)
  ximg : List (BitVec 32)
  yimg : List (BitVec 32)
  xwin : Nat
  ywin : Nat
  cycMax : Nat
  studio : Nat
  xferMax : Nat
  inOfs : Nat
  outOfs : Nat
  entry : Nat
  sam : Bool
  base : Nat := 32768
  deriving DecidableEq, Repr

/-- A program instance (R259 to R271): program, core, parameters, where its windows begin in the core's X and Y memories (R242, R249), the
words of its windows and studio region that are not 0, whether it runs, whether its end is committed, the last tick it was invoked,
ABORTED, and its statistics. -/
structure BInst where
  prog : Nat
  core : Nat
  params : List (BitVec 24)
  xb : Nat := 8192
  yb : Nat := 8192
  x : Table (BitVec 32) := []
  y : Table (BitVec 32) := []
  studio : Table (BitVec 32) := []
  live : Bool := false
  gone : Bool := false
  invAt : Option Nat := none
  aborted : Bool := false
  suspended : Bool := false
  consec : Nat := 0
  nInv : Nat := 0
  nAband : Nat := 0
  maxCyc : Nat := 0
  lastCause : Nat := 0
  sigDrop : Nat := 0
  sigAt : Option Nat := none
  faultSince : Nat := 0
  faultFirst : Nat := 0
  faultAt : Option Nat := none
  deriving DecidableEq, Repr

/-- The Brush array: cores by BRUSH_ID, programs by PROG_ID, instances by 4 × leg + point, and the customer words of the groups'
program stores that are not 0, by 65,536 × group + address (R242). -/
structure Brs where
  cores : Table BCore := []
  progs : Table BProg := []
  insts : Table BInst := []
  store : Table (BitVec 32) := []
  deriving DecidableEq, Repr

end Sys2Proof.Machine
end

