-- ==== Sys2Proof/Machine/StHost.lean ====
section
/-! DEFINITION. The state of the clock, the Easel and the host interface: everything R21 to R45, R79 to R118 and R336 to
R338 give the machine beside the registers. Log entries: 77, 78. -/

namespace Sys2Proof.Machine

/-- The hardware clock of R336 and the local time base. `t` is S × 10^9 + n with its fraction, in units of 2^−48 ns.
`cyc` counts the cycles of the 800 MHz time base since power-up; it is what "measured on the local clock" means (R26). -/
structure Clk where
  t : Nat := 0
  running : Bool := false
  cyc : Nat := 0
  deriving DecidableEq, Repr

/-- The Easel (R21 to R43). `now` is the last tick issued, `start` the clock time in ns at which it started and `startCyc`
the local cycle; `next` and `due` the tick to issue next and the clock time in ns of its start; each with its eighths of a ns
(R382). `follow`: tick starts come from the Meash markers (R24). `emit` is the tick whose
EMIT is open; `emitEndCyc` the local cycle at which it ends once a step or a new time line at B has fixed it (R26). `skipped` lists the
tick ranges (first, count) whose queued items the next GATHER discards (R26). `ovrSeen`: the stream handles, and 65536 + layouts, whose
EV_TICK_OVERRUN of this tick was raised (R41). `outFall`: the local time in ns at which the TICK_OUT pulse under way falls (R42). -/
structure Easel where
  running : Bool := false
  issued : Bool := false
  now : Nat := 0
  start : Nat := 0
  startFrac : Nat := 0
  startCyc : Nat := 0
  next : Nat := 0
  due : Nat := 0
  dueFrac : Nat := 0
  gather : Bool := false
  work : Bool := false
  worked : Bool := false
  emitted : Bool := false
  slow : List Nat := []
  emit : Option Nat := none
  emitEndCyc : Option Nat := none
  latched : Bool := false
  holding : Bool := false
  skipped : List (Nat × Nat) := []
  ovrLast : BitVec 64 := 0
  outFirst : Nat := 0
  outDone : Nat := 0
  follow : Bool := false
  stopAt : Option Nat := none
  ovrSeen : List Nat := []
  outFall : Option Nat := none
  deriving DecidableEq, Repr

/-- One event entry before it is written (R98). -/
structure Evt where
  code : BitVec 16
  seq : BitVec 16
  tick : BitVec 64
  source : BitVec 16
  p0 : Word
  p1 : Word
  p2 : Word
  p3 : Word
  deriving DecidableEq, Repr

/-- A completion entry before it is written (R93). -/
structure Cpl where
  h : CmdHdr
  opcode : BitVec 16
  status : BitVec 16
  res : List Word
  deriving DecidableEq, Repr

/-- One ring of a function (R82 to R88): the device index, the host index last taken, the index of the oldest command
not yet completed, the consecutive tick starts an entry has been held back (R106), and whether the stall was reported. -/
structure Ring where
  devIdx : BitVec 32 := 0
  hostIdx : BitVec 32 := 0
  done : BitVec 32 := 0
  held : Nat := 0
  stalled : Bool := false
  deriving DecidableEq, Repr

/-- One MSI-X vector (R107, R108): pending, entries that made it pending, and its Pending Bit Array bit. -/
structure Vec where
  pending : Bool := false
  count : Nat := 0
  pba : Bool := false
  deriving DecidableEq, Repr

/-- What a function keeps beside its page (R95 to R111): the next event SEQ, the held events, the loss record of R99, the disabled event
codes of R100, rings, vectors, the held completions with their completion ring, the cause of a reset in progress, a GEN_VF_RESET that
waits for it, whether timestamp entries were lost, the tick whose moderation point has been served, and what is to be fetched, in the
order of R95: command rings with the index up to which a poll told of commands. -/
structure Fn where
  seq : BitVec 16 := 0
  heldEvts : List Evt := []
  lostFirst : Option (BitVec 16) := none
  lostCnt : Nat := 0
  masked : List (BitVec 16) := []
  rings : Table Ring := []
  vecs : Table Vec := []
  heldCpls : List (Nat × Cpl) := []
  reset : Option Nat := none
  resetEnd : Nat := 0
  resetCmds : List CmdHdr := []
  tsLost : Bool := false
  modAt : Option Nat := none
  fetch : List (Nat × BitVec 32) := []
  deriving DecidableEq, Repr

/-- A fetched command that has not started: its header, FENCE, the status that refuses it at once, or the command. -/
structure Waiting where
  h : CmdHdr
  fence : Bool
  opcode : BitVec 16
  early : Option (BitVec 16)
  cmd : Option Instr
  deriving DecidableEq, Repr

/-- The host interface: functions, fetched commands waiting and running, doorbell reads issued and not yet returned, the MSI-X tables (key
0x1000 × f + offset), MSI-X Enable and Function Mask by function (bits 31 and 30, as in the capability's first word), the Advanced Error
Reporting registers (key 0x20 × f + offset), SR-IOV VF Enable and NumVFs, the next poll of the tick, whether the PCIe link is up, and the
data the last register read returned. -/
structure Hif where
  fns : Table Fn := []
  waiting : List Waiting := []
  running : List CmdHdr := []
  reads : List (Nat × Nat) := []
  msix : Table Word := []
  msixCtl : Table Word := []
  aer : Table Word := []
  vfEn : Bool := false
  numVfs : Nat := 0
  poll : Nat := 0
  pcieUp : Bool := false
  rdata : BitVec 64 := 0
  deriving DecidableEq, Repr

/-- What the device sends out at its balls while it carries out one command. -/
inductive OutMsg where
  /-- The MSI-X message of vector `v` of function `f` (R107). -/
  | msi (f v : Nat)
  /-- A TICK_OUT pulse for tick `n`, high for `w` ns (R42). -/
  | tickOut (n w : Nat)
  /-- A frame on Ethernet subport `s` of port `p`, without its FCS (R128, R173). -/
  | frame (p s : Nat) (bytes : List Byte)
  /-- A PPS_OUT pulse for second `n`, high for `w` ns (R348). -/
  | ppsOut (n w : Nat)
  /-- TICK_OUT is driven low before its pulse's width is over (R43). -/
  | tickLow
  /-- PPS_OUT is driven low before its pulse's width is over (R348). -/
  | ppsLow
  /-- A unit of type `t` on Meash port `m`: its body with the CRC (R372). -/
  | mshUnit (m t : Nat) (body : List Byte)
  | mshFrame (m l : Nat) (bytes : List Byte)
  /-- An error message of PCI Express for function `f`, fatal or not (R79). -/
  | pcieErr (f : Nat) (fatal : Bool)
  /-- What the JTAG port drives the balls to, cell by cell: none, the device drives them itself; none in a cell, it is not driven (R483). -/
  | balls (d : Option (List (Option Bool)))
  /-- JTAG_TDO at the falling edge of TCK (R483). -/
  | tdo (bit : Bool)
  /-- A read of the QSPI flash from byte `a`, by the commands of R482 (R428, R502). -/
  | qspi (a : Nat)
  /-- Memory Reads by function `f` from host address `a` (R502). -/
  | hostRead (f a : Nat)
  /-- A PMBus read of command `cmd` from the regulator at 7-bit address `a` (R482). -/
  | pmbus (a cmd : Nat)
  /-- The wake pattern starts or stops on lane 0 of Meash port `m` (R385). -/
  | mshWake (m : Nat) (on : Bool)
  deriving DecidableEq, Repr

end Sys2Proof.Machine
end

