-- ==== Sys2Proof/Machine/StJtag.lean ====
section
/-! DEFINITION. The state of the JTAG port (R483, IEEE 1149.1): its controller, instruction and registers.
Log entries: 93. -/

namespace Sys2Proof.Machine

/-- The states of the test access port's controller (IEEE 1149.1). -/
inductive TapState where
  | reset
  | idle
  | selDr
  | capDr
  | shDr
  | ex1Dr
  | pauseDr
  | ex2Dr
  | updDr
  | selIr
  | capIr
  | shIr
  | ex1Ir
  | pauseIr
  | ex2Ir
  | updIr
  deriving DecidableEq, Repr

/-- The instructions (R483). -/
inductive TapInstr where
  | bypass
  | idcode
  | sample
  | extest
  | clamp
  | highz
  | pulse
  | train
  deriving DecidableEq, Repr

/-- The JTAG port: the controller's state, the instruction, the register between TDI and TDO (next bit to TDO first), the update latches
of the boundary register, and the inversion that EXTEST_PULSE and EXTEST_TRAIN put on the lanes (IEEE 1149.6). -/
structure Jtag where
  st : TapState := .reset
  ir : TapInstr := .idcode
  sh : List Bool := []
  bound : List Bool := []
  inv : Bool := false
  deriving DecidableEq, Repr

end Sys2Proof.Machine
end

