-- ==== Sys2Proof/Machine/StMem.lean ====
section
/-! DEFINITION. The state of memory (R390 to R422) and of calibration (R423 to R437) beside their registers. -/

namespace Sys2Proof.Machine

/-- A record of the error log (R414). -/
structure EccLog where
  kind : Nat
  target : Nat
  synd : Nat
  addr : Nat
  tick : Nat
  deriving DecidableEq, Repr

/-- What the uncorrectable errors of a target have not yet reported (R413, R420): words since the last EV_MEM_UE, the LOG_KIND of the
first of them, and that event's tick. -/
structure UeRec where
  since : Nat := 0
  first : Nat := 0
  last : Option Nat := none
  deriving DecidableEq, Repr

/-- A sweep in progress (R417). -/
structure SweepRun where
  h : CmdHdr
  target : Nat
  repair : Bool
  deriving DecidableEq, Repr

/-- A migration (R403): the slot, the failed pseudo-channel, the next chunk, the words it poisoned. -/
structure Migration where
  slot : Nat
  failed : Nat
  chunk : Nat := 0
  poisoned : Nat := 0
  deriving DecidableEq, Repr

/-- A stack (R390, R402): the physical pseudo-channel that carries each slot, the migration, the pseudo-channel reported as
failed, the MiB a finished migration moved, and the ticks of the last temperature reading. -/
structure Stack where
  slots : List Nat := []
  mig : Option Migration := none
  failed : Option Nat := none
  moved : Nat := 0
  tempAt : Option Nat := none
  deriving DecidableEq, Repr

/-- A pseudo-channel (R399 to R402, R433): the tick and temperature of its last retrain, the margins of its last good setting by byte lane
and side, the ladder's step (0 none, 1 search, 3 widened) with the pieces done, the tick and segment of the last one, its uncorrectable
words by tick, and whether training or the ladder failed. -/
structure Pc where
  at' : Nat := 0
  temp : Option Int := none
  margins : List Nat := []
  step : Nat := 0
  pieces : Nat := 0
  pieceAt : Option (Nat × Nat) := none
  ues : List Nat := []
  fail : Bool := false
  deriving DecidableEq, Repr

/-- The masks of R391 in force (R392). -/
structure HbmMasks where
  ba0 : Nat
  ba1 : Nat
  bg0 : Nat
  bg1 : Nat
  deriving DecidableEq, Repr

/-- The three areas of HBM, each by its first unit of 64 MiB and its units (R393). -/
structure HbmAreas where
  fw : Nat × Nat
  spill : Nat × Nat
  video : Nat × Nat
  deriving DecidableEq, Repr

/-- Memory: the error log, UE reports by target, the tick of the last leak, the sweep, the soft-repair list (AON domain), the stacks and
pseudo-channels (32 × stack + p), a takeover started outside RUN since the last PRIME (R405), the words that hold poison (target, word
address; R403, R410), the masks the controller took at the entry to RUN, and the placement. -/
structure Mem where
  log : List EccLog := []
  ue : Table UeRec := []
  leakAt : Nat := 0
  sweep : Option SweepRun := none
  repairs : List (Nat × Nat × Nat) := []
  hbmStacks : Table Stack := []
  pcs : Table Pc := []
  took : Bool := false
  poison : List (Nat × Nat) := []
  masks : Option HbmMasks := none
  areas : Option HbmAreas := none
  deriving DecidableEq, Repr

/-- A Gesso record in force (R425): which copies are valid, the outcome (none: three equal copies), the limits, the items. -/
structure GessoRec where
  mask : Nat
  outcome : Option Nat
  lo : Int
  hi : Int
  items : List Int
  deriving DecidableEq, Repr

/-- An entry of a Glaze image (R426). -/
structure GlzEnt where
  cls : Nat
  item : Nat
  index : Nat
  value : BitVec 16
  deriving DecidableEq, Repr

/-- Calibration: Gesso records in force and live values by 65536 × class + index, the Glaze store (AON domain), the image
applied at the last PRIME, the tick of the last EV_CAL_TRIM_LIMIT by 256 × key + item (R432), for a SerDes lane the setting that its
live one replaces step by step and the cycle since when (R431), and the tick of a record's last trim slot (R430). -/
structure Cal where
  recs : Table GessoRec := []
  live : Table (List Int) := []
  store : Option (List GlzEnt) := none
  applied : List GlzEnt := []
  limAt : Table Nat := []
  moves : Table (List Int × Nat) := []
  slotAt : Table Nat := []
  deriving DecidableEq, Repr

end Sys2Proof.Machine
end

