-- ==== Sys2Proof/Machine/StPtp.lean ====
section
/-! DEFINITION. The state of the time unit and of the PTP protocol (R336 to R355) beside their registers. -/

namespace Sys2Proof.Machine

/-- A step staged under R342: the boundary B in ns of unstepped time, an absolute time in ns or an offset, whether the
servo staged it, whether PTP_STEP opened an epoch with it. -/
structure PtpStep where
  at' : Nat
  abs : Option Nat
  off : Int
  servo : Bool
  epoch : Bool
  deriving DecidableEq, Repr

/-- The last Announce of a master that a PTP port hears (R350): what the alternate BMCA compares, in its order, the
sender's port identity, currentUtcOffset, and the local time of its receipt. -/
structure Announce where
  cls : Nat
  acc : Nat
  var : Nat
  prio2 : Nat
  gm : Nat
  steps : Nat
  sender : Nat
  utc : Nat
  at' : Nat
  deriving DecidableEq, Repr

/-- A two-step Sync that waits for its Follow_Up: port, sender, sequenceId, t2, and the count of steps when t2 was taken. -/
structure SyncWait where
  port : Nat
  sender : Nat
  seq : Nat
  t2 : Nat
  gen : Nat
  deriving DecidableEq, Repr

/-- A Delay_Req sent: port, sequenceId, t3 once sent, with the count of steps then. -/
structure DelayReq where
  port : Nat
  seq : Nat
  t3 : Option (Nat × Nat)
  deriving DecidableEq, Repr

/-- Time: the configuration of PTP_SERVO_CFG, I and the lock run of R352, the staged step, the number of steps applied,
masters by port, the selected port, Syncs and Delay_Reqs under way, the last completed exchange by port (t3, t4, steps),
last θ and meanPathDelay, the local times of the last measurement, of the entry to HOLDOVER and of the last Delay_Req,
the tick of the last EV_PTP_OFFSET, and PPS_IN: edges, the local time of the last accepted edge, lost. PPS_OUT (R348): the clock time from
which the next pulse's second boundary is looked for, whether a step set it, the second whose pulse rose before the step to it was
applied, and the local time at which the pulse under way falls. `tsq`: timestamp entries, by time, that an earlier one can still
precede (R345). -/
structure Ptp where
  servo : Bool := false
  src : Nat := 0
  ports : Nat := 0
  domain : Nat := 0
  dest : Bool := false
  prios : List Nat := []
  stepNs : Nat := 0
  lockCnt : Nat := 0
  lockNs : Nat := 0
  i : Int := 0
  run : Nat := 0
  staged : Option PtpStep := none
  gen : Nat := 0
  anns : Table Announce := []
  master : Option Nat := none
  sync : Option SyncWait := none
  req : Option DelayReq := none
  seq : Nat := 0
  exch : Table (Nat × Nat × Nat) := []
  theta : Int := 0
  mpd : Int := 0
  measAt : Nat := 0
  holdAt : Nat := 0
  reqAt : Option Nat := none
  offAt : Option Nat := none
  ppsN : Nat := 0
  ppsAt : Nat := 0
  ppsEdge : Bool := false
  ppsLost : Bool := false
  ppsFrom : Nat := 0
  ppsStep : Bool := false
  ppsEarly : Option Nat := none
  ppsFall : Option Nat := none
  tsq : List (Nat × List Word) := []
  deriving DecidableEq, Repr

end Sys2Proof.Machine
end

