-- ==== Sys2Proof/Machine/StPwr.lean ====
section
/-! DEFINITION. The state of the power manager (R438 to R465) beside its registers. Log entries: 77, 110. -/

namespace Sys2Proof.Machine

/-- A power-up in progress (R451): of rails from RESET (0), of domains from DOZE (1), from SLEEP (2), or of the domains that BOOT or
PRIME has powered (3); the rails and the domains that were on before it, failed attempts, and whether it waits 10 ms before the next. -/
structure PowerUp where
  kind : Nat
  before : Nat
  doms : Nat
  fails : Nat := 0
  waits : Bool := false
  deriving DecidableEq, Repr

/-- A mode transition in progress (R445): its target, its effect tick, and its command while the completion is due. -/
structure Trans where
  target : Nat
  tick : Nat
  h : Option CmdHdr
  deriving DecidableEq, Repr

/-- What EV_PWR_WAKE will report (R465). -/
structure WakeRep where
  src : Nat
  port : Nat
  held : Bool
  count : Nat
  retries : Nat
  deriving DecidableEq, Repr

/-- The power manager: in a cold reset, held in RESET, reset pins asserted (bit 0 PERST_N, 1 SYS_RESET_N), rails on, the
rails a lowering in progress leaves on, the power-up, ALERT_N's reasons (bit 0 fault, 1 boot, 2 firmware stop, 3 warning), WAKE_N, the
transition in progress and the requests waiting (command, target), the degraded condition (open or not), SLEEP's steps 1 to 3 done,
the clock when it stopped, the wake source latched and port, EV_PWR_WAKE to raise, consecutive readings at PWR_CRIT_C, the effect tick
of the DRAIN it caused, the tick of the last reading, residency counters (1 to 7 modes, 16 + g groups), FAN_PWM duty, pad
groups to release, firmware stopped, training done, the image comes from host memory (R502), the EMIT after whose end thermal
shutdown follows (R461), the sleep count C of the last SLEEP (R354), the rails whose up-sequence is complete (R441), the GPIO pads latched
as outputs with their levels (R455), the cycle since when edges of CLK32K_IN in BOOT or SLEEP are not yet counted (R459), and the tick
of the last PMBus poll (R482). -/
structure Pwr where
  cold : Bool := true
  held : Bool := false
  pins : Nat := 0
  rails : Nat := 0
  lower : Option Nat := none
  up : Option PowerUp := none
  alert : Nat := 0
  wakeN : Bool := false
  trans : Option Trans := none
  waiting : List (CmdHdr × Nat) := []
  cond : Option Bool := none
  saved : Bool := false
  sleepT : Nat := 0
  wake : Option (Nat × Nat) := none
  woken : Bool := false
  wakeRep : Option WakeRep := none
  hot : Nat := 0
  critAt : Option Nat := none
  tempAt : Option Nat := none
  resid : Table Nat := []
  fan : Nat := 100
  rel : Nat := 0
  fwStop : Bool := false
  trained : Bool := false
  bootHost : Bool := false
  shutAt : Option Nat := none
  sleepC : Nat := 0
  good : Nat := 0
  gpioHeld : Nat × Nat := (0, 0)
  edgeAt : Nat := 0
  pmbusAt : Option Nat := none
  deriving DecidableEq, Repr

end Sys2Proof.Machine
end

