-- ==== Sys2Proof/Machine/State.lean ====
section
/-! DEFINITION. The state of the device, the reasons a step can stop, and the state after reset.
Log entries: 2, 11, 78, 79. -/

namespace Sys2Proof.Machine

/-- Why the machine stops with a fault. -/
inductive Fault where
  /-- Raised by no meaning: every access and every command has an effect in the spec, so the model never faults. Safe. -/
  | neverRaised
  deriving DecidableEq, Repr

/-- Why a command has no meaning. -/
inductive Refusal where
  /-- Raised by exec's arm of a command that is not modelled yet. Safe: nothing is claimed of it. -/
  | notModelled (mnemonic : String)
  deriving DecidableEq, Repr

/-- Everything the spec gives the device, and the queue of commands waiting. `regs` holds every register by its BAR0
offset, unlisted at its reset value; `hostMem` every word of host memory that the device wrote, by address / 4, unlisted
0; `out` what the last command sent out at the balls. -/
structure State where
  pending : List Instr := []
  regs : Table Word := []
  hostMem : Table Word := []
  clk : Clk := {}
  easel : Easel := {}
  hif : Hif := {}
  agenda : List Staged := []
  adm : Adm := {}
  net : Net := {}
  fwd : Fwd := {}
  key : KeySt := {}
  cip : Cip := {}
  aud : Aud := {}
  brs : Brs := {}
  vid : Vid := {}
  cnv : Cnv := {}
  mem : Mem := {}
  cal : Cal := {}
  ptp : Ptp := {}
  msh : Msh := {}
  pwr : Pwr := {}
  jtag : Jtag := {}
  out : List OutMsg := []
  deriving DecidableEq, Repr

/-- The device right after reset: mode RESET, every register at its reset value, every table empty. -/
def State.reset : State := {}

end Sys2Proof.Machine
end

