-- ==== Sys2Proof/Machine/Ops.lean ====
section
/-! DEFINITION. The named operations every meaning is built from: registers and their fields, host memory, the clock and
tick arithmetic, completions (R93 to R97), events (R98 to R100), interrupts (R107, R108), and the rings' indices (R85 to
R88). Log entries: 1, 3, 4, 6, 11, 12, 15, 78, 80, 91. -/

namespace Sys2Proof.Machine

/-- A meaning: the change `k` makes to the state, starting with nothing sent out yet, and to everything but the queue of waiting
commands. Every command completes. -/
def act (k : State → State) (s : State) : Host.Outcome State Fault Refusal :=
  .next { k { s with out := [] } with pending := s.pending }

/-- Send out `m`. -/
def emitOut (s : State) (m : OutMsg) : State := { s with out := s.out ++ [m] }

/-! ## Registers -/

/-- The word of the register at BAR0 offset `a`. -/
def reg (s : State) (a : Nat) : Word := mget regReset s.regs a

/-- The state with `w` in the register at `a`. -/
def setReg (s : State) (a : Nat) (w : Word) : State := { s with regs := mset regReset s.regs a w }

/-- A field's value. -/
def fld (s : State) (f : Field) : Nat := bitsOf (reg s f.addr) f.hi f.lo

/-- The state with `v` in a field. -/
def setFld (s : State) (f : Field) (v : Nat) : State := setReg s f.addr (setBits (reg s f.addr) f.hi f.lo v)

/-- Whether a one-bit field is 1. -/
def bit (s : State) (f : Field) : Bool := fld s f = 1

/-- Set a one-bit field (a sticky status bit). -/
def setBit (s : State) (f : Field) : State := setFld s f 1

/-- Add `n` to a count that holds at its largest value (R498). -/
def bump (s : State) (f : Field) (n : Nat) : State :=
  setFld s f (min (fld s f + n) (2 ^ (f.hi + 1 - f.lo) - 1))

/-- The mode (R20): 0 RESET, 1 BOOT, 2 PRIME, 3 RUN, 4 DEGRADED, 5 DRAIN, 6 DOZE, 7 SLEEP. -/
def mode (s : State) : Nat := fld s SYS_MODE

/-- Whether the block at BAR0 offset `a` answers in the mode of the device (R495). -/
def answers (s : State) (a : Nat) : Bool :=
  match mode s with
  | 0 => false
  | 7 => false
  | 1 => decide (a < 0x200000) || decide (0x1200000 ≤ a)
  | _ => true

/-! ## Host memory -/

/-- The word at byte address `a` of host memory, as the device wrote it. -/
def hostWord (s : State) (a : Nat) : Word := mget (fun _ => 0) s.hostMem (a / 4)

/-- Write one little-endian word at byte address `a` (R6). -/
def hostWrite (s : State) (a : Nat) (w : Word) : State := { s with hostMem := mset (fun _ => 0) s.hostMem (a / 4) w }

/-- Write consecutive words from byte address `a`. -/
def hostWrites (s : State) (a : Nat) (ws : List Word) : State :=
  match ws with
  | [] => s
  | w :: r => hostWrites (hostWrite s a w) (a + 4) r

/-! ## The clock and the tick (R21, R22, R336) -/

/-- The clock's whole nanoseconds, S × 10^9 + n. -/
def ns (s : State) : Nat := s.clk.t / 2 ^ 48

/-- RATE, signed, in 2^−44 (R339). -/
def rate (s : State) : Int := (reg s 0xd00038).toInt

/-- The increment per cycle in 2^−48 ns: 5 × 2^46 + 20 × RATE (R336). -/
def incOf (r : Int) : Nat := (5 * 2 ^ 46 + 20 * r).toNat

/-- Advance the time base by `k` cycles; the clock follows while it runs. -/
def cycles (s : State) (k : Nat) : State :=
  { s with clk := { s.clk with
      cyc := s.clk.cyc + k
      t := if s.clk.running then s.clk.t + k * incOf (rate s) else s.clk.t } }

/-- Let time pass until the clock first reaches `t` ns; a time already reached changes nothing. -/
def advanceTo (s : State) (t : Nat) : State :=
  let d := t * 2 ^ 48 - s.clk.t
  let inc := incOf (rate s)
  if s.clk.running ∧ 0 < inc then cycles s ((d + inc - 1) / inc) else s

/-- Let `n` ns of local time pass: 0.8 cycles each (R336). -/
def advanceLocal (s : State) (n : Nat) : State := cycles s ((4 * n + 4) / 5)

/-- Local time in ns, rounded down. -/
def localNs (s : State) : Nat := s.clk.cyc * 5 / 4

/-- The tick number in which clock time `t` ns lies (R21). -/
def tickOf (t : Nat) : Nat := t / 1000000000 * 1200 + (3 * (t % 1000000000) + 2) / 2500000

/-- The segment, 1 to 4, that the present instant of the tick in progress lies in (R30). -/
def segNow (s : State) : Nat :=
  let o := ns s - s.easel.start
  if o < 83333 then 1 else if o < 375000 then 2 else if o < 708333 then 3 else 4

/-- The clock time in ns at which tick `n` starts (R22). -/
def tickStartNs (n : Nat) : Nat := n / 1200 * 1000000000 + n % 1200 * 2500000 / 3

/-- The length of tick `n` in ns (R22). -/
def tickLen (n : Nat) : Nat := if n % 3 = 2 then 833334 else 833333

/-- The tick number in progress (the last one issued), which events and completions carry. -/
def curTick (s : State) : Nat := s.easel.now

/-- The tick at whose start a change staged now takes effect (R35). -/
def effTick (s : State) : Nat := if s.easel.latched then s.easel.now + 2 else s.easel.now + 1

/-- The clock time in ns at which EMIT(`n`) closes: 375,000 ns into the tick after it (R29). -/
def emitCloseNs (s : State) (n : Nat) : Nat := (if s.easel.now = n then s.easel.due else s.easel.start) + 375000

/-- Time runs on to the end of the open EMIT (R29, R26). -/
def toEmitEnd (s : State) : State :=
  match s.easel.emit, s.easel.emitEndCyc with
  | none, _ => s
  | some n, none => advanceTo s (emitCloseNs s n)
  | some _, some c => cycles s (c - s.clk.cyc)

/-- No EMIT is open, or the open one is at its end. -/
def emitShut (s : State) : Bool :=
  match s.easel.emit, s.easel.emitEndCyc with
  | none, _ => true
  | some n, none => decide (emitCloseNs s n ≤ ns s)
  | some _, some c => decide (c ≤ s.clk.cyc)

/-! ## Functions and rings (R82 to R88) -/

/-- What function `f` keeps. -/
def fnOf (s : State) (f : Nat) : Fn := (tget s.hif.fns f).getD {}

/-- Replace what function `f` keeps. -/
def setFn (s : State) (f : Nat) (x : Fn) : State := { s with hif := { s.hif with fns := tset s.hif.fns f x } }

/-- Ring `q` of function `f`. -/
def ringOf (s : State) (f q : Nat) : Ring := (tget (fnOf s f).rings q).getD {}

/-- Replace ring `q` of function `f`. -/
def setRing (s : State) (f q : Nat) (r : Ring) : State :=
  let x := fnOf s f
  setFn s f { x with rings := tset x.rings q r }

/-- The number of entries of a ring, 2^HIF_RING_LOG2 (R83). -/
def ringSize (s : State) (f q : Nat) : Nat := 2 ^ fld s (HIF_RING_LOG2 f q)

/-- The byte address of a ring's base (R83). -/
def ringBase (s : State) (f q : Nat) : Nat :=
  fld s (HIF_RING_BASE_HI f q) * 2 ^ 32 + fld s (HIF_RING_BASE_LO f q) * 2 ^ 12

/-- The pass phase of index `i` in a ring of `n` entries (R85). -/
def passPhase (i : BitVec 32) (n : Nat) : Nat := if i.toNat / n % 2 = 0 then 1 else 0

/-- The slot of index `i` (R85). -/
def ringSlot (i : BitVec 32) (n : Nat) : Nat := i.toNat % n

/-- Whether the device may write the next entry of a device-filled ring (R87): enabled, not stopped on error, not full. -/
def ringOpen (s : State) (f q : Nat) : Bool :=
  bit s (HIF_RING_EN f q) && decide (fld s (HIF_RING_STATE f q) ≠ 3)
    && decide (((ringOf s f q).devIdx - (ringOf s f q).hostIdx).toNat < ringSize s f q)

/-- Whether a new host index `v` is valid (R88): `v0` the previous value, `c` the bound's index, `n` the ring's size. -/
def hostIdxValid (hostFilled : Bool) (v v0 c : BitVec 32) (n : Nat) : Bool :=
  if hostFilled then decide ((v - v0).toNat + (v0 - c).toNat ≤ n)
  else decide ((v - v0).toNat ≤ (c - v0).toNat)

/-- HIF_FN_STATE is RESETTING, with or without enable held (R110, R111). -/
def resetting (s : State) (f : Nat) : Bool :=
  fld s (HIF_FN_STATE f) = 2 || fld s (HIF_FN_STATE f) = 3

/-- The CTL domain is powered: firmware can run (R18). -/
def ctlOn (s : State) : Bool := (fld s PWR_DOM_ON).testBit 2

/-- Nobody carries out a command of function `f`: it is being reset (R110), CTL is unpowered (R18), or firmware has stopped (R514). -/
def unserved (s : State) (f : Nat) : Bool := resetting s f || !ctlOn s || s.pwr.fwStop

/-- Write to function `f`'s host memory; nothing while it is being reset (R110). -/
def fnWrites (s : State) (f a : Nat) (ws : List Word) : State := if resetting s f then s else hostWrites s a ws

/-! ## Interrupts (R107, R108) -/

/-- Vector `v` of function `f`. -/
def vecOf (s : State) (f v : Nat) : Vec := (tget (fnOf s f).vecs v).getD {}

def setVec (s : State) (f v : Nat) (x : Vec) : State :=
  let g := fnOf s f
  setFn s f { g with vecs := tset g.vecs v x }

/-- MSI-X of function `f` is not enabled, or all its vectors are masked (PCI Express: both bits are 0 after reset). -/
def msixOff (s : State) (f : Nat) : Bool :=
  let c := (tget s.hif.msixCtl f).getD 0
  !c.getLsbD 31 || c.getLsbD 30

/-- Whether vector `v` is masked: its function's MSI-X is, or bit 0 of the table entry's Vector Control is set. PCI Express leaves that
bit 1 after reset. -/
def vecMasked (s : State) (f v : Nat) : Bool :=
  msixOff s f || ((tget s.hif.msix (f * 0x1000 + v * 16 + 12)).getD 1).getLsbD 0

/-- Send vector `v`'s message, or set its Pending Bit Array bit while masked. Sending clears the pending state and the
count (R108). -/
def sendMsi (s : State) (f v : Nat) : State :=
  if resetting s f then s
  else if vecMasked s f v then setVec s f v { vecOf s f v with pba := true }
  else emitOut (setVec s f v {}) (.msi f v)

/-- Make vector `v` pending after an entry was written, and send at once where R108 says so: no moderation, IRQ_NOW, or
the entry count reached. -/
def vecIrq (s : State) (f v : Nat) (now : Bool) : State :=
  let x := vecOf s f v
  let s := setVec s f v { x with pending := true, count := x.count + 1 }
  if fld s (HIF_VEC_MOD_TICKS f v) = 0 ∨ now ∨
      (fld s (HIF_VEC_MOD_CNT f v) ≠ 0 ∧ fld s (HIF_VEC_MOD_CNT f v) ≤ x.count + 1)
  then sendMsi s f v else s

/-- The vector of ring `q`, where its interrupt is enabled (R107). -/
def ringIrq (s : State) (f q : Nat) (now : Bool) : State :=
  if bit s (HIF_RING_IRQ_EN f q) then vecIrq s f (fld s (HIF_RING_VEC f q)) now else s

/-- The message of the function's error vector, never moderated (R106, R108). -/
def sendErrVec (s : State) (f : Nat) : State := sendMsi s f (fld s (HIF_FN_ERR_VEC f))

/-! ## Errors of PCI Express (R79, R90, R94) -/

/-- What a word of Advanced Error Reporting reads as after reset (PCI Express): at 4 and 16 the status, at 8 and 20 the masks, at 12 the
severity. -/
def aerReset (k : Nat) : Word :=
  match k % 0x20 with
  | 8 => 0x00400000
  | 12 => 0x00462030
  | 20 => 0x0000e000
  | _ => 0

def aerReg (s : State) (f o : Nat) : Word := mget aerReset s.hif.aer (0x20 * f + o)

def setAer (s : State) (f o : Nat) (w : Word) : State :=
  { s with hif := { s.hif with aer := mset aerReset s.hif.aer (0x20 * f + o) w } }

/-- An uncorrectable error of function `f` is logged and, unless masked, reported by its severity. -/
def aerErr (s : State) (f : Nat) (b : Nat) : State :=
  let s := setAer s f 4 (aerReg s f 4 ||| BitVec.ofNat 32 (2 ^ b))
  if (aerReg s f 8).getLsbD b then s else emitOut s (.pcieErr f ((aerReg s f 12).getLsbD b))

/-- A read of function `f`'s host memory failed: HIF_ST_DMA_ERR, and what PCI Express logs of it. -/
def dmaErr (s : State) (f : Nat) : State :=
  aerErr (setBit s (HIF_ST_DMA_ERR f)) f (Config.aerBit f s.clk.cyc).toNat

/-! ## Writing ring entries -/

/-- Write the next entry of device-filled ring `q`: its words, with the pass phase in bit 31 of word 3 (R87), and the
vector. -/
def pushEntry (s : State) (f q : Nat) (ws : List Word) (irqNow : Bool) : State :=
  let r := ringOf s f q
  let n := ringSize s f q
  let a := ringBase s f q + ringSlot r.devIdx n * (4 * ws.length)
  let ph : Word := BitVec.ofNat 32 (passPhase r.devIdx n * 2 ^ 31)
  let s := hostWrites s a (ws.modify 3 (· ||| ph))
  let s := setRing s f q { r with devIdx := r.devIdx + 1 }
  ringIrq s f q irqNow

/-- Two halves of a word. -/
def halves (hi lo : BitVec 16) : Word := hi ++ lo

def lo32 (x : Nat) : Word := BitVec.ofNat 32 x
def hi32 (x : Nat) : Word := BitVec.ofNat 32 (x / 2 ^ 32)

/-- The words of an event entry without its phase (R98). -/
def Evt.words (e : Evt) : List Word :=
  [halves e.code e.seq, e.tick.setWidth 32, (e.tick >>> 32).setWidth 32, e.source.setWidth 32, e.p0, e.p1, e.p2, e.p3]

/-- The words of a completion entry without its phase (R93); the result area is padded to four words. -/
def Cpl.words (c : Cpl) (tick : Nat) : List Word :=
  [halves c.status c.h.tag, halves c.opcode (c.h.idx.setWidth 16), lo32 tick, c.h.ring.setWidth 32 <<< 16]
    ++ (c.res ++ [0, 0, 0, 0]).take 4

/-! ## Events (R98 to R100) -/

/-- The events that GEN_EVENT_MASK cannot disable (R100). -/
def unmaskable (c : BitVec 16) : Bool := c = EV_GEN_EVT_LOST || c = EV_GEN_RING_ERR

/-- Write the EV_GEN_EVT_LOST entry that comes first after a loss (R99). -/
def writeLost (s : State) (f : Nat) : State :=
  let x := fnOf s f
  match x.lostFirst with
  | some q =>
    if ringOpen s f 32 then
      let e : Evt := ⟨EV_GEN_EVT_LOST, q, BitVec.ofNat 64 (curTick s), 0, lo32 x.lostCnt, 0, 0, 0⟩
      pushEntry (setFn s f { x with lostFirst := none, lostCnt := 0 }) f 32 e.words false
    else s
  | none => s

/-- Write held events while the event ring has space, the loss entry first (R99); `n` bounds the count. -/
def drainEvts (s : State) (f : Nat) (n : Nat) : State :=
  match n with
  | 0 => s
  | k + 1 =>
    let s := writeLost s f
    match (fnOf s f).lostFirst, (fnOf s f).heldEvts with
    | none, e :: r =>
      if ringOpen s f 32 then
        drainEvts (pushEntry (setFn s f { fnOf s f with heldEvts := r }) f 32 e.words false) f k
      else s
    | _, _ => s

/-- An event arises for function `f`: numbered and written, held, or lost (R99); discarded while the function is being
reset; nothing when its code is disabled (R100). -/
def raise (s : State) (f : Nat) (code source : BitVec 16) (p0 p1 p2 p3 : Word) : State :=
  let x := fnOf s f
  if resetting s f ∨ (x.masked.contains code ∧ ¬ unmaskable code) then s
  else
    let e : Evt := ⟨code, x.seq, BitVec.ofNat 64 (curTick s), source, p0, p1, p2, p3⟩
    let s := setFn s f { x with seq := x.seq + 1 }
    if x.heldEvts = [] ∧ x.lostFirst = none ∧ ringOpen s f 32 then pushEntry s f 32 e.words false
    else if x.heldEvts.length < 32 then setFn s f { fnOf s f with heldEvts := x.heldEvts ++ [e] }
    else
      let s := setFn s f { fnOf s f with
        lostFirst := some (x.lostFirst.getD x.seq), lostCnt := min (x.lostCnt + 1) 0xffffffff }
      setBit (bump s (HIF_EVT_LOST_CNT f) 1) (HIF_ST_EVT_LOST f)

/-! ## Completions (R93 to R97) -/

/-- The completion ring of a command: 16 + HIF_RING_CPL of its command ring. -/
def cplRing (s : State) (h : CmdHdr) : Nat := 16 + fld s (HIF_RING_CPL h.fn.toNat h.ring.toNat)

/-- Write one completion entry; the command's slot returns to the host (R86). -/
def writeCpl (s : State) (cq : Nat) (c : Cpl) : State :=
  let f := c.h.fn.toNat
  let q := c.h.ring.toNat
  let r := ringOf s f q
  pushEntry (setRing s f q { r with done := if r.done = c.h.idx then c.h.idx + 1 else r.done }) f cq (c.words (curTick s)) c.h.irqNow

/-- Write held completions of ring `cq` while it has space (R96); `n` bounds the count. -/
def drainCpls (s : State) (f cq : Nat) (n : Nat) : State :=
  match n with
  | 0 => s
  | k + 1 =>
    match (fnOf s f).heldCpls.find? (fun p => p.1 = cq) with
    | some (_, c) =>
      if ringOpen s f cq then
        let s := setFn s f { fnOf s f with heldCpls := (fnOf s f).heldCpls.eraseP (fun p => p.1 = cq) }
        drainCpls (writeCpl s cq c) f cq k
      else s
    | none => s

/-- Complete a command: the entry is written, or held while its completion ring is full, not enabled or stopped (R87,
R96). A function being reset gets no completion (R110), and none comes once firmware has stopped (R514). The command no longer runs. -/
def complete (s : State) (h : CmdHdr) (op st : BitVec 16) (res : List Word) : State :=
  let f := h.fn.toNat
  let s := { s with hif := { s.hif with running := s.hif.running.filter (· ≠ h) } }
  if resetting s f || s.pwr.fwStop then s
  else
    let cq := cplRing s h
    let c : Cpl := ⟨h, op, st, res⟩
    if (fnOf s f).heldCpls.all (fun p => p.1 ≠ cq) ∧ ringOpen s f cq then writeCpl s cq c
    else setFn s f { fnOf s f with heldCpls := (fnOf s f).heldCpls ++ [(cq, c)] }

/-! ## The common part of a host command (R94) -/

/-- The checks of R94 that come before the chapter's own, on a command's named fields: reserved to function 0; a reserved
encoding; the mode; a host address's alignment; a failed read of host memory. Each names the status it gives. -/
structure Pre where
  fn0 : Bool := false
  reserved : Bool := false
  modes : List Nat := [0, 1, 2, 3, 4, 5, 6, 7]
  misaligned : Bool := false
  dmaFailed : Bool := false

/-- The first status of R94's steps 2 to 6 that applies. -/
def Pre.status (p : Pre) (s : State) (h : CmdHdr) : Option (BitVec 16) :=
  if p.fn0 && h.fn ≠ 0 then some GEN_ST_NOT_PERMITTED
  else if p.reserved then some GEN_ST_RESERVED
  else if !p.modes.contains (mode s) then some GEN_ST_MODE
  else if p.misaligned then some GEN_ST_ALIGN
  else if p.dmaFailed then some GEN_ST_DMA
  else none

/-- A result a chapter's check gives: a status with its result area, and the state it leaves. -/
structure Res where
  st : BitVec 16
  area : List Word := []

/-- Success with a result area. -/
def ok (area : List Word := []) : Res := { st := ST_OK, area := area }

/-- Refused with a status of the opcode's range. -/
def no (st : BitVec 16) (area : List Word := []) : Res := { st := st, area := area }

/-- A host command that ends at once: R94's checks, the chapter's effect `k`, and the completion (R97). A command of a
function being reset (R110), and any while CTL is unpowered (R18), has no effect and no completion. -/
def command (h : CmdHdr) (op : BitVec 16) (p : Pre) (k : State → State × Res) (s : State) : State :=
  if unserved s h.fn.toNat then s
  else
    match p.status s h with
    | some st =>
      let s := if st = GEN_ST_DMA then dmaErr s h.fn.toNat else s
      complete s h op st []
    | none =>
      let r := k s
      complete r.1 h op r.2.st r.2.area

/-- A host command that may go on after it is carried out: as `command`, but where `k` gives no result the command stays
running and its completion comes with a later event. -/
def commandLong (h : CmdHdr) (op : BitVec 16) (p : Pre) (k : State → State × Option Res) (s : State) : State :=
  if unserved s h.fn.toNat then s
  else
    match p.status s h with
    | some st =>
      let s := if st = GEN_ST_DMA then dmaErr s h.fn.toNat else s
      complete s h op st []
    | none =>
      match k s with
      | (s, some r) => complete s h op r.st r.area
      | (s, none) => { s with hif := { s.hif with running := s.hif.running ++ [h] } }

/-- Stage a change for the start of tick `e`. -/
def stage (s : State) (e : Nat) (c : Change) : State := { s with agenda := s.agenda ++ [⟨e, false, c⟩] }

/-- Stage a change for the end of EMIT(`e`). -/
def stageEnd (s : State) (e : Nat) (c : Change) : State := { s with agenda := s.agenda ++ [⟨e, true, c⟩] }

/-- The result area of a command that changes the data path: its effect tick (R35, R97). -/
def effArea (e : Nat) : List Word := [lo32 e, hi32 e]

end Sys2Proof.Machine
end

