-- ==== Sys2Proof/Machine/Admission.lean ====
section
/-! DEFINITION. Admission (R46 to R78): when it is open, the checks of R52 and R58, the admission map, and the meanings of
the ADM commands. Log entries: 29, 38, 83, 84, 87, 95, 107. -/

namespace Sys2Proof.Machine

/-! ## Open and closed (R46) -/

/-- ADM_CAUSE as the state stands: mode, fault in DEGRADED, thermal warning, ADM_HOST_CLOSE, in that order; 0 when open. -/
def admCause (s : State) : Nat :=
  if mode s ≠ 3 ∧ mode s ≠ 4 then 1
  else if mode s = 4 ∧ s.adm.degFault then 3
  else if fld s PWR_THERM_STATE ≠ 0 then 2
  else if bit s ADM_HOST_CLOSE then 4
  else 0

def admOpen (s : State) : Bool := admCause s = 0

/-- Raise an event on every enabled function from `f` on, in increasing FUNC_ID (R77); `n` functions remain. -/
def raiseEnabled (s : State) (f n : Nat) (code : BitVec 16) (p0 : Word) : State :=
  match n with
  | 0 => s
  | k + 1 =>
    raiseEnabled (if bit s (HIF_FN_EN f) then raise s f code 0 p0 0 0 0 else s) (f + 1) k code p0

/-- Bring ADM_STAT up to date; a change of ADM_OPEN or ADM_CAUSE raises EV_ADM_STATE (R46). -/
def admRefresh (s : State) : State :=
  let c := admCause s
  let o := if c = 0 then 1 else 0
  if fld s ADM_CAUSE = c ∧ fld s ADM_OPEN = o then s
  else
    let s := setFld (setFld s ADM_CAUSE c) ADM_OPEN o
    raiseEnabled s 0 64 EV_ADM_STATE (BitVec.ofNat 32 (c * 2 + o))

/-! ## Items and shares -/

/-- Every item that holds charges. -/
def allItems (s : State) : List Item :=
  s.adm.legs.map (fun p => p.2.item) ++ s.adm.layouts.map (fun p => p.2.item) ++ s.adm.tasks.map (·.2)

/-- The reserve in 0.1 % (R54). -/
def reserve (s : State) : Nat := fld s ADM_RESERVE

/-- NET_PORT_MODE of the port of a subport number 4 × p + s. -/
def sportMode (s : State) (sp : Nat) : Nat := fld s (NET_PORT_MODE (sp / 4))

/-- Whether subport `u` of port `p` is enabled in its port's mode (R119). -/
def subportOk (s : State) (p u : Nat) : Bool :=
  match fld s (NET_PORT_MODE p) with
  | 1 => u = 0
  | 2 => u < 2
  | 3 => u < 4
  | _ => false

/-- A function's share of a resource in force (R72). -/
def share (s : State) (f r : Nat) : Nat := fld s (ADM_FN_BUDGET_CUR f r)

/-- A share as the last ADM_FN_BUDGET_SET left it, in force or staged (R74). -/
def shareSet (s : State) (f r : Nat) : Nat := (tget s.adm.shareNext (16 * f + r)).getD (share s f r)

/-- What is held of a counted resource by all, or by function `f` (R55); key slots count those being erased (R190). -/
def used (s : State) (r : Nat) : Nat :=
  if r = 14 then s.key.slots.length + s.key.erasing.length else counted (allItems s) r

def fnUsed (s : State) (f r : Nat) : Nat :=
  if r = 14 then
    (s.key.slots.filter (fun p => p.2.owner = f)).length + (s.key.erasing.filter (fun p => p.2 = f)).length
  else counted ((allItems s).filter (fun i => i.owner = f)) r

/-- The counted checks of R61 for function `f` that needs `need r` more while the items `others` hold the rest. -/
def countCheck (s : State) (f : Nat) (usedBy fnBy : Nat → Nat) (need : List (Nat × Nat)) : Option Reject :=
  [9, 10, 11, 12, 13, 14, 15].findSome? (fun r =>
    let n := need.foldl (fun a (k, v) => if k = r then a + v else a) 0
    let cap := countCap r
    if cap < usedBy r + n then some ⟨ADM_ST_COUNT, r, 0, 0, excessOf (usedBy r + n) cap⟩
    else if share s f r * cap < 1024 * (fnBy r + n) then
      some ⟨ADM_ST_FN_BUDGET, r, 0, 0, excessOf (1024 * (fnBy r + n)) (share s f r * cap)⟩
    else none)

/-- The counted and rate checks of R61 for a new item beside `others`; `pool` is the pool check of R134 that falls between
them. -/
def capacityCheck (s : State) (f : Nat) (others : List Item) (item : Item) (pool : Option Reject) : Option Reject :=
  let mineOf (l : List Item) := l.filter (fun i => i.owner = f)
  let usedBy r := if r = 14 then used s 14 else counted others r
  let fnBy r := if r = 14 then fnUsed s f 14 else counted (mineOf others) r
  match countCheck s f usedBy fnBy item.counts with
  | some x => some x
  | none =>
    match pool with
    | some x => some x
    | none =>
      rateCheck (others ++ [item]) (mineOf others ++ [item]) (share s f) item.sport (sportMode s item.sport)
        (reserve s) ADM_ST_NO_CAPACITY ADM_ST_FN_BUDGET

/-! ## The checks of a leg's profile (R52) -/

/-- The layout a COMPOSE leg shares matches its stream 1 (R52). -/
def composeOk (s : State) (conf : Nat) (p : Profile) : Bool :=
  let r := p.rec' 1
  (!p.ownEnc || p.compose) &&
  (!p.compose ||
    (match tget s.adm.layouts p.layout with
     | none => false
     | some l => l.conf = conf && !l.item.releasing && r.txEn &&
        (p.ownEnc || (r.codec = l.codec && r.cprof = l.cprof && r.txDepth = l.depth && r.txW = l.w && r.txH = l.h
          && r.pTx = l.period))))

/-- Check 4 of R52. -/
def profileOk (s : State) (conf : Nat) (ws : List Word) (p : Profile) : Bool :=
  profBlockOk ws && [0, 1, 2].all (fun i => recListed i (p.rec' i) && recVideoOk p i (p.rec' i)) && composeOk s conf p
  && (subportOk s p.egrPort p.egrSub || (p.subMax = 0 && p.recs.all (fun r => !r.txEn)))

/-- Checks 4 to 7 of R52, in their order. Check 6 holds an audio record to AUD_PMAX only where TX_EN is 1: the model's choice,
log entry 107. -/
def profileChecks (s : State) (cid : Nat) (c : Conf) (ws : List Word) (p : Profile) : Option (BitVec 16) :=
  if !profileOk s cid ws p then some ADM_ST_PROFILE_INVALID
  else if ! [0, 1, 2].all (fun i => recPeriodsOk i (p.rec' i)) then some ADM_ST_PERIOD
  else if (p.rec' 0).txEn && c.audPmax < (p.rec' 0).pTx then some ADM_ST_CONF_LIMIT
  else if ! [0, 1, 2].all (fun i => let r := p.rec' i
      recTaskOk p i r && boundA i r c.audPmax c.vidPmax c.hops ≤ 4000000000 && boundF r c.hops ≤ 4000000000
      && (!r.rxEn || queueLimit r ≤ 1048576)) then some ADM_ST_PROFILE_INVALID
  else none

/-- The item a profile makes for leg `leg` of function `f`, its pulsed jobs placed beside `others` (R61, R64). -/
def legItem (s : State) (f leg : Nat) (p : Profile) (others : List Item) (old : List Job) : Item :=
  let sp := 4 * p.egrPort + p.egrSub
  placeJobs others ⟨f, flatJobs p leg, legCounts p, sp, false⟩ (sportMode s sp) (reserve s) leg old (pulsedJobs p)

/-- The slot of stream `i`'s receive or transmit jobs that the result reports (R60, R63). -/
def slotOf (it : Item) (k : JobKind) (leg i per : Nat) : Nat :=
  match it.jobs.find? (fun j => j.kind = k ∧ j.stream = i) with
  | some j => j.slot
  | none => leg % per

/-- The result words of stream `i` (R63). The slot of a direction that the stream does not use is written 0: the model's choice,
log entry 107. -/
def streamResult (c : Conf) (it : Item) (leg i : Nat) (r : StreamRec) : List Word :=
  let rx := if r.rxEn then slotOf it .audDec leg i r.pRx else 0
  let tx := if r.txEn then slotOf it .audEnc leg i r.pTx else 0
  [BitVec.ofNat 32 (rx * 2 ^ 16 + tx), lo32 (boundA i r c.audPmax c.vidPmax c.hops), lo32 (boundF r c.hops), 0]

/-- The result section of an accepted profile, bytes 0xC0 to 0xFF (R50). -/
def resultSection (c : Conf) (it : Item) (leg : Nat) (p : Profile) (e : Nat) : List Word :=
  streamResult c it leg 0 (p.rec' 0) ++ streamResult c it leg 1 (p.rec' 1) ++ streamResult c it leg 2 (p.rec' 2)
  ++ [lo32 e, hi32 e, 0, 0]

/-! ## Home groups (R234) -/

/-- The items homed on Brush group `g`: its legs, and the program tasks of those legs (key 4 × leg + point). -/
def groupItems (s : State) (g : Nat) : List Item :=
  let legs := (s.aud.legs.filter (fun p => p.2.home = some g)).map (·.1)
  (s.adm.legs.filter (fun p => legs.contains p.1)).map (fun p => p.2.item)
    ++ (s.adm.tasks.filter (fun p => legs.contains (p.1 / 4))).map (·.2)

/-- Whether the Brush charges of `items` stay within one sixteenth of the usable capacity in every cell (R260). -/
def groupFits (s : State) (items : List Item) : Bool :=
  (List.range (mapPeriod items)).all (fun t => [2, 3].all (fun g =>
    decide (demand items 0 0 t g * 16 ≤ usable (capOf 0 0) g (reserve s))))

def groupGated (s : State) (g : Nat) : Bool := (fld s AUD_GRP_GATED).testBit g

/-- The home group of a new leg with audio (R234): firmware's choice among the groups with room that hold legs of its conference, so that
these are few, else among the powered groups with room, else among all with room, else among all. -/
def homeGroup (s : State) (leg conf : Nat) (it : Item) : Nat :=
  let room := (List.range 16).filter (fun g => groupFits s (groupItems s g ++ [it]))
  let up := room.filter (fun g => !groupGated s g)
  let mine := room.filter (fun g => s.aud.legs.any (fun p => p.2.conf = conf && p.2.home = some g))
  let l := if mine ≠ [] then mine else if up ≠ [] then up else if room ≠ [] then room else List.range 16
  l.getD (Config.groupPick leg s.clk.cyc % l.length) 0

/-- The audio state of a leg whose profile has audio: made at admission, with a home group from the first profile with audio on (R225,
R234). -/
def audEnsure (s : State) (leg conf : Nat) (it : Item) (p : Profile) (first : Bool) : State :=
  let old := if first then none else tget s.aud.legs leg
  if !((p.rec' 0).rxEn || (p.rec' 0).txEn) || ((old.bind (·.home)).isSome) then s
  else
    let l : AudLeg := { old.getD { conf := conf } with home := some (homeGroup s leg conf it) }
    { s with aud := { s.aud with legs := tset s.aud.legs leg l } }

/-- Commit an accepted profile: the leg's item and profile, the staged start, the result section and the effect tick. -/
def legCommit (s : State) (leg cid : Nat) (c : Conf) (it : Item) (p : Profile) (prev : Option Leg) (addr : Nat) :
    State × Res :=
  let e := effTick s
  let l : Leg := match prev with
    | some l => { l with item := it, prof := p }
    | none => { conf := cid, item := it, prof := p }
  let s := { s with adm := { s.adm with legs := tset s.adm.legs leg l } }
  let s := stage (audEnsure s leg cid it p prev.isNone) e (.legApply leg p it.jobs prev.isNone)
  (hostWrites s (addr + 0xc0) (resultSection c it leg p e), ok (effArea e))

/-- Whether item `a` charges more than `b` in some resource, tick index or segment (R46). -/
def chargesMore (a b : Item) : Bool :=
  (List.range (mapPeriod [a, b])).any (fun t => (List.range 9).any (fun r => [1, 2, 3, 4].any (fun g =>
    demand [b] r b.sport t g < demand [a] r a.sport t g)))
  || [9, 10, 11, 12, 13, 14, 15].any (fun r => counted [b] r < counted [a] r)

/-- Cells reserved for a bound stream: its limit in force, or that of an accepted modify which waits for its effect tick (R134). -/
def cellsHeld (s : State) (hd : Nat) (b : Bound) : Nat :=
  s.agenda.foldl (fun a c => match c.ch with
    | .legApply leg p _ _ => if leg = hd / 4 then max a (rxLimit (p.rec' (hd % 4))) else a
    | _ => a) b.limit

/-- Cells the spill pool has unreserved (R134, R150). -/
def poolFree (s : State) : Nat :=
  fld s SPQ_POOL_UNITS * 65536 - s.net.bound.foldl (fun a b => a + cellsHeld s b.1 b.2) 0

/-- The pool check of a modify (R134): the increase of what the leg's bound streams hold against the free cells. -/
def poolCheck (s : State) (leg : Nat) (p : Profile) : Option Reject :=
  let up := [0, 1, 2].foldl (fun a i =>
    match tget s.net.bound (4 * leg + i) with
    | some b => a + (rxLimit (p.rec' i) - cellsHeld s (4 * leg + i) b)
    | none => a) 0
  if poolFree s < up then some ⟨ADM_ST_COUNT, 15, 0, 0, excessOf up (poolFree s)⟩ else none

/-! ## Leg commands -/

/-- The ID is in use by an item of another function. -/
def ownedByOther (f : Nat) (i : Option Item) : Bool :=
  match i with
  | some i => i.owner != f
  | none => false


/-- The words of a command area that names a host block were read (R94 step 6). -/
def dmaWords (d : Dma) : List Word := d.getD []

/-- ADM_LEG_ADMIT after R94 (R52, R61, R63). -/
def legAdmit (h : CmdHdr) (cid leg addr : Nat) (ws : List Word) (s : State) : State × Res :=
  let f := h.fn.toNat
  if !admOpen s then (s, no ADM_ST_CLOSED) else
  match tget s.adm.confs cid with
  | none => (s, no ADM_ST_CONF_UNKNOWN)
  | some c =>
    if c.owner ≠ f ∨ ownedByOther f ((tget s.adm.legs leg).map (·.item)) then
      (s, no ADM_ST_NOT_OWNER)
    else if thas s.adm.legs leg then (s, no ADM_ST_LEG_BUSY)
    else
      let p := parseProfile ws
      match profileChecks s cid c ws p with
      | some st => (s, no st)
      | none =>
        let it := legItem s f leg p (allItems s) []
        match capacityCheck s f (allItems s) it none with
        | some x => (s, no x.st x.area)
        | none => legCommit s leg cid c it p none addr

/-- Every admitted item but leg `leg`. -/
def otherItems (s : State) (leg : Nat) : List Item :=
  (s.adm.legs.filter (fun q => q.1 ≠ leg)).map (fun q => q.2.item) ++ s.adm.layouts.map (fun q => q.2.item)
    ++ s.adm.tasks.map (·.2)

/-- ADM_LEG_MODIFY after R94 (R52, R61, R64). -/
def legModify (h : CmdHdr) (cid leg addr : Nat) (ws : List Word) (s : State) : State × Res :=
  let f := h.fn.toNat
  match tget s.adm.confs cid with
  | none => (s, no ADM_ST_CONF_UNKNOWN)
  | some c =>
    match tget s.adm.legs leg with
    | none => if c.owner ≠ f then (s, no ADM_ST_NOT_OWNER) else (s, no ADM_ST_LEG_UNKNOWN)
    | some l =>
      if c.owner ≠ f ∨ l.item.owner ≠ f then (s, no ADM_ST_NOT_OWNER)
      else if l.item.releasing then (s, no ADM_ST_LEG_UNKNOWN)
      else if l.conf ≠ cid then (s, no ADM_ST_CONF_MISMATCH)
      else
        let p := parseProfile ws
        match profileChecks s cid c ws p with
        | some st => (s, no st)
        | none =>
          let others := otherItems s leg
          let it := legItem s f leg p others l.item.jobs
          if !admOpen s && chargesMore it l.item then (s, no ADM_ST_CLOSED)
          else
            match capacityCheck s f others it (poolCheck s leg p) with
            | some x => (s, no x.st x.area)
            | none => legCommit s leg cid c it p (some l) addr

/-- The leg a command names, owned by function `f` and not releasing, or the status that refuses it (R47, R65). -/
def legFor (s : State) (f leg : Nat) : Except (BitVec 16) Leg :=
  match tget s.adm.legs leg with
  | none => .error ADM_ST_LEG_UNKNOWN
  | some l =>
    if l.item.owner ≠ f then .error ADM_ST_NOT_OWNER
    else if l.item.releasing then .error ADM_ST_LEG_UNKNOWN
    else .ok l

/-- Start the release of a leg (R65): releasing from now, work stops at `e`, charges leave when EMIT(e − 1) ends. -/
def legRelease (s : State) (leg e : Nat) : State :=
  let s := { s with adm := { s.adm with
    legs := tmod s.adm.legs leg (fun l => { l with item := { l.item with releasing := true } }) } }
  stageEnd (stage s e (.legStop leg)) (e - 1) (.legGone leg)

/-- Start the release of a layout (R65). -/
def layoutRelease (s : State) (id e : Nat) : State :=
  let s := { s with adm := { s.adm with
    layouts := tmod s.adm.layouts id (fun l => { l with item := { l.item with releasing := true } }) } }
  stageEnd (stage s e (.layoutStop id)) (e - 1) (.layoutGone id)

/-! ## Meanings -/

/-- ADM_CONF_OPEN (R48). -/
def execAdmConfOpen (h : CmdHdr) (conf audPmax vidPmax : BitVec 12) (hops : BitVec 5) (s : State) :
    Host.Outcome State Fault Refusal :=
  act (command h OP_ADM_CONF_OPEN {} (fun s =>
    match tget s.adm.confs conf.toNat with
    | some c => (s, no (if c.owner = h.fn.toNat then ADM_ST_LEG_BUSY else ADM_ST_NOT_OWNER))
    | none =>
      ({ s with
          adm := { s.adm with confs := tset s.adm.confs conf.toNat ⟨h.fn.toNat, audPmax.toNat, vidPmax.toNat, hops.toNat⟩ }
          aud := { s.aud with
            confs := tset s.aud.confs conf.toNat { owner := h.fn.toNat, hops := hops.toNat } } }, ok))) s

/-- Whether a conference still holds legs or layouts (R48). Those being released count until their EMIT(E − 1) ends: the model's choice,
log entry 107. -/
def confHolds (s : State) (c : Nat) : Bool :=
  s.adm.legs.any (fun p => p.2.conf = c) || s.adm.layouts.any (fun p => p.2.conf = c)

/-- Close a conference; its last partial goes out in the tick before the effect tick (R48, R376). -/
def confClose (s : State) (c : Nat) : State :=
  let e := effTick s
  stage { s with
    adm := { s.adm with confs := tdel s.adm.confs c }
    aud := { s.aud with confs := tmod s.aud.confs c (fun x => { x with closeAt := some e }) } } e (.confGone c)

/-- ADM_CONF_CLOSE (R48). -/
def execAdmConfClose (h : CmdHdr) (conf : BitVec 12) (s : State) : Host.Outcome State Fault Refusal :=
  act (command h OP_ADM_CONF_CLOSE {} (fun s =>
    match tget s.adm.confs conf.toNat with
    | none => (s, no ADM_ST_CONF_UNKNOWN)
    | some c =>
      if c.owner ≠ h.fn.toNat then (s, no ADM_ST_NOT_OWNER)
      else if confHolds s conf.toNat then (s, no ADM_ST_CONF_BUSY)
      else (confClose s conf.toNat, ok))) s

/-- ADM_LEG_ADMIT (R61). -/
def execAdmLegAdmit (h : CmdHdr) (conf : BitVec 12) (leg : BitVec 14) (addr : BitVec 64) (dma : Dma) (s : State) :
    Host.Outcome State Fault Refusal :=
  act (command h OP_ADM_LEG_ADMIT { misaligned := addr.toNat % 64 ≠ 0, dmaFailed := dma.isNone }
    (legAdmit h conf.toNat leg.toNat addr.toNat (dmaWords dma))) s

/-- ADM_LEG_MODIFY (R64). -/
def execAdmLegModify (h : CmdHdr) (conf : BitVec 12) (leg : BitVec 14) (addr : BitVec 64) (dma : Dma) (s : State) :
    Host.Outcome State Fault Refusal :=
  act (command h OP_ADM_LEG_MODIFY { misaligned := addr.toNat % 64 ≠ 0, dmaFailed := dma.isNone }
    (legModify h conf.toNat leg.toNat addr.toNat (dmaWords dma))) s

/-- ADM_LEG_RELEASE (R65). -/
def execAdmLegRelease (h : CmdHdr) (leg : BitVec 14) (s : State) : Host.Outcome State Fault Refusal :=
  act (command h OP_ADM_LEG_RELEASE {} (fun s =>
    match legFor s h.fn.toNat leg.toNat with
    | .error st => (s, no st)
    | .ok _ => (legRelease s leg.toNat (effTick s), ok (effArea (effTick s))))) s

/-- The policing state of a stream. -/
def policeOf (s : State) (hd : Nat) : Police := (tget s.adm.police hd).getD {}

def setPolice (s : State) (hd : Nat) (p : Police) : State :=
  { s with adm := { s.adm with police := tset s.adm.police hd p } }

/-- A count as a saturating 32-bit word. -/
def sat32 (n : Nat) : Word := BitVec.ofNat 32 (min n 0xffffffff)

/-- ADM_LEG_STATS (R75). -/
def execAdmLegStats (h : CmdHdr) (clr : Bool) (hd : BitVec 16) (s : State) : Host.Outcome State Fault Refusal :=
  act (command h OP_ADM_LEG_STATS { reserved := hd.toNat % 4 = 3 } (fun s =>
    match legFor s h.fn.toNat (hd.toNat / 4) with
    | .error st => (s, no st)
    | .ok _ =>
      let p := policeOf s hd.toNat
      (if clr then setPolice s hd.toNat { p with accepted := 0, policed := 0, late := 0, overrun := 0 } else s,
       ok [sat32 p.accepted, sat32 p.policed, sat32 p.late, sat32 p.overrun]))) s

/-- The peak use of resource `r` by function `f`, in 1/1,024, rounded up (R78). -/
def fnPeak (s : State) (f r : Nat) : Nat :=
  if 9 ≤ r then cdiv (fnUsed s f r * 1024) (countCap r)
  else if r = 4 then (List.range 16).foldl (fun m sp =>
    max m (peakUse (allItems s) ((allItems s).filter (fun i => i.owner = f)) 4 sp (sportMode s sp) (reserve s))) 0
  else peakUse (allItems s) ((allItems s).filter (fun i => i.owner = f)) r 0 0 (reserve s)

/-- The device's peak use of resource `r`, in 1/1,024, rounded up (R78). -/
def devPeak (s : State) (r : Nat) : Nat :=
  if 9 ≤ r then cdiv (used s r * 1024) (countCap r)
  else if r = 4 then (List.range 16).foldl (fun m sp =>
    max m (peakUse (allItems s) (allItems s) 4 sp (sportMode s sp) (reserve s))) 0
  else peakUse (allItems s) (allItems s) r 0 0 (reserve s)

/-- ADM_FN_BUDGET_SET (R74). -/
def execAdmFnBudgetSet (h : CmdHdr) (f : BitVec 6) (r : BitVec 4) (v : BitVec 11) (s : State) :
    Host.Outcome State Fault Refusal :=
  act (command h OP_ADM_FN_BUDGET_SET { fn0 := true, reserved := 1024 < v.toNat } (fun s =>
    let others := (List.range 64).foldl (fun a g => if g = f.toNat then a else a + shareSet s g r.toNat) 0
    if v.toNat < fnPeak s f.toNat r.toNat then (s, no ADM_ST_BUDGET_BELOW_USE)
    else if 1024 < others + v.toNat then (s, no ADM_ST_BUDGET_SUM)
    else
      let e := effTick s
      let s := { s with adm := { s.adm with
        shareNext := tset s.adm.shareNext (16 * f.toNat + r.toNat) v.toNat } }
      (stage s e (.share f.toNat r.toNat v.toNat), ok (effArea e)))) s

/-- The item of a layout: its job, one layout and one encode context (R55, R58). -/
def layoutItem (f id w ht per codec depth : Nat) : Item :=
  ⟨f, [layoutJob w ht per codec depth id], [(11, 1), (12, 1)], 0, false⟩

/-- ADM_LAYOUT_ADMIT after R94 (R58). -/
def layoutAdmit (h : CmdHdr) (id cid w ht per codec cprof depth : Nat) (s : State) : State × Res :=
  let f := h.fn.toNat
  if !admOpen s then (s, no ADM_ST_CLOSED) else
  match tget s.adm.confs cid with
  | none => (s, no ADM_ST_CONF_UNKNOWN)
  | some c =>
    if c.owner ≠ f ∨ ownedByOther f ((tget s.adm.layouts id).map (·.item)) then
      (s, no ADM_ST_NOT_OWNER)
    else if thas s.adm.layouts id then (s, no ADM_ST_LEG_BUSY)
    else if !vidOk true codec cprof depth w ht then (s, no ADM_ST_PROFILE_INVALID)
    else if per = 0 ∨ 3600 % per ≠ 0 then (s, no ADM_ST_PERIOD)
    else if c.vidPmax < per then (s, no ADM_ST_CONF_LIMIT)
    else if 625000 < cdiv (w * ht) per then (s, no ADM_ST_PROFILE_INVALID)
    else
      let it := layoutItem f id w ht per codec depth
      match capacityCheck s f (allItems s) it none with
      | some x => (s, no x.st x.area)
      | none =>
        let e := effTick s
        let s := { s with adm := { s.adm with
          layouts := tset s.adm.layouts id ⟨cid, it, w, ht, per, codec, cprof, depth, false⟩ } }
        (stage s e (.layoutApply id), ok (effArea e))

/-- ADM_LAYOUT_ADMIT (R58). -/
def execAdmLayoutAdmit (h : CmdHdr) (id : BitVec 9) (conf : BitVec 12) (w ht : BitVec 16) (per : BitVec 12)
    (codec cprof : BitVec 8) (depth : BitVec 1) (s : State) : Host.Outcome State Fault Refusal :=
  act (command h OP_ADM_LAYOUT_ADMIT { reserved := (vidCap codec.toNat cprof.toNat).isNone }
    (layoutAdmit h id.toNat conf.toNat w.toNat ht.toNat per.toNat codec.toNat cprof.toNat depth.toNat)) s

/-- ADM_LAYOUT_RELEASE (R65). -/
def execAdmLayoutRelease (h : CmdHdr) (id : BitVec 9) (s : State) : Host.Outcome State Fault Refusal :=
  act (command h OP_ADM_LAYOUT_RELEASE {} (fun s =>
    match tget s.adm.layouts id.toNat with
    | none => (s, no ADM_ST_LEG_UNKNOWN)
    | some l =>
      if l.item.owner ≠ h.fn.toNat then (s, no ADM_ST_NOT_OWNER)
      else if l.item.releasing then (s, no ADM_ST_LEG_UNKNOWN)
      else (layoutRelease s id.toNat (effTick s), ok (effArea (effTick s))))) s

/-- A write of ADM_HOST_CLOSE (R46, R78). -/
def hostClose (v : Bool) (s : State) : State := admRefresh (setFld s ADM_HOST_CLOSE (if v then 1 else 0))

/-- ADM_HOST_CLOSE (R46). -/
def execAdmHostClose (v : Bool) (s : State) : Host.Outcome State Fault Refusal :=
  act (fun s => if answers s ADM_HOST_CLOSE.addr then hostClose v s else s) s

end Sys2Proof.Machine
end

