-- ==== Sys2Proof/Machine/Ecc.lean ====
section
/-! DEFINITION. Memory errors as reads find them (R391, R408 to R414): counters, leaky buckets, the error log, EV_MEM_UE.
Log entries: 19, 76, 111. -/

namespace Sys2Proof.Machine

/-- Parity of a number's bits below 30. -/
def parity (x : Nat) : Nat := (List.range 30).foldl (fun a i => if x.testBit i then 1 - a else a) 0

/-- Where an HBM address lies (R391). -/
structure HbmLoc where
  stack : Nat
  slot : Nat
  sid : Nat
  bg : Nat
  ba : Nat
  row : Nat
  col : Nat
  deriving DecidableEq, Repr

/-- The stack, slot and local address of HBM address `a` (R391). -/
def hbmSlot (a : Nat) : Nat × Nat × Nat :=
  let q := a / 256
  let r := q / 4
  (q % 4, r % 31, r / 31 * 256 + a % 256)

/-- hbm_map() of R391 under four masks. -/
def hbmMap (m : HbmMasks) (a : Nat) : HbmLoc :=
  let (st, sl, l) := hbmSlot a
  { stack := st, slot := sl, sid := l / 16384 % 2, bg := parity (l &&& m.bg1) * 2 + parity (l &&& m.bg0)
    ba := parity (l &&& m.ba1) * 2 + parity (l &&& m.ba0), row := l / 32768, col := l % 1024 }

/-- Where the device keeps HBM address `a`: under the masks applied at the entry to RUN; before it no data is held (R392). -/
def hbmLoc (s : State) (a : Nat) : Option HbmLoc := s.mem.masks.map (hbmMap · a)

/-- The controller applies the MEM_HASH registers on entry to RUN (R392). -/
def masksApply (s : State) : State :=
  { s with mem := { s.mem with masks := some ⟨fld s MEM_HASH_BA0, fld s MEM_HASH_BA1, fld s MEM_HASH_BG0, fld s MEM_HASH_BG1⟩ } }

/-- Add a record to the error log, the oldest giving way (R414). -/
def eccLog (s : State) (kind target synd addr : Nat) : State :=
  let l := s.mem.log ++ [⟨kind, target, synd, addr, curTick s⟩]
  { s with mem := { s.mem with log := l.drop (l.length - 64) } }

/-- The bucket of target `t` would pass ECC_CE_THRESH: it is emptied and reported (R413). -/
def bucketOverflow (s : State) (t synd addr : Nat) : State :=
  let s := setBit (setFld s (ECC_BUCKET t) 0) ECC_ST_BUCKET
  let s := eccLog s 4 t synd addr
  raise s 0 EV_MEM_CE_BUCKET (BitVec.ofNat 16 t) (BitVec.ofNat 32 (fld s (ECC_CE_CNT t))) 0 0 0

/-- A correctable word of target `t` (R413). -/
def eccCe (s : State) (t synd addr : Nat) : State :=
  let s := setBit (bump s (ECC_CE_CNT t) 1) ECC_ST_CE
  if fld s ECC_CE_THRESH < fld s (ECC_BUCKET t) + 1 then bucketOverflow s t synd addr
  else setFld s (ECC_BUCKET t) (fld s (ECC_BUCKET t) + 1)

/-- EV_MEM_UE for one more word of target `t`, found as `kind`, at most one per target per 1,200 ticks (R413, R420). -/
def ueEvt (s : State) (t kind : Nat) : State :=
  let r := (tget s.mem.ue t).getD {}
  let r := { r with since := r.since + 1, first := if r.since = 0 then kind else r.first }
  let put (r : UeRec) : State := { s with mem := { s.mem with ue := tset s.mem.ue t r } }
  if (r.last.map (fun n => decide (curTick s < n + 1200))).getD false then put r
  else
    raise (put { since := 0, first := 0, last := some (curTick s) }) 0 EV_MEM_UE (BitVec.ofNat 16 t)
      (BitVec.ofNat 32 (r.first * 2 ^ 28)) (sat32 r.since) 0 0

/-- The pseudo-channel that holds local address `l` of slot `sl` in stack `x` (R390, R404). -/
def Stack.holder (x : Stack) (sl l : Nat) : Option Nat :=
  match x.mig with
  | some m => if m.slot = sl ∧ m.chunk ≤ l / 1024 then some m.failed else x.slots[sl]?
  | none => x.slots[sl]?

/-- An uncorrectable word counts against the pseudo-channel that holds it (R402). -/
def pcUe (s : State) (t addr : Nat) : State :=
  if t < 6 ∨ 9 < t then s
  else
    let (st, sl, l) := hbmSlot (addr * 8)
    match (tget s.mem.hbmStacks st).bind (fun x => x.holder sl l) with
    | some p =>
      let k := 32 * st + p
      let n := curTick s
      let x := (tget s.mem.pcs k).getD {}
      { s with mem := { s.mem with
        pcs := tset s.mem.pcs k { x with ues := x.ues.filter (fun m => n < m + 1200) ++ [n] } } }
    | none => s

/-- Word `a` of target `t` holds poison. -/
def poisoned (s : State) (t a : Nat) : Bool := s.mem.poison.contains (t, a)

/-- A word is left poisoned (R403, R410), or clean. -/
def poisonSet (s : State) (t a : Nat) (on : Bool) : State :=
  { s with mem := { s.mem with
    poison := if on then (if poisoned s t a then s.mem.poison else s.mem.poison ++ [(t, a)]) else s.mem.poison.erase (t, a) } }

/-- The class and syndrome a word is found with: poison where it holds poison (R408). -/
def foundAs (s : State) (e : EccHit) : Nat × Nat :=
  if poisoned s e.t.toNat e.addr.toNat then (3, poisonSynd e.t.toNat) else (e.kind.toNat, e.synd.toNat)

/-- ECC_UE_CNT or ECC_ADDR_CNT of target `t` for a word of class `k` (R413). -/
def countUe (s : State) (t k : Nat) : State :=
  if k = 2 then setBit (bump s (ECC_ADDR_CNT t) 1) ECC_ST_ADDR else setBit (bump s (ECC_UE_CNT t) 1) ECC_ST_UE

/-- One word that an access did not find clean (R408, R410, R413, R414). A partial write rewrites a correctable word, leaves one with an
address error alone, and leaves any other poisoned; a write of the whole word clears poison. -/
def eccHit (s : State) (e : EccHit) : State :=
  let t := e.t.toNat
  let a := e.addr.toNat
  let (k, sy) := foundAs s e
  if !e.ok then s
  else if e.acc = 2 then poisonSet s t a false
  else if k = 0 then eccCe s t sy a
  else if e.acc = 1 then ueEvt (eccLog (poisonSet (countUe s t k) t a (poisoned s t a || k ≠ 2)) 5 t sy a) t 5
  else
    let log := if k = 2 then 1 else if k = 3 then 2 else 0
    ueEvt (eccLog (pcUe (countUe s t k) t a) log t sy a) t log

/-- Every such word of a step. -/
def eccHits (s : State) (es : List EccHit) : State := es.foldl eccHit s

/-- A read found an uncorrectable word of one of the targets `ts` (R408, R412). -/
def eccBad (s : State) (es : List EccHit) (ts : List Nat) : Bool :=
  es.any (fun e => e.ok && e.acc = 0 && decide ((foundAs s e).1 ≠ 0) && ts.contains e.t.toNat)

end Sys2Proof.Machine
end

