-- ==== Sys2Proof/Machine/Bytes.lean ====
section
/-! DEFINITION. Bytes: splitting numbers into bytes and words into bytes, and bit operations on byte lists. -/

namespace Sys2Proof.Machine

/-- The number whose big-endian bytes are `bs` (network order). -/
def beNat (bs : List Byte) : Nat := bs.foldl (fun a b => a * 256 + b.toNat) 0

/-- The `n` low bytes of `x`, most significant first. -/
def natBE (n x : Nat) : List Byte := (List.range n).map (fun i => BitVec.ofNat 8 (x / 256 ^ (n - 1 - i)))

/-- `n` bytes of `bs` from offset `o`. -/
def sl (bs : List Byte) (o n : Nat) : List Byte := (bs.drop o).take n

/-- The big-endian number in `n` bytes from offset `o`. -/
def be (bs : List Byte) (o n : Nat) : Nat := beNat (sl bs o n)

/-- Bytes combined by exclusive or, as long as the shorter list. -/
def xorB (a b : List Byte) : List Byte := List.zipWith (· ^^^ ·) a b

def zeros (n : Nat) : List Byte := List.replicate n 0

/-- The list cut into pieces of `n`, `k` pieces at most. -/
def chunks {α : Type} (n k : Nat) (xs : List α) : List (List α) :=
  match k with
  | 0 => []
  | k + 1 => if xs.isEmpty then [] else xs.take n :: chunks n k (xs.drop n)

/-- The bytes of little-endian words (R6): byte 0 of a word is its bits [7:0]. -/
def wordBytes (ws : List Word) : List Byte :=
  (ws.map (fun (w : Word) => (natBE 4 w.toNat).reverse)).flatten

/-- Little-endian words that hold the bytes, the last padded with zeros. -/
def bytesWords (bs : List Byte) : List Word :=
  (chunks 4 (bs.length + 1) bs).map (fun c => BitVec.ofNat 32 (beNat ((c ++ zeros (4 - c.length)).reverse)))

/-- `k` steps of the bitwise CRC-32 of IEEE 802.3. -/
def crc32Bits (c k : Nat) : Nat :=
  match k with
  | 0 => c
  | k + 1 => crc32Bits (if c % 2 = 1 then (c / 2) ^^^ 0xedb88320 else c / 2) k

/-- CRC-32 of IEEE 802.3 over bytes. -/
def crc32 (bs : List Byte) : Nat := bs.foldl (fun c b => crc32Bits (c ^^^ b.toNat) 8) 0xffffffff ^^^ 0xffffffff

end Sys2Proof.Machine
end

