-- ==== Sys2Proof/Machine/RealMath.lean ====
section
/-! DEFINITION. The real-valued tables of the audio chapter (R213, R225, R228) in fixed point with 96 fractional bits:
exponential, sine, sinc, the modified Bessel function of order 0, and rounding. Log entries: 50. -/

namespace Sys2Proof.Machine

/-- One in fixed point. -/
def fxOne : Int := 2 ^ 96

/-- π and the natural logarithm of 10. -/
def fxPi : Int := 248902613312231085230521944622
def fxLn10 : Int := 182429585950654714090129938606

def fxMul (a b : Int) : Int := a * b / fxOne
def fxRat (a b : Int) : Int := a * fxOne / b
def fxDiv (a b : Int) : Int := a * fxOne / b

/-- The Taylor sum of `n` terms from term `t` of index `k`, each term the last times `f k`. -/
def fxSeries (f : Int → Nat → Int) (t : Int) (k n : Nat) : Int :=
  match n with
  | 0 => 0
  | m + 1 => t + fxSeries f (f t k) (k + 1) m

/-- `x` squared `n` times. -/
def fxSquare (x : Int) (n : Nat) : Int :=
  match n with
  | 0 => x
  | k + 1 => fxSquare (fxMul x x) k

/-- The exponential. -/
def fxExp (x : Int) : Int := fxSquare (fxSeries (fun t k => fxMul t (x / 256) / (k + 1)) fxOne 0 24) 8

/-- The sine of `x`, for |x| at most a few π. -/
def fxSin (x : Int) : Int :=
  fxSeries (fun t k => -(fxMul (fxMul t x) x) / ((2 * k + 2) * (2 * k + 3))) x 0 48

/-- The modified Bessel function of order 0 of `x`, from `x²/4`. -/
def fxI0 (q : Int) : Int := fxSeries (fun t k => fxMul t q / ((k + 1) * (k + 1))) fxOne 0 60

/-- Round to the nearest integer, ties away from zero. -/
def fxRound (x : Int) : Int := if 0 ≤ x then (x + fxOne / 2) / fxOne else -((-x + fxOne / 2) / fxOne)

/-- The rational a / b rounded to the nearest integer, ties away from zero; b positive. -/
def ratRound (a b : Int) : Int := if 0 ≤ a then (2 * a + b) / (2 * b) else -((2 * (-a) + b) / (2 * b))

/-- The fraction n / d over 2^e. -/
def scaled (n d : Nat) (e : Int) : Nat × Nat :=
  if e < 0 then (n * 2 ^ e.natAbs, d) else (n, d * 2 ^ e.natAbs)

/-- A fraction rounded to nearest, ties to even. -/
def roundEven (f : Nat × Nat) : Nat :=
  let q := f.1 / f.2
  let r := f.1 % f.2
  if f.2 < 2 * r ∨ (2 * r = f.2 ∧ q % 2 = 1) then q + 1 else q

/-- A real number as IEEE 754 double precision holds it: 53 significant bits, to nearest, ties to even. The exponent range is not
reached by what R324 computes. -/
def dbl (x : Rat) : Rat :=
  let n := x.num.natAbs
  if n = 0 then 0
  else
    let e : Int := (Nat.log2 n : Int) - Nat.log2 x.den - 52
    let f := scaled n x.den e
    let e := if f.1 / f.2 < 2 ^ 52 then e - 1 else e
    let m : Int := roundEven (scaled n x.den e)
    let v : Rat := if e < 0 then m / (2 ^ e.natAbs : Nat) else m * (2 ^ e.natAbs : Nat)
    if x < 0 then -v else v

/-- sin(πx) / (πx) of x = a / b. -/
def fxSinc (a b : Int) : Int :=
  if a = 0 then fxOne
  else
    let r := a % (2 * b)
    let y := fxMul fxPi (fxRat (if b < r then r - 2 * b else r) b)
    fxDiv (fxSin y) (fxMul fxPi (fxRat a b))

end Sys2Proof.Machine
end

