-- ==== Sys2Proof/Machine/AudioMath.lean ====
section
/-! DEFINITION. The arithmetic of the audio fabric: sample conversions and gains (R209, R211), levels (R210), fades (R222),
resampling (R212, R213), dynamics (R224, R225), tones (R227, R228). Log entries: 36, 50, 75. -/

namespace Sys2Proof.Machine

/-! ## Samples (R209 to R211) -/

def clampI (lo hi v : Int) : Int := if v < lo then lo else if hi < v then hi else v

def sat32I (v : Int) : Int := clampI (-2147483648) 2147483647 v
def sat16I (v : Int) : Int := clampI (-32768) 32767 v

/-- v / 2^s rounded to the nearest integer, ties to even. -/
def roundConv (v : Int) (s : Nat) : Int :=
  let m : Int := 2 ^ s
  let q := v / m
  let r := v % m
  if m < 2 * r then q + 1 else if 2 * r < m then q else if q % 2 = 0 then q else q + 1

/-- A bus sample times a Q4.12 gain (R209). -/
def gainQ (g : Nat) (v : Int) : Int := sat32I (roundConv (v * g) 12)

/-- 16-bit PCM to a bus sample, and back (R209). -/
def pcmToBus (s : Int) : Int := s * 512
def busToPcm (v : Int) : Int := sat16I (roundConv v 9)

/-- Λ of R210. -/
def lam (p : Nat) : Int :=
  if p = 0 then -32768
  else
    let m := Nat.log2 p
    max (-32768) (1024 * m + ((p - 2 ^ m) * 1024 / 2 ^ m : Nat))

/-- The level of a sample (R224). -/
def sampleLevel (x : Int) : Int := lam x.natAbs - 24576

/-- A setting of `n` × 0.1 dB in level units (R210). -/
def dbToLu (n : Nat) : Int := ratRound (n * 1024000) 60206

/-- A gain of `g` LU applied to a sample (R211). -/
def gainLu (g : Int) (x : Int) : Int :=
  let k := g / 1024
  let f := g % 1024
  let y := x * (1024 + f)
  sat32I (if 10 ≤ k then y * 2 ^ (k - 10).toNat else roundConv y (10 - k).toNat)

/-! ## Fades (R222) -/

/-- The samples of one tick of silence. -/
def silence : List Int := List.replicate 40 0

/-- Blend `a` into `b` with the weights of a fade over `n` samples, the first sample having number `j`. -/
def blend (n j : Nat) : List Int → List Int → List Int
  | a :: as, b :: bs =>
    let w : Int := min 65536 (65536 * (j + 1) / n : Nat)
    roundConv (b * w + a * (65536 - w)) 16 :: blend n (j + 1) as bs
  | _, _ => []

/-- One tick of a fade over `k` ticks that is `d` ticks old. -/
def fadeTick (k d : Nat) (a b : List Int) : List Int := blend (40 * k) (40 * d) a b

/-- The last sample `v` faded to zero over a tick (R40, R231, R239). -/
def fadeOut (v : Int) : List Int := fadeTick 1 0 (List.replicate 40 v) silence

/-- Sample-wise sum. -/
def addS (a b : List Int) : List Int := List.zipWith (· + ·) a b

/-! ## Resampling (R212, R213) -/

/-- A resampler: L, D, prototype rate, the lower rate, taps. -/
structure Rs where
  l : Nat
  d : Nat
  fp : Nat
  low : Nat
  m : Nat

/-- R212's table from `a` Hz to `b` Hz. -/
def rsOf (a b : Nat) : Option Rs :=
  match a, b with
  | 8000, 48000 => some ⟨6, 1, 48000, 8000, 288⟩
  | 16000, 48000 => some ⟨3, 1, 48000, 16000, 144⟩
  | 32000, 48000 => some ⟨3, 2, 96000, 32000, 144⟩
  | 48000, 8000 => some ⟨1, 6, 48000, 8000, 288⟩
  | 48000, 16000 => some ⟨1, 3, 48000, 16000, 144⟩
  | 48000, 32000 => some ⟨2, 3, 96000, 32000, 144⟩
  | _, _ => none

/-- Coefficient n of R213. -/
def rsCoef (r : Rs) (n : Nat) : Int :=
  -- 2 fc / Fp = 92 × low / (100 × Fp)
  let num : Int := 92 * r.low
  let den : Int := 100 * r.fp
  let k : Int := 2 * n - (r.m - 1)
  let s := fxSinc (num * k) (den * 2)
  let one : Int := (r.m - 1) * (r.m - 1)
  let w := fxDiv (fxI0 (fxRat (16 * (one - k * k)) one)) (fxI0 (16 * fxOne))
  fxRound (fxMul (fxMul (2 ^ 22 * r.l * num * fxOne / den) s) w)

/-- The coefficients of R213. -/
def rsCoefs (r : Rs) : List Int := (List.range r.m).map (rsCoef r)

/-- The output at prototype sample `p` after an input sample (0 ≤ p < L): every L-th coefficient from `p` on the inputs,
newest first. -/
def rsOut (cs : List Int) (l p : Nat) (hist : List Int) : Int :=
  let acc := (List.zipWith (· * ·) ((List.range (cs.length / l + 1)).map (fun i => cs.getD (p + i * l) 0)) hist).foldl
    (· + ·) 0
  sat32I (roundConv acc 22)

/-- One input sample: up to L outputs, the prototype sample count kept in `skip`. -/
def rsStep (r : Rs) (cs : List Int) (st : Resamp) (x : Int) : Resamp × List Int :=
  let hist := (x :: st.hist).take (r.m / r.l + 1)
  (List.range r.l).foldl (fun (p : Resamp × List Int) i =>
    if p.1.skip = 0 then ({ p.1 with skip := r.d - 1 }, p.2 ++ [rsOut cs r.l i hist])
    else ({ p.1 with skip := p.1.skip - 1 }, p.2)) ({ st with hist := hist }, [])

def rsRun (r : Rs) (cs : List Int) (st : Resamp) : List Int → Resamp × List Int
  | [] => (st, [])
  | x :: xs =>
    let (st, a) := rsStep r cs st x
    let (st, b) := rsRun r cs st xs
    (st, a ++ b)

/-- Samples converted from rate `a` to rate `b` (R212). -/
def resample (a b : Nat) (st : Resamp) (xs : List Int) : Resamp × List Int :=
  match rsOf a b with
  | some r => rsRun r (rsCoefs r) st xs
  | none => (st, xs)

/-! ## Level, voice activity and score (R218) -/

/-- L_t of a tick's samples. -/
def tickLevel (xs : List Int) : Int := (lam ((xs.foldl (fun a x => a + x * x) 0).toNat / 40) - 49152) / 2

/-! ## Dynamics (R224, R225) -/

/-- a(t) for a time of `num` / `den` ms. -/
def dynCoef (num den : Nat) : Int :=
  fxRound (2 ^ 32 * (fxOne - fxExp (-(fxRat den (48 * num)))))

/-- The gain state after a sample: `inst` sets it at once on attack. -/
def dynStep (inst : Bool) (att rel g target : Int) : Int :=
  let t := target * 65536
  if t < g then (if inst then t else g + (t - g) * att / 2 ^ 32) else g + (t - g) * rel / 2 ^ 32

/-- Gain states and coefficients of a sink's stages for one tick. -/
structure DynCfg where
  d : SinkDyn
  thr : Int
  slope : Int
  att : Int
  rel : Int
  makeup : Int
  ceil : Int
  limAtt : Int
  limRel : Int
  fCeil : Int
  fRel : Int

def dynCfg (d : SinkDyn) (finalCeil finalRel : Nat) : DynCfg :=
  ⟨d, -(dbToLu d.thr), 1024 - (10240 / d.ratio : Nat), dynCoef d.att 10, dynCoef d.rel 1, dbToLu d.makeup, -(dbToLu d.ceil),
   dynCoef 1 10, dynCoef d.limRel 1, -(dbToLu finalCeil), dynCoef finalRel 1⟩

/-- One sample through compressor, limiter and final limiter; the gain states (compressor, limiter, final). -/
def dynSample (c : DynCfg) (g : Int × Int × Int) (x : Int) : (Int × Int × Int) × Int :=
  let (gc, gl, gf) := g
  let lv := sampleLevel x
  let gc := if c.d.compEn then
      dynStep false c.att c.rel gc (if lv ≤ c.thr then 0 else -((lv - c.thr) * c.slope / 1024)) else gc
  let x := if c.d.compEn then gainLu (gc / 65536 + c.makeup) x else x
  let gl := if c.d.limEn then dynStep false c.limAtt c.limRel gl (min 0 (c.ceil - sampleLevel x)) else gl
  let x := if c.d.limEn then gainLu (gl / 65536) x else x
  let gf := dynStep true 0 c.fRel gf (min 0 (c.fCeil - sampleLevel x))
  ((gc, gl, gf), gainLu (gf / 65536) x)

def dynRun (c : DynCfg) (g : Int × Int × Int) : List Int → (Int × Int × Int) × List Int
  | [] => (g, [])
  | x :: xs =>
    let (g, y) := dynSample c g x
    let (g, ys) := dynRun c g xs
    (g, y :: ys)

/-! ## Tones (R227, R228) -/

/-- Entry n of the sine table. -/
def sineTb (n : Nat) : Int :=
  let n := n % 1024
  -- fold to |angle| ≤ π
  let k : Int := if 512 < n then (n : Int) - 1024 else n
  fxRound (2 ^ 24 * fxSin (fxMul fxPi (fxRat (2 * k) 1024)))

/-- The sine value at a phase (R228). -/
def sineAt (phase : Nat) : Int :=
  let n := phase / 2 ^ 22
  let r : Int := (phase / 2 ^ 12 % 2 ^ 10 : Nat)
  let a := sineTb n
  a + (sineTb (n + 1) - a) * r / 1024

/-- round(2^15 × 10^(−lvl / 200)) of a level `lvl` × 0.1 dB below full scale. -/
def levelAmp (lvl : Nat) : Nat := (fxRound (2 ^ 15 * fxExp (-(fxMul fxLn10 (fxRat lvl 200))))).toNat

/-- The phase step of `f` Hz. -/
def phaseStep (f : Nat) : Nat := (ratRound (f * 2 ^ 32) 48000).toNat

/-- An oscillator of `f` Hz at `lvl` × 0.1 dB below full scale. -/
def oscOf (f lvl : Nat) : Osc := ⟨phaseStep f, levelAmp lvl, 0⟩

/-- One sample of the oscillators. -/
def oscSample (os : List Osc) : Int := os.foldl (fun a o => a + roundConv (sineAt o.phase * o.amp) 15) 0

def oscNext (os : List Osc) : List Osc := os.map (fun o => { o with phase := (o.phase + o.step) % 2 ^ 32 })

/-- The ramp weight 65,536 × (j + 1) / 96, at most 65,536. -/
def rampW (j : Nat) : Int := min 65536 (65536 * (j + 1) / 96 : Nat)

/-- A ramp in at sample `j` against silence. -/
def rampIn (j : Nat) (x : Int) : Int := roundConv (x * rampW j) 16

/-- A ramp out at sample `j` against silence. -/
def rampOut (j : Nat) (x : Int) : Int := roundConv (x * (65536 - rampW j)) 16

/-- One sample of a tone: the tone after it, or none when it has ended, and the sample. -/
def toneSample (t : Tone) : Option Tone × Int :=
  match t.cadence[t.seg]? with
  | none => (none, 0)
  | some (on, off) =>
    let onN := on.map (· * 40)
    let isOn := (onN.map (fun n => decide (t.pos < n))).getD true
    let osc0 := if t.pos = 0 then t.osc.map (fun o => { o with phase := 0 }) else t.osc
    let x := if isOn then oscSample osc0 else 0
    let x := if isOn ∧ t.pos < 96 then rampIn t.pos x else x
    let x := match onN with
      | some n => if isOn ∧ n ≤ t.pos + 96 then rampOut (t.pos + 96 - n) x else x
      | none => x
    let x := match t.ramp with
      | some n => rampOut (96 - n) x
      | none => x
    let t := { t with osc := if isOn then oscNext osc0 else osc0, pos := t.pos + 1, ramp := t.ramp.map (· - 1) }
    if t.ramp = some 0 then (none, x)
    else
      match onN with
      | none => (some t, x)
      | some n =>
        if t.pos < n + 40 * off then (some t, x)
        else if t.seg + 1 < t.cadence.length then (some { t with seg := t.seg + 1, pos := 0 }, x)
        else
          match t.left with
          | some 1 => (none, x)
          | some k => (some { t with seg := 0, pos := 0, left := some (k - 1) }, x)
          | none => (some { t with seg := 0, pos := 0 }, x)

/-- `n` samples of a tone. -/
def toneRun (t : Option Tone) (n : Nat) : Option Tone × List Int :=
  match n with
  | 0 => (t, [])
  | k + 1 =>
    match t with
    | none => (none, List.replicate (k + 1) 0)
    | some t =>
      let (t, x) := toneSample t
      let (t, xs) := toneRun t k
      (t, x :: xs)

/-- The frequencies of a DTMF tone (R227): digits 0 to 9, *, #, A to D. -/
def dtmf (id : Nat) : Nat × Nat :=
  let row (i : Nat) : Nat := [697, 770, 852, 941].getD i 0
  let col (i : Nat) : Nat := [1209, 1336, 1477, 1633].getD i 0
  if id = 0 then (row 3, col 1)
  else if id ≤ 9 then (row ((id - 1) / 3), col ((id - 1) % 3))
  else if id = 10 then (row 3, col 0)
  else if id = 11 then (row 3, col 2)
  else (row (id - 12), col 3)

/-- Frequencies with their levels, the cadence, and whether the tone sounds once, of a TONE_ID of R227; none when it is a
reserved encoding. -/
def toneSpec (id onT offT f1 f2 l1 l2 : Nat) : Option (List Osc × List (Option Nat × Nat) × Bool) :=
  if id ≤ 0x0f then
    let (a, b) := dtmf id
    some ([oscOf a 100, oscOf b 80], [(some (if onT = 0 then 96 else onT), offT)], false)
  else
    match id with
    | 0x10 => some ([oscOf 425 130], [(none, 0)], false)
    | 0x11 => some ([oscOf 425 130], [(some 1200, 4800)], false)
    | 0x12 => some ([oscOf 425 130], [(some 600, 600)], false)
    | 0x13 => some ([oscOf 425 130], [(some 300, 300)], false)
    | 0x14 => some ([oscOf 425 160], [(some 240, 240), (some 240, 12000)], false)
    | 0x18 => some ([oscOf 880 180], [(some 144, 0)], true)
    | 0x19 => some ([oscOf 660 180], [(some 144, 0)], true)
    | 0x1a => some ([oscOf 1400 200], [(some 240, 18000)], false)
    | 0x20 => some (oscOf f1 l1 :: (if f2 = 0 then [] else [oscOf f2 l2]), [(some onT, offT)], false)
    | _ => none

/-- The reserved encodings of AUD_TONE_PLAY's tone fields (R227, R236). -/
def toneReserved (id onT offT f1 f2 l1 l2 : Nat) : Bool :=
  let known := decide (id ≤ 0x14) || [0x18, 0x19, 0x1a, 0x20].contains id
  let fOk (f : Nat) : Bool := f = 0 || (decide (50 ≤ f) && decide (f ≤ 20000))
  !known || (decide (0x10 ≤ id) && id ≠ 0x20 && (onT ≠ 0 || offT ≠ 0)) || (id = 0x20 && onT = 0)
    || !fOk f1 || !fOk f2 || decide (600 < l1) || decide (600 < l2)

end Sys2Proof.Machine
end

