-- ==== Sys2Proof/Machine/PwrCore.lean ====
section
/-! DEFINITION. Mode changes (R20, R444) and what every part of the power manager shares. -/

namespace Sys2Proof.Machine

def setPwr (s : State) (p : Pwr) : State := { s with pwr := p }

/-- Whether power domain `d` of R438 is powered. -/
def domOn (s : State) (d : Nat) : Bool := (fld s PWR_DOM_ON).testBit d

/-- Power domain numbers (PWR_DOM_ON). -/
def DOM_MEM : Nat := 5
def DOM_BRS : Nat := 6
def DOM_VID : Nat := 7
def DOM_CNV : Nat := 8

/-- The mode becomes `m`: EV_PWR_MODE with `cause`, but for a change to or from RESET, BOOT or SLEEP (R444), and admission
opens or closes with it (R46). -/
def setMode (s : State) (m cause : Nat) : State :=
  let old := mode s
  let s := setFld (setFld s SYS_MODE_PREV old) SYS_MODE m
  let silent := [0, 1, 7].contains old || [0, 1, 7].contains m
  admRefresh (if silent then s else raise s 0 EV_PWR_MODE 0 (BitVec.ofNat 32 (cause * 256 + old * 16 + m)) 0 0 0)

/-- The mode that "RUN or DEGRADED" leads to (R405, R444). -/
def runMode (s : State) : Nat := if s.pwr.cond.isSome || s.mem.took then 4 else 3

/-- A transition to RUN or DEGRADED. -/
def enterRun (s : State) (cause : Nat) : State :=
  let m := runMode s
  let s := if m = 4 ∧ s.pwr.cond = none then setPwr s { s.pwr with cond := some true } else s
  setMode s m cause

/-- A fault that DEGRADED answers (R405, R513, R515): with admission closed, or open where no earlier fault closed it. In
RUN the mode changes at once; in another mode the condition waits for the next transition that R444 leads to RUN or
DEGRADED. The mode does not change any more once firmware has stopped (R512). -/
def degrade (s : State) (closed : Bool) : State :=
  if s.pwr.fwStop then s
  else if closed then
    let s := { setPwr s { s.pwr with cond := some false } with adm := { s.adm with degFault := true } }
    if mode s = 3 then setMode s 4 1 else admRefresh s
  else if mode s = 3 then setMode (setPwr s { s.pwr with cond := some (s.pwr.cond.getD true) }) 4 1
  else { s with mem := { s.mem with took := true } }

/-- ALERT_N's reason `r` on or off: bit 0 a fault, 1 boot failure, 2 firmware stop, 3 warning. ALERT_N is asserted while any
reason stands. -/
def alertSet (s : State) (r : Nat) (on : Bool) : State :=
  let a := s.pwr.alert
  setPwr s { s.pwr with alert := if on then a ||| 2 ^ r else a - (a &&& 2 ^ r) }

end Sys2Proof.Machine
end

