-- ==== Sys2Proof/Machine/CalCore.lean ====
section
/-! DEFINITION. Gesso records and their vote (R423 to R425), the Glaze image (R426 to R429), and live values (R432).
Log entries: 65, 66. -/

namespace Sys2Proof.Machine

/-- Items and indices of a class (R423); 0 for a class that the table does not list. -/
def calItems (c : Nat) : Nat :=
  match c with
  | 1 => 8 | 2 => 8 | 3 => 73 | 4 => 2 | 5 => 24 | 6 => 16 | 7 => 1 | _ => 0

def calCount (c : Nat) : Nat :=
  match c with
  | 1 => 16 | 2 => 36 | 3 => 128 | 4 => 4 | 5 => 1 | 6 => 1 | 7 => 1 | _ => 0

/-- The key of a record. -/
def calKey (c i : Nat) : Nat := 65536 * c + i

/-- The built-in default of an item (R423). -/
def calDefault (c i k : Nat) : Int :=
  match c with
  | 4 => if k = 0 then 31 else 32
  | 5 => 80
  | 6 => 0
  | 7 => 0
  | _ => (Config.calDefault c i k).toInt

/-- A signed 16-bit field. -/
def s16 (n : Nat) : Int := (BitVec.ofNat 16 n).toInt

/-- A copy is valid (R424): class, index and item count of its place, and the CRC-32 of every byte before it. -/
def copyValid (c i : Nat) (w : List Word) : Bool :=
  let n := calItems c
  w.length = n + 4 && bitsOf (w.getD 0 0) 31 24 = c && bitsOf (w.getD 0 0) 15 0 = i && bitsOf (w.getD 1 0) 31 16 = n
    && (w.getD (n + 3) 0).toNat = crc32 (wordBytes (w.take (n + 3)))

/-- What a copy's words say. -/
def copyRec (mask : Nat) (outcome : Option Nat) (w : List Word) : GessoRec where
  mask := mask
  outcome := outcome
  lo := s16 (bitsOf (w.getD 2 0) 31 16)
  hi := s16 (bitsOf (w.getD 2 0) 15 0)
  items := ((w.drop 3).dropLast).map (fun x => s16 (bitsOf x 15 0))

/-- The class's built-in default record. -/
def defaultRec (mask outcome c i : Nat) : GessoRec where
  mask := mask
  outcome := some outcome
  lo := (Config.calLimLo c).toInt
  hi := (Config.calLimHi c).toInt
  items := (List.range (calItems c)).map (calDefault c i)

/-- The vote of R425 over the three copies of a record. -/
def gessoVote (c i : Nat) (copies : List (List Word)) : GessoRec :=
  let at' (k : Nat) : List Word := copies.getD k []
  let ok (k : Nat) : Bool := copyValid c i (at' k)
  let mask := (List.range 3).foldl (fun a k => if ok k then a + 2 ^ k else a) 0
  let v := ((List.range 3).filter ok).map at'
  match v with
  | [a, b, d] =>
    if a = b ∧ b = d then copyRec mask none a
    else if a = b ∨ a = d then copyRec mask (some 0) a
    else if b = d then copyRec mask (some 0) b
    else defaultRec mask 2 c i
  | [a, b] => if a = b then copyRec mask (some 0) a else defaultRec mask 2 c i
  | [a] => copyRec mask (some 1) a
  | _ => defaultRec mask 3 c i

/-- The record in force; before a vote has run, the default. -/
def gessoOf (s : State) (c i : Nat) : GessoRec := (tget s.cal.recs (calKey c i)).getD (defaultRec 0 3 c i)

/-- A record that took its default at the last PRIME (R425). -/
def GessoRec.defaulted (r : GessoRec) : Bool := r.outcome = some 2 || r.outcome = some 3

/-- A setting `n` item steps on the way from `a` to `b`, item by item (R431). -/
def itemSteps (n : Nat) (a b : List Int) : List Int :=
  match a, b with
  | x :: xs, y :: ys =>
    let d := (y - x).natAbs
    (if d ≤ n then y else if x < y then x + n else x - n) :: itemSteps (n - d) xs ys
  | xs, _ => xs

/-- The values in use for a record: live, or those of the record before any are set. A proven SerDes candidate comes into use one item
step at a time, a step between two FEC codewords of 51.2 ns (R120, R431). -/
def liveOf (s : State) (c i : Nat) : List Int :=
  let v := (tget s.cal.live (calKey c i)).getD (gessoOf s c i).items
  match tget s.cal.moves (calKey c i) with
  | some m => itemSteps ((s.clk.cyc - m.2) * 25 / 1024) m.1 v
  | none => v

def setLive (s : State) (c i : Nat) (v : List Int) : State :=
  { s with cal := { s.cal with live := tset s.cal.live (calKey c i) v, moves := tdel s.cal.moves (calKey c i) } }

/-! ## Glaze -/

/-- The entries of an image whose words are `ws`. -/
def glazeEntries (ws : List Word) : List GlzEnt :=
  (List.range (bitsOf (ws.getD 0 0) 10 0)).map (fun i =>
    let a := ws.getD (4 + 2 * i) 0
    ⟨bitsOf a 31 24, bitsOf a 23 16, bitsOf a 15 0, BitVec.ofNat 16 (bitsOf (ws.getD (5 + 2 * i) 0) 15 0)⟩)

/-- Check 1 of R427: none when it passes, else the failing entry, or none inside when the header or CRC fails. -/
def glazeCheck1 (ws : List Word) : Option (Option Nat) :=
  let n := bitsOf (ws.getD 0 0) 10 0
  let body := (List.range (2 * n)).map (fun i => ws.getD (4 + i) 0)
  if bitsOf (ws.getD 0 0) 31 24 ≠ 1 ∨ bitsOf (ws.getD 0 0) 23 11 ≠ 0 ∨ 1024 < n ∨ bitsOf (ws.getD 1 0) 31 16 ≠ 0x9416
      ∨ bitsOf (ws.getD 1 0) 15 0 ≠ 0 ∨ ws.getD 3 0 ≠ 0 ∨ (ws.getD 2 0).toNat ≠ crc32 (wordBytes body) then some none
  else
    ((List.range n).find? (fun i =>
      bitsOf (body.getD (2 * i + 1) 0) 31 16 ≠ 0)).map some

/-- Check 2 of R427: an item that R423 does not list, or SPARE_PC. -/
def glazeBadItem (e : GlzEnt) : Bool := calCount e.cls ≤ e.index || calItems e.cls ≤ e.item || (e.cls = 4 && e.item = 0)

/-- Check 4 of R427. -/
def glazeBadDelta (s : State) (e : GlzEnt) : Bool :=
  e.cls ≠ 4 && (decide (e.value.toInt < (gessoOf s e.cls e.index).lo) || decide ((gessoOf s e.cls e.index).hi < e.value.toInt))

/-- Check 5 of R427. -/
def glazeBadMap (s : State) (e : GlzEnt) : Bool := e.cls = 4 && (gessoOf s 4 e.index).items.getD 1 0 ≠ 32

/-- The first index at which `f` holds. -/
def firstIdx (f : GlzEnt → Bool) (es : List GlzEnt) : Option Nat := (List.range es.length).find? (fun i => (es[i]?.map f).getD false)

/-- The first entry that names an item an earlier entry names. -/
def glazeDup (es : List GlzEnt) : Option Nat :=
  (List.range es.length).find? (fun i =>
    match es[i]? with
    | some e => (es.take i).any (fun d => d.cls = e.cls && d.item = e.item && d.index = e.index)
    | none => false)

/-- An image's words (R426). -/
def glazeWords (es : List GlzEnt) : List Word :=
  let body := (es.map (fun (e : GlzEnt) =>
    [BitVec.ofNat 32 (e.cls * 2 ^ 24 + e.item * 2 ^ 16 + e.index), e.value.setWidth 32])).flatten
  [BitVec.ofNat 32 (2 ^ 24 + es.length), BitVec.ofNat 32 (0x9416 * 65536), BitVec.ofNat 32 (crc32 (wordBytes body)), 0] ++ body

/-! ## At PRIME (R425, R428, R429) -/

/-- The vote of one record, with its event and counts. -/
def gessoPut (s : State) (c i : Nat) (copies : List (List Word)) : State :=
  let r := gessoVote c i copies
  let s := { s with cal := { s.cal with
    recs := tset s.cal.recs (calKey c i) r, live := tset s.cal.live (calKey c i) r.items } }
  match r.outcome with
  | none => s
  | some o =>
    let s := if 2 ≤ o then setBit (bump s CAL_GESSO_DEF 1) CAL_ST_DEFAULT else bump s CAL_GESSO_VOTE 1
    raise s 0 EV_CAL_GESSO (BitVec.ofNat 16 (c * 256 + i)) (BitVec.ofNat 32 (r.mask * 16 + o)) 0 0 0

/-- The three copies of a record as this PRIME reads them: those of the OTP store, where `g` names no others (R423, R425). -/
def gessoRead (g : GessoImage) (c i : Nat) : List (List Word) :=
  ((g.find? (fun x => x.1.toNat = c && x.2.1.toNat = i)).map (·.2.2)).getD ((List.range 3).map (Config.gesso c i))

/-- The vote for every record, in the order of R423. -/
def gessoAll (s : State) (g : GessoImage) : State :=
  [1, 2, 3, 4, 5, 6, 7].foldl (fun s c => (List.range (calCount c)).foldl (fun s i => gessoPut s c i (gessoRead g c i)) s) s

/-- A Glaze entry is skipped at PRIME (R429). -/
def glazeSkipped (s : State) (e : GlzEnt) : Bool :=
  glazeBadItem e || glazeBadDelta s e || glazeBadMap s e || (gessoOf s e.cls e.index).defaulted

/-- A Glaze entry put in force (R429); a class 0x04 entry is taken by the stack's map. -/
def glazePut (s : State) (e : GlzEnt) : State :=
  if e.cls = 4 then setLive s 4 e.index ((liveOf s 4 e.index).set 1 e.value.toNat)
  else setLive s e.cls e.index ((liveOf s e.cls e.index).set e.item ((gessoOf s e.cls e.index).items.getD e.item 0 + e.value.toInt))

/-- The Glaze image of PRIME: from the AON store, else from the flash at CAL_FLASH_OFS, whose words are `flash`, else none
(R428); its entries in order, skipped ones counted and reported (R429). -/
def glazeApply (s : State) (flash : List Word) : State :=
  let s := if s.cal.store.isNone && bit s CAL_FLASH_EN then emitOut s (.qspi (fld s CAL_FLASH_OFS * 65536)) else s
  let (src, es) : Nat × List GlzEnt :=
    match s.cal.store with
    | some es => (1, es)
    | none => if bit s CAL_FLASH_EN && (glazeCheck1 flash).isNone then (2, glazeEntries flash) else (0, [])
  let skip (e : GlzEnt) : Bool := glazeSkipped s e
  let sk := es.filter skip
  let first := (firstIdx skip es).getD 0
  let s := (es.filter (fun e => !skip e)).foldl glazePut s
  let s := setFld (setFld (setFld s CAL_GLZ_SRC src) CAL_GLAZE_SKIP sk.length) CAL_GLAZE_APPLIED (es.length - sk.length)
  let s := { s with cal := { s.cal with applied := es } }
  if sk.isEmpty then s
  else raise (setBit s CAL_ST_GLAZE_SKIP) 0 EV_CAL_GLAZE 0 (BitVec.ofNat 32 sk.length) (BitVec.ofNat 32 first) (BitVec.ofNat 32 src) 0

/-- The stack map in force after Gesso and Glaze (R390, R406, R429): the spare, the pseudo-channel mapped out, the slots. -/
def stackMap (s : State) (st : Nat) : Nat × Nat × List Nat :=
  let l := liveOf s 4 st
  let sp := (l.getD 0 31).toNat
  let out := (l.getD 1 32).toNat
  if out < 32 then (32, out, (List.range 32).filter (fun p => decide (p ≠ out)))
  else (sp, 32, (List.range 32).filter (fun p => decide (p ≠ sp)))

/-- The stacks' maps and their registers, as a PRIME starts. -/
def stacksInit (s : State) : State :=
  (List.range 4).foldl (fun s st =>
    let m := stackMap s st
    let s := setFld (setFld s (MEM_SPARE_PC st) m.1) (MEM_OUT_PC st) m.2.1
    let s := setFld s (MEM_SPARE_STATE st) (if m.1 = 32 then 3 else 0)
    { s with mem := { s.mem with hbmStacks := tset s.mem.hbmStacks st { slots := m.2.2 } } }) s

/-! ## Live trim (R431, R432) -/

/-- Link training of a SerDes lane (R120, R429): what it finds is not stated, so each item takes a free value within the
range of R432. -/
def linkTrain (s : State) (c i : Nat) : State :=
  let r := gessoOf s c i
  setLive s c i ((List.range 8).map (fun k =>
    let lo := r.items.getD k 0 + r.lo
    let hi := r.items.getD k 0 + r.hi
    let v := (Config.trained (calKey c i) k s.clk.cyc).toInt
    if v < lo then lo else if hi < v then hi else v))

/-- A trim of an item to `v`: held at the record's limits, an overreach reported at most once per item per 1,200 ticks. -/
def trimItem (s : State) (c i k : Nat) (v : Int) : State :=
  let r := gessoOf s c i
  let g := r.items.getD k 0
  let lo := g + r.lo
  let hi := g + r.hi
  let s' := setLive s c i ((liveOf s c i).set k (if v < lo then lo else if hi < v then hi else v))
  if lo ≤ v ∧ v ≤ hi then s'
  else
    let s' := setBit s' CAL_ST_TRIM_LIMIT
    let key := 256 * calKey c i + k
    match tget s.cal.limAt key with
    | some n => if curTick s < n + 1200 then s' else put s' key
    | none => put s' key
where
  put (s' : State) (key : Nat) : State :=
    raise { s' with cal := { s'.cal with limAt := tset s'.cal.limAt key (curTick s') } } 0 EV_CAL_TRIM_LIMIT
      (BitVec.ofNat 16 (c * 256 + i)) (BitVec.ofNat 32 (k + if (gessoOf s c i).items.getD k 0 + (gessoOf s c i).hi < v then 256 else 0)) 0 0 0

end Sys2Proof.Machine
end

