-- ==== Sys2Proof/Machine/Packets.lean ====
section
/-! DEFINITION. Frames and packets as bytes: Ethernet, VLAN tags, IP and UDP headers with their checks (R123, R124) and
as the device builds them (R128); RTP headers and header extensions (R159); RTCP packets the device reads and sends (R127,
R162, R163, R169). Log entries: 21, 26. -/

namespace Sys2Proof.Machine

/-! ## Checksums -/

/-- The 16-bit ones' complement sum of bytes, padded to even length. -/
def sum16 (bs : List Byte) : Nat :=
  let t := (chunks 2 bs.length bs).foldl (fun a c => a + be (c ++ [0]) 0 2) 0
  let f := t % 65536 + t / 65536
  f % 65536 + f / 65536

/-- The checksum field that makes the sum of `bs` with it right. -/
def cksum (bs : List Byte) : Nat := 65535 - sum16 bs

/-- The pseudo header of UDP (protocol 17) over IPv4 or IPv6. -/
def pseudo (v6 : Bool) (src dst : List Byte) (len : Nat) : List Byte :=
  if v6 then src ++ dst ++ natBE 4 len ++ [0, 0, 0, 17] else src ++ dst ++ [0, 17] ++ natBE 2 len

/-! ## Received frames -/

/-- The tags and EtherType of a frame: the VLAN tags as (TPID, TCI), the EtherType and its offset. -/
structure Eth where
  tags : List (Nat × Nat)
  etype : Nat
  off : Nat

def isTag (t : Nat) : Bool := t = 0x8100 || t = 0x88a8

/-- Read tags and the EtherType of a frame that starts at its destination MAC; at most three tags are read. -/
def parseEth (b : List Byte) : Eth :=
  let t1 := be b 12 2
  if isTag t1 then
    let t2 := be b 16 2
    if isTag t2 then
      let t3 := be b 20 2
      if isTag t3 then ⟨[(t1, be b 14 2), (t2, be b 18 2), (t3, be b 22 2)], be b 24 2, 26⟩
      else ⟨[(t1, be b 14 2), (t2, be b 18 2)], t3, 22⟩
    else ⟨[(t1, be b 14 2)], t2, 18⟩
  else ⟨[], t1, 14⟩

/-- Step 3 of R123: at most two tags, the inner one 0x8100. -/
def tagsOk (e : Eth) : Bool :=
  match e.tags with
  | [] => true
  | [_] => true
  | [_, (t, _)] => t = 0x8100
  | _ => false

/-- What the network layer of a frame holds: version, header checks, addresses, protocol, the UDP header's
offset, the length after the network header, and whether it is a fragment without the start of its datagram. -/
structure Ip where
  v6 : Bool
  ok : Bool
  odd : Bool
  proto : Nat
  src : Nat
  dst : Nat
  pay : Nat
  len : Nat
  later : Bool := false

/-- The IPv4 or IPv6 header at offset `o` (R124): `odd` marks IPv4 options or fragments and IPv6 with another header than
UDP after the fixed header (R123 step 9). -/
def parseIp (etype : Nat) (b : List Byte) (o : Nat) : Ip :=
  if etype = 0x0800 then
    let ihl := be b o 1 % 16
    let tot := be b (o + 2) 2
    let frag := be b (o + 6) 2 % 2 ^ 14
    { v6 := false
      ok := be b o 1 / 16 = 4 && 5 ≤ ihl && o + 4 * ihl ≤ b.length && sum16 (sl b o (4 * ihl)) = 65535
        && 4 * ihl ≤ tot && o + tot ≤ b.length
      odd := ihl ≠ 5 || frag ≠ 0
      proto := be b (o + 9) 1
      src := be b (o + 12) 4
      dst := be b (o + 16) 4
      pay := o + 4 * ihl
      len := tot - 4 * ihl
      later := frag % 2 ^ 13 ≠ 0 }
  else
    let len := be b (o + 4) 2
    { v6 := true
      ok := be b o 1 / 16 = 6 && o + 40 ≤ b.length && o + 40 + len ≤ b.length
      odd := be b (o + 6) 1 ≠ 17
      proto := be b (o + 6) 1
      src := be b (o + 8) 16
      dst := be b (o + 24) 16
      pay := o + 40
      len := len }

/-- UDP to port `d` (R123 step 5): the rows for headers that fail, options and fragments come after it, so it reads the port wherever a
UDP header stands. -/
def Ip.udpTo (i : Ip) (b : List Byte) (d : Nat) : Bool := i.proto = 17 && !i.later && be b (i.pay + 2) 2 = d

/-- An address of the packet as bytes. -/
def Ip.addr (i : Ip) (a : Nat) : List Byte := natBE (if i.v6 then 16 else 4) a

/-- The UDP header passes R124. -/
def udpOk (i : Ip) (b : List Byte) : Bool :=
  let ul := be b (i.pay + 4) 2
  let ck := be b (i.pay + 6) 2
  8 ≤ ul && ul ≤ i.len &&
  (if ck = 0 then !i.v6
   else sum16 (pseudo i.v6 (i.addr i.src) (i.addr i.dst) ul ++ sl b i.pay ul) = 65535)

/-! ## Frames the device builds (R128) -/

/-- An egress frame from a bind block, without FCS: source MAC, TTL and UDP payload given. -/
def buildFrame (blk : BindBlk) (smac ttl : Nat) (pay : List Byte) : List Byte :=
  let tag := if blk.vlanEn then natBE 2 0x8100 ++ natBE 2 (blk.pcp * 2 ^ 13 + blk.vlan) else []
  let ul := 8 + pay.length
  let n := if blk.ipv6 then 16 else 4
  let src := natBE n blk.localIp
  let dst := natBE n blk.remoteIp
  let uh := natBE 2 blk.localUdp ++ natBE 2 blk.remoteUdp ++ natBE 2 ul
  let c := cksum (pseudo blk.ipv6 src dst ul ++ uh ++ [0, 0] ++ pay)
  let udp := uh ++ natBE 2 (if c = 0 then 65535 else c) ++ pay
  let ip :=
    if blk.ipv6 then
      natBE 4 (6 * 2 ^ 28 + blk.dscp * 2 ^ 22) ++ natBE 2 ul ++ [17, BitVec.ofNat 8 ttl] ++ src ++ dst
    else
      let h0 := [0x45, BitVec.ofNat 8 (4 * blk.dscp)] ++ natBE 2 (20 + ul) ++ [0, 0, 0x40, 0, BitVec.ofNat 8 ttl, 17]
      h0 ++ natBE 2 (cksum (h0 ++ [0, 0] ++ src ++ dst)) ++ src ++ dst
  let f := natBE 6 blk.mac ++ natBE 6 smac ++ tag ++ natBE 2 (if blk.ipv6 then 0x86dd else 0x0800) ++ ip ++ udp
  f ++ zeros (60 - f.length)

/-! ## RTP -/

/-- The length of an RTP packet's header, to the end of its header extension; the packet's length when it is cut short. -/
def rtpHdrLen (p : List Byte) : Nat :=
  let h := 12 + 4 * (be p 0 1 % 16)
  let n := if be p 0 1 / 16 % 2 = 1 then h + 4 + 4 * be p (h + 2) 2 else h
  min n p.length

/-- One element of an RTP header extension (RFC 8285): ID, offset of its header, header length, offset and length of its
data. -/
structure ExtEl where
  id : Nat
  at' : Nat
  hl : Nat
  len : Nat

/-- The elements of an extension block that holds `n` bytes from offset `o`; `k` bounds the count. -/
def extEls (two : Bool) (h : List Byte) (o n k : Nat) : List ExtEl :=
  match k with
  | 0 => []
  | k + 1 =>
    if n = 0 then []
    else
      let b := be h o 1
      if b = 0 then extEls two h (o + 1) (n - 1) k
      else if two then
        let l := be h (o + 1) 1
        ⟨b, o, 2, l⟩ :: extEls two h (o + 2 + l) (n - (2 + l)) k
      else if b / 16 = 15 then []
      else
        let l := b % 16 + 1
        ⟨b / 16, o, 1, l⟩ :: extEls two h (o + 1 + l) (n - (1 + l)) k

/-- The header-extension elements of an RTP header, in the one-byte or the two-byte form. -/
def rtpExts (h : List Byte) : List ExtEl :=
  if be h 0 1 / 16 % 2 = 1 then
    let o := 12 + 4 * (be h 0 1 % 16)
    let n := min (4 * be h (o + 2) 2) (h.length - (o + 4))
    if be h o 2 = 0xbede then extEls false h (o + 4) n n
    else if be h o 2 / 16 = 0x100 then extEls true h (o + 4) n n
    else []
  else []

/-- The data of the element with ID `id`; none when absent or `id` is 0. -/
def extData (h : List Byte) (id : Nat) : Option (List Byte) :=
  if id = 0 then none
  else ((rtpExts h).find? (fun e => e.id = id)).map (fun e => sl h (e.at' + e.hl) e.len)

/-- `bs` with the bytes from offset `o` replaced by `v`. -/
def putB (bs : List Byte) (o : Nat) (v : List Byte) : List Byte := bs.take o ++ v ++ bs.drop (o + v.length)

/-- Give the element with ID `i` the ID `o`, or zero padding over all of it when `o` is 0 (R159). -/
def extRewrite (h : List Byte) (i o : Nat) : List Byte :=
  if i = 0 then h
  else
    match (rtpExts h).find? (fun e => e.id = i) with
    | none => h
    | some e =>
      if o = 0 then putB h e.at' (zeros (min (e.hl + e.len) (h.length - e.at')))
      else if e.hl = 2 then putB h e.at' (natBE 1 o)
      else putB h e.at' (natBE 1 (o * 16 + (e.len - 1)))

/-- The RTP header of a packet the device originates. -/
def rtpHeader (marker : Bool) (pt seq ts ssrc : Nat) : List Byte :=
  [0x80, BitVec.ofNat 8 ((if marker then 128 else 0) + pt)] ++ natBE 2 seq ++ natBE 4 ts ++ natBE 4 ssrc

/-! ## RTCP -/

/-- One packet of a compound: count or FMT, packet type, and its bytes with the header. -/
structure RtcpPkt where
  cnt : Nat
  pt : Nat
  b : List Byte

/-- The packets of a compound RTCP packet; `k` bounds the count. -/
def rtcpSplit (b : List Byte) (k : Nat) : List RtcpPkt :=
  match k with
  | 0 => []
  | k + 1 =>
    if b.length < 8 then []
    else
      let l := 4 * (be b 2 2 + 1)
      ⟨be b 0 1 % 32, be b 1 1, b.take l⟩ :: rtcpSplit (b.drop l) k

/-- The report blocks of an SR or RR as (SSRC, fraction lost). -/
def RtcpPkt.reports (p : RtcpPkt) : List (Nat × Nat) :=
  let o := if p.pt = 200 then 28 else 8
  if p.pt = 200 ∨ p.pt = 201 then
    ((List.range p.cnt).filter (fun i => o + 24 * (i + 1) ≤ p.b.length)).map
      (fun i => (be p.b (o + 24 * i) 4, be p.b (o + 24 * i + 4) 1))
  else []

/-- Whether firmware receives a copy of a compound with this packet (R127). -/
def RtcpPkt.copied (p : RtcpPkt) : Bool :=
  p.pt = 200 || (p.pt = 201 && p.cnt ≠ 0) || (p.pt = 205 && (p.cnt = 1 || p.cnt = 11))
    || (p.pt = 206 && (p.cnt = 1 || p.cnt = 4))

/-- The media SSRCs a PLI or FIR names. -/
def RtcpPkt.kpTargets (p : RtcpPkt) : List Nat :=
  if p.pt = 206 ∧ p.cnt = 1 then [be p.b 8 4]
  else if p.pt = 206 ∧ p.cnt = 4 then (List.range ((p.b.length - 12) / 8)).map (fun i => be p.b (12 + 8 * i) 4)
  else []

/-- The metric blocks of an RFC 8888 report from offset `o`: (SSRC, sequence number, received, arrival time offset). -/
def ccfbBlocks (b : List Byte) (k : Nat) : List (Nat × Nat × Bool × Nat) :=
  match k with
  | 0 => []
  | k + 1 =>
    if b.length < 8 then []
    else
      let n := be b 6 2
      let sz := 8 + 2 * n + (if n % 2 = 1 then 2 else 0)
      (List.range n).map (fun i =>
        let m := be b (8 + 2 * i) 2
        (be b 0 4, (be b 4 2 + i) % 65536, decide (32768 ≤ m), m % 8192)) ++ ccfbBlocks (b.drop sz) k

/-- The entries of an RFC 8888 report, and its report timestamp in 1/65,536 s. -/
def RtcpPkt.ccfb (p : RtcpPkt) : Nat × List (Nat × Nat × Bool × Nat) :=
  let body := (p.b.drop 8).take (p.b.length - 12)
  (be p.b (p.b.length - 4) 4, ccfbBlocks body body.length)

/-- A PLI from `snd` for `media`. -/
def rtcpPli (snd media : Nat) : List Byte := [0x81, 206, 0, 2] ++ natBE 4 snd ++ natBE 4 media

/-- A FIR from `snd` for `media` with its sequence number. -/
def rtcpFir (snd media seq : Nat) : List Byte :=
  [0x84, 206, 0, 4] ++ natBE 4 snd ++ [0, 0, 0, 0] ++ natBE 4 media ++ [BitVec.ofNat 8 seq, 0, 0, 0]

/-- An SR without report blocks. -/
def rtcpSr (snd ntpHi ntpLo ts pkts octets : Nat) : List Byte :=
  [0x80, 200, 0, 6] ++ natBE 4 snd ++ natBE 4 ntpHi ++ natBE 4 ntpLo ++ natBE 4 ts ++ natBE 4 pkts ++ natBE 4 octets

end Sys2Proof.Machine
end

