-- ==== Sys2Proof/Machine/Layers.lean ====
section
/-! DEFINITION. The coding layer of a received packet (R156, R157), read from the payload descriptors and header extensions
of the standards the spec names: RFC 7741 (VP8), RFC 9626 (frame marking), RFC 7798 (H.265) and the AV1 dependency
descriptor. The formats are PRESUMED from those standards (log entry 21). Log entries: 21, 108. -/

namespace Sys2Proof.Machine

/-- A reader over bits, most significant first: the bits left. -/
abbrev Bits := List Bool

def toBits (bs : List Byte) : Bits := bs.flatMap (fun b => (List.range 8).map (fun i => b.getLsbD (7 - i)))

/-- `n` bits of a number, most significant first, and bits as bytes, filled up with zeros. -/
def putBits (n v : Nat) : Bits := (List.range n).map (fun i => v.testBit (n - 1 - i))
def bitBytes (b : Bits) : List Byte :=
  (chunks 8 b.length b).map (fun c => BitVec.ofNat 8 (((c ++ List.replicate (8 - c.length) false).foldl (fun a x => 2 * a + (if x then 1 else 0)) 0)))

/-- Read `n` bits as a number; bits past the end read 0. -/
def rd (n : Nat) (b : Bits) : Nat × Bits :=
  ((b ++ List.replicate n false).take n |>.foldl (fun a x => 2 * a + (if x then 1 else 0)) 0, b.drop n)

/-- The non-symmetric unsigned value ns(n). -/
def rdNs (n : Nat) (b : Bits) : Nat × Bits :=
  let w := Nat.log2 n + 1
  let m := 2 ^ w - n
  let (v, b) := rd (w - 1) b
  if v < m then (v, b)
  else
    let (x, b) := rd 1 b
    (2 * v - m + x, b)

/-- Template layers: (spatial, temporal) per template. -/
def ddLayers (s t k : Nat) (b : Bits) : List (Nat × Nat) × Bits :=
  match k with
  | 0 => ([], b)
  | k + 1 =>
    let (c, b) := rd 2 b
    let r := match c with
      | 0 => ddLayers s t k b
      | 1 => ddLayers s (t + 1) k b
      | 2 => ddLayers (s + 1) 0 k b
      | _ => ([], b)
    ((s, t) :: r.1, r.2)

/-- `n` values of `w` bits. -/
def rdMany (w n : Nat) (b : Bits) : List Nat × Bits :=
  match n with
  | 0 => ([], b)
  | k + 1 =>
    let (v, b) := rd w b
    let r := rdMany w k b
    (v :: r.1, r.2)

/-- The DTIs of `n` templates over `dts` decode targets. -/
def ddDtis (dts n : Nat) (b : Bits) : List (List Nat) × Bits :=
  match n with
  | 0 => ([], b)
  | k + 1 =>
    let (v, b) := rdMany 2 dts b
    let r := ddDtis dts k b
    (v :: r.1, r.2)

/-- The number of 4-bit differences that follow, each announced by a flag. -/
def ddFdiff (k : Nat) (b : Bits) : Nat × Bits :=
  match k with
  | 0 => (0, b)
  | k + 1 =>
    let (f, b) := rd 1 b
    if f = 0 then (0, b)
    else
      let r := ddFdiff k (rd 4 b).2
      (r.1 + 1, r.2)

def ddFdiffs (n : Nat) (b : Bits) : List Nat × Bits :=
  match n with
  | 0 => ([], b)
  | k + 1 =>
    let (v, b) := ddFdiff b.length b
    let r := ddFdiffs k b
    (v :: r.1, r.2)

/-- Skip `n` values ns(m). -/
def skipNs (m n : Nat) (b : Bits) : Bits :=
  match n with
  | 0 => b
  | k + 1 => skipNs m k (rdNs m b).2

/-- The number of differences of a frame's own list, sizes in units of 4 bits. -/
def frameFdiffs (k : Nat) (b : Bits) : Nat :=
  match k with
  | 0 => 0
  | k + 1 =>
    let (sz, b) := rd 2 b
    if sz = 0 then 0 else 1 + frameFdiffs k (b.drop (4 * sz))

/-- A template dependency structure. -/
def ddStruct (b : Bits) : DdStruct × Bits :=
  let (off, b) := rd 6 b
  let (c, b) := rd 5 b
  let dts := c + 1
  let (lay, b) := ddLayers 0 0 b.length b
  let n := lay.length
  let (dtis, b) := ddDtis dts n b
  let (fd, b) := ddFdiffs n b
  let (ch, b) := rdNs (dts + 1) b
  let b := if ch = 0 then b else (skipNs ch dts b).drop (4 * n * ch)
  let maxS := lay.foldl (fun m x => max m x.1) 0
  let (res, b) := rd 1 b
  let b := if res = 1 then b.drop (32 * (maxS + 1)) else b
  (⟨off, (List.range n).map (fun i => ((lay.getD i (0, 0)).1, (lay.getD i (0, 0)).2, dtis.getD i [], fd.getD i 0)), dts⟩, b)

/-- Whether a structure is within the limits of R157. -/
def DdStruct.supported (d : DdStruct) : Bool :=
  d.templates.length ≤ 64 && d.dts ≤ 16 && d.templates.all (fun t => t.1 ≤ 2 && t.2.1 ≤ 2)

/-- The layer a decode target maps to (R157). One that is "not present" in every template maps to (0, 0): the model's choice,
log entry 108. -/
def DdStruct.target (d : DdStruct) (i : Nat) : Nat × Nat :=
  d.templates.foldl (fun m t => if t.2.2.1.getD i 0 = 0 then m else (max m.1 t.1, max m.2 t.2.1)) (0, 0)

/-- The lowest-numbered decode target that maps to layer (s, t). -/
def DdStruct.find (d : DdStruct) (s t : Nat) : Option Nat :=
  (List.range d.dts).find? (fun i => d.target i = (s, t))

/-- The facts of an AV1 packet from its dependency descriptor, read with the structure in force `prev` unless the packet
carries one. -/
def layerAv1 (prev : Option DdStruct) (el : Option (List Byte)) : LayerFacts :=
  match el with
  | none => {}
  | some bs =>
    let b := toBits bs
    let (_, b) := rd 1 b
    let (eof, b) := rd 1 b
    let (tpl, b) := rd 6 b
    let (_, b) := rd 16 b
    let ext := decide (3 < bs.length)
    let (fl, b) := if ext then rd 5 b else (0, b)
    let (st, b) := if fl.testBit 4 then (some (ddStruct b).1, (ddStruct b).2) else (none, b)
    match st.orElse (fun _ => prev) with
    | none => { eof := eof = 1 }
    | some d =>
      let b := if fl.testBit 3 then b.drop d.dts else b
      match d.templates[(tpl + 64 - d.offset) % 64]? with
      | none => { eof := eof = 1, struct := st }
      | some t =>
        let (dti, b) := if fl.testBit 2 then rdMany 2 d.dts b else (t.2.2.1, b)
        let fd := if fl.testBit 1 then frameFdiffs b.length b else t.2.2.2
        { sid := t.1, tid := t.2.1, eof := eof = 1, dd := true, dti := dti, struct := st
          key := st.isSome && fd = 0, mark := false }

/-- The facts of a VP8 packet (RFC 7741). -/
def layerVp8 (p : List Byte) : LayerFacts :=
  let b0 := be p 0 1
  let x := b0.testBit 7
  let b1 := if x then be p 1 1 else 0
  let o := if x then 2 else 1
  let o := if b1.testBit 7 then (if (be p o 1).testBit 7 then o + 2 else o + 1) else o
  let o := if b1.testBit 6 then o + 1 else o
  let tk := b1.testBit 5 || b1.testBit 4
  let t := if tk then be p o 1 else 0
  let o := if tk then o + 1 else o
  { tid := if b1.testBit 5 then t / 64 else 0
    mark := b1.testBit 5 && t.testBit 5
    key := b0.testBit 4 && b0 % 8 = 0 && decide (o < p.length) && !(be p o 1).testBit 0 }

/-- The NAL unit types of an H.264 payload: a single unit, the units of a STAP-A, or the unit a FU-A is part of. -/
def h264Types (p : List Byte) (k : Nat) : List Nat :=
  match k with
  | 0 => []
  | k + 1 => if p.length < 3 then [] else be p 2 1 % 32 :: h264Types (p.drop (2 + be p 0 2)) k

/-- The facts of an H.264 packet with its frame-marking element (RFC 9626). -/
def layerH264 (fm : Option (List Byte)) (p : List Byte) : LayerFacts :=
  let t := be p 0 1 % 32
  let ts := if t = 24 then h264Types (p.drop 1) p.length else if t = 28 then [be p 1 1 % 32] else [t]
  match fm with
  | none => { key := ts.contains 5 }
  | some f =>
    let b := be f 0 1
    { tid := if 2 ≤ f.length then b % 8 else 0
      key := ts.contains 5 || b.testBit 5
      mark := decide (2 ≤ f.length) && b.testBit 3 }

/-- The NAL unit types of the units of an H.265 aggregation packet, each behind its 2-byte size. -/
def h265Types (p : List Byte) (k : Nat) : List Nat :=
  match k with
  | 0 => []
  | k + 1 => if p.length < 3 then [] else be p 2 1 / 2 % 64 :: h265Types (p.drop (2 + be p 0 2)) k

/-- The facts of an H.265 packet (RFC 7798): a single unit, the units of an aggregation packet, or the unit of a fragmentation
unit. Any IRAP unit makes it a key picture's; the first unit alone marks an up-switch point (R156). -/
def layerH265 (p : List Byte) : LayerFacts :=
  let t := be p 0 1 / 2 % 64
  let ts := if t = 48 then h265Types (p.drop 2) p.length else if t = 49 then [be p 2 1 % 64] else [t]
  { tid := be p 1 1 % 8 - 1
    key := ts.any (fun n => decide (16 ≤ n) && decide (n ≤ 21))
    mark := (ts.head?.map (fun n => decide (2 ≤ n) && decide (n ≤ 5))).getD false }

/-- The facts of a packet of a codec, by its header and payload in clear. AV1 without a dependency descriptor has one layer, and the N
bit of its aggregation header opens a coded video sequence, with a key picture (PRESUMED, log entry 21). -/
def layerOf (codec ddIn fmIn : Nat) (prev : Option DdStruct) (hdr pay : List Byte) : LayerFacts :=
  match codec with
  | 0x12 => if ddIn = 0 then { key := (be pay 0 1).testBit 3 } else layerAv1 prev (extData hdr ddIn)
  | 0x13 => layerVp8 pay
  | 0x10 => layerH264 (extData hdr fmIn) pay
  | 0x11 => layerH265 pay
  | _ => {}

end Sys2Proof.Machine
end

