-- ==== Sys2Proof/Machine/Crypto.lean ====
section
/-! DEFINITION. The transforms of the standards that media security names (R178 to R189): AES (FIPS 197), SHA-1 and
SHA-256 (FIPS 180-4), HMAC (RFC 2104), HKDF (RFC 5869), AES key wrap (RFC 3394), GCM (SP 800-38D), P-256 (FIPS 186),
the key derivation and the transforms of SRTP and SRTCP (RFC 3711, RFC 6188, RFC 7714). The spec gives their names; their
contents are PRESUMED from the standards (log entry 20). Log entries: 20. -/

namespace Sys2Proof.Machine

/-! ## AES -/

/-- Multiplication by x in AES's field. -/
def xtime (b : Byte) : Byte := (b <<< 1) ^^^ (if b.getLsbD 7 then 0x1b else 0)

/-- Product in AES's field. -/
def gmul (a b : Byte) : Byte :=
  ((List.range 8).foldl (fun (p : Byte × Byte) i =>
    (if b.getLsbD i then p.1 ^^^ p.2 else p.1, xtime p.2)) (0, a)).1

/-- The AES S-box: the inverse as the 254th power, then the affine map. -/
def sbox (b : Byte) : Byte :=
  let b2 := gmul b b
  let b4 := gmul b2 b2
  let b8 := gmul b4 b4
  let b16 := gmul b8 b8
  let b32 := gmul b16 b16
  let b64 := gmul b32 b32
  let b128 := gmul b64 b64
  let v := gmul (gmul (gmul b2 b4) (gmul b8 b16)) (gmul (gmul b32 b64) b128)
  v ^^^ v.rotateLeft 1 ^^^ v.rotateLeft 2 ^^^ v.rotateLeft 3 ^^^ v.rotateLeft 4 ^^^ 0x63

/-- The inverse S-box: the inverse affine map, then the inverse in the field. -/
def invSbox (b : Byte) : Byte :=
  let c := b.rotateLeft 1 ^^^ b.rotateLeft 3 ^^^ b.rotateLeft 6 ^^^ 0x05
  let c2 := gmul c c
  let c4 := gmul c2 c2
  let c8 := gmul c4 c4
  let c16 := gmul c8 c8
  let c32 := gmul c16 c16
  let c64 := gmul c32 c32
  let c128 := gmul c64 c64
  gmul (gmul (gmul c2 c4) (gmul c8 c16)) (gmul (gmul c32 c64) c128)

/-- The expanded key as 4-byte words, newest first; `i` is the number of words made, `n` those to make. -/
def expandKey (nk : Nat) (rcon : Byte) (acc : List (List Byte)) (i n : Nat) : List (List Byte) :=
  match n with
  | 0 => acc
  | k + 1 =>
    let t := acc.headD []
    let first := i % nk = 0
    let t := if first then xorB ((t.drop 1 ++ t.take 1).map sbox) [rcon, 0, 0, 0]
      else if 6 < nk ∧ i % nk = 4 then t.map sbox else t
    expandKey nk (if first then xtime rcon else rcon) (xorB t (acc.getD (nk - 1) []) :: acc) (i + 1) k

/-- The round keys of 16 bytes for a key of 16 or 32 bytes. -/
def roundKeys (key : List Byte) : List (List Byte) :=
  let nk := key.length / 4
  let rounds := nk + 6
  let ws := (expandKey nk 1 (chunks 4 nk key).reverse nk (4 * (rounds + 1) - nk)).reverse
  (chunks 4 (rounds + 1) ws).map List.flatten

def subShift (b : List Byte) : List Byte :=
  (List.range 16).map (fun i => sbox (b.getD ((i + 4 * (i % 4)) % 16) 0))

def invSubShift (b : List Byte) : List Byte :=
  (List.range 16).map (fun i => invSbox (b.getD ((i + 12 * (i % 4)) % 16) 0))

/-- Each column multiplied by the circulant of `m`. -/
def mixCols (m : List Byte) (b : List Byte) : List Byte :=
  (List.range 16).map (fun i =>
    (List.range 4).foldl (fun a j => a ^^^ gmul (m.getD ((j + 4 - i % 4) % 4) 0) (b.getD (i / 4 * 4 + j) 0)) 0)

def aesRounds (rks : List (List Byte)) (b : List Byte) : List Byte :=
  match rks with
  | [] => b
  | [k] => xorB (subShift b) k
  | k :: r => aesRounds r (xorB (mixCols [2, 3, 1, 1] (subShift b)) k)

/-- AES encryption of one block. -/
def aesEnc (key block : List Byte) : List Byte :=
  match roundKeys key with
  | k :: r => aesRounds r (xorB block k)
  | [] => block

def aesInvRounds (rks : List (List Byte)) (b : List Byte) : List Byte :=
  match rks with
  | [] => b
  | [k] => xorB (invSubShift b) k
  | k :: r => aesInvRounds r (mixCols [14, 11, 13, 9] (xorB (invSubShift b) k))

/-- AES decryption of one block. -/
def aesDec (key block : List Byte) : List Byte :=
  match (roundKeys key).reverse with
  | k :: r => aesInvRounds r (xorB block k)
  | [] => block

/-- `n` bytes of the key stream of counter blocks from `iv` (a 128-bit number). -/
def ctrStream (key : List Byte) (iv n : Nat) : List Byte :=
  (((List.range ((n + 15) / 16)).map (fun i => aesEnc key (natBE 16 (iv + i)))).flatten).take n

/-- The check value of a key (R186): the first 3 bytes of the encryption of 16 zero bytes. -/
def checkValue (key : List Byte) : Nat := be (aesEnc key (zeros 16)) 0 3

/-- RFC 3394 unwrapping with the default initial value: the plaintext, or none when the integrity value is wrong. -/
def keyUnwrap (kek wrapped : List Byte) : Option (List Byte) :=
  let rs := chunks 8 (wrapped.length / 8) (wrapped.drop 8)
  let n := rs.length
  let steps := (List.range (6 * n)).reverse
  let (a, rs) := steps.foldl (fun (p : List Byte × List (List Byte)) t =>
    let i := t % n
    let b := aesDec kek (xorB p.1 (natBE 8 (t + 1)) ++ p.2.getD i [])
    (b.take 8, p.2.set i (b.drop 8))) (wrapped.take 8, rs)
  if a = List.replicate 8 0xa6 then some rs.flatten else none

/-! ## Hashes -/

/-- The message padded to 64-byte blocks. -/
def shaPad (m : List Byte) : List (List Byte) :=
  let p := m ++ [0x80] ++ zeros ((119 - m.length % 64) % 64) ++ natBE 8 (8 * m.length)
  chunks 64 (p.length / 64) p

def beWords (b : List Byte) : List Word := (chunks 4 (b.length / 4) b).map (fun c => BitVec.ofNat 32 (beNat c))

/-- Message schedule words, newest first, by the recurrence `f`. -/
def schedule (f : List Word → Word) (acc : List Word) (n : Nat) : List Word :=
  match n with
  | 0 => acc
  | k + 1 => schedule f (f acc :: acc) k

def sha1Block (h : List Word) (b : List Byte) : List Word :=
  let w := (schedule (fun a => (a.getD 2 0 ^^^ a.getD 7 0 ^^^ a.getD 13 0 ^^^ a.getD 15 0).rotateLeft 1)
    (beWords b).reverse 64).reverse
  let r := (w.zipIdx).foldl (fun (v : List Word) (x, t) =>
    let a := v.getD 0 0; let b := v.getD 1 0; let c := v.getD 2 0; let d := v.getD 3 0; let e := v.getD 4 0
    let f := if t < 20 then (b &&& c) ||| (~~~b &&& d) else if t < 40 then b ^^^ c ^^^ d
      else if t < 60 then (b &&& c) ||| (b &&& d) ||| (c &&& d) else b ^^^ c ^^^ d
    let k : Word := if t < 20 then 0x5a827999 else if t < 40 then 0x6ed9eba1 else if t < 60 then 0x8f1bbcdc
      else 0xca62c1d6
    [a.rotateLeft 5 + f + e + k + x, a, b.rotateLeft 30, c, d]) h
  List.zipWith (· + ·) h r

def sha1 (m : List Byte) : List Byte :=
  ((shaPad m).foldl sha1Block [0x67452301, 0xefcdab89, 0x98badcfe, 0x10325476, 0xc3d2e1f0]).flatMap
    (fun w => natBE 4 w.toNat)

/-- The integer part of the `p`-th root's fraction in 32 bits: floor(frac(n^(1/p)) × 2^32), p = 2 or 3. -/
def rootFrac (p n : Nat) : Nat :=
  ((List.range 40).foldl (fun x i =>
    let y := x + 2 ^ (39 - i)
    if y ^ p ≤ n * 2 ^ (32 * p) then y else x) 0) % 2 ^ 32

/-- The first 64 primes. -/
def primes64 : List Nat :=
  ((List.range 312).filter (fun n => 2 ≤ n && (List.range n).all (fun d => d < 2 || n % d ≠ 0))).take 64

def sha256Block (ks h : List Word) (b : List Byte) : List Word :=
  let w := (schedule (fun a =>
      let x := a.getD 14 0
      let y := a.getD 1 0
      a.getD 15 0 + (x.rotateRight 7 ^^^ x.rotateRight 18 ^^^ (x >>> 3)) + a.getD 6 0
        + (y.rotateRight 17 ^^^ y.rotateRight 19 ^^^ (y >>> 10)))
    (beWords b).reverse 48).reverse
  let r := (w.zip ks).foldl (fun (v : List Word) (x, k) =>
    let a := v.getD 0 0; let b := v.getD 1 0; let c := v.getD 2 0; let d := v.getD 3 0
    let e := v.getD 4 0; let f := v.getD 5 0; let g := v.getD 6 0; let h := v.getD 7 0
    let t1 := h + (e.rotateRight 6 ^^^ e.rotateRight 11 ^^^ e.rotateRight 25) + ((e &&& f) ^^^ (~~~e &&& g)) + k + x
    let t2 := (a.rotateRight 2 ^^^ a.rotateRight 13 ^^^ a.rotateRight 22) + ((a &&& b) ^^^ (a &&& c) ^^^ (b &&& c))
    [t1 + t2, a, b, c, d + t1, e, f, g]) h
  List.zipWith (· + ·) h r

def sha256 (m : List Byte) : List Byte :=
  let ks := primes64.map (fun p => BitVec.ofNat 32 (rootFrac 3 p))
  let iv := (primes64.take 8).map (fun p => BitVec.ofNat 32 (rootFrac 2 p))
  ((shaPad m).foldl (sha256Block ks) iv).flatMap (fun w => natBE 4 w.toNat)

/-- HMAC over a hash with 64-byte blocks; every key here is at most 64 bytes. -/
def hmac (hash : List Byte → List Byte) (key m : List Byte) : List Byte :=
  let k := (if 64 < key.length then hash key else key)
  let k := k ++ zeros (64 - k.length)
  hash (k.map (· ^^^ 0x5c) ++ hash (k.map (· ^^^ 0x36) ++ m))

/-- 32 bytes of HKDF-SHA-256. -/
def hkdf32 (ikm salt info : List Byte) : List Byte := hmac sha256 (hmac sha256 salt ikm) (info ++ [1])

/-! ## GCM -/

/-- Product in GCM's field; bit 0 is the most significant. -/
def ghashMul (x y : BitVec 128) : BitVec 128 :=
  ((List.range 128).foldl (fun (p : BitVec 128 × BitVec 128) i =>
    (if x.getLsbD (127 - i) then p.1 ^^^ p.2 else p.1,
     (p.2 >>> 1) ^^^ (if p.2.getLsbD 0 then (0xe1 : BitVec 128) <<< 120 else 0))) (0, y)).1

def pad16 (b : List Byte) : List Byte := b ++ zeros ((16 - b.length % 16) % 16)

def ghash (h : BitVec 128) (m : List Byte) : BitVec 128 :=
  (chunks 16 (m.length / 16) m).foldl (fun y c => ghashMul (y ^^^ BitVec.ofNat 128 (beNat c)) h) 0

/-- The tag over additional data and ciphertext, with a 12-byte nonce. -/
def gcmTag (key nonce aad ct : List Byte) : List Byte :=
  let h := BitVec.ofNat 128 (beNat (aesEnc key (zeros 16)))
  let s := ghash h (pad16 aad ++ pad16 ct ++ natBE 8 (8 * aad.length) ++ natBE 8 (8 * ct.length))
  xorB (natBE 16 s.toNat) (aesEnc key (nonce ++ [0, 0, 0, 1]))

/-- Counter-mode encryption of GCM; its own inverse. -/
def gcmCrypt (key nonce t : List Byte) : List Byte :=
  xorB t (ctrStream key (beNat (nonce ++ [0, 0, 0, 2])) t.length)

/-! ## P-256 -/

def p256P : Nat := 2 ^ 256 - 2 ^ 224 + 2 ^ 192 + 2 ^ 96 - 1
def p256B : Nat := 0x5ac635d8aa3a93e7b3ebbd55769886bc651d06b0cc53b0f63bce3c3e27d2604b
def p256G : Nat × Nat :=
  (0x6b17d1f2e12c4247f8bce6e563a440f277037d812deb33a0f4a13945d898c296,
   0x4fe342e2fe1a7f9b8ee7eb4a7c0f9e162bce33576b315ececbb6406837bf51f5)

/-- The key is a valid point (R185): both coordinates below p and the curve equation holds. -/
def p256Valid (x y : Nat) : Bool :=
  decide (x < p256P) && decide (y < p256P) &&
  decide (y * y % p256P = (x * x * x + (p256P - 3) * x + p256B) % p256P)

/-- `a` to the power `e` modulo p, over `n` bits of `e`. -/
def powP (a e n : Nat) : Nat :=
  (List.range n).reverse.foldl (fun r i => (if e.testBit i then r * r % p256P * a else r * r) % p256P) 1

def invP (a : Nat) : Nat := powP a (p256P - 2) 256

/-- The sum of two points; none is the point at infinity. -/
def p256Add (a b : Option (Nat × Nat)) : Option (Nat × Nat) :=
  match a, b with
  | none, q => q
  | q, none => q
  | some (x1, y1), some (x2, y2) =>
    if x1 = x2 ∧ (y1 + y2) % p256P = 0 then none
    else
      let l := if x1 = x2 then (3 * x1 * x1 + p256P - 3) * invP (2 * y1) % p256P
        else (y2 + p256P - y1) * invP (x2 + p256P - x1) % p256P
      let x3 := (l * l + 2 * p256P - x1 - x2) % p256P
      some (x3, (l * (x1 + p256P - x3) + p256P - y1) % p256P)

/-- The multiple of a point by `d`, over 256 bits. -/
def p256Mul (d : Nat) (g : Nat × Nat) : Option (Nat × Nat) :=
  (List.range 256).reverse.foldl (fun r i =>
    let r := p256Add r r
    if d.testBit i then p256Add r (some g) else r) none

/-- A public key as R184 encodes it: X then Y, each 32 bytes big-endian. -/
def pointBytes (p : Option (Nat × Nat)) : List Byte :=
  match p with
  | some (x, y) => natBE 32 x ++ natBE 32 y
  | none => zeros 64

/-- The KEK of R185 from the device's private scalar, the sender's public point and the function. -/
def agreeKek (d : Nat) (pub : Nat × Nat) (f : Nat) : List Byte :=
  let z := match p256Mul d pub with
    | some (x, _) => natBE 32 x
    | none => zeros 32
  let info : List Byte := [0x50, 0x6f, 0x6c, 0x72, 0x79, 0x6e, 0x20, 0x4b, 0x45, 0x4b, 0x20, 0x31, BitVec.ofNat 8 f]
  hkdf32 z (pointBytes (p256Mul d p256G)) info

/-! ## SRTP and SRTCP -/

/-- A suite of R178: key bytes, salt bytes, SRTP tag, SRTCP tag, and whether it is a GCM suite. -/
structure Suite where
  keyLen : Nat
  saltLen : Nat
  tag : Nat
  tcpTag : Nat
  gcm : Bool

/-- R178's table. -/
def suiteOf (c : Nat) : Option Suite :=
  match c with
  | 1 => some ⟨16, 14, 10, 10, false⟩
  | 2 => some ⟨16, 14, 4, 10, false⟩
  | 3 => some ⟨16, 12, 16, 16, true⟩
  | 4 => some ⟨32, 12, 16, 16, true⟩
  | _ => none

/-- `n` bytes of the key derivation of RFC 3711 at index 0 for a label; a 12-byte salt is extended with zeros. -/
def srtpKdf (key salt : List Byte) (label n : Nat) : List Byte :=
  let x := beNat (salt ++ zeros (14 - salt.length))
  ctrStream key ((x ^^^ (label * 2 ^ 48)) * 2 ^ 16) n

/-- The six session keys of R189: SRTP encryption, authentication, salt, then SRTCP's. -/
def sessionKeys (s : Suite) (key salt : List Byte) : List (List Byte) :=
  let a := if s.gcm then 0 else 20
  [srtpKdf key salt 0 s.keyLen, srtpKdf key salt 1 a, srtpKdf key salt 2 s.saltLen,
   srtpKdf key salt 3 s.keyLen, srtpKdf key salt 4 a, srtpKdf key salt 5 s.saltLen]

/-- The counter-mode start of RFC 3711. -/
def cmIv (salt : List Byte) (ssrc idx : Nat) : Nat :=
  (beNat salt * 2 ^ 16) ^^^ (ssrc * 2 ^ 64) ^^^ (idx * 2 ^ 16)

/-- The GCM nonce of an SRTP packet (RFC 7714). -/
def gcmIv (salt : List Byte) (ssrc idx : Nat) : List Byte := xorB ([0, 0] ++ natBE 4 ssrc ++ natBE 6 idx) salt

/-- Protect an RTP packet of header `hdr` and payload `pay` at index `idx` (R180). -/
def srtpSeal (s : Suite) (ks : List (List Byte)) (ssrc idx : Nat) (hdr pay : List Byte) : List Byte :=
  let k := ks.getD 0 []
  if s.gcm then
    let n := gcmIv (ks.getD 2 []) ssrc idx
    let ct := gcmCrypt k n pay
    hdr ++ ct ++ gcmTag k n hdr ct
  else
    let ct := xorB pay (ctrStream k (cmIv (ks.getD 2 []) ssrc idx) pay.length)
    hdr ++ ct ++ (hmac sha1 (ks.getD 1 []) (hdr ++ ct ++ natBE 4 (idx / 65536))).take s.tag

/-- Authenticate and decrypt the rest of a packet after its header; none when authentication fails. -/
def srtpOpen (s : Suite) (ks : List (List Byte)) (ssrc idx : Nat) (hdr body : List Byte) : Option (List Byte) :=
  if body.length < s.tag then none
  else
    let ct := body.take (body.length - s.tag)
    let tag := body.drop (body.length - s.tag)
    let k := ks.getD 0 []
    if s.gcm then
      let n := gcmIv (ks.getD 2 []) ssrc idx
      if gcmTag k n hdr ct = tag then some (gcmCrypt k n ct) else none
    else if (hmac sha1 (ks.getD 1 []) (hdr ++ ct ++ natBE 4 (idx / 65536))).take s.tag = tag then
      some (xorB ct (ctrStream k (cmIv (ks.getD 2 []) ssrc idx) ct.length))
    else none

/-- The GCM nonce of an SRTCP packet (RFC 7714). -/
def gcmTcpIv (salt : List Byte) (ssrc idx : Nat) : List Byte :=
  xorB ([0, 0] ++ natBE 4 ssrc ++ [0, 0] ++ natBE 4 idx) salt

/-- Protect an RTCP packet at SRTCP index `idx`, E flag 1. -/
def srtcpSeal (s : Suite) (ks : List (List Byte)) (idx : Nat) (pkt : List Byte) : List Byte :=
  let ssrc := be pkt 4 4
  let hdr := pkt.take 8
  let pay := pkt.drop 8
  let e := natBE 4 (2 ^ 31 + idx)
  let k := ks.getD 3 []
  if s.gcm then
    let n := gcmTcpIv (ks.getD 5 []) ssrc idx
    let ct := gcmCrypt k n pay
    hdr ++ ct ++ gcmTag k n (hdr ++ e) ct ++ e
  else
    let ct := xorB pay (ctrStream k (cmIv (ks.getD 5 []) ssrc idx) pay.length)
    hdr ++ ct ++ e ++ (hmac sha1 (ks.getD 4 []) (hdr ++ ct ++ e)).take s.tcpTag

/-- The E flag word of a received SRTCP packet, and its SRTCP index. -/
def srtcpWord (s : Suite) (pkt : List Byte) : Nat :=
  if s.gcm then be pkt (pkt.length - 4) 4 else be pkt (pkt.length - 4 - s.tcpTag) 4

/-- Authenticate an SRTCP packet and, with the E flag 1, decrypt it; the clear RTCP packet, or none. -/
def srtcpOpen (s : Suite) (ks : List (List Byte)) (pkt : List Byte) : Option (List Byte) :=
  if pkt.length < 8 + 4 + s.tcpTag then none
  else
    let w := srtcpWord s pkt
    let e := natBE 4 w
    let idx := w % 2 ^ 31
    let ssrc := be pkt 4 4
    let hdr := pkt.take 8
    let body := (pkt.drop 8).take (pkt.length - 12 - s.tcpTag)
    let k := ks.getD 3 []
    if s.gcm then
      let n := gcmTcpIv (ks.getD 5 []) ssrc idx
      let tag := sl pkt (pkt.length - 4 - s.tcpTag) s.tcpTag
      if 2 ^ 31 ≤ w then
        if gcmTag k n (hdr ++ e) body = tag then some (hdr ++ gcmCrypt k n body) else none
      else if gcmTag k n (hdr ++ body ++ e) [] = tag then some (hdr ++ body) else none
    else
      let tag := pkt.drop (pkt.length - s.tcpTag)
      if (hmac sha1 (ks.getD 4 []) (hdr ++ body ++ e)).take s.tcpTag = tag then
        some (if 2 ^ 31 ≤ w then hdr ++ xorB body (ctrStream k (cmIv (ks.getD 5 []) ssrc idx) body.length)
          else hdr ++ body)
      else none

end Sys2Proof.Machine
end

