-- ==== Sys2Proof/Machine/Keys.lean ====
section
/-! DEFINITION. Media security (R178 to R207): the key store and its commands, the binding of cipher contexts, receive
with the replay check and key overlap, send with its refusals, entropy. Log entries: 71, 72, 99. -/

namespace Sys2Proof.Machine

/-! ## Streams and slots -/

/-- The owner of a leg, if it is in use. -/
def legOwner (s : State) (leg : Nat) : Option Nat := (tget s.adm.legs leg).map (·.item.owner)

/-- The stream record of a handle, as committed. -/
def recOf (s : State) (hd : Nat) : StreamRec :=
  match tget s.adm.legs (hd / 4) with
  | some l => l.prof.rec' (hd % 4)
  | none => {}

/-- The stream is bound under R134 and no unbind of it is committed. -/
def isBound (s : State) (hd : Nat) : Bool :=
  match tget s.net.bound hd with
  | some b => !b.gone
  | none => false

def setSlot (s : State) (k : Nat) (x : KeySlot) : State :=
  { s with key := { s.key with slots := tset s.key.slots k x } }

/-- The function's share of key slots would be exceeded by one more (R187). -/
def slotOver (s : State) (f : Nat) : Bool :=
  decide (share s f 14 * countCap 14 / 1024 < fnUsed s f 14 + 1)

/-- A failed import (R188). -/
def unwrapFail (s : State) : State := setBit (bump s KEY_UNWRAP_FAIL_CNT 1) KEY_UNWRAP_FAIL

/-- The overlaps whose old slot satisfies `c` end: the slot is erased (R190, R195). -/
def overlapsEnd (s : State) (c : Nat → Bool) : State :=
  { s with cip := { s.cip with rx := s.cip.rx.map (fun p =>
    (p.1, if ((p.2.old.bind (·.1)).map c).getD false then { p.2 with old := none } else p.2)) } }

/-- Zeroise every slot and KEK of function `f` (R190). -/
def keyResetFn (s : State) (f : Nat) : State :=
  let s := overlapsEnd s (fun k => ((tget s.key.slots k).map (fun x => decide (x.owner = f))).getD false)
  { s with key := { s.key with
      slots := s.key.slots.filter (fun p => p.2.owner ≠ f)
      keks := tdel s.key.keks f
      erasing := s.key.erasing.filter (fun p => p.2 ≠ f) } }

/-- Zeroise every slot and every KEK (R190). -/
def keyResetAll (s : State) : State := { overlapsEnd s (fun _ => true) with key := {} }

/-- Modes in which key commands are permitted (R202). -/
def keyModes : List Nat := [2, 3, 4, 5, 6]

/-- The result word of KEY_KEK_INFO (R202). -/
def kekWord (s : State) (f : Nat) : Word :=
  match tget s.key.keks f with
  | some k => BitVec.ofNat 32 (2 ^ 31 + checkValue k)
  | none => 0

/-- The device's public key at 0x40 of the block (R202). -/
def writeDevPub (s : State) (addr : Nat) : State :=
  hostWrites s (addr + 0x40) (bytesWords (pointBytes (p256Mul Config.agreementKey p256G)))

/-- KEY_KEK_INFO with AGREE 0 (R184, R186). -/
def execKeyKekInfo (h : CmdHdr) (addr : BitVec 64) (s : State) : Host.Outcome State Fault Refusal :=
  act (command h OP_KEY_KEK_INFO { modes := keyModes, misaligned := addr.toNat % 64 ≠ 0 }
    (fun s => (writeDevPub s addr.toNat, ok [kekWord s h.fn.toNat]))) s

/-- KEY_KEK_INFO with AGREE 1 (R185): a new KEK from the sender key at the start of the block. -/
def execKekAgree (h : CmdHdr) (addr : BitVec 64) (dma : Dma) (s : State) : Host.Outcome State Fault Refusal :=
  act (command h OP_KEY_KEK_INFO
    { modes := keyModes, misaligned := addr.toNat % 64 ≠ 0, dmaFailed := dma.isNone }
    (fun s =>
      let b := wordBytes (dmaWords dma)
      let x := be b 0 32
      let y := be b 32 32
      let f := h.fn.toNat
      if !p256Valid x y then (s, no KEY_ST_KEK_POINT)
      else
        let s := { s with key := { s.key with keks := tset s.key.keks f (agreeKek Config.agreementKey (x, y) f) } }
        (writeDevPub s addr.toNat, ok [kekWord s f]))) s

/-- KEY_IMPORT after R94 (R188). The zero bytes at the end are those of the suite the plaintext names, where R178 lists it. -/
def keyImport (h : CmdHdr) (suite slot : Nat) (wrapped : List Byte) (s : State) : State × Res :=
  let f := h.fn.toNat
  match tget s.key.slots slot with
  | some k => (s, no (if k.owner ≠ f then KEY_ST_NOT_OWNER else KEY_ST_SLOT_STATE))
  | none =>
    match tget s.key.keks f, suiteOf suite with
    | some kek, some su =>
      if slotOver s f then (s, no KEY_ST_FN_BUDGET)
      else
        let len := (8 + su.keyLen + su.saltLen + 7) / 8 * 8
        match keyUnwrap kek (wrapped.take (len + 8)) with
        | none => (unwrapFail s, no KEY_ST_UNWRAP)
        | some p =>
          let own := (suiteOf (be p 1 1)).getD su
          let n := 8 + own.keyLen + own.saltLen
          if be p 0 1 ≠ 1 ∨ be p 2 6 ≠ 0 ∨ be p n (len - n) ≠ 0 then (unwrapFail s, no KEY_ST_UNWRAP)
          else if be p 1 1 ≠ suite then (unwrapFail s, no KEY_ST_SUITE)
          else
            let key := sl p 8 su.keyLen
            (setSlot s slot { owner := f, session := false, suite := suite, key := key,
                              salt := sl p (8 + su.keyLen) su.saltLen },
             ok [BitVec.ofNat 32 (checkValue key)])
    | _, _ => (s, no KEY_ST_NO_KEK)

/-- KEY_IMPORT (R188). -/
def execKeyImport (h : CmdHdr) (suite : BitVec 8) (slot : BitVec 16) (addr : BitVec 64) (dma : Dma) (s : State) :
    Host.Outcome State Fault Refusal :=
  act (command h OP_KEY_IMPORT
    { reserved := (suiteOf suite.toNat).isNone, modes := keyModes, misaligned := addr.toNat % 64 ≠ 0
      dmaFailed := dma.isNone }
    (keyImport h suite.toNat slot.toNat (wordBytes (dmaWords dma)))) s

/-- Slot `k` is filled and belongs to a function other than `f`. -/
def slotForeign (s : State) (f k : Nat) : Bool :=
  match tget s.key.slots k with
  | some x => x.owner != f
  | none => false

/-- KEY_DERIVE (R189). -/
def execKeyDerive (h : CmdHdr) (master sess : BitVec 16) (s : State) : Host.Outcome State Fault Refusal :=
  act (command h OP_KEY_DERIVE { modes := keyModes } (fun s =>
    let f := h.fn.toNat
    if slotForeign s f master.toNat || slotForeign s f sess.toNat then (s, no KEY_ST_NOT_OWNER)
    else
      match tget s.key.slots master.toNat, tget s.key.slots sess.toNat with
      | some m, none =>
        if m.session then (s, no KEY_ST_SLOT_STATE)
        else if slotOver s f then (s, no KEY_ST_FN_BUDGET)
        else
          match suiteOf m.suite with
          | some su =>
            (setSlot s sess.toNat { owner := f, session := true, suite := m.suite, key := [], salt := [],
                                    keys := sessionKeys su m.key m.salt }, ok)
          | none => (s, no KEY_ST_SLOT_STATE)
      | _, _ => (s, no KEY_ST_SLOT_STATE))) s

/-! ## Bindings, in force and staged -/

/-- The slot that a staged change binds to a direction, if it is one. -/
def Change.bindsSlot (c : Change) : Option Nat :=
  match c with
  | .cipRx _ slot _ _ _ => slot
  | .cipTx _ slot _ _ _ _ => slot
  | _ => none

/-- Slot `k` is bound, or will be, to a send direction. -/
def slotSends (s : State) (k : Nat) : Bool :=
  s.cip.tx.any (fun p => p.2.slot = some k) ||
  s.agenda.any (fun a => match a.ch with | .cipTx _ slot _ _ _ _ => decide (slot = some k) | _ => false)

/-- Slot `k` is bound, or will be, to any direction. -/
def slotBound (s : State) (k : Nat) : Bool :=
  s.cip.rx.any (fun p => p.2.slot = some k) || s.cip.tx.any (fun p => p.2.slot = some k) ||
  s.agenda.any (fun a => a.ch.bindsSlot = some k)

/-- What a staged change makes of direction (`hd`, `send`): unbound, or bound to a slot (none inside: CLEAR). -/
def Change.bindOf (c : Change) (hd : Nat) (send : Bool) : Option (Option (Option Nat)) :=
  match c with
  | .cipRx h slot _ _ _ => if h = hd ∧ send = false then some (some slot) else none
  | .cipTx h slot _ _ _ _ => if h = hd ∧ send = true then some (some slot) else none
  | .cipUnbind h d => if h = hd ∧ d = send then some none else none
  | _ => none

/-- The binding of a direction as committed: none when unbound, else its slot (none: CLEAR). -/
def dirBind (s : State) (hd : Nat) (send : Bool) : Option (Option Nat) :=
  let now : Option (Option Nat) :=
    if send then (tget s.cip.tx hd).map (·.slot) else (tget s.cip.rx hd).map (·.slot)
  s.agenda.foldl (fun b a => (a.ch.bindOf hd send).getD b) now

/-- KEY_ERASE (R190). -/
def execKeyErase (h : CmdHdr) (slot : BitVec 16) (s : State) : Host.Outcome State Fault Refusal :=
  act (command h OP_KEY_ERASE { modes := keyModes } (fun s =>
    match tget s.key.slots slot.toNat with
    | none => (s, no KEY_ST_SLOT_STATE)
    | some k =>
      if k.owner ≠ h.fn.toNat then (s, no KEY_ST_NOT_OWNER)
      else if k.erase then (s, no KEY_ST_SLOT_STATE)
      else if slotBound s slot.toNat then (s, no KEY_ST_SLOT_BOUND)
      else
        let e := effTick s
        let s := setSlot s slot.toNat { k with erase := true }
        (stageEnd (stage s e (.keyErase slot.toNat)) (e - 1) (.keyUnit slot.toNat), ok (effArea e)))) s

/-- The start of the effect tick of an erase: the slot is zeroised, its counted unit still held, and an overlap with it as the old
key ends (R190). -/
def keyEraseApply (s : State) (slot : Nat) : State :=
  match tget s.key.slots slot with
  | some k =>
    if k.erase then
      { overlapsEnd s (fun x => x = slot) with key := { s.key with slots := tdel s.key.slots slot, erasing := tset s.key.erasing slot k.owner } }
    else s
  | none => s

/-- The counted unit of an erased slot returns (R190). -/
def keyUnitApply (s : State) (slot : Nat) : State :=
  { s with key := { s.key with erasing := tdel s.key.erasing slot } }

/-- The stream's leg is owned by another function. -/
def streamForeign (s : State) (f hd : Nat) : Bool :=
  match legOwner s (hd / 4) with
  | some o => o != f
  | none => false

/-- The direction is enabled in the stream's record. -/
def dirEnabled (s : State) (hd : Nat) (send : Bool) : Bool :=
  if send then (recOf s hd).txEn else (recOf s hd).rxEn

/-- Mark a slot as bound for sending once (R192). -/
def spendSlot (s : State) (send : Bool) (k : Nat) : State :=
  if send then { s with key := { s.key with slots := tmod s.key.slots k (fun x => { x with spent := true }) } } else s

/-- The checks of R192 in their order. -/
def cipBindCheck (s : State) (f : Nat) (clear send : Bool) (hd slot : Nat) : Option (BitVec 16) :=
  if streamForeign s f hd || (!clear && slotForeign s f slot) then some KEY_ST_NOT_OWNER
  else if !isBound s hd || !dirEnabled s hd send then some KEY_ST_STREAM
  else if !clear && (match tget s.key.slots slot with
      | some k => !k.session || k.erase
      | none => true) then some KEY_ST_SLOT_STATE
  else if !clear && (slotSends s slot || (send && slotBound s slot)) then some KEY_ST_SLOT_BOUND
  else if !clear && send && ((tget s.key.slots slot).map (·.spent)).getD false then some KEY_ST_SLOT_SPENT
  else if clear && !bit s KEY_CLEAR_EN then some KEY_ST_CLEAR
  else if dirBind s hd send = some (if clear then none else some slot) then some KEY_ST_SAME_SLOT
  else none

/-- CIP_BIND (R191 to R193). -/
def execCipBind (h : CmdHdr) (keep clear : Bool) (rplW : BitVec 3) (dir : Bool) (hd slot : BitVec 16)
    (txRoc : BitVec 32) (txSeq : BitVec 16) (roc0 roc1 roc2 roc3 : BitVec 32) (tcpIdx : BitVec 31) (s : State) :
    Host.Outcome State Fault Refusal :=
  act (command h OP_CIP_BIND
    { reserved := hd.toNat % 4 = 3 || (clear && slot ≠ 0) || (dir && rplW ≠ 0) || decide (4 < rplW.toNat)
      modes := [3, 4, 5] }
    (fun s =>
      match cipBindCheck s h.fn.toNat clear dir hd.toNat slot.toNat with
      | some st => (s, no st)
      | none =>
        let e := effTick s
        let k := if clear then none else some slot.toNat
        let c : Change := if dir then .cipTx hd.toNat k keep txRoc.toNat txSeq.toNat tcpIdx.toNat
          else .cipRx hd.toNat k (64 * 2 ^ rplW.toNat) keep [roc0.toNat, roc1.toNat, roc2.toNat, roc3.toNat]
        (stage (spendSlot s (dir && !clear) slot.toNat) e c, ok (effArea e)))) s

/-- CIP_UNBIND (R193). -/
def execCipUnbind (h : CmdHdr) (dir : Bool) (hd : BitVec 16) (s : State) : Host.Outcome State Fault Refusal :=
  act (command h OP_CIP_UNBIND { reserved := hd.toNat % 4 = 3, modes := [3, 4, 5] } (fun s =>
    if streamForeign s h.fn.toNat hd.toNat then (s, no KEY_ST_NOT_OWNER)
    else if !isBound s hd.toNat || !dirEnabled s hd.toNat dir then (s, no KEY_ST_STREAM)
    else if (dirBind s hd.toNat dir).isNone then (s, no KEY_ST_UNBOUND)
    else
      let e := effTick s
      (stage s e (.cipUnbind hd.toNat dir), ok (effArea e)))) s

/-! ## Binding in force (R193) -/

/-- The replay marks of a record in a window of the new size (R193). -/
def rewindow (old new seen : Nat) : Nat := if old < new then seen + (2 ^ new - 2 ^ old) else seen % 2 ^ new

/-- A receive direction is bound or rebound. -/
def cipRxApply (s : State) (hd : Nat) (slot : Option Nat) (w : Nat) (keep : Bool) (rocs : List Nat) : State :=
  let fresh : RxDir := { slot := slot, w := w, recs := rocs.map (fun r => { roc0 := r }) }
  let d := match tget s.cip.rx hd with
    | none => fresh
    | some o =>
      if keep then
        { o with
          slot := slot, w := w
          recs := o.recs.map (fun e => { e with seen := rewindow o.w w e.seen, moved := false })
          tcp := o.tcp.map (fun e => { e with moved := false })
          old := if o.slot.isSome && slot.isSome then some (o.slot, curTick s + fld s CIP_RX_OVERLAP) else none }
      else fresh
  { s with cip := { s.cip with rx := tset s.cip.rx hd d } }

/-- TX_SSRC of a bound stream. -/
def txSsrc (s : State) (hd : Nat) : Word := ((tget s.net.bound hd).map (·.blk.txSsrc)).getD 0

/-- Records of the SSRCs `ss` that `rs` has none of are made, and a retired one is taken up again (R196). -/
def takeRecs (rs : List TxRec) : List Word → List TxRec
  | [] => rs
  | x :: r =>
    takeRecs (if rs.any (fun e => e.ssrc = x) then rs.map (fun e => if e.ssrc = x then { e with retired := false } else e)
      else rs ++ [{ ssrc := x, roc0 := 0 }]) r

/-- The OUT_SSRCs of the subscriptions that deliver on a stream (R196). -/
def deliverSsrcs (s : State) (hd : Nat) : List Word :=
  (s.fwd.subs.filter (fun p => p.2.dst = hd && p.2.live)).map (fun p => p.2.outSsrc)

/-- A subscription that delivers on stream `hd` starts: its SSRC has a record, unless EVICTED forbids a new one (R196). -/
def txDeliver (s : State) (hd : Nat) (ssrc : Word) : State :=
  match tget s.cip.tx hd with
  | none => s
  | some d =>
    if d.evicted && !d.recs.any (fun e => e.ssrc = ssrc) then s
    else { s with cip := { s.cip with tx := tset s.cip.tx hd { d with recs := takeRecs d.recs [ssrc] } } }

/-- A send direction is bound or rebound; the SSRCs it protects have records (R193, R196). -/
def cipTxApply (s : State) (hd : Nat) (slot : Option Nat) (keep : Bool) (roc seq tcp : Nat) : State :=
  let own : List TxRec := [{ ssrc := txSsrc s hd, roc0 := roc }]
  let fresh : TxDir := { slot := slot, recs := takeRecs own (deliverSsrcs s hd), tcpIdx := tcp, seq := seq }
  let d := match tget s.cip.tx hd with
    | none => fresh
    | some o =>
      if keep then
        { o with
          slot := slot, evicted := false
          recs := takeRecs ((o.recs.filter (fun e => !e.retired)).map (fun e => { e with h := none })) (deliverSsrcs s hd) }
      else fresh
  { s with cip := { s.cip with tx := tset s.cip.tx hd d } }

/-- A direction is unbound; its slot stays filled. -/
def cipUnbindApply (s : State) (hd : Nat) (send : Bool) : State :=
  if send then { s with cip := { s.cip with tx := tdel s.cip.tx hd } }
  else { s with cip := { s.cip with rx := tdel s.cip.rx hd } }

/-! ## Receive (R194, R195) -/

/-- The index estimate of RFC 3711. -/
def estimateIdx (r sl sq : Nat) : Int :=
  let v : Int :=
    if sl < 32768 then (if 32768 < (sq : Int) - sl then (r : Int) - 1 else r)
    else if (sq : Int) < (sl : Int) - 32768 then (r : Int) + 1 else r
  v * 65536 + sq

/-- The suite and session keys of a slot. -/
def slotKeys (s : State) (k : Option Nat) : Option (Suite × List (List Byte)) :=
  match k.bind (tget s.key.slots) with
  | some x => (suiteOf x.suite).map (fun su => (su, x.keys))
  | none => none

/-- The old slot of a receive overlap in force (R195). -/
def overlapOld (s : State) (d : RxDir) : Option (Suite × List (List Byte)) :=
  match d.old with
  | some (k, e) => if curTick s < e then slotKeys s k else none
  | none => none

/-- What trying the keys of a direction gives: the opened text and whether it was the second key; `limit` when a second
attempt was not allowed. -/
structure Tried where
  text : Option (List Byte) := none
  second : Bool := false
  limit : Bool := false

/-- Try the old key first while an overlap holds for the sender, then the new one (R195). -/
def tryKeys (s : State) (d : RxDir) (moved : Bool) (f : Suite → List (List Byte) → Option (List Byte)) : State × Tried :=
  let new := match slotKeys s d.slot with
    | some (su, ks) => f su ks
    | none => none
  match (if moved then none else overlapOld s d) with
  | none => (s, { text := new, second := false })
  | some (su, ks) =>
    match f su ks with
    | some t => (s, { text := some t })
    | none =>
      if fld s CIP_RETRY_MAX ≤ s.cip.retries then
        (setBit (bump s CIP_RETRY_DROP_CNT 1) CIP_RETRY_LIMIT, { limit := true })
      else ({ s with cip := { s.cip with retries := s.cip.retries + 1 } }, { text := new, second := true })

def setRx (s : State) (hd : Nat) (d : RxDir) : State := { s with cip := { s.cip with rx := tset s.cip.rx hd d } }

/-- Count in direction `k` = 2 × handle + DIR (R203). -/
def cntMod (s : State) (k : Nat) (f : DirCnt → DirCnt) : State :=
  { s with cip := { s.cip with cnt := tset s.cip.cnt k (f ((tget s.cip.cnt k).getD {})) } }

/-- A packet authenticated, by the second key when `second` (R203). -/
def rxOk (s : State) (hd : Nat) (second : Bool) : State :=
  cntMod s (2 * hd) (fun c => { c with ok := c.ok + 1, retry := c.retry + (if second then 1 else 0) })

/-- A packet protected and sent (R203). -/
def txOk (s : State) (hd : Nat) : State := cntMod s (2 * hd + 1) (fun c => { c with ok := c.ok + 1 })

/-- An authentication failure of a receive direction (R182, R194). -/
def rxAuthFail (s : State) (hd : Nat) : State :=
  let s := cntMod s (2 * hd) (fun c => { c with auth := c.auth + 1 })
  setBit (bump s CIP_AUTH_FAIL_CNT 1) CIP_AUTH_FAIL

/-- A replay drop of a receive direction (R183, R194). -/
def rxReplay (s : State) (hd : Nat) : State :=
  let s := cntMod s (2 * hd) (fun c => { c with replay := c.replay + 1 })
  setBit (bump s CIP_REPLAY_CNT 1) CIP_AUTH_FAIL

/-- Mark index `x` seen in a record and move its highest index up (R194). -/
def RxRec.mark (e : RxRec) (w x sq : Nat) : RxRec :=
  if !e.started then { e with started := true, h := x, r := x / 65536, sl := sq, seen := 1 }
  else if e.h < x then
    { e with h := x, r := x / 65536, sl := sq, seen := (if w ≤ x - e.h then 0 else e.seen * 2 ^ (x - e.h)) % 2 ^ w + 1 }
  else { e with seen := e.seen ||| 2 ^ (e.h - x) }

/-- The replay check refuses index `x` (R194). -/
def RxRec.refuses (e : RxRec) (w : Nat) (x : Int) : Bool :=
  e.started && (decide (x ≤ (e.h : Int) - w) || (decide (x ≤ e.h) && e.seen.testBit ((e.h : Int) - x).toNat))

/-- The valid RX SSRC indices of a stream. -/
def validIdx (b : BindBlk) : List Nat := (List.range 4).filter (fun i => b.valid.testBit i)

/-- The overlap ends early when every valid RX SSRC has moved to the new key (R195). -/
def endOverlap (s : State) (hd : Nat) (d : RxDir) : RxDir :=
  match tget s.net.bound hd with
  | some b =>
    if (validIdx b.blk).all (fun i => ((d.recs[i]?).map (·.moved)).getD true) then { d with old := none } else d
  | none => d

/-- Check, authenticate and decrypt a classified SRTP packet on SSRC index `i` of stream `hd`: the extended sequence
number and the clear payload, or none when it is dropped and counted (R182, R183, R194, R195). -/
def rxSrtp (s : State) (hd i sq ssrc : Nat) (hdr body : List Byte) : State × Option (Nat × List Byte) :=
  match tget s.cip.rx hd with
  | none => (rxAuthFail s hd, none)
  | some d =>
    let e := d.recs.getD i {}
    let x : Int := if e.started then estimateIdx e.r e.sl sq else (e.roc0 * 65536 + sq : Nat)
    if x < 0 ∨ 2 ^ 48 - 1 < x then (rxReplay s hd, none)
    else
      let n := x.toNat
      if d.slot.isNone then
        (setRx s hd { d with recs := d.recs.set i (if e.refuses d.w x then e else e.mark d.w n sq) }, some (n, body))
      else if e.refuses d.w x then (rxReplay s hd, none)
      else
        let (s, t) := tryKeys s d e.moved (fun su ks => srtpOpen su ks ssrc n hdr body)
        match t.text with
        | none => (rxAuthFail s hd, none)
        | some p =>
          let e := { e.mark d.w n sq with moved := e.moved || t.second }
          let d := { d with recs := d.recs.set i e }
          (rxOk (setRx s hd (endOverlap s hd d)) hd t.second, some (n, p))

/-- Check, authenticate and decrypt a received RTCP packet in the receive direction of stream `hd` (R127, R194, R195). Where its
index lies depends on the suite, so in an overlap it is read under each key: a packet that the replay window refuses under every key
is not tried, and one that opens is checked and marked by the index its own key gives. -/
def rxSrtcp (s : State) (hd : Nat) (pkt : List Byte) : State × Option (List Byte) :=
  match tget s.cip.rx hd with
  | none => (rxAuthFail s hd, none)
  | some d =>
    match d.slot with
    | none => (s, some pkt)
    | some _ =>
      match slotKeys s d.slot with
      | none => (rxAuthFail s hd, none)
      | some (su, _) =>
        let snd : Word := BitVec.ofNat 32 (be pkt 4 4)
        let idx (u : Suite) : Nat := srtcpWord u pkt % 2 ^ 31
        let e? := d.tcp.find? (fun e => e.ssrc = snd)
        let r : RxRec := match e? with
          | some e => { started := true, h := e.h, seen := e.seen }
          | none => {}
        let mv := (e?.map (·.moved)).getD false
        let old : Suite := ((if mv then none else overlapOld s d).map (·.1)).getD su
        if r.refuses 128 (idx old) && r.refuses 128 (idx su) then (rxReplay s hd, none)
        else
          let (s, t) := tryKeys s d mv (fun su ks => srtcpOpen su ks pkt)
          let i := idx (if t.second then su else old)
          match t.text with
          | none => (rxAuthFail s hd, none)
          | some p =>
            if r.refuses 128 i then (rxReplay s hd, none)
            else
              let r := r.mark 128 i 0
              let e : TcpRec := ⟨snd, r.h, r.seen, mv || t.second⟩
              (rxOk (setRx s hd { d with tcp := (e :: d.tcp.filter (fun x => x.ssrc ≠ snd)).take 8 }) hd t.second, some p)

/-! ## Send (R196 to R198) -/

def setTx (s : State) (hd : Nat) (d : TxDir) : State := { s with cip := { s.cip with tx := tset s.cip.tx hd d } }

/-- EV_KEY_REKEY, at most once for each direction and cause in 1,200 ticks (R198, R205). -/
def rekeyEvt (s : State) (hd cause : Nat) (ssrc : Word) (idx : Nat) : State :=
  match legOwner s (hd / 4) with
  | some f =>
    let last := tget ((tget s.cip.cnt (2 * hd + 1)).getD {}).rekey cause
    if (last.map (fun t => decide (curTick s < t + 1200))).getD false then s
    else
      raise (cntMod s (2 * hd + 1) (fun c => { c with rekey := tset c.rekey cause (curTick s) })) f EV_KEY_REKEY (BitVec.ofNat 16 hd)
        (BitVec.ofNat 32 (256 + cause)) ssrc (lo32 idx) (hi32 (idx % 2 ^ 48))
  | none => s

/-- A packet that is not sent is counted (R182, R197). -/
def txRefused (s : State) (hd : Nat) : State :=
  bump (cntMod s (2 * hd + 1) (fun c => { c with refused := c.refused + 1 })) CIP_REFUSE_CNT 1

/-- A refusal to send (R197): counted, CIP_REKEY set, and the event. -/
def txRefuse (s : State) (hd cause : Nat) (ssrc : Word) (idx : Nat) : State :=
  rekeyEvt (setBit (txRefused s hd) CIP_REKEY) hd cause ssrc idx

/-- The direction's records with `e` in place of its SSRC's record, or added last. -/
def putRec (rs : List TxRec) (e : TxRec) : List TxRec :=
  if rs.any (fun x => x.ssrc = e.ssrc) then rs.map (fun x => if x.ssrc = e.ssrc then e else x) else rs ++ [e]

/-- Protect an SRTP packet on its way out (R197): the packet to send, or none when refused. -/
def txSrtp (s : State) (hd : Nat) (ssrc : Word) (sq : Nat) (hdr pay : List Byte) : State × Option (List Byte) :=
  match tget s.cip.tx hd with
  | none => (txRefused s hd, none)
  | some d =>
    let e? := d.recs.find? (fun e => e.ssrc = ssrc)
    if e?.isNone ∧ d.evicted ∧ d.slot.isSome then (txRefuse s hd 4 ssrc (Config.rekeyIdx ssrc sq).toNat, none)
    else
      let e : TxRec := e?.getD { ssrc := ssrc, roc0 := 0 }
      let x : Int := if e.started then estimateIdx e.r e.sl sq else (e.roc0 * 65536 + sq : Nat)
      let n := x.toNat
      let e' := { e with h := some n, r := n / 65536, sl := sq, started := true, retired := false }
      match d.slot with
      | none =>
        (setTx s hd { d with recs := if 0 ≤ x then putRec d.recs e' else d.recs }, some (hdr ++ pay))
      | some _ =>
        if x < 0 then (txRefuse s hd 0 ssrc (Config.rekeyIdx ssrc sq).toNat, none)
        else if (e.started ∧ (e.h.map (fun h => decide (x ≤ (h : Int)))).getD false) then
          (txRefuse s hd 0 ssrc n, none)
        else if 2 ^ 48 - 1 < x then (txRefuse s hd 1 ssrc n, none)
        else
          match slotKeys s d.slot with
          | none => (txRefuse s hd 0 ssrc n, none)
          | some (su, ks) =>
            let s := txOk (setTx s hd { d with recs := putRec d.recs e' }) hd
            let s := if 2 ^ 48 - 1 - n < 65536 then rekeyEvt s hd 3 ssrc n else s
            (s, some (srtpSeal su ks ssrc.toNat n hdr pay))

/-- Protect an RTCP packet on its way out (R197). -/
def txSrtcp (s : State) (hd : Nat) (pkt : List Byte) : State × Option (List Byte) :=
  match tget s.cip.tx hd with
  | none => (txRefused s hd, none)
  | some d =>
    let ssrc : Word := BitVec.ofNat 32 (be pkt 4 4)
    match d.slot with
    | none => (s, some pkt)
    | some _ =>
      if 2 ^ 31 - 1 < d.tcpIdx then (txRefuse s hd 2 ssrc d.tcpIdx, none)
      else
        match slotKeys s d.slot with
        | none => (txRefuse s hd 2 ssrc d.tcpIdx, none)
        | some (su, ks) =>
          let s := txOk (setTx s hd { d with tcpIdx := d.tcpIdx + 1 }) hd
          let s := if 2 ^ 31 - 1 - d.tcpIdx < 65536 then rekeyEvt s hd 3 ssrc d.tcpIdx else s
          (s, some (srtcpSeal su ks d.tcpIdx pkt))

/-- The record of an OUT_SSRC becomes retired; past 64 retired records the oldest is discarded and EVICTED set (R196). -/
def txRetire (s : State) (hd : Nat) (ssrc : Word) : State :=
  match tget s.cip.tx hd with
  | none => s
  | some d =>
    match d.recs.find? (fun e => e.ssrc = ssrc) with
    | none => s
    | some e =>
      let rs := d.recs.filter (fun x => x.ssrc ≠ ssrc) ++ [{ e with retired := true }]
      if 64 < (rs.filter (fun x => x.retired)).length then
        setTx s hd { d with recs := rs.eraseP (fun x => x.retired), evicted := true }
      else setTx s hd { d with recs := rs }

/-! ## Statistics (R203) -/

/-- The block of CIP_STATS for a receive direction. -/
def rxStats (d : RxDir) (c : DirCnt) (i : Nat) : List Word :=
  let e := d.recs.getD i {}
  [sat32 c.ok, sat32 c.auth, sat32 c.replay, sat32 c.retry, 0, 0, BitVec.ofNat 32 (if e.started then e.r else e.roc0),
   BitVec.ofNat 32 e.sl, BitVec.ofNat 32 ((d.tcp.head?.map (·.h)).getD 0)] ++ List.replicate 7 0

/-- The block of CIP_STATS for a send direction, of TX_SSRC. ST_TCP_IDX has 31 bits, so it reads 0 once the indices are spent. -/
def txStats (d : TxDir) (c : DirCnt) (ssrc : Word) : List Word :=
  let e : TxRec := (d.recs.find? (fun e => e.ssrc = ssrc)).getD { ssrc := ssrc, roc0 := 0 }
  [sat32 c.ok, 0, 0, 0, sat32 c.refused,
   BitVec.ofNat 32 ((if d.evicted then 256 else 0) + (d.recs.filter (fun x => x.retired)).length),
   BitVec.ofNat 32 (if e.started then e.r else e.roc0), BitVec.ofNat 32 e.sl, BitVec.ofNat 32 (d.tcpIdx % 2 ^ 31)]
    ++ List.replicate 7 0

/-- The counters of a direction, cleared when CLR is 1 (R203). -/
def cntClear (s : State) (k : Nat) (clr : Bool) : State :=
  if clr then cntMod s k (fun c => { c with ok := 0, auth := 0, replay := 0, retry := 0, refused := 0 }) else s

/-- CIP_STATS (R203). -/
def execCipStats (h : CmdHdr) (clr : Bool) (i : BitVec 2) (dir : Bool) (hd : BitVec 16) (addr : BitVec 64) (s : State) :
    Host.Outcome State Fault Refusal :=
  act (command h OP_CIP_STATS
    { reserved := hd.toNat % 4 = 3, modes := keyModes, misaligned := addr.toNat % 64 ≠ 0 }
    (fun s =>
      let k := hd.toNat
      if streamForeign s h.fn.toNat k then (s, no KEY_ST_NOT_OWNER)
      else if !isBound s k || !dirEnabled s k dir then (s, no KEY_ST_STREAM)
      else if dir then
        match tget s.cip.tx k with
        | none => (s, no KEY_ST_UNBOUND)
        | some d =>
          (cntClear (hostWrites s addr.toNat (txStats d ((tget s.cip.cnt (2 * k + 1)).getD {}) (txSsrc s k))) (2 * k + 1) clr, ok)
      else
        match tget s.cip.rx k with
        | none => (s, no KEY_ST_UNBOUND)
        | some d =>
          (cntClear (hostWrites s addr.toNat (rxStats d ((tget s.cip.cnt (2 * k)).getD {}) i.toNat)) (2 * k) clr, ok))) s

/-! ## Overlap and entropy -/

/-- RX_OVERLAP_END (R195): once CIP_RX_OVERLAP ticks have passed, only the new key is used. -/
def execRxOverlapEnd (hd : BitVec 16) (s : State) : Host.Outcome State Fault Refusal :=
  act (fun s =>
    match tget s.cip.rx hd.toNat with
    | some d => if (d.old.map (fun p => decide (p.2 ≤ curTick s))).getD false then setRx s hd.toNat { d with old := none } else s
    | none => s) s

/-- RESEED (R199, R200): with the source passing its tests the generator is reseeded and KEY_ENT_OK is 1; after a failure
that is the recovery, with its event. With the source failing, no reseed. -/
def execReseed (pass : Bool) (s : State) : Host.Outcome State Fault Refusal :=
  act (fun s =>
    if pass && ctlOn s then
      let s' := setFld { s with cip := { s.cip with entFail := false } } KEY_ENT_OK 1
      if s.cip.entFail then raise s' 0 EV_KEY_ENTROPY 0 0 0 0 0 else s'
    else s) s

/-- ENTROPY_HEALTH_FAIL (R200). -/
def execEntropyHealthFail (s : State) : Host.Outcome State Fault Refusal :=
  act (fun s =>
    if !ctlOn s then s
    else
      let s := { s with cip := { s.cip with entFail := true } }
      raise (setFld (setBit s KEY_ENT_FAIL) KEY_ENT_OK 0) 0 EV_KEY_ENTROPY 0 1 0 0 0) s

end Sys2Proof.Machine
end

