-- ==== Sys2Proof/Machine/Streams.lean ====
section
/-! DEFINITION. The operations of the network side that several chapters share: port counters (R146), streams in force,
policing (R69), the jitter buffer (R135 to R137), the spill queue (R140, R142), the host packet area (R129 to R132), and
frames on their way out (R121, R172, R173). Log entries: 25, 59, 88. -/

namespace Sys2Proof.Machine

/-! ## Port counters (R146) -/

/-- Add `n` to counter `i` of a subport's block, which saturates at 2^64 − 1. -/
def stat (s : State) (p u i n : Nat) : State :=
  let k := 32 * (4 * p + u) + i
  { s with net := { s.net with
      stats := tset s.net.stats k (min ((tget s.net.stats k).getD 0 + n) (2 ^ 64 - 1)) } }

def RX_FRAMES : Nat := 0
def RX_BYTES : Nat := 1
def RX_FCS_ERR : Nat := 2
def RX_OVERSIZE : Nat := 3
def RX_MAC_FILTER : Nat := 4
def RX_HDR_ERR : Nat := 5
def RX_UNBOUND : Nat := 6
def RX_UNKNOWN_SSRC : Nat := 7
def RX_POLICED : Nat := 8
def RX_LATE : Nat := 9
def RX_AUTH_FAIL : Nat := 10
def RX_Q_REFUSED : Nat := 11
def RX_TO_HOST : Nat := 12
def RX_HOST_DROP : Nat := 13
def RX_MAC_CTRL : Nat := 14
def TX_FRAMES : Nat := 15
def TX_BYTES : Nat := 16
def TX_LINK_DOWN : Nat := 17
def FEC_CORR : Nat := 19
def FEC_UNCORR : Nat := 20
def TX_HOST : Nat := 18

/-- Subport `u` of port `p` has its link up, and the NET domain its power (R438). -/
def linkUp (s : State) (p u : Nat) : Bool := (fld s PWR_DOM_ON).testBit 3 && (fld s (NET_LINK_UP p)).testBit u

/-- The MAC address of a subport. -/
def portMac (s : State) (p u : Nat) : Nat := fld s (NET_PORT_MAC_HI p u) * 2 ^ 32 + fld s (NET_PORT_MAC_LO p u)

/-! ## Streams in force -/

/-- The profile of a leg in force since its effect tick; none before it and after its release. -/
def liveProf (s : State) (leg : Nat) : Option Profile := (tget s.adm.legs leg).bind (·.live)

/-- The stream record of a handle in force. -/
def liveRec (s : State) (hd : Nat) : StreamRec := ((liveProf s (hd / 4)).map (fun p => p.rec' (hd % 4))).getD {}

/-- SLOT_RX of a stream in force (R60). -/
def slotRx (s : State) (hd : Nat) : Nat :=
  match tget s.adm.legs (hd / 4) with
  | some l => slotOf { l.item with jobs := l.liveJobs } .audDec (hd / 4) (hd % 4) ((liveRec s hd).pRx)
  | none => 0

/-- SLOT_TX of a stream in force (R60). -/
def slotTx (s : State) (hd : Nat) : Nat :=
  match tget s.adm.legs (hd / 4) with
  | some l => slotOf { l.item with jobs := l.liveJobs } .audEnc (hd / 4) (hd % 4) ((liveRec s hd).pTx)
  | none => 0

def setBound (s : State) (hd : Nat) (b : Bound) : State :=
  { s with net := { s.net with bound := tset s.net.bound hd b } }

/-- A stream's event goes to the function owning its leg. -/
def raiseLeg (s : State) (hd : Nat) (code source : BitVec 16) (p0 p1 p2 p3 : Word) : State :=
  match legOwner s (hd / 4) with
  | some f => raise s f code source p0 p1 p2 p3
  | none => s

/-! ## Policing (R69, R70, R77) -/

/-- Both buckets full, at the effect tick (R69). -/
def policeFill (s : State) (hd : Nat) : State :=
  let r := liveRec s hd
  setPolice s hd { policeOf s hd with
    pkt := r.rxBurstP * 1000000000, byt := r.rxBurstB * 1000000000, stamp := localNs s }

/-- Refill a stream's buckets for the local time passed. -/
def policeRefill (s : State) (hd : Nat) : Police :=
  let r := liveRec s hd
  let p := policeOf s hd
  let d := localNs s - p.stamp
  { p with pkt := min (p.pkt + d * r.rxPps) (r.rxBurstP * 1000000000)
           byt := min (p.byt + d * r.rxKbps * 125) (r.rxBurstB * 1000000000), stamp := localNs s }

/-- EV_ADM_POLICE, at most one per stream per 1,200 ticks, with the drops since the last one (R77). -/
def policeEvt (s : State) (hd : Nat) : State :=
  let p := policeOf s hd
  if (p.lastEvt.map (fun t => decide (curTick s < t + 1200))).getD false then s
  else
    raiseLeg (setPolice s hd { p with polSince := 0, lateSince := 0, lastEvt := some (curTick s) }) hd EV_ADM_POLICE
      (BitVec.ofNat 16 hd) (sat32 p.polSince) (sat32 p.lateSince) 0 0

/-- A packet is counted as policed. -/
def policed (s : State) (hd p u : Nat) : State :=
  let x := policeOf s hd
  policeEvt (stat (setPolice s hd { x with policed := x.policed + 1, polSince := x.polSince + 1 }) p u RX_POLICED 1) hd

/-- A packet is counted as late. -/
def countLate (s : State) (hd p u : Nat) : State :=
  let x := policeOf s hd
  policeEvt (stat (setPolice s hd { x with late := x.late + 1, lateSince := x.lateSince + 1 }) p u RX_LATE 1) hd

/-- `n` packets of a stream count as accepted (R68, R75): when their items leave the queue, other than for a skipped tick (R26). -/
def countAccepted (s : State) (hd n : Nat) : State :=
  setPolice s hd { policeOf s hd with accepted := (policeOf s hd).accepted + n }

/-- The size test and the buckets for a UDP payload of `n` bytes (R68, R69): the state with the tokens taken, or none
when the packet is policed. -/
def police (s : State) (hd n : Nat) : Option State :=
  if (liveRec s hd).rxPktMax < n then none
  else
    let p := policeRefill s hd
    if 1000000000 ≤ p.pkt ∧ n * 1000000000 ≤ p.byt then
      some (setPolice s hd { p with pkt := p.pkt - 1000000000, byt := p.byt - n * 1000000000 })
    else none

/-! ## The jitter buffer (R135 to R137) -/

/-- The first slot tick at or after `x` (R135). -/
def nextSlot (sl p x : Nat) : Nat := if p = 0 then x else x + (sl + p - x % p) % p

/-- What assign() returns (R135): the anchor it leaves, the tick, CARRIED, and whether it anchored with which cause. -/
structure Assigned where
  anchor : Anchor
  tick : Nat
  carried : Bool
  resync : Option Nat

/-- anchor() of R135 with the cause of its event. -/
def jbAnchor (sl p j tail : Nat) (a : Anchor) (ts : Word) (tArr cause : Nat) : Assigned :=
  let n := nextSlot sl p (tArr + j + 1)
  ⟨{ a with set := true, a := n, ts := ts, cause := 0 }, if n < tail then tail else n, decide (n < tail), some cause⟩

/-- assign() of R135 for a packet with RTP timestamp `ts` that arrived in tick `tArr`. -/
def jbAssign (c sl p j tail : Nat) (a : Anchor) (ts : Word) (tArr : Nat) : Assigned :=
  if !a.set then jbAnchor sl p j tail a ts tArr a.cause
  else
    let d : Int := (ts - a.ts).toInt
    let q : Int := (2 * d * 1200 + c * p) / (2 * c * p)
    let n : Int := a.a + p * q
    if n - tArr > 2 * (j + p) + 1 then jbAnchor sl p j tail a ts tArr 1
    else if n < tail then ⟨a, tail, true, none⟩
    else ⟨a, n.toNat, false, none⟩

/-- EV_NET_JB_RESYNC (R148). -/
def resyncEvt (s : State) (hd i cause a : Nat) : State :=
  raiseLeg s hd EV_NET_JB_RESYNC (BitVec.ofNat 16 hd) (BitVec.ofNat 32 (i * 16 + cause)) (lo32 a) (hi32 a) 0

/-- The late run of SSRC `i` has reached JB_LATE_RUN: its anchor is cleared (R137). -/
def lateRunClear (b : Bound) (i : Nat) : Bound :=
  let a := b.anchors.getD i {}
  if b.lateRun ≤ a.lateRun then { b with anchors := b.anchors.set i { a with set := false, cause := 2, lateRun := 0 } }
  else b

/-- Clear every anchor; the next anchor of each SSRC carries `cause` (R137). -/
def clearAnchors (b : Bound) (cause : Nat) : Bound :=
  { b with anchors := b.anchors.map (fun a => { a with set := false, cause := cause }) }

/-- Cells a packet's item takes: one with the item's head, and its bytes (R134, R140). -/
def itemCells (size : Nat) : Nat := 1 + cdiv size 64


/-- A flush of the stream's queue (R137, R142). -/
def flushQ (b : Bound) : Bound := { clearAnchors b 0 with q := [], tail := 0 }

/-! ## The queue manager, cycle by cycle (R139 to R142)

The rows push a packet whole and release it whole, so no two operations share a cycle there (log entry 25). -/

/-- A cell: SOI, EOI and its valid bytes (R139). -/
structure SpillCell where
  soi : Bool
  eoi : Bool
  bytes : List Byte
  deriving DecidableEq, Repr

/-- A queue of cells, oldest first: the cells still reserved by the open item, whether an item is open and whether it is
discarding, whether the consumer is within an item, and whether it still has to be told of a flush (R140, R142). -/
structure CellQ where
  cells : List SpillCell := []
  reserved : Nat := 0
  isOpen : Bool := false
  discard : Bool := false
  within : Bool := false
  owed : Bool := false
  deriving DecidableEq, Repr

/-- What a push answers. -/
inductive PushRes where
  | accepted
  | full
  | flushed
  deriving DecidableEq, Repr

/-- What a pop answers. -/
inductive PopRes where
  | empty
  | cell (c : SpillCell)
  | flushed
  | uncorrectable
  deriving DecidableEq, Repr

/-- The cells held and reserved (R140). -/
def CellQ.occupied (q : CellQ) : Nat := q.cells.length + q.reserved

/-- A push as it finds the queue before the cycle: an SOI cell comes with its item's length; `room`: the pool can supply it. -/
def CellQ.push (limit : Nat) (room : Bool) (c : SpillCell) (k : Nat) (q : CellQ) : CellQ × PushRes :=
  if c.soi then
    if q.occupied + k ≤ limit ∧ room then
      ({ q with cells := q.cells ++ [c], reserved := k - 1, isOpen := !c.eoi, discard := false }, .accepted)
    else (q, .full)
  else if q.discard then ({ q with isOpen := !c.eoi, discard := !c.eoi }, .flushed)
  else if q.isOpen then ({ q with cells := q.cells ++ [c], reserved := q.reserved - 1, isOpen := !c.eoi }, .accepted)
  else (q, .full)

/-- What follows the item whose next cell is `c` (R143). -/
def afterItem (c : SpillCell) (r : List SpillCell) : List SpillCell := if c.eoi then r else (r.dropWhile (fun x => !x.eoi)).tail

/-- A pop as it finds the queue before the cycle; with `err`, a word of the cell is uncorrectable, and the rest of the item is
discarded (R143). -/
def CellQ.pop (err : Bool) (q : CellQ) : CellQ × PopRes :=
  if q.owed then ({ q with owed := false }, .flushed)
  else
    match q.cells with
    | [] => (q, .empty)
    | c :: r =>
      if err then ({ q with cells := afterItem c r, within := false }, .uncorrectable)
      else ({ q with cells := r, within := !c.eoi }, .cell c)

/-- One cycle: each operation sees the queue as it was before (R141); a flush answers FLUSHED to all and keeps an open item
open as a discarding one (R142). -/
def CellQ.cycle (limit : Nat) (room : Bool) (push : Option (SpillCell × Nat)) (pop flush : Bool) (q : CellQ)
    (err : Bool := false) : CellQ × Option PushRes × Option PopRes :=
  if flush then
    let o := match push with
      | some (c, _) => !c.eoi
      | none => q.isOpen
    ({ isOpen := o, discard := o, owed := !pop && (q.owed || q.within) }, push.map (fun _ => .flushed),
      if pop then some .flushed else none)
  else
    let a := push.map (fun p => q.push limit room p.1 p.2)
    let b := if pop then some (q.pop err) else none
    let x := (a.map (·.1)).getD q
    let y := (b.map (·.1)).getD q
    ({ x with cells := x.cells.drop (q.cells.length - y.cells.length), within := y.within, owed := y.owed },
      a.map (·.2), b.map (·.2))

/-- The cells of a packet's item: the head, whose layout is not given, and the packet's bytes. -/
def Pkt.spill (p : Pkt) : List SpillCell :=
  (List.range p.cells).map (fun j => ⟨j = 0, j + 1 = p.cells, if j = 0 then [] else sl (p.hdr ++ p.pay) (64 * (j - 1)) 64⟩)

/-- A stream's spill queue, cell by cell, between commands: every packet it holds was pushed whole. -/
def spillQ (b : Bound) : CellQ := { cells := (b.q.map Pkt.spill).flatten }

/-- The queue takes a new item of `k` cells (R140): its reservation in the pool covers the limit. -/
def queueTakes (b : Bound) (k : Nat) : Bool := ((spillQ b).push b.limit true ⟨true, k = 1, []⟩ k).2 = .accepted

/-- What a pop of a packet's item answers, cell for cell in one, with an uncorrectable word in it or none (R143). -/
def itemPop (p : Pkt) (ue : Bool) : PopRes := (CellQ.pop ue { cells := p.spill }).2

/-- What NET_QUEUE_FLUSH reports (R142): cells and items discarded, and whether an item was open. -/
def flushRes (b : Bound) : List Word := [lo32 (spillQ b).occupied, lo32 b.q.length, if (spillQ b).isOpen then 1 else 0]

/-- GATHER deadline of tick `n` in ns of clock time (R34). -/
def gatherDeadline (n : Nat) : Nat := tickStartNs n - 10000

/-! ## The host packet area (R129 to R132) -/

def hpaOf (s : State) (f : Nat) : Hpa := (tget s.net.hpa f).getD {}

def setHpa (s : State) (f : Nat) (x : Hpa) : State := { s with net := { s.net with hpa := tset s.net.hpa f x } }

/-- The address of a host packet area (R129). -/
def hpaBase (s : State) (f : Nat) : Nat := fld s (NET_HPA_BASE_HI f) * 2 ^ 32 + fld s (NET_HPA_BASE_LO f) * 2 ^ 12

/-- A frame due to function `f` is dropped (R132). -/
def hpaDrop (s : State) (f p u : Nat) : State :=
  let s := stat (bump s (NET_HPA_DROP_CNT f) 1) p u RX_HOST_DROP 1
  let x := { hpaOf s f with dropSince := (hpaOf s f).dropSince + 1 }
  if (x.dropLast.map (fun t => decide (curTick s < t + 1200))).getD false then setHpa s f x
  else
    raise (setHpa s f { x with dropSince := 0, dropLast := some (curTick s) }) f EV_NET_HPA_DROP (BitVec.ofNat 16 f)
      (sat32 x.dropSince) 0 0 0

/-- The receive slots' number. -/
def hpaRxN (s : State) (f : Nat) : Nat := 2 ^ fld s (NET_HPA_RX_LOG2 f)
def hpaTxN (s : State) (f : Nat) : Nat := 2 ^ fld s (NET_HPA_TX_LOG2 f)

/-- The vector of a host packet area, when the device has written a slot of it (R129, R107). -/
def hpaIrq (s : State) (f : Nat) : State := if bit s (NET_HPA_IRQ_EN f) then vecIrq s f (fld s (NET_HPA_VEC f)) false else s

/-- Write the next receive slot of function `f` with its header (R130) and the frame, or drop the frame (R132). `ts` is
the full ingress time in ns. -/
def hpaDeliver (s : State) (f p u reason handle ts : Nat) (frame : List Byte) : State :=
  let x := hpaOf s f
  let n := hpaRxN s f
  if !bit s (NET_HPA_EN f) || fld s (NET_HPA_STATE f) = 3 || decide (2016 < frame.length)
      || decide (fld s (NET_HPA_TICK_MAX f) ≤ x.rxTick) || decide (n ≤ (x.rxDev - x.rxHost).toNat) then hpaDrop s f p u
  else
    let a := hpaBase s f + 0x1000 + 2048 * ringSlot x.rxDev n
    let hdr : List Word :=
      [BitVec.ofNat 32 (frame.length * 2 ^ 16 + p * 2 ^ 14 + u * 2 ^ 12 + reason * 2 ^ 8), lo32 ts,
       lo32 (tickOf ts), BitVec.ofNat 32 (passPhase x.rxDev n * 2 ^ 31 + handle), 0, 0, 0, 0]
    let s := hostWrites s a (hdr ++ bytesWords frame)
    hpaIrq (stat (setHpa s f { x with rxDev := x.rxDev + 1, rxTick := x.rxTick + 1 }) p u RX_TO_HOST 1) f

/-- Transmit slot `i` of function `f` has left, or was discarded: PHASE is written into its word 3, whose other bits are
`w3` (R131). -/
def hpaSent (s : State) (f i w3 : Nat) : State :=
  let x := hpaOf s f
  let n := hpaTxN s f
  let k : BitVec 32 := BitVec.ofNat 32 i
  let a := hpaBase s f + 0x1000 + 2048 * hpaRxN s f + 2048 * ringSlot k n
  hpaIrq (setHpa (hostWrite s (a + 12) (BitVec.ofNat 32 (passPhase k n * 2 ^ 31 + w3 % 2 ^ 31))) f { x with txDev := x.txDev + 1 }) f

/-- The area stops on an invalid index: `which` 0 receive, 1 transmit (R129). -/
def hpaStop (s : State) (f which : Nat) : State :=
  raise (setFld s (NET_HPA_STATE f) 3) f EV_NET_HPA_ERR (BitVec.ofNat 16 f) (BitVec.ofNat 32 which) 0 0 0

/-! ## Frames on their way out -/

/-- The FCS-included length of a frame plus 20 bytes (R172). -/
def wireLen (frame : List Byte) : Nat := frame.length + 24

/-- Picoseconds a byte takes on a subport, by its port's mode (R119). -/
def psPerByte (s : State) (p : Nat) : Nat :=
  match fld s (NET_PORT_MODE p) with
  | 1 => 20
  | 2 => 40
  | _ => 80

/-- Schedule a frame; on a subport whose link is down it is dropped and counted (R121). -/
def schedule' (s : State) (e : Egr) : State :=
  if linkUp s e.port e.sub then { s with net := { s.net with egress := s.net.egress ++ [e] } }
  else stat s e.port e.sub TX_LINK_DOWN 1

/-- An RTP packet the device sends on stream `hd`: protected (R197), framed from the bind block (R128). -/
def rtpFrame (s : State) (hd : Nat) (ssrc : Word) (sq : Nat) (hdr pay : List Byte) : State × Option (List Byte × Nat) :=
  match tget s.net.bound hd with
  | none => (s, none)
  | some b =>
    let (s, r) := txSrtp s hd ssrc sq hdr pay
    (s, r.map (fun p => (buildFrame b.blk (portMac s b.blk.port b.blk.sub) (fld s NET_TTL) p, p.length)))

/-- An RTCP packet the device sends on stream `hd`, protected and scheduled at an opportunity that no admitted packet
claims (R162, R169); false when it was refused, or the stream is bound to no socket. `kp` names the key-picture request it is. -/
def sendRtcp (s : State) (hd : Nat) (pkt : List Byte) (kp : Option (Nat × Bool) := none) : State × Bool :=
  match tget s.net.bound hd with
  | none => (s, false)
  | some b =>
    if 4 ≤ b.blk.port then (s, false) else
    let (s, r) := txSrtcp s hd pkt
    match r with
    | none => (s, false)
    | some p =>
      (schedule' s { port := b.blk.port, sub := b.blk.sub, launch := ns s, leg := hd / 4, ord := 0, kind := 2, handle := hd,
                     bytes := buildFrame b.blk (portMac s b.blk.port b.blk.sub) (fld s NET_TTL) p, kp := kp }, true)

end Sys2Proof.Machine
end

