-- ==== Sys2Proof/Machine/Forward.lean ====
section
/-! DEFINITION. Forwarding by layers (R151 to R177): subscriptions, layers and their rates, rewriting and numbering, the
bandwidth estimate, layer selection, key-picture requests, and the egress limit.
Log entries: 30, 31, 32, 33, 80, 97, 98, 108. -/

namespace Sys2Proof.Machine

/-! ## Subscriptions and sources -/

def setSub (s : State) (id : Nat) (x : Sub) : State := { s with fwd := { s.fwd with subs := tset s.fwd.subs id x } }

def srcOf (s : State) (hd : Nat) : Src := (tget s.fwd.srcs hd).getD {}

def setSrc (s : State) (hd : Nat) (x : Src) : State := { s with fwd := { s.fwd with srcs := tset s.fwd.srcs hd x } }

/-- The subscriptions of a source. -/
def subsOf (s : State) (hd : Nat) : List (Nat × Sub) := s.fwd.subs.filter (fun p => p.2.src = hd)

/-- The extension IDs that every subscription of a source shares (R152 item 9). -/
def srcIds (s : State) (hd : Nat) : Nat × Nat :=
  match subsOf s hd with
  | (_, b) :: _ => (b.ddIn, b.fmIn)
  | [] => (0, 0)

/-- The RX_SSRC_VALID bits are contiguous from bit 0. -/
def contiguous (v : Nat) : Bool := [1, 3, 7, 15].contains v

/-- The number of valid receive SSRCs of a stream. -/
def ssrcCount (s : State) (hd : Nat) : Nat :=
  match tget s.net.bound hd with
  | some b => (validIdx b.blk).length
  | none => 0

/-- The highest layer of a source as (s, t) (R155). -/
def topLayer (s : State) (sub : Sub) : Nat × Nat :=
  let r := recOf s sub.src
  if sub.kind = 2 then (ssrcCount s sub.src - 1, r.layT) else (r.layS, r.layT)

/-- The ladder of a subscription (R155): layers coded 4 × s + t, in order; the single layer (0, 0) while the source's AV1
structure is beyond the limits (R157). -/
def ladder (s : State) (sub : Sub) : List Nat :=
  let top := topLayer s sub
  if sub.kind ≠ 0 ∧ (recOf s sub.src).codec = 0x12 ∧ sub.ddIn ≠ 0 ∧ (srcOf s sub.src).unsup then [0]
  else ((List.range (min sub.capS top.1 + 1)).map (fun i =>
    (List.range (min sub.capT top.2 + 1)).map (fun j => 4 * i + j))).flatten

/-! ## Rates (R158) -/

/-- The facts of a source's releases in the window, each with the structure in force for it. -/
def histFacts (codec ddIn fmIn : Nat) (prev : Option DdStruct) : List HistRec → List (HistRec × LayerFacts × Option DdStruct)
  | [] => []
  | h :: r =>
    let f := layerOf codec ddIn fmIn prev h.hdr h.pay
    let st := f.struct.orElse (fun _ => prev)
    (h, f, st) :: histFacts codec ddIn fmIn st r

/-- Whether a packet belongs to layer `l` of a subscription's source: for scalable AV1 by the layer's decode target, for simulcast
by its encoding and temporal id; an AV1 descriptor that cannot be interpreted puts the packet in no layer, and `unsup` treats the
stream as the single layer (0, 0) (R157, R158). -/
def inLayer (kind codec ddIn : Nat) (unsup : Bool) (l ssrcIdx : Nat) (f : LayerFacts) (st : Option DdStruct) : Bool :=
  if kind = 2 then
    ssrcIdx = l / 4 && (if codec = 0x12 ∧ ddIn ≠ 0 then unsup || (f.dd && decide (f.tid ≤ l % 4)) else decide (f.tid ≤ l % 4))
  else if codec = 0x12 ∧ ddIn ≠ 0 then
    if unsup then true
    else
      match st with
      | some d =>
        match d.find (l / 4) (l % 4) with
        | some k => f.dd && f.dti.getD k 0 ≠ 0
        | none => false
      | none => false
  else decide (f.sid ≤ l / 4) && decide (f.tid ≤ l % 4)

/-- The UDP payload bytes of layer `l` in ticks n − 599 to n. -/
def layerBytes (s : State) (sub : Sub) (n l : Nat) : Nat :=
  let src := srcOf s sub.src
  let c := (recOf s sub.src).codec
  (histFacts c sub.ddIn sub.fmIn src.hist0 src.hist).foldl (fun a (h, f, st) =>
    if n ≤ h.tick + 599 ∧ h.tick ≤ n ∧ inLayer sub.kind c sub.ddIn src.unsup l h.ssrcIdx f st then a + h.size else a) 0

/-- The rate of a layer in kb/s; 0 for an absent layer (R158). -/
def layerRate (s : State) (sub : Sub) (n l : Nat) : Nat := cdiv (layerBytes s sub n l * 16) 1000

/-- The lowest present layer of a subscription's ladder. -/
def lowestPresent (s : State) (sub : Sub) (n : Nat) : Option Nat :=
  (ladder s sub).find? (fun l => layerRate s sub n l ≠ 0)

/-- The highest present layer below `l`. -/
def presentBelow (s : State) (sub : Sub) (n l : Nat) : Option Nat :=
  (ladder s sub).reverse.find? (fun x => x < l && layerRate s sub n x ≠ 0)

/-! ## Key-picture requests (R169, R170) -/

/-- Ask for a key picture of SSRC index `i` of source `hd`: sent in the next EMIT, or merged within the gap. The Bool is
"merged". -/
def kpRequest (s : State) (hd i : Nat) : State × Bool :=
  let k := 4 * hd + i
  let r := (tget s.fwd.kps k).getD {}
  let inGap := (r.sentAt.map (fun t => decide (curTick s < t + fld s FWD_KP_GAP))).getD false
  let r := if inGap then { r with merged := true } else { r with due := true }
  ({ s with fwd := { s.fwd with kps := tset s.fwd.kps k r } }, inGap)

/-- The SSRC index a subscription waits for a key picture of, if it waits. -/
def subWaits (sub : Sub) : Option Nat :=
  if !sub.live || sub.pause || sub.kind = 0 then none
  else
    match sub.applied with
    | none => if sub.first && sub.waiting then some 0 else none
    | some a =>
      if sub.waiting then some (if sub.kind = 2 then a / 4 else 0)
      else
        match sub.cur with
        | some c =>
          if sub.kind = 2 then (if c / 4 ≠ a / 4 then some (a / 4) else none)
          else if sub.kpAsked ∧ c / 4 < a / 4 then some 0 else none
        | none => none

/-- The SSRC index a subscription currently forwards; the one it waits for, or forwarded last, while it forwards none. -/
def subIdx (sub : Sub) : Nat :=
  if sub.kind = 2 then ((sub.cur.orElse (fun _ => sub.applied)).map (· / 4)).getD (sub.enc.getD 0) else 0

/-- The source asks by FIR: as its subscriptions say, or its decode context where it has none (R291). Where FWD_SUB_CAP has left
KP_FIR different among them, FIR is sent as soon as one says so (R169): the model's choice, log entry 108. -/
def srcFir (s : State) (hd : Nat) : Bool :=
  if subsOf s hd = [] then s.vid.dec.any (fun p => p.2.hd = hd && p.2.kpFir) else (subsOf s hd).any (fun p => p.2.kpFir)

/-- Put the request due to SSRC index `i` of stream `hd` in this EMIT (R169). It stays due until its frame is launched. -/
def kpSend (s : State) (hd i : Nat) : State :=
  let k := 4 * hd + i
  match tget s.net.bound hd, tget s.fwd.kps k with
  | some b, some r =>
    let media := (b.blk.ssrcs.getD i 0).toNat
    let fir := srcFir s hd
    (sendRtcp s hd (if fir then rtcpFir b.blk.txSsrc.toNat media (r.firSeq % 256) else rtcpPli b.blk.txSsrc.toNat media)
      (some (k, fir))).1
  | _, _ => { s with fwd := { s.fwd with kps := tmod s.fwd.kps k (fun r => { r with due := false }) } }

/-- The request `k` = 4 × handle + SSRC index is launched (R169, R170): counted, the gap starts, and a try for every subscription
that waits on it. -/
def kpSent (s : State) (k : Nat) (fir : Bool) : State :=
  let r := (tget s.fwd.kps k).getD {}
  let r' : KpReq := { due := false, merged := false, sentAt := some (curTick s), firSeq := r.firSeq + (if fir then 1 else 0) }
  bump { s with fwd := { s.fwd with
    kps := tset s.fwd.kps k r'
    subs := s.fwd.subs.map (fun (id, x) =>
      (id, if x.src = k / 4 ∧ subWaits x = some (k % 4) then { x with tries := x.tries + 1 } else x)) } } FWD_KP_SENT_CNT 1

/-- Send every request due (R169). -/
def kpSendAll (s : State) : List (Nat × KpReq) → State
  | [] => s
  | (k, r) :: t => kpSendAll (if r.due then kpSend s (k / 4) (k % 4) else s) t

/-! ## Layer events (R176) -/

/-- EV_FWD_LAYER of a subscription. -/
def layerEvt (s : State) (id : Nat) (sub : Sub) (reason : Nat) (old new : Option Nat) : State :=
  let lay (x : Option Nat) : Nat := x.getD 0
  raise s sub.owner EV_FWD_LAYER (BitVec.ofNat 16 sub.dst) (BitVec.ofNat 32 id)
    (BitVec.ofNat 32 (reason * 2 ^ 29 + (if new.isNone then 2 ^ 12 else 0) + lay old * 16 + lay new)) 0 0

/-! ## Release (R138, R156 to R158) -/

/-- Read a released packet for the source: layer facts, frame start, the structure it carries, and the window of R158. A packet
without a descriptor element, while no structure is kept, is treated as one that cannot be interpreted (R157, cause 1): the model's
choice, log entry 108. -/
def fwdRelease (s : State) (hd : Nat) (p : Pkt) : State :=
  let src := srcOf s hd
  let ids := srcIds s hd
  let c := (recOf s hd).codec
  let f := layerOf c ids.1 ids.2 src.struct p.hdr p.pay
  let start := decide (tget src.lastTs p.ssrcIdx ≠ some p.ts)
  let n := curTick s
  let old := src.hist.filter (fun h => h.tick + 599 < n)
  let hist0 := old.foldl (fun st h => (layerOf c ids.1 ids.2 st h.hdr h.pay).struct.orElse (fun _ => st)) src.hist0
  let (st, un) := match f.struct with
    | some d => if d.supported then (some d, false) else (none, true)
    | none => (src.struct, src.unsup)
  let x : Src := { src with
    struct := st
    unsup := un
    hist := src.hist.filter (fun h => n ≤ h.tick + 599) ++ [⟨n, p.ssrcIdx, p.size, p.hdr, p.pay.take 64⟩]
    hist0 := hist0
    lastTs := tset src.lastTs p.ssrcIdx p.ts
    rel := src.rel ++ [⟨p, f, start, st, un⟩] }
  let av1 := c = 0x12 && ids.1 ≠ 0
  match f.struct with
  | some d =>
    if d.supported then setSrc s hd { x with noStruct := false }
    else
      let s := setBit (setSrc s hd { x with noStruct := false }) FWD_ST_UNSUP
      if src.unsup then s else raiseLeg s hd EV_FWD_SRC_UNSUP (BitVec.ofNat 16 hd) 0 0 0 0
  | none =>
    if av1 && !src.unsup && src.struct.isNone then
      let s := (kpRequest (setSrc s hd { x with noStruct := true }) hd p.ssrcIdx).1
      if src.noStruct then s else raiseLeg s hd EV_FWD_SRC_UNSUP (BitVec.ofNat 16 hd) 1 0 0 0
    else setSrc s hd x

/-! ## Rewriting and numbering (R159 to R161) -/

/-- fwd_seq() of R160: the subscription, and the output number when the packet is sent; `stale` when dropped. -/
def fwdSeq (sub : Sub) (x : Nat) (selected : Bool) : Sub × Option Nat × Bool :=
  let sub := if sub.fresh then
      { sub with base := x, out0 := if sub.neverSent then sub.seqStart else sub.lastOut + 1, counted := [], hiFwd := none,
                 hiSeen := x, fresh := false }
    else sub
  if x < sub.base ∨ 1024 ≤ sub.hiSeen - x then (sub, none, true)
  else
    let sub := { sub with hiSeen := max sub.hiSeen x }
    if !selected then
      if (sub.hiFwd.map (fun h => decide (h < x))).getD true then
        ({ sub with counted := if sub.counted.contains x then sub.counted else x :: sub.counted }, none, false)
      else (sub, none, false)
    else
      let out := sub.out0 + (x - sub.base) - (sub.counted.filter (fun c => c < x)).length
      ({ sub with hiFwd := some (max (sub.hiFwd.getD x) x), lastOut := out, neverSent := false }, some (out % 65536), false)

/-- The header of a forwarded packet (R159). -/
def rewriteHdr (sub : Sub) (hdr : List Byte) (marker : Bool) (sq : Nat) (ts : Word) : List Byte :=
  let b1 := be hdr 1 1
  let pt := if sub.ptEn then sub.ptOut else b1 % 128
  let h := putB hdr 1 ([BitVec.ofNat 8 ((if marker then 128 else 0) + pt)] ++ natBE 2 sq ++ natBE 4 ts.toNat
    ++ natBE 4 sub.outSsrc.toNat)
  extRewrite (extRewrite h sub.ddIn sub.ddOut) sub.fmIn sub.fmOut

/-! ## Layer switching (R156, R167, R168) -/

/-- The DTI of a packet's frame for the decode target of spatial id `sp` and temporal id `tp` is Switch (R156, R157). -/
def dtiSwitch (sp tp : Nat) (p : RelPkt) : Bool :=
  match p.st with
  | some d => ((d.find sp tp).map (fun k => decide (p.facts.dti.getD k 0 = 2))).getD false
  | none => false

/-- The released packets of the frame that packet `p` is of (R156). -/
def frameOf (rel : List RelPkt) (p : RelPkt) : List RelPkt :=
  rel.filter (fun q => q.pkt.ssrcIdx = p.pkt.ssrcIdx && q.pkt.ts = p.pkt.ts)

/-- The frame `fr`, whose first packet is `p`, is an up-switch point to layer `a` (R156); each encoding of a simulcast source has its own
structure, of one spatial layer. -/
def upSwitch (kind codec a : Nat) (fr : List RelPkt) (p : RelPkt) : Bool :=
  match codec with
  | 0x12 => fr.any (dtiSwitch (if kind = 2 then 0 else a / 4) (a % 4))
  | 0x10 => p.facts.mark || fr.any (·.facts.key)
  | _ => (p.facts.mark && decide (p.facts.tid ≤ a % 4)) || fr.any (·.facts.key)

/-- The layer a scalable subscription moves to at a frame start from `c` toward `a`: down at once, up at its switch point
(R167). Each of the two moves by itself, so from (1, 2) toward (2, 0) the temporal layer falls first: the model's choice, log
entry 108. -/
def nextLayer (up : Bool) (c a : Nat) : Nat :=
  let s' := if a / 4 ≤ c / 4 ∨ up then a / 4 else c / 4
  let t' := if a % 4 ≤ c % 4 ∨ up then a % 4 else c % 4
  4 * s' + t'

/-- What the layer logic makes of one packet: the subscription, an event's old and new layer, and an encoding change. -/
structure Switched where
  sub : Sub
  evt : Option (Option Nat × Option Nat) := none

/-- A change of the forwarded layer to `new` is complete. -/
def Sub.moveTo (sub : Sub) (new : Option Nat) : Switched :=
  ⟨{ sub with cur := new, was := none, waiting := new.isNone, upSince := none, tries := 0, toRaised := false, kpAsked := false },
   some (sub.was.or sub.cur, new)⟩

/-- A part of a change: layer `n` is forwarded, and the change goes on. -/
def Sub.partTo (sub : Sub) (n : Nat) : Switched := ⟨{ sub with cur := some n, was := sub.was.or sub.cur }, none⟩

/-- The target is the layer forwarded again: a change that had begun is complete, with its event unless it led back to where it began. -/
def Sub.rest (sub : Sub) : Switched :=
  if sub.was.isNone then ⟨sub, none⟩ else if sub.was = sub.cur then ⟨{ sub with was := none }, none⟩ else sub.moveTo sub.cur

/-- The timestamp offset when encoding `e` is taken up: a change from the encoding last sent sets it so that the new encoding goes
on from the last timestamp sent; otherwise it stands (R161). -/
def Sub.ofsOn (sub : Sub) (e : Nat) (p : Pkt) : Word :=
  if sub.kind = 2 ∧ sub.lastEnc.isSome ∧ sub.lastEnc ≠ some e then
    sub.lastTs + BitVec.ofNat 32 (75 * max 1 (p.tick - sub.lastTick)) - p.ts
  else sub.ofs

/-- Follow the applied target at a packet (R167, R168). `absent` gives the highest present layer below an absent target, `fr` the
packet's frame. -/
def follow (sub : Sub) (codec : Nat) (absent : Option (Option Nat)) (fr : List RelPkt) (p : RelPkt) : Switched :=
  if !p.start then ⟨sub, none⟩
  else
    let sub := match absent with
      | some x => { sub with applied := x, reason := 2 }
      | none => sub
    match sub.applied with
    | none => if sub.cur.isSome then sub.moveTo none else ⟨sub, none⟩
    | some a =>
      match sub.cur with
      | none =>
        if fr.any (·.facts.key) ∧ (sub.kind ≠ 2 ∨ p.pkt.ssrcIdx = a / 4) then
          { sub with ofs := sub.ofsOn (a / 4) p.pkt : Sub }.moveTo (some a)
        else ⟨sub, none⟩
      | some c =>
        if c = a then sub.rest
        else if sub.kind = 2 ∧ c / 4 ≠ a / 4 then
          if fr.any (·.facts.key) ∧ p.pkt.ssrcIdx = a / 4 then
            { sub with ofs := sub.ofsOn (a / 4) p.pkt : Sub }.moveTo (some a)
          else if p.pkt.ssrcIdx = c / 4 ∧ c % 4 ≠ 0 then sub.partTo (c / 4 * 4) else ⟨sub, none⟩
        else if sub.kind = 2 ∧ p.pkt.ssrcIdx ≠ c / 4 then ⟨sub, none⟩
        else
          let n := nextLayer (upSwitch sub.kind codec a fr p) c a
          if n = a then sub.moveTo (some a) else if n = c then ⟨sub, none⟩ else sub.partTo n

/-- Whether a packet is forwarded under the subscription's current layer. -/
def selects (sub : Sub) (codec : Nat) (p : RelPkt) : Bool :=
  if sub.kind = 0 then !sub.waiting
  else
    match sub.cur with
    | none => false
    | some c => inLayer sub.kind codec sub.ddIn p.unsup c p.pkt.ssrcIdx p.facts p.st

/-- The marker of a forwarded packet: for a scalable AV1 source by the descriptor's end of frame in the selected spatial layer,
and 0 on every other packet (R159). While its structure is beyond the limits, the end of a frame of any spatial layer sets it: the
model's choice, log entry 108. -/
def outMarker (sub : Sub) (codec : Nat) (p : RelPkt) : Bool :=
  if sub.kind = 1 ∧ codec = 0x12 then p.facts.eof && (p.unsup || decide (some p.facts.sid = sub.cur.map (· / 4)))
  else p.pkt.marker

/-- The subscription as it numbers the packets of SSRC index `i`: it starts afresh on a change of encoding (R160). -/
def Sub.onEnc (sub : Sub) (i : Nat) : Sub :=
  { sub with enc := some i, fresh := sub.fresh || (sub.enc.map (fun e => decide (e ≠ i))).getD false }

/-- A candidate packet of a leg's EMIT: subscription, out number, header, payload, size with the destination's tag. -/
structure Cand where
  id : Nat
  seq : Nat
  hdr : List Byte
  pay : List Byte
  size : Nat

/-- The tag a send direction adds to an SRTP packet. -/
def txTag (s : State) (hd : Nat) : Nat :=
  match (tget s.cip.tx hd).bind (fun d => slotKeys s d.slot) with
  | some (su, _) => su.tag
  | none => 0

/-- After the applied target of a subscription that was `old` has changed: a key picture of it is requested at once where one is
waited for (R167, R168); the wait is a new one when it is for another SSRC. -/
def askWait (s : State) (id : Nat) (old : Sub) : State :=
  match tget s.fwd.subs id with
  | none => s
  | some sub =>
    match subWaits sub with
    | none => s
    | some i =>
      let s := if subWaits old = some i then s else setSub s id { sub with tries := 0, toRaised := false }
      (kpRequest s sub.src i).1

/-- One released packet of the frame `fr` through one subscription (R154, R156 to R161). -/
def fwdPacket (s : State) (id : Nat) (fr : List RelPkt) (p : RelPkt) : State × Option Cand :=
  match tget s.fwd.subs id with
  | none => (s, none)
  | some sub =>
    let codec := (recOf s sub.src).codec
    let absent : Option (Option Nat) :=
      match sub.applied with
      | some a => if sub.kind ≠ 0 ∧ layerRate s sub (curTick s) a = 0 then some (presentBelow s sub (curTick s) a) else none
      | none => none
    let w : Switched :=
      if sub.kind = 0 then ⟨{ sub with waiting := sub.waiting && !p.start }, none⟩
      else follow sub codec absent fr p
    let s := setSub s id w.sub
    let s := if w.sub.applied = sub.applied then s else askWait s id sub
    let s := match w.evt with
      | some (o, n) => layerEvt s id sub w.sub.reason o n
      | none => s
    let sub := w.sub
    if sub.kind = 2 ∧ p.pkt.ssrcIdx ≠ subIdx sub then (s, none)
    else
      let (sub, out, stale) := fwdSeq (sub.onEnc p.pkt.ssrcIdx) p.pkt.x (selects sub codec p)
      let s := setSub s id sub
      if stale then (setBit (bump s FWD_DROP_STALE_CNT 1) FWD_ST_SEQ_STALE, none)
      else
        match out with
        | none => (s, none)
        | some sq =>
          let ts := p.pkt.ts + sub.ofs
          let s := setSub s id { sub with lastTs := ts, lastTick := p.pkt.tick, lastEnc := sub.enc }
          (s, some ⟨id, sq, rewriteHdr sub p.pkt.hdr (outMarker sub codec p) sq ts, p.pkt.pay,
            p.pkt.hdr.length + p.pkt.pay.length + txTag s sub.dst⟩)

/-- Every packet of `rel`, the released packets of a subscription's source, in release order. -/
def fwdPackets (s : State) (id : Nat) (rel : List RelPkt) : List RelPkt → State × List Cand
  | [] => (s, [])
  | p :: r =>
    let (s, c) := fwdPacket s id (frameOf rel p) p
    let (s, cs) := fwdPackets s id rel r
    (s, c.toList ++ cs)

/-- Subscriptions by PRIO descending; the table gives them by SUB_ID ascending (R165, R171). -/
def byPrio (l : List (Nat × Sub)) : List (Nat × Sub) :=
  ([7, 6, 5, 4, 3, 2, 1, 0].map (fun pr => l.filter (fun p => p.2.prio = pr))).flatten

/-- The subscriptions of a leg in force and not paused, in the order of R171. One being removed is in force until its effect
tick (R153). -/
def legSubs (s : State) (leg : Nat) : List (Nat × Sub) :=
  let l := s.fwd.subs.filter (fun p => p.2.dst / 4 = leg && p.2.live && !p.2.pause)
  byPrio (l.filter (fun p => p.2.kind = 0)) ++ byPrio (l.filter (fun p => p.2.kind ≠ 0))

/-- The first target of a subscription that found no layer present when it started is its lowest layer as soon as one is
present (R168). -/
def firstTarget (s : State) (id : Nat) : State :=
  match tget s.fwd.subs id with
  | none => s
  | some sub =>
    if sub.kind = 0 ∨ !sub.first ∨ !sub.waiting then s
    else
      match lowestPresent s sub (curTick s) with
      | none => s
      | some l =>
        let t := if sub.target.isNone then some l else sub.target
        askWait (setSub s id { sub with applied := some l, target := t, first := false }) id sub

def fwdCands (s : State) : List (Nat × Sub) → State × List Cand
  | [] => (s, [])
  | (id, sub) :: r =>
    let s := firstTarget s id
    let (s, a) := fwdPackets s id (srcOf s sub.src).rel (srcOf s sub.src).rel
    let (s, b) := fwdCands s r
    (s, a ++ b)

def setEst (s : State) (leg : Nat) (x : Est) : State := { s with fwd := { s.fwd with ests := tset s.fwd.ests leg x } }

def estOf (s : State) (leg : Nat) : Est := (tget s.fwd.ests leg).getD {}

/-- A packet beyond the leg's limit is dropped (R171). -/
def limitDrop (s : State) (leg : Nat) : State :=
  let s := setBit (bump s FWD_DROP_LIMIT_CNT 1) FWD_ST_LIMIT_DROP
  let e := estOf s leg
  let e := { e with drops := min (e.drops + 1) 0xffffffff, dropSince := e.dropSince + 1 }
  if (e.dropLast.map (fun t => decide (curTick s < t + 1200))).getD false then setEst s leg e
  else
    raiseLeg (setEst s leg { e with dropSince := 0, dropLast := some (curTick s) }) (4 * leg) EV_FWD_LIMIT_DROP
      (BitVec.ofNat 16 leg) (sat32 e.dropSince) 0 0 0

/-- A forwarded packet's frame: protected on the destination, framed from its bind block (R154). -/
def fwdFrame (s : State) (c : Cand) (ord : Nat) : State × Option Egr :=
  match tget s.fwd.subs c.id with
  | none => (s, none)
  | some sub =>
    match tget s.net.bound sub.dst with
    | none => (s, none)
    | some b =>
      let s := setSub s c.id { sub with pkts := sub.pkts + 1, octets := sub.octets + c.pay.length }
      let (s, r) := rtpFrame s sub.dst sub.outSsrc c.seq c.hdr c.pay
      (s, r.map (fun (f, n) =>
        { port := b.blk.port, sub := b.blk.sub, launch := 0, leg := sub.dst / 4, ord := ord, kind := 1, handle := sub.dst,
          bytes := f, ssrc := sub.outSsrc, seq := c.seq, size := n }))

/-- Take candidates within `bytes` and `pkts`, dropping the rest (R171); a later smaller packet is still tried. -/
def fwdTake (s : State) (leg bytes pkts ord : Nat) : List Cand → State × List Egr
  | [] => (s, [])
  | c :: r =>
    if c.size ≤ bytes ∧ 0 < pkts then
      let (s, e) := fwdFrame s c ord
      let (s, es) := fwdTake s leg (bytes - c.size) (pkts - 1) (ord + 1) r
      (s, e.toList ++ es)
    else fwdTake (limitDrop s leg) leg bytes pkts ord r

/-- What a leg's EMIT forwards, in order (R171). -/
def forwardLeg (s : State) (leg ord : Nat) : State × List Egr :=
  match liveProf s leg with
  | none => (s, [])
  | some p =>
    let (s, cs) := fwdCands s (legSubs s leg)
    fwdTake s leg (cdiv (p.subKbps * 125) 1200) (cdiv p.subPps 1200) ord cs

/-- Launch times from `t` for a leg's packets (R172): `sum` is the sum of Δ, `line` LINE_KBPS. -/
def launchTimes (line sum t : Nat) : List Egr → List Egr
  | [] => []
  | e :: r =>
    let d := if line = 0 then 0 else cdiv (wireLen e.bytes * 8000000) line
    let d' := if 475000 < sum then d * 475000 / sum else d
    { e with launch := t } :: launchTimes line sum (t + d') r

/-- Assign launch times to a leg's packets from `t` (R172). -/
def paceLeg (s : State) (leg t : Nat) (es : List Egr) : List Egr :=
  let line := (estOf s leg).line
  let sum := es.foldl (fun a e => a + (if line = 0 then 0 else cdiv (wireLen e.bytes * 8000000) line)) 0
  launchTimes line sum t es

/-- Relay the sender reports that arrived before this tick (R162). -/
def relaySr (s : State) : List (Nat × Nat × Word × Word × Word) → State
  | [] => s
  | (n, id, hi, lo, ts) :: r =>
    if curTick s ≤ n then relaySr s r
    else
      let s := { s with fwd := { s.fwd with srs := s.fwd.srs.erase (n, id, hi, lo, ts) } }
      match tget s.fwd.subs id with
      | some sub =>
        relaySr (sendRtcp s sub.dst (rtcpSr sub.outSsrc.toNat hi.toNat lo.toNat (ts + sub.ofs).toNat sub.pkts sub.octets)).1 r
      | none => relaySr s r

/-! ## Feedback (R162, R163, R169) -/

/-- The TX_SSRCs and OUT_SSRCs of a leg. -/
def legSsrcs (s : State) (leg : Nat) : List Word :=
  (s.net.bound.filter (fun p => p.1 / 4 = leg)).map (fun p => p.2.blk.txSsrc)
    ++ (s.fwd.subs.filter (fun p => p.2.dst / 4 = leg)).map (fun p => p.2.outSsrc)

/-- The same launched packet, whatever has been reported of it. -/
def LogRec.same (a b : LogRec) : Bool := a.ssrc = b.ssrc && a.seq = b.seq && a.time = b.time

/-- The feedback entries of a report matched against the log, and the log with what they report received; entries for packets not
in the log are ignored (R163). -/
def matchFb (n rts : Nat) (log : List LogRec) : List (Nat × Nat × Bool × Nat) → List FbRec × List LogRec
  | [] => ([], log)
  | (ssrc, sq, got, ato) :: r =>
    match log.reverse.find? (fun l => l.ssrc.toNat = ssrc && l.seq = sq) with
    | none => matchFb n rts log r
    | some l =>
      let y := matchFb n rts (if got then log.map (fun x => if x.same l then { x with got := true } else x) else log) r
      ({ at' := n, got := got, arr := (rts + 2 ^ 32 - 64 * ato % 2 ^ 32) % 2 ^ 32, log := l } :: y.1, y.2)

/-- The entry is the first to report its packet received. -/
def FbRec.newGot (f : FbRec) : Bool := f.got && !f.log.got

/-- Take a leg's feedback from one RTCP packet (R163). -/
def takeFeedback (s : State) (leg : Nat) (p : RtcpPkt) : State :=
  let e := estOf s leg
  let own := legSsrcs s leg
  if e.emode = 1 then
    let fr := (p.reports.filter (fun r => own.contains (BitVec.ofNat 32 r.1))).map (fun r => (curTick s, r.2))
    if fr = [] then s else setEst s leg { e with loss := e.loss ++ fr }
  else if e.emode = 2 ∧ p.pt = 205 ∧ p.cnt = 11 then
    let (rts, b) := p.ccfb
    let m := matchFb (curTick s) rts e.log (b.filter (fun x => own.contains (BitVec.ofNat 32 x.1)))
    setEst s leg { e with fb := e.fb ++ m.1, log := m.2 }
  else s

/-- The subscription currently forwards packets of its source. -/
def Sub.forwards (sub : Sub) : Bool := if sub.kind = 0 then sub.live && !sub.pause else sub.cur.isSome

/-- Firmware's copy of one packet of a compound received by stream `hd` (R127, R162, R163, R169). -/
def fwdRtcp (s : State) (hd : Nat) (p : RtcpPkt) : State :=
  let leg := hd / 4
  let s := takeFeedback s leg p
  let s := if p.pt = 200 then
      let snd : Word := BitVec.ofNat 32 (be p.b 4 4)
      s.fwd.subs.foldl (fun s (id, sub) =>
        match tget s.net.bound sub.src with
        | some b =>
          if sub.src / 4 = leg ∧ sub.forwards ∧ b.blk.ssrcs[subIdx sub]? = some snd then
            { s with fwd := { s.fwd with srs := s.fwd.srs ++
                [(curTick s, id, BitVec.ofNat 32 (be p.b 8 4), BitVec.ofNat 32 (be p.b 12 4), BitVec.ofNat 32 (be p.b 16 4))] } }
          else s
        | none => s) s
    else s
  p.kpTargets.foldl (fun s t =>
    s.fwd.subs.foldl (fun s (_, sub) =>
      if sub.dst / 4 = leg ∧ sub.outSsrc.toNat = t then (kpRequest s sub.src (subIdx sub)).1 else s) s) s

/-- A packet launched to a leg enters its byte count and its send log (R163, R164). -/
def logLaunch (s : State) (e : Egr) (t : Nat) : State :=
  let x := estOf s e.leg
  let n := curTick s
  let log := (x.log ++ [⟨e.ssrc, e.seq, t, n, e.size, false⟩])
  setEst s e.leg { x with
    sent := (x.sent.filter (fun y => n ≤ y.1 + 25)) ++ [(n, e.size)]
    log := log.drop (log.length - 4096) }

/-! ## The estimate (R163, R164) -/

/-- EST_TOP (R163). -/
def estTop (e : Est) : Nat :=
  if e.line = 0 ∧ e.max = 0 then 10000000 else if e.line = 0 then e.max else if e.max = 0 then e.line else min e.line e.max

/-- The starting estimate (R163). -/
def estInit (s : State) (e : Est) : Nat := if e.init = 0 then fld s FWD_EST_INIT else e.init

/-- Microseconds of a 1/65,536 s timestamp (R163). -/
def arrUs (a : Nat) : Nat := a * 15625 / 1024

/-- The counted groups of new feedback in launch order, as (send ns, arrival) of each group's last packet when newly reported
received (R163, R164). -/
def fbGroups (log : List LogRec) (fb : List FbRec) : List (Nat × Nat) :=
  let ticks : Table Unit := fb.foldl (fun t f => tset t f.log.tick ()) []
  ticks.filterMap (fun (n, _) =>
    let all := (log.filter (fun l => l.tick = n)) ++ ((fb.filter (fun f => f.log.tick = n)).map (·.log))
    let last := all.foldl (fun (m : LogRec) l => if m.time ≤ l.time then l else m) ⟨0, 0, 0, 0, 0, false⟩
    (fb.find? (fun f => f.newGot && f.log.same last)).map (fun f => (f.log.time, f.arr)))

/-- Q after the groups (R164). -/
def qGroups (q : Int) (prev : Option (Nat × Nat)) : List (Nat × Nat) → Int × Option (Nat × Nat)
  | [] => (q, prev)
  | (snd, arr) :: r =>
    match prev with
    | none => qGroups q (some (snd, arr)) r
    | some (ps, pa) =>
      let w : Int := 65536000000
      let da := ((arrUs arr : Int) - arrUs pa + w / 2) % w - w / 2
      let d := da - ((snd / 1000 : Nat) - (ps / 1000 : Nat) : Int)
      qGroups (min 2000000 (max 0 (q + d))) (some (snd, arr)) r

/-- The step of EST from F, Q and ACKED (R164). -/
def estStep (s : State) (e : Est) : Nat :=
  let q := e.q
  let est :=
    if fld s FWD_EST_LOSS_HI < e.f then e.est * (512 - e.f) / 512
    else if (fld s FWD_EST_Q_HI * 1000 : Nat) < q then min e.est (e.acked * 850 / 1000)
    else if e.f < fld s FWD_EST_LOSS_LO ∧ q < (fld s FWD_EST_Q_LO * 1000 : Nat) then
      let step := max (fld s FWD_EST_INC_MIN) (e.est * fld s FWD_EST_INC / 1000)
      max e.est (min (e.est + step) (e.acked * fld s FWD_EST_HEADROOM / 1000 + fld s FWD_EST_INC_MIN))
    else e.est
  min (estTop e) (max (fld s FWD_EST_MIN) est)

/-- est_update() of R164 for a leg. -/
def estUpdate (s : State) (leg : Nat) : State :=
  let n := curTick s
  let e := estOf s leg
  if e.emode = 0 then setEst s leg { e with est := estTop e }
  else
    let loss : List (Nat × Nat) := e.loss.filter (fun p => p.1 < n)
    let fb : List FbRec := e.fb.filter (fun f => f.at' < n)
    let e : Est := { e with loss := e.loss.filter (fun p => ¬ p.1 < n), fb := e.fb.filter (fun f => ¬ f.at' < n) }
    if (e.emode = 1 ∧ loss = []) ∨ (e.emode = 2 ∧ fb = []) then
      let e : Est := { e with quiet := e.quiet + 24 }
      if fld s FWD_EST_STALE ≤ e.quiet then
        let e' := { e with est := max (fld s FWD_EST_MIN) (e.est / 2), quiet := 0, stale := true }
        let s := setEst s leg e'
        if e.stale then s
        else raiseLeg s (4 * leg) EV_FWD_EST_STALE (BitVec.ofNat 16 leg) (lo32 e'.est) 0 0 0
      else setEst s leg e
    else
      let e : Est := { e with quiet := 0, stale := false }
      let e : Est :=
        if e.emode = 2 then
          let (q, pg) := qGroups e.q e.prevGroup (fbGroups e.log fb)
          let lost := (fb.filter (fun f => !f.got)).length
          let rx := (fb.filter FbRec.newGot).foldl (fun a f => a + f.log.size) 0
          { e with q := q, prevGroup := pg, f := 256 * lost / fb.length, acked := rx * 2 / 5 }
        else
          let tx := (e.sent.filter (fun y => n ≤ y.1 + 24 ∧ y.1 < n)).foldl (fun a y => a + y.2) 0
          { e with f := loss.foldl (fun m p => max m p.2) 0, acked := tx * 2 / 5 }
      setEst s leg { e with est := estStep s e }

/-! ## Layer selection (R165, R166) -/

/-- A video subscription during selection. -/
structure Sel where
  id : Nat
  sub : Sub
  lads : List (Nat × Nat)
  tgt : Option Nat
  done : Bool

def Sel.rate (x : Sel) (l : Option Nat) : Nat :=
  match l with
  | none => 0
  | some l => ((x.lads.find? (fun p => p.1 = l)).map (·.2)).getD 0

/-- The base layers of R165: each subscription takes its lowest present layer while it fits in `b`. -/
def selBase (b : Int) : List Sel → Int × List Sel
  | [] => (b, [])
  | x :: r =>
    match x.lads with
    | (l, rt) :: _ =>
      if (rt : Int) ≤ b then
        let y := selBase (b - rt) r
        (y.1, { x with tgt := some l, done := false } :: y.2)
      else
        let y := selBase b r
        (y.1, { x with tgt := none, done := true } :: y.2)
    | [] =>
      let y := selBase b r
      (y.1, { x with tgt := none, done := true } :: y.2)

/-- One round of upgrades (R165). -/
def selRound (margin : Nat) (b : Int) : List Sel → Int × List Sel × Bool
  | [] => (b, [], false)
  | x :: r =>
    let up := if x.done then none else x.lads.find? (fun p => decide (x.tgt.getD 0 < p.1))
    match up with
    | none =>
      let y := selRound margin b r
      (y.1, { x with done := true } :: y.2.1, y.2.2)
    | some (l, rt) =>
      let need : Int := (rt : Int) - x.rate x.tgt
      let below := (x.sub.cur.map (fun c => decide (l ≤ c))).getD false
      let test : Int := if below then need else (need * margin + 999) / 1000
      if test ≤ b then
        let y := selRound margin (b - need) r
        (y.1, { x with tgt := some l } :: y.2.1, true)
      else
        let y := selRound margin b r
        (y.1, { x with done := true } :: y.2.1, y.2.2)

/-- Rounds until none changes; `k` bounds them. -/
def selRounds (margin : Nat) (b : Int) (xs : List Sel) (k : Nat) : List Sel :=
  match k with
  | 0 => xs
  | k + 1 =>
    let y := selRound margin b xs
    if y.2.2 then selRounds margin y.1 y.2.1 k else y.2.1

/-- select() of R165: the computed target of every unpaused video subscription of a leg. -/
def selectLeg (s : State) (leg : Nat) : List Sel :=
  let n := curTick s
  let subs := legSubs s leg
  let peak := ((liveProf s leg).map (·.subKbps)).getD 0
  let audio := (subs.filter (fun p => p.2.kind = 0)).foldl (fun a p => a + layerRate s p.2 n 0) 0
  let b : Int := (min ((estOf s leg).est * fld s FWD_EST_USE / 1000) peak : Nat) - (audio : Int)
  let v := (subs.filter (fun p => p.2.kind ≠ 0)).map (fun (id, sub) =>
    { id := id, sub := sub, tgt := none, done := false
      lads := ((ladder s sub).map (fun l => (l, layerRate s sub n l))).filter (fun p => p.2 ≠ 0) : Sel })
  let y := selBase b v
  selRounds (fld s FWD_UP_MARGIN) y.1 y.2 (16 * v.length + 1)

/-- The computed target against the applied one (R166): at or below is applied at once, above waits. -/
def takeTarget (s : State) (x : Sel) : State :=
  match tget s.fwd.subs x.id with
  | none => s
  | some sub =>
    let below := match x.tgt, sub.applied with
      | none, _ => true
      | some t, some a => decide (t ≤ a)
      | some _, none => false
    let sub := { sub with first := sub.first && (x.tgt.isSome || x.lads.isEmpty) }
    if below then
      stage (setSub s x.id { sub with target := x.tgt, hold := 0 }) (curTick s + 1) (.subTarget x.id x.tgt)
    else setSub s x.id { sub with target := x.tgt, hold := sub.hold + 1 }

/-- EST_UPDATE (R164, R165): in tick N with N mod 24 = LEG_ID mod 24, once. Estimates and targets stay frozen once firmware has stopped
(R514). -/
def execEstUpdate (leg : BitVec 14) (s : State) : Host.Outcome State Fault Refusal :=
  act (fun s =>
    let l := leg.toNat
    if s.pwr.fwStop ∨ (liveProf s l).isNone ∨ curTick s % 24 ≠ l % 24 ∨ (estOf s l).updAt = some (curTick s) then s
    else
      let s := estUpdate s l
      let s := setEst s l { estOf s l with updAt := some (curTick s) }
      (selectLeg s l).foldl takeTarget s) s

/-- UP_HOLD_REACHED (R166): the computed target is applied from the start of the next tick. -/
def execUpHoldReached (id : BitVec 20) (s : State) : Host.Outcome State Fault Refusal :=
  act (fun s =>
    match tget s.fwd.subs id.toNat with
    | some sub =>
      if !s.pwr.fwStop ∧ fld s FWD_UP_HOLD ≤ sub.hold then
        stage (setSub s id.toNat { sub with hold := 0 }) (curTick s + 1) (.subTarget id.toNat sub.target)
      else s
    | none => s) s

/-! ## Changes of subscriptions in force -/

/-- A target under the subscription's cap (R155, R166): the lesser of its spatial layers with the lesser of its temporal layers, the
model's choice of "the capped layer", log entry 108. -/
def Sub.capped (sub : Sub) (a : Nat) : Nat := 4 * min (a / 4) sub.capS + min (a % 4) sub.capT

/-- The applied target becomes `tgt`, under the cap in force by then (R166 to R168): another encoding, or leaving none, requests a
key picture at once. -/
def subTargetApply (s : State) (id : Nat) (tgt : Option Nat) (reason : Nat) : State :=
  match tget s.fwd.subs id with
  | none => s
  | some old =>
    let sub := old
    let tgt := tgt.map sub.capped
    if s.pwr.fwStop ∨ sub.applied = tgt ∨ !sub.live ∨ sub.kind = 0 then s
    else
      let upS := match sub.cur, tgt with
        | some c, some a => decide (c / 4 < a / 4)
        | _, _ => false
      let sub := { sub with
        applied := tgt, first := false, reason := reason, waiting := sub.cur.isNone, kpAsked := false
        upSince := if sub.kind = 1 && upS then some (curTick s) else none }
      askWait (setSub s id sub) id old

/-- A subscription starts, or resumes from PAUSE (R160, R168). -/
def subBegin (s : State) (id : Nat) (sub : Sub) (reason : Nat) : State :=
  let lo := if sub.kind = 0 then some 0 else lowestPresent s sub (curTick s)
  let sub := { sub with live := true, pause := false, fresh := true, waiting := true, cur := none, applied := lo, target := lo,
                        first := lo.isNone, hold := 0, reason := reason, tries := 0, toRaised := false }
  let s := setSub s id sub
  match subWaits sub with
  | some i => (kpRequest s sub.src i).1
  | none => s

/-- The effect tick of FWD_SUB_SET (R153, R196). -/
def subStartApply (s : State) (id : Nat) : State :=
  match tget s.fwd.subs id with
  | some sub =>
    let s := txDeliver s sub.dst sub.outSsrc
    if sub.pause then setSub s id { sub with live := true } else subBegin s id sub 0
  | none => s

/-- The effect tick of FWD_SUB_CAP (R153, R166): the new cap, pause and priority. -/
def subCapApply (s : State) (id : Nat) (pause kpFir : Bool) (prio capS capT : Nat) : State :=
  match tget s.fwd.subs id with
  | none => s
  | some sub =>
    let was := sub.pause
    let new := { sub with kpFir := kpFir, prio := prio, capS := capS, capT := capT }
    if was && !pause then subBegin s id new 1
    else if !was && pause then
      let s := setSub s id { new with pause := true, cur := none, waiting := true }
      if sub.cur.isSome ∧ sub.kind ≠ 0 then layerEvt s id sub 1 sub.cur none else s
    else
      let s := setSub s id new
      match sub.applied with
      | some a =>
        if new.capped a ≠ a then subTargetApply s id (some (new.capped a)) 1 else s
      | none => s

/-- From the effect tick of its removal a subscription launches nothing, and its record is retired (R153, R196). -/
def subStopApply (s : State) (id : Nat) : State :=
  match tget s.fwd.subs id with
  | none => s
  | some sub =>
    if sub.ended then s
    else
      let s := setSub s id { sub with live := false, gone := true, ended := true, cur := none, was := none }
      let s := txRetire s sub.dst sub.outSsrc
      if sub.byRel then layerEvt s id sub 3 (sub.was.or sub.cur) none else s

/-- The SUB_ID is free (R153). -/
def subGoneApply (s : State) (id : Nat) : State := { s with fwd := { s.fwd with subs := tdel s.fwd.subs id } }

/-- Remove a subscription from effect tick `e`; `rel` when the device removes it (R153). -/
def subRemove (s : State) (id e : Nat) (rel : Bool) : State :=
  match tget s.fwd.subs id with
  | none => s
  | some sub =>
    if sub.gone then s
    else stageEnd (stage (setSub s id { sub with gone := true, byRel := rel }) e (.subStop id)) (e - 1) (.subGone id)

/-- Remove every subscription that satisfies `c` (R153). -/
def subRemoveAll (s : State) (e : Nat) (c : Sub → Bool) : State :=
  s.fwd.subs.foldl (fun s p => if c p.2 then subRemove s p.1 e true else s) s

/-- The effect tick of FWD_PACE_SET (R163): a change of EST_MODE restarts EST; Q, F, ACKED and the times of feedback stand. -/
def paceApply (s : State) (leg emode line init max : Nat) : State :=
  match tget s.fwd.ests leg with
  | none => s
  | some e =>
    let e' := { e with emode := emode, line := line, init := init, max := max }
    if e.emode = emode then setEst s leg e'
    else setEst s leg { e' with est := estInit s e' }

/-- A leg's estimate on admission (R163). -/
def estStart (s : State) (leg : Nat) : State := setEst s leg { est := fld s FWD_EST_INIT }

/-! ## Commands -/

/-- The leg is admitted, not releasing. -/
def legIn (s : State) (leg : Nat) : Option Leg :=
  match tget s.adm.legs leg with
  | some l => if l.item.releasing then none else some l
  | none => none

/-- Item 3 of R152: the source is not usable. -/
def srcInvalid (s : State) (src : Nat) : Bool :=
  match legIn s (src / 4), tget s.net.bound src with
  | some l, some b =>
    let r := l.prof.rec' (src % 4)
    b.gone || !r.rxFwd || !r.rxEn || !contiguous b.blk.valid || (decide (1 < (validIdx b.blk).length) && r.layS ≠ 0)
  | _, _ => true

/-- Item 8 of R152: the extension fields do not suit the codec of a source with `n` valid SSRCs. -/
def codecUnsuited (r : StreamRec) (n ddIn fmIn : Nat) : Bool :=
  (ddIn ≠ 0 && r.codec ≠ 0x12) || (ddIn = 0 && r.codec = 0x12 && (r.layS ≠ 0 || r.layT ≠ 0 || decide (1 < n))) ||
  (fmIn ≠ 0 && r.codec ≠ 0x10) || (fmIn = 0 && r.codec = 0x10 && r.layT ≠ 0) || (r.codec = 0x12 && r.layS = 3)

/-- The checks of R152 in their order. -/
def subSetCheck (s : State) (f id : Nat) (x : Sub) : Option (BitVec 16) :=
  let r := recOf s x.src
  match tget s.fwd.subs id, tget s.net.bound x.dst, legIn s (x.dst / 4) with
  | some _, _, _ => some FWD_ST_SUB_BUSY
  | none, db, dl =>
    if streamForeign s f x.src || streamForeign s f x.dst then some FWD_ST_NOT_OWNER
    else if srcInvalid s x.src then some FWD_ST_SRC_INVALID
    else
      match db, dl with
      | some b, some l =>
        if b.gone then some FWD_ST_DST_INVALID
        else if (tget s.adm.legs (x.src / 4)).map (·.conf) ≠ some l.conf then some FWD_ST_CONF
        else if b.blk.port ≠ l.prof.egrPort ∨ b.blk.sub ≠ l.prof.egrSub then some FWD_ST_PORT
        else if (legSsrcs s (x.dst / 4)).contains x.outSsrc then some FWD_ST_SSRC_BUSY
        else if codecUnsuited r (ssrcCount s x.src) x.ddIn x.fmIn then some FWD_ST_CODEC
        else if (subsOf s x.src).any (fun p => p.2.ddIn ≠ x.ddIn || p.2.fmIn ≠ x.fmIn || p.2.kpFir ≠ x.kpFir) then
          some FWD_ST_SRC_CONFLICT
        else if l.prof.subMax ≤ (s.fwd.subs.filter (fun p => p.2.dst / 4 = x.dst / 4)).length then some FWD_ST_SUB_MAX
        else none
      | _, _ => some FWD_ST_DST_INVALID

/-- The kind of a source (R155): 0 audio, 1 scalable video, 2 simulcast. -/
def srcKind (s : State) (hd : Nat) : Nat := if hd % 4 = 0 then 0 else if ssrcCount s hd = 1 then 1 else 2

/-- FWD_SUB_SET (R151 to R153). -/
def execFwdSubSet (h : CmdHdr) (id : BitVec 20) (src dst : BitVec 16) (ssrc tsOfs : BitVec 32) (seqStart : BitVec 16)
    (ptEn : Bool) (ptOut : BitVec 7) (ddIn ddOut fmIn fmOut : BitVec 4) (pause kpFir : Bool) (prio : BitVec 3)
    (capS capT : BitVec 2) (s : State) : Host.Outcome State Fault Refusal :=
  act (command h OP_FWD_SUB_SET
    { reserved := src.toNat % 4 = 3 || dst.toNat % 4 = 3 || [ddIn, ddOut, fmIn, fmOut].contains 15 || capT = 3 }
    (fun s =>
      let x : Sub := { owner := h.fn.toNat, src := src.toNat, dst := dst.toNat, outSsrc := ssrc, seqStart := seqStart.toNat
                       ptEn := ptEn, ptOut := ptOut.toNat, ddIn := ddIn.toNat, ddOut := ddOut.toNat, fmIn := fmIn.toNat
                       fmOut := fmOut.toNat, pause := pause, kpFir := kpFir, prio := prio.toNat, capS := capS.toNat
                       capT := capT.toNat, ofs := tsOfs, kind := srcKind s src.toNat }
      match subSetCheck s h.fn.toNat id.toNat x with
      | some st => (s, no st)
      | none =>
        let e := effTick s
        (stage (setSub s id.toNat x) e (.subStart id.toNat), ok (effArea e)))) s

/-- The subscription a command names, or the status that refuses it (R174). -/
def subFor (s : State) (f id : Nat) : Except (BitVec 16) Sub :=
  match tget s.fwd.subs id with
  | none => .error FWD_ST_SUB_UNKNOWN
  | some x => if x.owner ≠ f then .error FWD_ST_NOT_OWNER else if x.gone then .error FWD_ST_SUB_UNKNOWN else .ok x

/-- FWD_SUB_CLEAR (R153). -/
def execFwdSubClear (h : CmdHdr) (id : BitVec 20) (s : State) : Host.Outcome State Fault Refusal :=
  act (command h OP_FWD_SUB_CLEAR {} (fun s =>
    match subFor s h.fn.toNat id.toNat with
    | .error st => (s, no st)
    | .ok x => (subRemove s id.toNat (effTick s) false, ok (effArea (effTick s) ++ [sat32 x.pkts])))) s

/-- FWD_SUB_CAP (R153, R166). -/
def execFwdSubCap (h : CmdHdr) (id : BitVec 20) (pause kpFir : Bool) (prio : BitVec 3) (capS capT : BitVec 2) (s : State) :
    Host.Outcome State Fault Refusal :=
  act (command h OP_FWD_SUB_CAP { reserved := capT = 3 } (fun s =>
    match subFor s h.fn.toNat id.toNat with
    | .error st => (s, no st)
    | .ok _ =>
      let e := effTick s
      (stage s e (.subCap id.toNat pause kpFir prio.toNat capS.toNat capT.toNat), ok (effArea e)))) s

/-- The leg a forwarding command names, or the status that refuses it (R174, R175). -/
def fwdLegFor (s : State) (f leg : Nat) : Except (BitVec 16) Leg :=
  match legIn s leg with
  | none => .error FWD_ST_LEG_UNKNOWN
  | some l => if l.item.owner ≠ f then .error FWD_ST_NOT_OWNER else .ok l

/-- FWD_EST_READ (R174). An F of 256 does not fit its 8 bits and reads 0: the model's choice, log entry 108. -/
def execFwdEstRead (h : CmdHdr) (leg : BitVec 14) (s : State) : Host.Outcome State Fault Refusal :=
  act (command h OP_FWD_EST_READ {} (fun s =>
    match fwdLegFor s h.fn.toNat leg.toNat with
    | .error st => (s, no st)
    | .ok _ =>
      let e := estOf s leg.toNat
      (s, ok [lo32 e.est, lo32 e.acked,
        BitVec.ofNat 32 ((e.q / 1000).toNat % 65536 * 65536 + e.f % 256 * 256 + (if e.stale then 4 else 0) + e.emode),
        sat32 e.drops]))) s

/-- FWD_KEY_PIC_REQ (R169, R170). -/
def execFwdKeyPicReq (h : CmdHdr) (i : BitVec 2) (hd : BitVec 16) (s : State) : Host.Outcome State Fault Refusal :=
  act (command h OP_FWD_KEY_PIC_REQ { reserved := hd.toNat % 4 = 3 } (fun s =>
    match fwdLegFor s h.fn.toNat (hd.toNat / 4) with
    | .error st => (s, no st)
    | .ok _ =>
      match tget s.net.bound hd.toNat with
      | some b =>
        if b.gone ∨ ¬ b.blk.valid.testBit i.toNat then (s, no FWD_ST_LEG_UNKNOWN)
        else
          let (s, m) := kpRequest s hd.toNat i.toNat
          (s, ok [if m then 1 else 0])
      | none => (s, no FWD_ST_LEG_UNKNOWN))) s

/-- FWD_PACE_SET (R163). -/
def execFwdPaceSet (h : CmdHdr) (emode : BitVec 2) (leg : BitVec 14) (line init max : BitVec 32) (s : State) :
    Host.Outcome State Fault Refusal :=
  act (command h OP_FWD_PACE_SET
    { reserved := emode = 3 || (line ≠ 0 && (decide (line.toNat < 64) || decide (400000000 < line.toNat))) }
    (fun s =>
      match fwdLegFor s h.fn.toNat leg.toNat with
      | .error st => (s, no st)
      | .ok _ =>
        let e := effTick s
        (stage s e (.pace leg.toNat emode.toNat line.toNat init.toNat max.toNat), ok (effArea e)))) s

/-! ## Timed events -/

/-- KP_WAIT_EXPIRY (R167): no spatial up-switch point within FWD_KP_WAIT ticks; the wait for a key picture that begins is a new one
(R170). -/
def execKpWaitExpiry (id : BitVec 20) (s : State) : Host.Outcome State Fault Refusal :=
  act (fun s =>
    match tget s.fwd.subs id.toNat with
    | some sub =>
      if (sub.upSince.map (fun t => decide (t + fld s FWD_KP_WAIT ≤ curTick s))).getD false ∧ sub.live then
        (kpRequest (setSub s id.toNat { sub with upSince := none, kpAsked := true, tries := 0, toRaised := false }) sub.src 0).1
      else s
    | none => s) s

end Sys2Proof.Machine
end

