-- ==== Sys2Proof/Machine/PtpCore.lean ====
section
/-! DEFINITION. Time-unit operations that several chapters share: timestamps and the timestamp ring (R343 to R346), epochs
and steps (R340 to R342), the servo (R352), measurements (R351), and PTP messages received (R350).
Log entries: 18, 26, 52, 53, 55. -/

namespace Sys2Proof.Machine

/-- An Int as a word; a signed value is saturated to 32 bits. -/
def i32 (x : Int) : Word := BitVec.ofInt 32 (max (-2147483648) (min 2147483647 x))

def setPtp (s : State) (p : Ptp) : State := { s with ptp := p }

/-! ## The timestamp ring (R345, R346) -/

/-- Write a timestamp entry, or lose it when the ring has no room (R346). -/
def tsWrite (s : State) (ws : List Word) : State :=
  let f := fld s PTP_TSFN
  if ringOpen s f 33 && !resetting s f then
    let lost : Word := if (fnOf s f).tsLost then 2 ^ 30 else 0
    pushEntry (setFn s f { fnOf s f with tsLost := false }) f 33 (ws.set 3 lost) false
  else
    setBit (bump (setFn s f { fnOf s f with tsLost := true }) PTP_TS_LOST_CNT 1) PTP_ST_TS_LOST

/-- How far in the past the timestamp of a frame that arrives now can lie: the largest PTP_RX_DLY (R343). -/
def tsReach (s : State) : Nat := [0, 1, 2, 3].foldl (fun m p => max m (fld s (PTP_RX_DLY p))) 0

/-- The entries that no earlier one can precede any more enter the ring (R345). -/
def tsDrain (s : State) : State :=
  let due := s.ptp.tsq.takeWhile (fun q => decide (q.1 + tsReach s ≤ ns s))
  due.foldl (fun s q => tsWrite s q.2) (setPtp s { s.ptp with tsq := s.ptp.tsq.drop due.length })

/-- Every entry that waits enters the ring: what follows is stamped in stepped time (R342). -/
def tsFlush (s : State) : State := s.ptp.tsq.foldl (fun s q => tsWrite s q.2) (setPtp s { s.ptp with tsq := [] })

/-- A timestamp entry of `kind` for the full time `t` in ns, where PTP_TS_EN has its bit: in the order of the timestamps, but one of
kind 1 once the frame has left (R345). -/
def tsEntry (s : State) (kind id port sub t : Nat) : State :=
  if !(fld s PTP_TS_EN).testBit kind then s
  else
    let ws := [lo32 t, BitVec.ofNat 32 (id % 65536 * 2 ^ 16 + port * 2 ^ 14 + sub * 2 ^ 12 + kind * 2 ^ 8), lo32 (tickOf t), 0]
    if kind = 1 then tsWrite s ws
    else
      let q := s.ptp.tsq
      let n := (q.takeWhile (fun x => decide (x.1 ≤ t))).length
      tsDrain (setPtp s { s.ptp with tsq := q.take n ++ (t, ws) :: q.drop n })

/-! ## Pulses under way (R42, R43, R348) -/

/-- TICK_OUT is driven low, whatever is left of the pulse under way. -/
def tickLower (s : State) : State :=
  match s.easel.outFall with
  | none => s
  | some t =>
    let s' := { s with easel := { s.easel with outFall := none } }
    if localNs s < t then emitOut s' .tickLow else s'

/-- PPS_OUT is driven low, whatever is left of the pulse under way. -/
def ppsLower (s : State) : State :=
  match s.ptp.ppsFall with
  | none => s
  | some t =>
    let s' := setPtp s { s.ptp with ppsFall := none }
    if localNs s < t then emitOut s' .ppsLow else s'

/-- A TICK_OUT pulse under way ends where R43 drives TICK_OUT low: TIK_OUT_EN 0, no ticks, a hold. -/
def tickCut (s : State) : State :=
  if bit s TIK_OUT_EN && s.easel.running && !s.easel.holding then s else tickLower s

/-- A PPS_OUT pulse under way ends where R348 holds PPS_OUT low: PPS_OUT_EN 0, the clock stopped, UNCERTAIN under PPS_SQUELCH. -/
def ppsCut (s : State) : State :=
  if bit s PPS_OUT_EN && s.clk.running && !(bit s PPS_SQUELCH && bit s PTP_UNCERTAIN) then s else ppsLower s

/-- The ingress timestamp of a frame that reaches the ball of port `p` now: the ball time less PTP_RX_DLY (R343). -/
def ingressNs (s : State) (p : Nat) : Nat := ns s - fld s (PTP_RX_DLY p)

/-- The egress timestamp of a frame whose first preamble octet reaches the ball at `t` ps: the message timestamp point
comes after the preamble and its delimiter, eight octets, and PTP_TX_DLY is added (R343). -/
def egressNs (s : State) (p t : Nat) : Nat := (t + 8 * psPerByte s p) / 1000 + fld s (PTP_TX_DLY p)

/-! ## State, epochs and steps -/

/-- The state of R352 changes, with EV_PTP_STATE. -/
def ptpState (s : State) (st : Nat) : State :=
  if fld s PTP_STATE = st then s
  else
    let s := setFld s PTP_STATE st
    raise s 0 EV_PTP_STATE 0
      (BitVec.ofNat 32 (s.ptp.master.getD 0 * 64 + fld s PTP_UNCERTAIN * 8 + st)) 0 0 0

/-- EV_PTP_STEP (R358). -/
def stepEvt (s : State) (servo epoch : Bool) (off : Int) (last : Nat) : State :=
  let o : BitVec 64 := BitVec.ofInt 64 off
  raise s 0 EV_PTP_STEP 0
    (BitVec.ofNat 32 ((if servo then 2 ^ 17 else 0) + (if epoch then 2 ^ 16 else 0) + fld s PTP_EPOCH))
    (o.setWidth 32) ((o >>> 32).setWidth 32) (lo32 last)

/-- A new epoch: PTP_EPOCH counts, PTP_STEP_USED clears, and no source is known since (R340, R352). -/
def openEpoch (s : State) : State :=
  let s := setFld (setFld s PTP_EPOCH (fld s PTP_EPOCH + 1)) PTP_STEP_USED 0
  if s.ptp.servo then ptpState s 0 else s

/-- No tick starts any more: the tick to issue next is not before a SLEEP request's effect tick (R28). -/
def tickStopped (e : Easel) : Bool := (e.stopAt.map (fun n => decide (n ≤ e.next))).getD false

/-- The Easel's own time line, which the markers give, says where the tick in progress ends (R24). -/
def ownLine (s : State) : Bool :=
  s.easel.follow && s.easel.running && s.easel.issued && (decide (ns s ≤ s.easel.due) || !tickStopped s.easel)

/-- B: the next tick boundary of unstepped time, in ns (R342): where the Easel's tick ends, by R22 or on the markers' time line. -/
def nextB (s : State) : Nat := if ownLine s then s.easel.due else tickStartNs (tickOf (ns s) + 1)

/-- B of a staged step: the markers can still have moved the boundary. -/
def stepAt (s : State) (p : PtpStep) : Nat := if ownLine s then s.easel.due else p.at'

/-- The last tick before B that R342 and R358 report: the one in progress, in a hold the last that was issued. -/
def lastTick (s : State) : Nat := if s.easel.issued then s.easel.now else tickOf (ns s)

/-- The epoch that entry to PRIME or a wake opens, with its event (R340): no step, so the last tick is the one the clock is in. -/
def epochStart (s : State) : State :=
  let s := setFld (openEpoch s) PTP_UNCERTAIN 1
  stepEvt s false true 0 (lastTick s)

/-- Stage a step for B (R342). -/
def stageStep (s : State) (abs : Option Nat) (off : Int) (servo epoch : Bool) : State :=
  setPtp (setFld s PTP_STEP_USED 1) { s.ptp with staged := some ⟨nextB s, abs, off, servo, epoch⟩ }

/-! ## The servo (R352) -/

/-- The largest RATE, 100 ppm (R339). -/
def RMAX : Int := 1759218604

def ptpClamp (lo hi x : Int) : Int := max lo (min hi x)

/-- servo(θ) of R352. -/
def servo (s : State) (theta : Int) : State :=
  let big := decide ((s.ptp.stepNs : Int) < theta.natAbs)
  if big && fld s PTP_STEP_USED = 0 && s.ptp.staged.isNone then
    let s := stageStep s none (-theta) true false
    ptpState (setPtp s { s.ptp with i := 0, run := 0 }) 1
  else
    let quiet := (s.ptp.offAt.map (fun n => decide (curTick s < n + 1200))).getD false
    let s := if big then setBit s PTP_ST_OFFSET else s
    let s := if big && !quiet then
        raise (setPtp s { s.ptp with offAt := some (curTick s) }) 0 EV_PTP_OFFSET 0 (i32 theta) 0 0 0
      else s
    let i := ptpClamp (-RMAX) RMAX (s.ptp.i + 16 * fld s PTP_KI * theta)
    let r := ptpClamp (-RMAX) RMAX (-(16 * fld s PTP_KP * theta + i))
    let run := if theta.natAbs ≤ s.ptp.lockNs then s.ptp.run + 1 else 0
    let s := setReg (setPtp s { s.ptp with i := i, run := run }) PTP_RATE.addr (i32 r)
    let s := if fld s PTP_STATE = 0 ∨ fld s PTP_STATE = 3 then ptpState s 1 else s
    if s.ptp.lockCnt ≤ run then ptpState (setFld s PTP_UNCERTAIN 0) 2
    else if fld s PTP_STATE = 2 ∧ run = 0 then ptpState s 1
    else s

/-- One measurement: the servo applies it, or host software is told (R352, R353); firmware forms none once it has stopped. `id` is the
port and sequenceId. -/
def measurement (s : State) (theta mpd : Int) (id : Word) : State :=
  if s.pwr.fwStop then s else
  let s := setPtp s { s.ptp with theta := theta, mpd := mpd, measAt := localNs s }
  if s.ptp.servo then servo s theta
  else raise s 0 EV_PTP_MEAS 0 (i32 theta) (i32 mpd) id 0

/-- The source is lost: HOLDOVER from ACQUIRING or LOCKED, RATE and I kept (R352). -/
def holdover (s : State) : State :=
  if !s.pwr.fwStop ∧ (fld s PTP_STATE = 1 ∨ fld s PTP_STATE = 2) then
    ptpState (setPtp s { s.ptp with holdAt := localNs s }) 3
  else s

/-! ## PTP messages (R350, R351); their layout is that of IEEE 1588 -/

/-- The selected master's port: the alternate BMCA over the last Announce of every PTP port, with LOCAL_PRIO. -/
def annBefore (a b : Announce) (pa pb : Nat × Nat) : Bool :=
  let key (x : Announce) (p : Nat × Nat) : List Nat :=
    [x.cls, x.acc, x.var, x.prio2, p.2, if 127 < x.cls then x.gm else 0, x.steps, x.sender, p.1]
  decide (key a pa < key b pb)

def bestMaster (s : State) : List (Nat × Announce) → Option (Nat × Announce)
  | [] => none
  | (p, a) :: r =>
    let pr (q : Nat) : Nat × Nat := (q, s.ptp.prios.getD q 128)
    match bestMaster s r with
    | none => some (p, a)
    | some (q, b) => if annBefore a b (pr p) (pr q) then some (p, a) else some (q, b)

/-- The announcements that stand: the Announce receipt timeout of R350 has not passed, or they are the selected master's, which
ANNOUNCE_TIMEOUT ends. -/
def annsLive (s : State) : Table Announce :=
  s.ptp.anns.filter (fun q => decide (localNs s < q.2.at' + 375000000) || decide (s.ptp.master = some q.1))

/-- Select the master anew; a Sync or Delay_Req under way with another port is dropped. -/
def selectMaster (s : State) : State :=
  let m := (bestMaster s (annsLive s)).map (·.1)
  if m = s.ptp.master then s
  else setPtp s { s.ptp with master := m, sync := none, req := none }

/-- correctionField in whole ns, toward zero. -/
def corrNs (b : List Byte) : Int := ((BitVec.ofNat 64 (be b 8 8)).toInt).tdiv 65536

/-- A PTP timestamp of ten bytes at `o`, in ns. -/
def stampNs (b : List Byte) (o : Nat) : Nat := be b o 6 * 1000000000 + be b (o + 6) 4

/-- The device's portIdentity on port `p`: the EUI-64 of the MAC address of port 0, and the port number from 1. -/
def portIdentity (s : State) (p : Nat) : Nat :=
  let m := portMac s 0 0
  (m / 2 ^ 24 * 2 ^ 40 + 0xfffe * 2 ^ 24 + m % 2 ^ 24) * 65536 + p + 1

/-- θ and meanPathDelay of a Sync of the selected master (R351), where an exchange has completed on its port and no step
lies between the timestamps (R342). -/
def syncMeasure (s : State) (p sq t2 gen : Nat) (t1 : Int) : State :=
  match tget s.ptp.exch p with
  | some (t3, t4, g) =>
    if g ≠ gen ∨ s.ptp.src ≠ 0 then s
    else
      let mpd := (((t2 : Int) - t1) + ((t4 : Int) - t3)).tdiv 2
      measurement s ((t2 : Int) - t1 - mpd) mpd (BitVec.ofNat 32 (p * 65536 + sq))
  | none => s

/-- An Announce on port `p` (R350). -/
def announceRx (s : State) (p : Nat) (b : List Byte) : State :=
  let a : Announce := { cls := be b 48 1, acc := be b 49 1, var := be b 50 2, prio2 := be b 52 1, gm := be b 53 8
                        steps := be b 61 2, sender := be b 20 10, utc := be b 44 2, at' := localNs s }
  let take := match tget (annsLive s) p with
    | none => true
    | some o => o.sender = a.sender || annBefore a o (p, 0) (p, 0)
  if take then selectMaster (setPtp s { s.ptp with anns := tset (annsLive s) p a }) else s

/-- A Sync on port `p`, its ingress time `t2` in ns: a kind 0 entry, and a measurement when it is from the selected
master, at once in one-step operation. -/
def syncRx (s : State) (p t2 : Nat) (b : List Byte) : State :=
  let s := tsEntry s 0 (be b 30 2) p 0 t2
  let from' := s.ptp.master = some p && ((tget s.ptp.anns p).map (·.sender)) = some (be b 20 10)
  if !from' then s
  else if (be b 6 1).testBit 1 then
    setPtp s { s.ptp with sync := some ⟨p, be b 20 10, be b 30 2, t2, s.ptp.gen⟩ }
  else syncMeasure s p (be b 30 2) t2 s.ptp.gen (stampNs b 34 + corrNs b)

/-- A Follow_Up on port `p` completes the Sync that waits for it; t1 takes the Follow_Up's correctionField (R351). -/
def followUpRx (s : State) (p : Nat) (b : List Byte) : State :=
  match s.ptp.sync with
  | some w =>
    if w.port = p ∧ w.sender = be b 20 10 ∧ w.seq = be b 30 2 then
      syncMeasure (setPtp s { s.ptp with sync := none }) p w.seq w.t2 w.gen (stampNs b 34 + corrNs b)
    else s
  | none => s

/-- A Delay_Resp to the device's last Delay_Req completes the exchange: t4 less its correctionField (R351). -/
def delayRespRx (s : State) (p : Nat) (b : List Byte) : State :=
  match s.ptp.req with
  | some ⟨q, sq, some (t3, gen)⟩ =>
    if q = p ∧ sq = be b 30 2 ∧ be b 44 10 = portIdentity s p then
      setPtp s { s.ptp with
        req := none, exch := tset s.ptp.exch p (t3, (stampNs b 34 - corrNs b).toNat, gen) }
    else s
  | _ => s

/-- The frame's bytes from the Ethernet payload on are a PTP message the table of R350 accepts on a PTP port. -/
def ptpAccepts (s : State) (p u : Nat) (dst : Nat) (tags : Nat) (b : List Byte) : Bool :=
  let ty := be b 0 1 % 16
  let least := if ty = 11 then 64 else if ty = 9 then 54 else 44
  decide (u = 0) && s.ptp.ports.testBit p && decide (tags = 0)
    && (decide (dst = 0x011b19000000) || decide (dst = 0x0180c200000e))
    && [0, 8, 9, 11].contains ty && decide (be b 1 1 % 16 = 2) && decide (least ≤ b.length)
    && decide (be b 4 1 = s.ptp.domain)

/-- A PTP frame reaches step 5 of R123: `b` is the Ethernet payload, `t` its full ingress time in ns. -/
def ptpRx (s : State) (p u dst tags t : Nat) (b : List Byte) : State :=
  if !ptpAccepts s p u dst tags b then bump s PTP_RX_DROP_CNT 1
  else
    match be b 0 1 % 16 with
    | 0 => syncRx s p t b
    | 8 => followUpRx s p b
    | 9 => delayRespRx s p b
    | _ => announceRx s p b

/-- A Delay_Req of the device has left: t3 is recorded, with a kind 1 entry (R345). -/
def delayReqSent (s : State) (p sq t3 : Nat) : State :=
  let s := match s.ptp.req with
    | some r => if r.port = p ∧ r.seq = sq then setPtp s { s.ptp with req := some { r with t3 := some (t3, s.ptp.gen) } } else s
    | none => s
  tsEntry s 1 sq p 0 t3

end Sys2Proof.Machine
end

