-- ==== Sys2Proof/Machine/Network.lean ====
section
/-! DEFINITION. Network ports and stream binding (R119 to R150): the NET commands, link changes, the host packet area's
control line, and the start of transmission (R173, R347). Log entries: 24, 27, 28, 31, 66, 111. -/

namespace Sys2Proof.Machine

/-! ## Bind blocks (R133) -/

/-- Bytes `o` to `o + n − 1` of a block as a number, the byte at the lowest offset most significant. -/
def blkBE (ws : List Word) (o n : Nat) : Nat := be (wordBytes ws) o n

/-- The bind block of R133. -/
def parseBind (ws : List Word) : BindBlk where
  ipv6 := wbool ws 0 23
  vlanEn := wbool ws 0 22
  srcCheck := wbool ws 0 21
  port := wbits ws 0 19 18
  sub := wbits ws 0 17 16
  pcp := wbits ws 0 14 12
  vlan := wbits ws 0 11 0
  localUdp := wbits ws 1 31 16
  remoteUdp := wbits ws 1 15 0
  localIp := blkBE ws 0x08 16
  remoteIp := blkBE ws 0x18 16
  mac := blkBE ws 0x28 6
  ssrcs := [ws.getD 12 0, ws.getD 13 0, ws.getD 14 0, ws.getD 15 0]
  txSsrc := ws.getD 16 0
  dscp := wbits ws 17 7 2
  valid := wbits ws 18 3 0

/-- BIND_VER is 1, every reserved field 0, an IPv4 address lies in the last four bytes, and no two valid RX_SSRC_i are
equal (R147). -/
def bindOk (ws : List Word) (b : BindBlk) : Bool :=
  wbits ws 0 31 24 = 1 && wbits ws 0 20 20 = 0 && wbits ws 0 15 15 = 0 && wbits ws 11 31 16 = 0 &&
  wbits ws 17 31 8 = 0 && wbits ws 17 1 0 = 0 && wbits ws 18 31 4 = 0 &&
  (List.range 13).all (fun i => ws.getD (19 + i) 0 = 0) &&
  (b.ipv6 || (decide (b.localIp < 2 ^ 32) && decide (b.remoteIp < 2 ^ 32))) &&
  (let v := (validIdx b).map (fun i => b.ssrcs.getD i 0)
   v.length = v.eraseDups.length)

/-- A socket's key (R126): port, subport, VLAN presence and ID, IP version and local address, local UDP port. -/
def BindBlk.socket (b : BindBlk) : List Nat :=
  [b.port, b.sub, if b.vlanEn then 1 + b.vlan else 0, if b.ipv6 then 1 else 0, b.localIp, b.localUdp]

/-- The streams bound to sockets; an imported stream (R379) is bound to none and its port reads 4. -/
def sockets (s : State) : Table Bound := s.net.bound.filter (fun p => p.2.blk.port < 4)

/-- The bound streams of a socket. -/
def socketStreams (s : State) (k : List Nat) : List (Nat × Bound) := s.net.bound.filter (fun p => p.2.blk.socket = k)

/-- The checks of R147 after ownership, in their order. -/
def bindCheck (s : State) (hd : Nat) (ws : List Word) (b : BindBlk) (limit : Nat) : Option (BitVec 16) :=
  let on := socketStreams s b.socket
  let mine := (validIdx b).map (fun i => b.ssrcs.getD i 0)
  if thas s.net.bound hd then some NET_ST_BOUND
  else if !bindOk ws b then some NET_ST_BIND_INVALID
  else if !subportOk s b.port b.sub then some NET_ST_PORT
  else if on.any (fun p => p.1 / 4 ≠ hd / 4) then some NET_ST_SOCKET_BUSY
  else if on.any (fun p => (validIdx p.2.blk).any (fun i => mine.contains (p.2.blk.ssrcs.getD i 0))) then some NET_ST_SSRC_BUSY
  else if (on = [] ∧ 65536 ≤ (((sockets s).map (fun p => p.2.blk.socket)).eraseDups).length)
      ∨ 196608 < (sockets s).foldl (fun a p => a + (validIdx p.2.blk).length) 0 + mine.length then some NET_ST_TABLE_FULL
  else if poolFree s < limit then some NET_ST_POOL
  else none

/-- NET_STREAM_BIND after R94 (R134, R147). -/
def streamBind (h : CmdHdr) (hd : Nat) (ws : List Word) (s : State) : State × Res :=
  match legIn s (hd / 4) with
  | none => (s, no NET_ST_NOT_ADMITTED)
  | some l =>
    let r := l.prof.rec' (hd % 4)
    if !r.rxEn && !r.txEn then (s, no NET_ST_NOT_ADMITTED)
    else if l.item.owner ≠ h.fn.toNat then (s, no NET_ST_NOT_OWNER)
    else
      let b := parseBind ws
      let lim := rxLimit r
      match bindCheck s hd ws b lim with
      | some st => (s, no st)
      | none =>
        let e := effTick s
        let s := { s with net := { s.net with nextOrder := s.net.nextOrder + 1 } }
        let s := setBound s hd { blk := b, order := s.net.nextOrder, limit := lim }
        (stage s e (.netBind hd), ok (effArea e ++ [(Config.queueId hd s.net.nextOrder).setWidth 32, lo32 lim]))

/-- NET_STREAM_BIND (R133, R134). -/
def execNetStreamBind (h : CmdHdr) (hd : BitVec 16) (addr : BitVec 64) (dma : Dma) (s : State) :
    Host.Outcome State Fault Refusal :=
  act (command h OP_NET_STREAM_BIND
    { reserved := hd.toNat % 4 = 3, misaligned := addr.toNat % 64 ≠ 0, dmaFailed := dma.isNone }
    (streamBind h hd.toNat (dmaWords dma))) s

/-- Commit the end of a stream's binding at effect tick `e` (R134, R153, R193): subscriptions that name it are removed. -/
def streamRelease (s : State) (hd e : Nat) : State :=
  match tget s.net.bound hd with
  | none => s
  | some b =>
    if b.gone then s
    else
      let s := setBound s hd { b with gone := true }
      let s := stageEnd (stage s e (.netUnbind hd)) (e - 1) (.netGone hd)
      subRemoveAll s e (fun x => x.src = hd || x.dst = hd)

/-- The bound stream a command names, or the status that refuses it (R147). -/
def boundFor (s : State) (f hd : Nat) : Except (BitVec 16) Bound :=
  if streamForeign s f hd then .error NET_ST_NOT_OWNER
  else
    match tget s.net.bound hd with
    | some b => if b.gone then .error NET_ST_UNBOUND else .ok b
    | none => .error NET_ST_UNBOUND

/-- NET_STREAM_UNBIND (R134). -/
def execNetStreamUnbind (h : CmdHdr) (hd : BitVec 16) (s : State) : Host.Outcome State Fault Refusal :=
  act (command h OP_NET_STREAM_UNBIND { reserved := hd.toNat % 4 = 3 } (fun s =>
    match boundFor s h.fn.toNat hd.toNat with
    | .error st => (s, no st)
    | .ok _ => (streamRelease s hd.toNat (effTick s), ok (effArea (effTick s))))) s

/-- The counters of a subport as the words of the block of R146. -/
def statWords (s : State) (p u : Nat) : List Word :=
  ((List.range 32).map (fun i =>
    let v := if i < 21 then (tget s.net.stats (32 * (4 * p + u) + i)).getD 0 else 0
    [lo32 v, hi32 v])).flatten

/-- The codewords that forward error correction has corrected, and found uncorrectable, since they were last counted (R146): how many
is no one's to say, and both counters take them on. -/
def fecCounted (s : State) (p u : Nat) : State :=
  let n (i : Nat) : Nat := (Config.fecCount (4 * p + u) i s.clk.cyc).toNat
  stat (stat s p u FEC_CORR (n FEC_CORR)) p u FEC_UNCORR (n FEC_UNCORR)

/-- NET_PORT_STATS (R145, R146). -/
def execNetPortStats (h : CmdHdr) (clr : Bool) (p u : BitVec 2) (addr : BitVec 64) (s : State) :
    Host.Outcome State Fault Refusal :=
  act (command h OP_NET_PORT_STATS { fn0 := true, misaligned := addr.toNat % 64 ≠ 0 } (fun s =>
    if !subportOk s p.toNat u.toNat then (s, no NET_ST_PORT)
    else
      let k := 4 * p.toNat + u.toNat
      let s := fecCounted s p.toNat u.toNat
      let s := hostWrites s addr.toNat (statWords s p.toNat u.toNat)
      (if clr then { s with net := { s.net with stats := s.net.stats.filter (fun q => q.1 / 32 ≠ k) } } else s, ok))) s

/-- NET_JB_SET (R137, R145). -/
def execNetJbSet (h : CmdHdr) (reanchor : Bool) (hd : BitVec 16) (run : BitVec 4) (s : State) :
    Host.Outcome State Fault Refusal :=
  act (command h OP_NET_JB_SET { reserved := hd.toNat % 4 = 3 || run = 0 } (fun s =>
    match boundFor s h.fn.toNat hd.toNat with
    | .error st => (s, no st)
    | .ok _ =>
      if !(recOf s hd.toNat).rxEn then (s, no NET_ST_NOT_ADMITTED)
      else
        let e := effTick s
        let s := stage s e (.jbLate hd.toNat run.toNat)
        (if reanchor then stage s e (.jbReanchor hd.toNat) else s, ok (effArea e)))) s

/-! ## Changes in force -/

/-- Classification to a bound stream starts (R134). -/
def netBindApply (s : State) (hd : Nat) : State :=
  { s with net := { s.net with bound := tmod s.net.bound hd (fun b => { b with live := true }) } }

/-- Classification stops and both directions are unbound (R134, R193). -/
def netUnbindApply (s : State) (hd : Nat) : State :=
  let s := cipUnbindApply (cipUnbindApply s hd false) hd true
  { s with net := { s.net with bound := tmod s.net.bound hd (fun b => { b with live := false }) } }

/-- The queue is flushed and its reservation returned; the socket goes with its last stream (R126, R134). -/
def netGoneApply (s : State) (hd : Nat) : State :=
  let s := countAccepted s hd (((tget s.net.bound hd).map (fun b => b.q.length)).getD 0)
  { s with
    net := { s.net with bound := tdel s.net.bound hd }
    fwd := { s.fwd with srcs := tdel s.fwd.srcs hd, kps := s.fwd.kps.filter (fun p => p.1 / 4 ≠ hd) } }

/-- NET_JB_SET in force (R137). -/
def jbLateApply (s : State) (hd n : Nat) : State :=
  { s with net := { s.net with bound := tmod s.net.bound hd (fun b => { b with lateRun := n }) } }

def jbReanchorApply (s : State) (hd : Nat) : State :=
  { s with net := { s.net with bound := tmod s.net.bound hd (fun b => clearAnchors b 3) } }

/-! ## Events -/

/-- LATE_RUN_REACHED (R137): the late run of SSRC `i` of a stream has reached JB_LATE_RUN. -/
def execLateRunReached (hd : BitVec 16) (i : BitVec 2) (s : State) : Host.Outcome State Fault Refusal :=
  act (fun s =>
    match tget s.net.bound hd.toNat with
    | some b => setBound s hd.toNat (lateRunClear b i.toNat)
    | none => s) s

/-- NET_LINK_CHG of a subport is set and EV_NET_LINK raised (R121, R148). -/
def linkEvt (s : State) (p u up : Nat) : State :=
  let s := setFld s (NET_LINK_CHG p) (fld s (NET_LINK_CHG p) ||| 2 ^ u)
  raise s 0 EV_NET_LINK (BitVec.ofNat 16 (4 * p + u)) (BitVec.ofNat 32 up) 0 0 0

/-- A subport's link goes down (R121): frames already scheduled on it are dropped and counted, host frames among them with their PHASE
written (R131). -/
def linkDrop (s : State) (p u : Nat) : State :=
  if !linkUp s p u then s
  else
    let s := setFld s (NET_LINK_UP p) (fld s (NET_LINK_UP p) - 2 ^ u)
    let mine (e : Egr) : Bool := decide (e.port = p) && decide (e.sub = u) && decide (e.kind ≠ 4)
    let gone := s.net.egress.filter mine
    let s := stat { s with net := { s.net with egress := s.net.egress.filter (fun e => !mine e) } } p u TX_LINK_DOWN gone.length
    linkEvt (gone.foldl (fun s e => if e.kind = 3 then hpaSent s e.handle e.ord e.seq else s) s) p u 0

/-- LINK_DOWN (R121). -/
def execLinkDown (p u : BitVec 2) (s : State) : Host.Outcome State Fault Refusal := act (linkDrop · p.toNat u.toNat) s

/-- The lanes of a subport in its port's mode (R119). -/
def subLanes (s : State) (p u : Nat) : List Nat :=
  match fld s (NET_PORT_MODE p) with
  | 1 => [4 * p, 4 * p + 1, 4 * p + 2, 4 * p + 3]
  | 2 => [4 * p + 2 * u, 4 * p + 2 * u + 1]
  | 3 => [4 * p + u]
  | _ => []

/-- The lanes of a subport whose link comes up have been trained (R120). -/
def subTrain (s : State) (p u : Nat) : State := (subLanes s p u).foldl (fun s l => linkTrain s 1 l) s

/-- LINK_UP (R121), of a subport enabled in its port's mode. -/
def execLinkUp (p u : BitVec 2) (s : State) : Host.Outcome State Fault Refusal :=
  act (fun s =>
    let p := p.toNat
    let u := u.toNat
    if !ctlOn s || !domOn s 3 || (fld s (NET_LINK_UP p)).testBit u || !subportOk s p u then s
    else linkEvt (setFld (subTrain s p u) (NET_LINK_UP p) (fld s (NET_LINK_UP p) + 2 ^ u)) p u 1) s

/-- The indices of a host packet area's control line are checked and taken (R88, R129); `slots` are the contents of the
transmit slots that the new producer index adds. -/
def hpaTake (s : State) (f : Nat) (rx tx : BitVec 32) (slots : List (List Word)) : State :=
  let x := hpaOf s f
  if !hostIdxValid false rx x.rxHost x.rxDev (hpaRxN s f) then hpaStop s f 0
  else if !hostIdxValid true tx x.txHost x.txDev (hpaTxN s f) then hpaStop s f 1
  else
    let n := (tx - x.txHost).toNat
    setHpa s f { x with rxHost := rx, txHost := tx
                        slots := x.slots ++ (List.range n).map (fun i => wordBytes (slots.getD i [])) }

/-- HPA_CONTROL_READ (R129): the control line of an ACTIVE function `f` returned, or its read failed; of another it is not read (R109). -/
def execHpaControlRead (f : BitVec 6) (line : Dma) (slots : List (List Word)) (s : State) :
    Host.Outcome State Fault Refusal :=
  act (fun s =>
    let f := f.toNat
    if !bit s (NET_HPA_EN f) || fld s (NET_HPA_STATE f) = 3 || fld s (HIF_FN_STATE f) ≠ 1 then s
    else
      match line with
      | none => dmaErr s f
      | some ws => hpaTake s f (ws.getD 0 0) (ws.getD 1 0) slots) s

/-! ## Transmission -/

/-- The SRTCP protection of stream `hd` on the UDP payload of a frame: lengths and checksums follow. None when the frame holds no
UDP packet or the protection is refused. -/
def protectFrame (s : State) (hd : Nat) (f : List Byte) : State × Option (List Byte) :=
  let e := parseEth f
  let ip := parseIp e.etype f e.off
  if (e.etype ≠ 0x0800 ∧ e.etype ≠ 0x86dd) ∨ !ip.ok ∨ ip.odd ∨ ip.proto ≠ 17 then (s, none)
  else
    match txSrtcp s hd (sl f (ip.pay + 8) (be f (ip.pay + 4) 2 - 8)) with
    | (s, none) => (s, none)
    | (s, some p) =>
      let o := e.off
      let ul := 8 + p.length
      let l3 :=
        if ip.v6 then sl f o 4 ++ natBE 2 ul ++ sl f (o + 6) 34
        else
          let a := sl f o 2 ++ natBE 2 (20 + ul) ++ sl f (o + 4) 6
          a ++ natBE 2 (cksum (a ++ [0, 0] ++ sl f (o + 12) 8)) ++ sl f (o + 12) 8
      let uh := sl f ip.pay 4 ++ natBE 2 ul
      let c := cksum (pseudo ip.v6 (ip.addr ip.src) (ip.addr ip.dst) ul ++ uh ++ [0, 0] ++ p)
      let g := sl f 0 o ++ l3 ++ uh ++ natBE 2 (if c = 0 then 65535 else c) ++ p
      (s, some (g ++ zeros (60 - g.length)))

/-- What leaves the ball for a frame: a host frame with PROTECT takes the protection in force as it is sent (R131, R193), or none. -/
def frameOut (s : State) (e : Egr) : State × Option (List Byte) :=
  match e.prot with
  | none => (s, some e.bytes)
  | some hd => protectFrame s hd e.bytes

/-- Picoseconds to send a frame on a port. -/
def frameTime (s : State) (e : Egr) : Nat := wireLen ((frameOut s e).2.getD e.bytes) * psPerByte s e.port

/-- Picoseconds at which a frame could start on its subport. -/
def startAt (s : State) (e : Egr) : Nat :=
  max (e.launch * 1000) ((tget s.net.busyUntil (4 * e.port + e.sub)).getD 0)

/-- Whether `a` goes before `b` (R173): launch time, then LEG_ID, then the order of R172. -/
def before (a b : Egr) : Bool :=
  decide (a.launch < b.launch) || (decide (a.launch = b.launch) &&
    (decide (a.leg < b.leg) || (decide (a.leg = b.leg) && decide (a.ord < b.ord))))

def earliest : List Egr → Option Egr
  | [] => none
  | e :: r =>
    match earliest r with
    | none => some e
    | some x => if before x e then some x else some e

/-- The frame a subport sends next: PTP ahead of all once it can start (R347), then admitted packets in the order of R173; RTCP the device
sends and host frames only where they end before the next admitted packet could start (R131, R162). -/
def nextFrame (s : State) (p u : Nat) : Option Egr :=
  let mine := s.net.egress.filter (fun e => e.port = p && e.sub = u)
  let adm := earliest (mine.filter (fun e => e.kind ≤ 1))
  let other := match (mine.filter (fun e => e.kind = 2 ∨ e.kind = 3)).head?, adm with
    | some h, some a => if startAt s h + frameTime s h ≤ startAt s a then some h else some a
    | some h, none => some h
    | none, a => a
  match earliest (mine.filter (fun e => e.kind = 4)), other with
  | some e, some o => if startAt s e ≤ startAt s o then some e else some o
  | some e, none => some e
  | none, o => o

/-- The instant in ps at which a frame starts: `startAt`, or now where the subport's link kept it past that. -/
def launchPs (s : State) (e : Egr) : Nat :=
  let t := startAt s e
  if t / 1000 + 16 < ns s then ns s * 1000 else t

/-- The bytes `b` of a frame start to leave at `t` ps: its subport is busy, and it is counted and recorded (R120, R131, R163, R169, R345).
-/
def frameSent (s : State) (e : Egr) (t : Nat) (b : List Byte) : State :=
  let s := { s with net := { s.net with
    busyUntil := tset s.net.busyUntil (4 * e.port + e.sub) (t + wireLen b * psPerByte s e.port) } }
  let s := stat (stat s e.port e.sub TX_FRAMES 1) e.port e.sub TX_BYTES (b.length + 4)
  let s := if e.kind = 3 then hpaSent (stat s e.port e.sub TX_HOST 1) e.handle e.ord e.seq else s
  let s := match e.kp with
    | some (k, fir) => kpSent s k fir
    | none => s
  let s := if e.kind ≤ 1 then logLaunch s e (cdiv t 1000) else s
  let s := if e.kind = 4 then delayReqSent s e.port e.seq (egressNs s e.port t) else s
  emitOut s (.frame e.port e.sub b)

/-- PACKET_LAUNCH (R173): a subport starts its next frame at its launch time or when the subport frees, within EMIT; a PTP frame within
2,000 ns of its launch time (R347). A packet with a word of the packet buffer that cannot be read is dropped (R412). -/
def execPacketLaunch (p : BitVec 2) (u : TxRead) (s : State) : Host.Outcome State Fault Refusal :=
  act (fun s =>
    match nextFrame s p.toNat u.sub.toNat with
    | none => s
    | some e =>
      let t := launchPs s e
      let s' := advanceTo s (cdiv t 1000)
      if ¬ linkUp s e.port e.sub ∨ (if e.kind = 4 then (e.launch + 2000) * 1000 ≤ t else emitShut s' = true) then s
      else
        let (s, out) := frameOut s' e
        let s := eccHits { s with net := { s.net with egress := s.net.egress.erase e } } u.hits
        match if eccBad s' u.hits [4] then none else out with
        | none => if e.kind = 3 then hpaSent s e.handle e.ord e.seq else s
        | some b => frameSent s e t b) s

end Sys2Proof.Machine
end

