-- ==== Sys2Proof/Machine/Media.lean ====
section
/-! DEFINITION. Overruns (R40, R41) and media rings (R102 to R105, R231): what the engines of WORK share.
Log entries: 36, 47. -/

namespace Sys2Proof.Machine

/-! ## Overruns (R41) -/

/-- One abandoned unit of phase 0 GATHER, 1 WORK or 2 EMIT: its counter, its status bit and TIK_OVR_LAST. -/
def ovrCount (s : State) (phase : Nat) : State :=
  let s := match phase with
    | 0 => setBit (bump s TIK_OVR_GATHER_CNT 1) TIK_ST_OVR_GATHER
    | 1 => setBit (bump s TIK_OVR_WORK_CNT 1) TIK_ST_OVR_WORK
    | _ => setBit (bump s TIK_OVR_EMIT_CNT 1) TIK_ST_OVR_EMIT
  { s with easel := { s.easel with ovrLast := BitVec.ofNat 64 (curTick s) } }

/-- EV_TICK_OVERRUN, at most one for `key` in a tick. -/
def ovrEvt (s : State) (key f source p0 : Nat) : State :=
  if s.easel.ovrSeen.contains key then s
  else
    raise { s with easel := { s.easel with ovrSeen := key :: s.easel.ovrSeen } } f EV_TICK_OVERRUN
      (BitVec.ofNat 16 source) (BitVec.ofNat 32 p0) 0 0 0

/-- One unit of a stream's work is abandoned: counted for the phase and the stream, with its event. -/
def overrun (s : State) (hd phase kind : Nat) : State :=
  let s := ovrCount s phase
  let s := setPolice s hd { policeOf s hd with overrun := (policeOf s hd).overrun + 1 }
  match legOwner s (hd / 4) with
  | some f => ovrEvt s hd f hd (phase * 256 + kind)
  | none => s

/-- One unit of a layout's work is abandoned. -/
def overrunLayout (s : State) (id kind : Nat) : State :=
  let s := ovrCount s 1
  match tget s.adm.layouts id with
  | some l => ovrEvt s (65536 + id) l.item.owner 0 (2 ^ 31 + id * 2 ^ 16 + 256 + kind)
  | none => s

/-! ## Media rings (R102 to R105) -/

/-- The ring number of media ring `m` (R89), and the key of a function's media ring. -/
def mediaQ (m : Nat) : Nat := 64 + m
def mediaKey (f m : Nat) : Nat := 64 * f + m

def mediaOf (s : State) (k : Nat) : MRing := (tget s.aud.media k).getD {}

def setMedia (s : State) (k : Nat) (r : MRing) : State :=
  { s with aud := { s.aud with media := tset s.aud.media k r } }

/-- A capture ring: HIF_RING_DIR 1. -/
def mediaCaps (s : State) (k : Nat) : Bool := bit s (HIF_RING_DIR (k / 64) (mediaQ (k % 64)))

def MEnt.fmt (e : MEnt) : Nat := wbits e.ws 2 31 24
def MEnt.len (e : MEnt) : Nat := wbits e.ws 2 23 0
def MEnt.stride (e : MEnt) : Nat := wbits e.ws 3 15 0
def MEnt.buf (e : MEnt) : Nat := (e.ws.getD 1 0).toNat * 2 ^ 32 + wbits e.ws 0 31 6 * 64
def MEnt.at' (e : MEnt) : Option Nat :=
  if wbool e.ws 3 31 then some ((e.ws.getD 5 0).toNat * 2 ^ 32 + (e.ws.getD 4 0).toNat) else none

/-- A video entry for pictures of height `h`: NV12 or P010 by the depth, and BUF_LEN (R103). -/
def MEnt.videoOk (e : MEnt) (h : Nat) (ten : Bool) : Bool :=
  e.fmt = (if ten then 0x11 else 0x10) && decide (e.stride * h * 3 / 2 ≤ e.len)

/-- FMT matches the binding and BUF_LEN meets R103. -/
def MEnt.ok (e : MEnt) (p : MPoint) : Bool :=
  match p with
  | .audio .. => (e.fmt = 1 && e.len % 80 = 0) || (e.fmt = 2 && e.len % 160 = 0)
  | .videoDec _ _ h ten => e.videoOk h ten
  | .videoEnc _ _ h ten => e.videoOk h ten

/-- Bytes of one tick of audio in an entry's format. -/
def MEnt.tickBytes (e : MEnt) : Nat := if e.fmt = 1 then 80 else 160

/-- START_TICK had begun before the entry could start in tick `n`. -/
def MEnt.isLate (e : MEnt) (n : Nat) : Bool := (e.at'.map (fun t => decide (t < n))).getD false

/-- The 40 bus samples of an audio entry from byte `pos` (R103, R209). -/
def MEnt.samples (e : MEnt) : List Int :=
  if e.fmt = 1 then
    (List.range 40).map (fun i =>
      let w := e.data.getD ((e.pos + 2 * i) / 4) 0
      pcmToBus ((w >>> (8 * ((e.pos + 2 * i) % 4))).setWidth 16 : BitVec 16).toInt)
  else (List.range 40).map (fun i => (e.data.getD ((e.pos + 4 * i) / 4) 0).toInt)

/-- Use one tick of an audio entry in tick `n`. -/
def MEnt.useTick (e : MEnt) (n : Nat) : MEnt :=
  let late := if e.start.isNone then e.isLate n else e.late
  let pos := e.pos + e.tickBytes
  { e with pos := pos, start := some (e.start.getD n), late := late
           st := if e.len ≤ pos then some (if late then GEN_ST_MEDIA_LATE else 0) else none }

/-- The first entry that can move media in tick `n`, split from those before it; entries that break R103 are finished. -/
def mediaHead (p : MPoint) (n : Nat) : List MEnt → List MEnt × Option MEnt × List MEnt
  | [] => ([], none, [])
  | e :: r =>
    let skip (e : MEnt) : List MEnt × Option MEnt × List MEnt :=
      let (a, h, b) := mediaHead p n r
      (e :: a, h, b)
    if e.st.isSome then skip e
    else if !e.ok p then skip { e with st := some GEN_ST_MEDIA_FORMAT }
    else if e.len = 0 then skip { e with st := some 0 }
    else if e.start.isSome || (decide (e.frm ≤ n) && (e.at'.map (fun t => decide (t ≤ n))).getD true) then ([], some e, r)
    else ([], none, e :: r)

/-- EV_GEN_MEDIA_GAP at a gap's start (`on`), or at its end with the ticks missed (R105). -/
def mediaGapEvt (s : State) (k : Nat) (on : Bool) (missed : Nat) : State :=
  raise s (k / 64) EV_GEN_MEDIA_GAP (BitVec.ofNat 16 (k % 64)) (if on then 2 ^ 31 else 0) (lo32 missed) 0 0

/-- A gap in progress is over. -/
def mediaGapEnd (s : State) (k : Nat) : State :=
  match (mediaOf s k).gap with
  | none => s
  | some g => mediaGapEvt (setMedia s k { mediaOf s k with gap := none }) k false g

/-- A bound ring had media in this tick (`got`) or not: the gap's events. A tick counts as missed once (R105). -/
def mediaGap (s : State) (k : Nat) (got : Bool) : State :=
  let r := mediaOf s k
  match r.gap, got with
  | _, true => mediaGapEnd s k
  | none, false => mediaGapEvt (setMedia s k { r with gap := some 1, gapAt := curTick s }) k true 0
  | some g, false => if r.gapAt = curTick s then s else setMedia s k { r with gap := some (g + 1), gapAt := curTick s }

/-- What an inject ring contributes in tick `n` at gain `g` (R230, R231). A tick before the START_TICK of the next entry is a gap
(R105): the model's choice, log entry 47. -/
def mediaPull (s : State) (k n g : Nat) : State × List Int :=
  let r := mediaOf s k
  match r.point with
  | none => (s, silence)
  | some p =>
    let (a, h, b) := mediaHead p n r.ents
    match h with
    | some e =>
      let xs := e.samples.map (gainQ g)
      let ys := if r.gap.isSome then fadeTick 1 0 silence xs else xs
      (mediaGap (setMedia s k { r with ents := a ++ e.useTick n :: b, last := xs.getLastD 0 }) k true, ys)
    | none => (mediaGap (setMedia s k { r with ents := a ++ b, last := 0 }) k false, fadeOut r.last)

/-- The words of 40 bus samples in an entry's format (R103, R209). -/
def captureWords (fmt : Nat) (xs : List Int) : List Word :=
  if fmt = 1 then
    (List.range 20).map (fun i =>
      let h (j : Nat) : BitVec 16 := BitVec.ofInt 16 (busToPcm (xs.getD j 0))
      h (2 * i + 1) ++ h (2 * i))
  else (List.range 40).map (fun i => BitVec.ofInt 32 (xs.getD i 0))

/-- Give a capture ring the 40 samples of tick `n`. -/
def mediaPush (s : State) (k n : Nat) (xs : List Int) : State :=
  let r := mediaOf s k
  match r.point with
  | none => s
  | some p =>
    let (a, h, b) := mediaHead p n r.ents
    match h with
    | some e =>
      let s := fnWrites s (k / 64) (e.buf + e.pos) (captureWords e.fmt xs)
      mediaGap (setMedia s k { r with ents := a ++ e.useTick n :: b }) k true
    | none => mediaGap (setMedia s k { r with ents := a ++ b }) k false

/-- The rings in force at a point, in key order. -/
def mediaAt (s : State) (c : MPoint → Bool) : List Nat :=
  (s.aud.media.filter (fun p => p.2.live && (p.2.point.map c).getD false)).map (·.1)

/-- New entries of an inject or capture ring, as the device fetched them: words, buffer words, first index `i`. AT_TICK is inject only
(R102). -/
def mediaPost (s : State) (k : Nat) (i : BitVec 32) (es : List (List Word × List Word)) : State :=
  let r := mediaOf s k
  setMedia s k { r with ents := r.ents ++ (List.range es.length).map (fun j =>
    let e := es.getD j ([], [])
    let ws := if mediaCaps s k then e.1.modify 3 (· &&& 0x7fffffff) else e.1
    { idx := i + BitVec.ofNat 32 j, ws := ws, data := e.2, frm := curTick s + 1 : MEnt }) }

/-- Whether a ring's oldest entry is to be finished: used up, breaking R103, or empty. -/
def mediaDone (r : MRing) : Option (MEnt × BitVec 16) :=
  match r.ents with
  | [] => none
  | e :: _ =>
    match e.st, r.point with
    | some st, _ => some (e, st)
    | none, some p => if !e.ok p then some (e, GEN_ST_MEDIA_FORMAT) else if e.len = 0 then some (e, 0) else none
    | none, none => none

/-- MEDIA_ENTRY_FINISH (R104, R107): bytes 0x10 to 0x1B, then the word at 0x1C, are written for the ring's oldest entry. A ring stopped on
an error fetches no more, but what it has fetched is finished (R88). The START_TICK of a capture entry that never started is written 0
(log entry 36). -/
def mediaFinish (s : State) (f m : Nat) : State :=
  let k := mediaKey f m
  let q := mediaQ m
  let r := mediaOf s k
  match mediaDone r with
  | none => s
  | some (e, st) =>
    if resetting s f ∨ ¬ bit s (HIF_RING_EN f q) then s
    else
      let n := ringSize s f q
      let a := ringBase s f q + 32 * ringSlot e.idx n
      let t := if mediaCaps s k then [lo32 (e.start.getD 0), hi32 (e.start.getD 0)] else [e.ws.getD 4 0, e.ws.getD 5 0]
      let s := hostWrites s (a + 16) (t ++ [lo32 e.pos, BitVec.ofNat 32 (passPhase e.idx n * 2 ^ 31 + st.toNat)])
      let s := setMedia s k { r with ents := r.ents.tail }
      let s := setRing s f q { ringOf s f q with devIdx := e.idx + 1 }
      ringIrq s f q false

/-- MEDIA_ENTRY_FINISH (R104). -/
def execMediaEntryFinish (f : BitVec 6) (m : BitVec 6) (s : State) : Host.Outcome State Fault Refusal :=
  act (fun s => mediaFinish s f.toNat m.toNat) s

/-- A binding comes into force. -/
def mediaBindApply (s : State) (k : Nat) : State := setMedia s k { mediaOf s k with live := true }

/-- A binding ends, and with it a gap in progress: an entry cut short is finished with GEN_ST_MEDIA_ABORTED (R104), and with a context
that closes (`all`) every entry that is left (R308). -/
def mediaEnd (s : State) (k : Nat) (all : Bool) : State :=
  let s := mediaGapEnd s k
  let r := mediaOf s k
  setMedia s k { r with
    ents := r.ents.map (fun e => if e.st.isNone && (all || e.start.isSome) then { e with st := some GEN_ST_MEDIA_ABORTED } else e)
    point := none, live := false, last := 0 }

/-- An unbinding takes effect (R230, R307). -/
def mediaUnbindApply (s : State) (k : Nat) : State := mediaEnd s k false

end Sys2Proof.Machine
end

