-- ==== Sys2Proof/Machine/Mixer.lean ====
section
/-! DEFINITION. The mixing fabric (R214 to R239): contributions, selection, bus sums, mix-minus, sinks, levels, quiet legs and
Brush group power. Log entries: 23, 35, 36, 37, 75, 94, 95, 96. -/

namespace Sys2Proof.Machine

/-! ## Legs and conferences -/

/-- A leg's audio state; one that has none yet stands in its conference all the same (R214). -/
def audLeg (s : State) (leg : Nat) : AudLeg :=
  (tget s.aud.legs leg).getD { conf := ((tget s.adm.legs leg).map (·.conf)).getD 0 }

/-- A leg's home group. -/
def homeOf (s : State) (leg : Nat) : Nat := (audLeg s leg).home.getD 0

def setAudLeg (s : State) (leg : Nat) (x : AudLeg) : State := { s with aud := { s.aud with legs := tset s.aud.legs leg x } }

def audConf (s : State) (c : Nat) : AudConf := (tget s.aud.confs c).getD {}

def setAudConf (s : State) (c : Nat) (x : AudConf) : State := { s with aud := { s.aud with confs := tset s.aud.confs c x } }

/-- A leg's audio record in force. -/
def audRec (s : State) (leg : Nat) : StreamRec := liveRec s (4 * leg)

/-- The legs of a conference with their audio state. -/
def confLegs (s : State) (c : Nat) : List (Nat × AudLeg) := s.aud.legs.filter (fun p => p.2.conf = c)

/-- The target of a tone on a sink or on a bus. -/
def sinkTgt (leg : Nat) : Nat := leg
def busTgt (c b : Nat) : Nat := 65536 + 4 * c + b

/-- A threshold register given in 0.1 dB below full scale, in LU (R210). -/
def belowFs (s : State) (f : Field) : Int := -(dbToLu (fld s f))

/-- A leg contributes to bus `b` (R214). -/
def audContributes (s : State) (leg : Nat) (l : AudLeg) (b : Nat) : Bool :=
  (audRec s leg).rxDec && ((l.route.map (fun r => r.contrib.testBit b)).getD false)

/-! ## Decoded samples (R38, R40, R212) -/

/-- What a leg's stream gives in a tick for which nothing was decoded, its decoder not being marked lost: a lost packet, or
the ticks between packets of discontinuous transmission. The spec states no sample there. -/
def gapSamples (leg tick : Nat) : List Int := (List.range 40).map (fun j => (Config.gapSample leg tick j).toInt)

/-- Take this tick's 40 samples of a leg from its decoded samples. With none: while the decoder is marked lost, the last
sample fades to zero, then silence (R40); else free values. -/
def audPrep (s : State) (leg : Nat) : State :=
  let l := audLeg s leg
  if l.curAt = some (curTick s) then s
  else
    let xs : List Int := if l.pcm = [] then (if l.decLost then fadeOut l.lastX else gapSamples leg (curTick s)) else (l.pcm ++ silence).take 40
    setAudLeg s leg { l with raw := xs, cur := xs, curAt := some (curTick s), pcm := l.pcm.drop 40, lastX := xs.getLastD 0 }

/-! ## Level, voice activity and score (R218) -/

/-- The score after a tick. -/
def scoreNext (s : State) (l : AudLeg) (vad : Bool) : Int :=
  if l.route.isNone then l.score
  else if vad then l.score + (l.level - l.score) / 8
  else max (-32768) (l.score - (fld s AUD_AS_DECAY : Nat))

/-- Measure the leg's samples of this tick, once; while the leg is quiet only its score decays (R233). -/
def audMeasure (s : State) (leg : Nat) : State :=
  let l := audLeg s leg
  if l.measAt = some (curTick s) ∨ ¬ (audRec s leg).rxDec then s
  else
    let l := { l with measAt := some (curTick s) }
    if l.quiet then setAudLeg s leg { l with vad := false, hang := l.hang - 1, score := scoreNext s l false }
    else
      let lt := tickLevel l.cur
      let f := l.fFloor.getD lt
      let met := decide (f + (fld s AUD_VAD_SNR : Nat) < lt) && decide (belowFs s AUD_SIL_THRESH < lt)
      let hang := if met then fld s AUD_VAD_HANG else l.hang - 1
      let vad := met || decide (0 < l.hang)
      let run := if lt < f then 0 else l.fRun + 1
      let f' : Int := if lt < f then lt else if run = 12 then f + (fld s AUD_VAD_RISE : Nat) else f
      let l := { l with level := lt, fFloor := some f', fRun := run % 12, hang := hang, vad := vad }
      setAudLeg s leg { l with score := scoreNext s l vad }

/-- Noise suppression, level or VAD of this tick is abandoned (R40): the level and VAD keep their values, and the score goes on from
them. -/
def audUnmeasured (s : State) (leg : Nat) : State :=
  let l := audLeg s leg
  if l.measAt = some (curTick s) ∨ l.quiet ∨ ¬ (audRec s leg).rxDec then s
  else setAudLeg s leg { l with measAt := some (curTick s), nsLost := some (curTick s), score := scoreNext s l l.vad }

/-! ## Selection (R219, R220) -/

/-- The contributors of a bus that compete for its places. -/
def busCands (s : State) (c b : Nat) : List (Nat × AudLeg) :=
  (confLegs s c).filter (fun p =>
    audContributes s p.1 p.2 b && !p.2.quiet && !((p.2.route.map (·.force)).getD false))

/-- The member of highest score, ties to the lower LEG_ID. -/
def highest : List (Nat × AudLeg) → Option (Nat × AudLeg)
  | [] => none
  | p :: r =>
    match highest r with
    | none => some p
    | some q => if p.2.score < q.2.score then some q else some p

/-- The member of lowest score, ties to the higher LEG_ID. -/
def lowest : List (Nat × AudLeg) → Option (Nat × AudLeg)
  | [] => none
  | p :: r =>
    match lowest r with
    | none => some p
    | some q => if p.2.score < q.2.score then some p else some q

/-- Fill free places with candidates that have voice activity, `k` at most. -/
def selFill (cs : List (Nat × AudLeg)) (n : Nat) (sel : List Nat) (k : Nat) : List Nat :=
  match k with
  | 0 => sel
  | k + 1 =>
    if n ≤ sel.length then sel
    else
      match highest (cs.filter (fun p => !sel.contains p.1 && p.2.vad)) with
      | some p => selFill cs n (sel ++ [p.1]) k
      | none => sel

/-- Drop the members of lowest score beyond `n` places. -/
def selTrim (cs : List (Nat × AudLeg)) (n : Nat) (sel : List Nat) (k : Nat) : List Nat :=
  match k with
  | 0 => sel
  | k + 1 =>
    if sel.length ≤ n then sel
    else
      match lowest (cs.filter (fun p => sel.contains p.1)) with
      | some w => selTrim cs n (sel.erase w.1) k
      | none => sel

/-- The candidate and the weakest member of a bus, and the candidate's lead test (R219). -/
def swapPair (s : State) (c b : Nat) : Option (Nat × Nat × Bool) :=
  let cs := busCands s c b
  let sel := (audConf s c).sel.getD b []
  match highest (cs.filter (fun p => !sel.contains p.1)), lowest (cs.filter (fun p => sel.contains p.1)) with
  | some x, some w => some (x.1, w.1, decide (w.2.score + (fld s AUD_AS_HYST : Nat) < x.2.score))
  | _, _ => none

/-- select() of R219 for a bus, without the swap. -/
def selectBus (s : State) (c b : Nat) : State :=
  let x := audConf s c
  let cs := busCands s c b
  let n := x.mixN.getD b 16
  let sel := (x.sel.getD b []).filter (fun l => cs.any (fun p => p.1 = l))
  let sel := selFill cs n (selTrim cs n sel sel.length) cs.length
  let s := setAudConf s c { x with sel := x.sel.set b sel }
  match swapPair s c b with
  | none => s
  | some (l, _, lead) =>
    let x := audConf s c
    let k := 4 * l + b
    setAudConf s c { x with win := tset x.win k (if lead then (tget x.win k).getD 0 + 1 else 0) }

/-- The leads over the dominant speaker (R220). -/
def domUpdate (s : State) (c : Nat) : State :=
  let x := audConf s c
  match x.dom with
  | none => s
  | some d =>
    let a := (audLeg s d).score
    setAudConf s c { x with domWin := ((x.sel.getD 0 []).filter (fun l => l ≠ d)).foldl (fun t l =>
      if a < (audLeg s l).score then tset t l ((tget x.domWin l).getD 0 + 1) else t) [] }

/-- Selection in every conference at the start of WORK. -/
def selectAll (s : State) : State :=
  s.aud.confs.foldl (fun s p =>
    domUpdate (selectBus (selectBus (selectBus (selectBus s p.1 0) p.1 1) p.1 2) p.1 3) p.1) s

/-- ACTIVE_SPEAKER_SWAP (R219): a candidate that has led for AUD_AS_HOLD ticks takes the weakest member's place. -/
def execActiveSpeakerSwap (conf : BitVec 12) (bus : BitVec 2) (s : State) : Host.Outcome State Fault Refusal :=
  act (fun s =>
    let c := conf.toNat
    let b := bus.toNat
    match swapPair s c b with
    | some (l, w, _) =>
      let x := audConf s c
      if fld s AUD_AS_HOLD ≤ (tget x.win (4 * l + b)).getD 0 then
        setAudConf s c { x with sel := x.sel.set b ((x.sel.getD b []).erase w ++ [l]), win := tset x.win (4 * l + b) 0 }
      else s
    | none => s) s

/-- DOMINANT_SPEAKER_CHANGE (R220). -/
def execDominantSpeakerChange (conf : BitVec 12) (s : State) : Host.Outcome State Fault Refusal :=
  act (fun s =>
    let c := conf.toNat
    let x := audConf s c
    let ms := (confLegs s c).filter (fun p => (x.sel.getD 0 []).contains p.1)
    let inSel := (x.dom.map (fun d => ms.any (fun p => p.1 = d))).getD false
    let new := if inSel then
        highest (ms.filter (fun p => decide (fld s AUD_DS_HOLD ≤ (tget x.domWin p.1).getD 0)))
      else highest ms
    match new with
    | none => s
    | some p =>
      raise (setAudConf s c { x with dom := some p.1, domWin := [] }) x.owner EV_AUD_SPEAKER (BitVec.ofNat 16 c)
        (BitVec.ofNat 32 p.1) (BitVec.ofInt 32 (p.2.score % 65536)) 0 0) s

/-! ## Partials of a cascade (R239, R377) -/

/-- The samples of a peer for the T_b of tick `n` in a conference of `h` hops, with the events of a gap (R239). -/
def peerOpen (s : State) (c node n h : Nat) : State :=
  let x := audConf s c
  match tget x.peers node with
  | none => s
  | some p =>
    let miss (s : State) (k : Nat) : State :=
      raise s x.owner EV_AUD_PART_MISS (BitVec.ofNat 16 c) (BitVec.ofNat 32 node) (lo32 k) 0 0
    let put (s : State) (p : Peer) : State :=
      let x := audConf s c
      setAudConf s c { x with peers := tset x.peers node p }
    let rest := p.parts.filter (fun q => n < q.1 + h)
    match p.parts.find? (fun q => q.1 + h = n) with
    | some (m, bs) =>
      let again := !p.expected || decide (0 < p.missed)
      let now := if again then bs.map (fun b => fadeTick 1 0 silence b) else bs
      let last := decide (p.lastTick = some m)
      let s := put s { p with parts := rest, expected := !last, missed := 0, last := bs.map (fun b => b.getLastD 0), now := now }
      if 0 < p.missed then miss s p.missed else s
    | none =>
      if !p.expected then put s { p with parts := rest, now := [] }
      else
        let now := if p.missed = 0 then p.last.map fadeOut else []
        let s := put s { p with parts := rest, missed := p.missed + 1, now := now }
        let s := setBit (bump s AUD_PART_MISS_CNT 1) AUD_ST_PART_MISS
        if p.missed = 0 then miss s 0 else s

/-- Every peer of every cascade conference when WORK(`n`) opens. -/
def peersOpen (s : State) (n : Nat) : State :=
  s.aud.confs.foldl (fun s p =>
    if p.2.hops = 0 then s else p.2.peers.foldl (fun s q => peerOpen s p.1 q.1 n p.2.hops) s) s

/-- PART_FORGET (R377): after MSH_PART_FORGET missing ticks an origin is no longer expected; its gap ends. -/
def execPartForget (conf : BitVec 12) (node : BitVec 5) (s : State) : Host.Outcome State Fault Refusal :=
  act (fun s =>
    let c := conf.toNat
    let x := audConf s c
    match tget x.peers node.toNat with
    | some p =>
      if p.expected ∧ fld s MSH_PART_FORGET ≤ p.missed then
        raise (setAudConf s c { x with peers := tset x.peers node.toNat { p with expected := false, missed := 0, now := [] } })
          x.owner EV_AUD_PART_MISS (BitVec.ofNat 16 c) (BitVec.ofNat 32 node.toNat) (lo32 p.missed) 0 0
      else s
    | none => s) s

/-! ## Contributions (R215, R222) -/

/-- The samples `x` at a route's gain for bus `b`, or silence. -/
def gained (on : Bool) (r : Option Route) (b : Nat) (x : List Int) : List Int :=
  match r with
  | some r => if on then x.map (gainQ (r.cGain.getD b 0)) else silence
  | none => silence

/-- Whether a leg is mixed on bus `b` in this tick. -/
def mixedOn (s : State) (x : AudConf) (leg : Nat) (l : AudLeg) (b : Nat) : Bool :=
  audContributes s leg l b && !l.quiet && (((l.route.map (·.force)).getD false) || (x.sel.getD b []).contains leg)

/-- Whether a leg's contribution to bus `b` counts (R215). A route that has stopped contributing is heard until its fade is over. -/
def onBus (s : State) (x : AudConf) (n leg : Nat) (l : AudLeg) (b : Nat) : Bool :=
  if decide (n - l.fadeAt < l.fadeK) && !audContributes s leg l b then l.oldOn.testBit b && !l.quiet else mixedOn s x leg l b

/-- The value of v_b in tick `n` when the leg counts on the bus, or does not, throughout the tick: the fade between the records. -/
def faded (s : State) (n leg : Nat) (l : AudLeg) (b : Nat) (on : Bool) : List Int :=
  if n - l.fadeAt < l.fadeK then
    fadeTick l.fadeK (n - l.fadeAt) (gained (l.oldOn.testBit b && on) l.old b l.cur)
      (gained (on && audContributes s leg l b) l.route b l.cur)
  else gained on l.route b l.cur

/-- A leg's v_b in tick `n` (R215, R222, R223): a leg that joins or leaves in this tick fades over it; one that joins at the effect
tick of its new route fades with the route. -/
def contribution (s : State) (x : AudConf) (n leg : Nat) (l : AudLeg) (b : Nat) : List Int :=
  let on := onBus s x n leg l b
  let was := l.onPrev.testBit b
  if was = on ∨ (on ∧ n = l.fadeAt ∧ 0 < l.fadeK) then faded s n leg l b on
  else fadeTick 1 0 (faded s n leg l b was) (faded s n leg l b on)

/-- Every leg's contributions in a conference: kept with the leg, and the mask of the buses it counts on. -/
def contribAll (s : State) (n c : Nat) : State :=
  let x := audConf s c
  (confLegs s c).foldl (fun s p =>
    let l := p.2
    let vs := [0, 1, 2, 3].map (contribution s x n p.1 l)
    let mask := [0, 1, 2, 3].foldl (fun m b => if onBus s x n p.1 l b then m + 2 ^ b else m) 0
    setAudLeg s p.1 { l with
      onPrev := mask
      contribs := l.contribs.filter (fun q => n ≤ q.1 + x.hops ∧ q.1 ≠ n) ++ [(n, vs)] }) s

/-! ## Tones (R228, R229) -/

/-- EV_AUD_TONE_DONE of the tone of a target. -/
def toneDone (s : State) (tgt : Nat) (t : Tone) (reason : Nat) : State :=
  let bus := decide (65536 ≤ tgt)
  raise s t.fn EV_AUD_TONE_DONE (BitVec.ofNat 16 (if bus then (tgt - 65536) / 4 else tgt))
    (BitVec.ofNat 32 ((if bus then 2 ^ 31 + (tgt - 65536) % 4 * 2 ^ 24 else 0) + reason)) 0 0 0

/-- A tone ends before its cadence does: it ramps out over 96 samples. -/
def toneEnd (s : State) (tgt reason : Nat) : State :=
  match tget s.aud.tones tgt with
  | none => s
  | some t =>
    toneDone { s with aud := { s.aud with
      tones := tdel s.aud.tones tgt, ending := s.aud.ending ++ [(tgt, { t with ramp := some 96 })] } } tgt t reason

/-- A target with no sink any more has no tone to ramp out. -/
def endingDrop (s : State) (tgt : Nat) : State :=
  { s with aud := { s.aud with ending := s.aud.ending.filter (fun p => p.1 ≠ tgt) } }

/-- The effect tick of AUD_TONE_PLAY. -/
def tonePlayApply (s : State) (tgt : Nat) (t : Tone) : State :=
  let s := toneEnd s tgt 2
  { s with aud := { s.aud with tones := tset s.aud.tones tgt { t with start := curTick s } } }

/-- Tones that ramp out, for one tick: those that go on, and the samples of `tgt`. -/
def endingTick (tgt : Nat) : List (Nat × Tone) → List (Nat × Tone) × List Int
  | [] => ([], silence)
  | (k, t) :: r =>
    let (r', xs) := endingTick tgt r
    if k ≠ tgt then ((k, t) :: r', xs)
    else
      let (t', ys) := toneRun (some t) 40
      (match t' with
       | some t' => (k, t') :: r'
       | none => r', addS xs ys)

/-- The samples of the tones of a target in this tick; a tone whose cadence ends is done. -/
def toneTick (s : State) (tgt : Nat) : State × List Int :=
  let (en, xs) := endingTick tgt s.aud.ending
  let s := { s with aud := { s.aud with ending := en } }
  match tget s.aud.tones tgt with
  | none => (s, xs)
  | some t =>
    let (t', ys) := toneRun (some t) 40
    (match t' with
     | some t' => { s with aud := { s.aud with tones := tset s.aud.tones tgt t' } }
     | none => toneDone { s with aud := { s.aud with tones := tdel s.aud.tones tgt } } tgt t 0, addS xs ys)

/-! ## Bus sums (R216) -/

/-- The inject rings at a point, each with its samples added at its gain. -/
def injectSum (s : State) (n : Nat) (gain : MPoint → Nat) (acc : List Int) : List Nat → State × List Int
  | [] => (s, acc)
  | k :: r =>
    if mediaCaps s k then injectSum s n gain acc r
    else
      let g := ((mediaOf s k).point.map gain).getD 0x1000
      let (s, xs) := mediaPull s k n g
      injectSum s n gain (addS acc xs) r

def pointGain : MPoint → Nat
  | .audio _ _ _ g => g
  | _ => 0x1000

/-- The local sum of a bus. -/
def localSum (s : State) (n c b : Nat) : State × List Int :=
  let vs := (confLegs s c).map (fun p =>
    ((p.2.contribs.find? (fun q => q.1 = n)).map (fun q => q.2.getD b silence)).getD silence)
  let sum := vs.foldl addS silence
  let (s, t) := toneTick s (busTgt c b)
  injectSum s n pointGain (addS sum t) (mediaAt s (fun p => match p with
    | .audio 0 i j _ => i = c && j = b
    | _ => false))

/-- The T_b of a cascade conference: its own partial of H ticks ago and the peers' (R216). -/
def cascadeTotal (n b : Nat) (x : AudConf) : List Int :=
  let mine := ((x.own.find? (fun q => q.1 + x.hops = n)).map (fun q => q.2.getD b silence)).getD silence
  x.peers.foldl (fun a p => if p.2.now = [] then a else addS a (p.2.now.getD b silence)) mine

/-- The four bus totals of a conference in tick `n`, its own partial kept. -/
def mixBuses (s : State) (n c : Nat) : State × List (List Int) :=
  let step (r : State × List (List Int)) (b : Nat) : State × List (List Int) :=
    let (s, xs) := localSum r.1 n c b
    (s, r.2 ++ [xs])
  let (s, sums) := [0, 1, 2, 3].foldl step (s, [])
  let x := audConf s c
  if x.hops = 0 then (s, sums)
  else
    let sat := sums.map (fun xs => xs.map sat32I)
    let k := ([0, 1, 2, 3].filter (fun b => sat.getD b [] ≠ sums.getD b [])).length
    let s := if k = 0 then s else setBit (bump s AUD_BUS_SAT_CNT k) AUD_ST_BUS_SAT
    let x := { x with own := x.own.filter (fun q => n ≤ q.1 + x.hops ∧ q.1 ≠ n) ++ [(n, sat)] }
    let s := setAudConf s c x
    (s, [0, 1, 2, 3].map (fun b => cascadeTotal n b x))

/-! ## Sinks (R217, R224 to R226, R229) -/

/-- The sink input a route forms (R217); `o` gives the leg's contributions in the tick whose partials enter T_b. -/
def sinkOf (r : Option Route) (totals o : List (List Int)) : List Int :=
  match r with
  | none => silence
  | some r =>
    let sum := [0, 1, 2, 3].foldl (fun a b =>
      if !r.listen.testBit b then a
      else
        let t := totals.getD b silence
        let m := if r.minus.testBit b then o.getD b silence else silence
        addS a ((List.zipWith (· - ·) t m).map (fun v => gainQ (r.lGain.getD b 0) (sat32I v)))) silence
    sum.map sat32I

/-- Replace or keep the mix under a tone with REPLACE (R229). -/
def replaceMix (was now : Bool) (xs : List Int) : List Int :=
  match was, now with
  | false, false => xs
  | false, true => fadeTick 1 0 xs silence
  | true, true => silence
  | true, false => fadeTick 1 0 silence xs

/-- s_k with the sink tone and sink media of a leg, saturated (R217, R229, R230). -/
def sinkInput (s : State) (n leg : Nat) (totals : List (List Int)) (hops : Nat) : State × List Int :=
  let l := audLeg s leg
  let o := ((l.contribs.find? (fun q => q.1 + hops = n)).map (·.2)).getD []
  let d := n - l.fadeAt
  let new := sinkOf l.route totals o
  let xs := if d < l.fadeK then fadeTick l.fadeK d (sinkOf l.old totals o) new else new
  let now := ((tget s.aud.tones (sinkTgt leg)).map (·.replace)).getD false
  let xs := replaceMix l.repl now xs
  let s := setAudLeg s leg { l with repl := now }
  let (s, t) := toneTick s (sinkTgt leg)
  let (s, ys) := injectSum s n (fun _ => 0x1000) (addS xs t) (mediaAt s (fun p => match p with
    | .audio 1 i _ _ => i = leg
    | _ => false))
  (s, ys.map sat32I)

/-- EV_AUD_CLIP for `k` samples clamped (R226). -/
def clipEvt (s : State) (leg k : Nat) : State :=
  if k = 0 then s
  else
    let s := setBit (bump s AUD_CLIP_CNT k) AUD_ST_CLIP
    let l := audLeg s leg
    let l := { l with clips := l.clips + k, clipSince := l.clipSince + k }
    if (l.clipLast.map (fun t => decide (curTick s < t + 1200))).getD false then setAudLeg s leg l
    else
      raiseLeg (setAudLeg s leg { l with clipSince := 0, clipLast := some (curTick s) }) (4 * leg) EV_AUD_CLIP
        (BitVec.ofNat 16 leg) (sat32 l.clipSince) 0 0 0

/-- A tick's sink output enters what the encode and the captures take. -/
def sinkPut (s : State) (leg : Nat) (ys : List Int) : State :=
  let l := audLeg s leg
  let keep := max 1 (audRec s leg).pTx
  let outs := l.outs ++ [ys]
  let mx := ys.foldl (fun m y => max m (sampleLevel y)) (-57344)
  let s := setAudLeg s leg { l with outs := outs.drop (outs.length - keep), lastOut := ys.getLastD 0, sinkMax := mx, sinkIn := none }
  (mediaAt s (fun p => match p with
    | .audio 1 i _ _ => i = leg
    | _ => false)).foldl (fun s k => if mediaCaps s k then mediaPush s k (curTick s) ys else s) s

/-- The compressor, limiters and clamp on a sink's samples (R224 to R226). -/
def sinkFinish (s : State) (leg : Nat) (xs : List Int) : State :=
  let l := audLeg s leg
  let cfg := dynCfg l.dyn (fld s AUD_FINAL_CEIL) (fld s AUD_FINAL_REL)
  let (g, ys) := dynRun cfg (l.gc, l.gl, l.gf) xs
  let zs := ys.map (clampI (-16777216) 16777215)
  let k := ((List.zipWith (fun a b => decide (a ≠ b)) ys zs).filter id).length
  sinkPut (clipEvt (setAudLeg s leg { l with gc := g.1, gl := g.2.1, gf := g.2.2 }) leg k) leg zs

/-! ## Quiet legs (R232, R235) -/

/-- The payload sizes that EVS's compact format takes, in bytes. -/
def evsCompact : List Nat := [6, 7, 17, 18, 20, 23, 24, 32, 33, 36, 40, 41, 46, 50, 58, 60, 61, 80, 120, 160, 240, 320]

/-- SID or NO_DATA of an EVS payload: 6 bytes in compact format, or by the frame type of the table of contents in header-full format, which
a request byte may precede. -/
def evsDtx (pay : List Byte) : Bool :=
  let b0 := be pay 0 1
  let toc := if 128 ≤ b0 then be pay 1 1 else b0
  let ft := toc % 16
  let full := !evsCompact.contains pay.length || (pay.length = 7 && decide (128 ≤ b0))
  pay.length = 6 || (full && (ft = 15 || (if toc.testBit 5 then ft = 9 else ft = 12)))

/-- A received payload of an audio codec counts as discontinuous (R232): Opus by its length, AMR-WB by the frame type of the payload's first
table-of-contents byte, EVS by its format and frame type. -/
def isDtx (codec : Nat) (pay : List Byte) : Bool :=
  match codec with
  | 1 => decide (pay.length ≤ 2)
  | 6 =>
    let ft := be pay 1 1 / 8 % 16
    ft = 9 || ft = 15
  | 7 => evsDtx pay
  | _ => false

/-- The codecs with DTX (R232). -/
def hasDtx (codec : Nat) : Bool := codec = 1 || codec = 6 || codec = 7

/-- Whether a leg is quiet in the tick that starts (R232). -/
def quietNow (s : State) (leg : Nat) (l : AudLeg) : Bool :=
  let r := audRec s leg
  let rx := !(r.rxEn && r.rxDec) || (l.pcm = [] && l.pend.all (isDtx r.codec))
  let tx := !r.txEn || (((l.route.map (·.dtx)).getD false) && decide (l.sinkMax < belowFs s AUD_SIL_THRESH))
  let tone := thas s.aud.tones (sinkTgt leg) || s.aud.ending.any (fun p => p.1 = sinkTgt leg)
  let ring := mediaAt s (fun p => match p with
    | .audio 1 i _ _ => i = leg
    | .audio 2 i _ _ => i = leg
    | _ => false)
  rx && tx && !tone && ring = []

/-- The quiet state of every leg for the tick that starts, after its GATHER released its media. A released leg whose route fades out keeps
its own (R221). -/
def quietAll (s : State) : State :=
  s.aud.legs.foldl (fun s p =>
    let l := p.2
    let q := quietNow s p.1 l
    if l.gone.isSome then s else setAudLeg s p.1 { l with
      quiet := q, quietRun := if q then min (l.quietRun + 1) 0xffffffff else 0
      silHeld := q && l.silHeld, pend := if q then [] else l.pend }) s

/-- SIL_HOLD_REACHED (R234): a leg's quiet run has reached SIL_HOLD ticks. -/
def execSilHoldReached (leg : BitVec 14) (s : State) : Host.Outcome State Fault Refusal :=
  act (fun s =>
    match tget s.aud.legs leg.toNat with
    | some l =>
      if l.quiet ∧ fld s PWR_SIL_HOLD ≤ l.quietRun then setAudLeg s leg.toNat { l with silHeld := true } else s
    | none => s) s

/-- Whether the groups left powered carry the Brush charges of what is not homed on gated groups (R234): R54's usable capacity of a
capacity scaled by their number over 16. -/
def gateFits (s : State) (gated : List Nat) : Bool :=
  let legs := (s.aud.legs.filter (fun p => (p.2.home.map (fun g => gated.contains g)).getD false)).map (·.1)
  let items := (s.adm.legs.filter (fun p => !legs.contains p.1)).map (fun p => p.2.item) ++ s.adm.tasks.map (·.2)
  (List.range (mapPeriod items)).all (fun t => [2, 3].all (fun g =>
    decide (demand items 0 0 t g * 16 ≤ usable (capOf 0 0 * (16 - gated.length)) g (reserve s))))

/-- Whether group `g` can be gated at the close of WORK (R234). -/
def gateOk (s : State) (g : Nat) : Bool :=
  let homed := s.aud.legs.filter (fun p => p.2.home = some g)
  let gated := (List.range 16).filter (groupGated s)
  !groupGated s g && homed.all (fun p => p.2.quiet && p.2.silHeld && decide (fld s PWR_SIL_HOLD ≤ p.2.quietRun))
    && !(s.adm.tasks.any (fun t => homed.any (fun p => p.1 = t.1 / 4))) && gateFits s (gated ++ [g])

/-- A group is gated (R234, R453); a SIL_HOLD of 0 disables gating (R454). -/
def groupGate (s : State) (g : Nat) : State :=
  if fld s PWR_SIL_HOLD ≠ 0 && gateOk s g then
    raise (setFld s AUD_GRP_GATED (fld s AUD_GRP_GATED + 2 ^ g)) 0 EV_AUD_GROUP (BitVec.ofNat 16 g) 1 0 0 0
  else s

/-- Every group that meets the conditions, in number order. -/
def groupsGate (s : State) : State := (List.range 16).foldl groupGate s

/-- A gated group wakes (R235). -/
def groupWake (s : State) (g : Nat) : State :=
  if groupGated s g then
    raise (setFld s AUD_GRP_GATED (fld s AUD_GRP_GATED - 2 ^ g)) 0 EV_AUD_GROUP (BitVec.ofNat 16 g) 0 0 0 0
  else s

/-- Wake every gated group on which a leg that is not quiet is homed. -/
def groupsWake (s : State) : State :=
  (List.range 16).foldl (fun s g =>
    if s.aud.legs.any (fun p => p.2.home = some g && !p.2.quiet) then groupWake s g else s) s

/-- Whether media queued for the next tick, or the last sink output, ends a leg's quiet (R235). -/
def wakesNext (s : State) (leg : Nat) (l : AudLeg) : Bool :=
  let r := audRec s leg
  let item := (tget s.net.bound (4 * leg)).map (fun b => b.q.any (fun p => p.tick = curTick s + 1 && !isDtx r.codec p.pay))
  (r.rxDec && item.getD false) ||
    (r.txEn && (!((l.route.map (·.dtx)).getD false) || decide (belowFs s AUD_SIL_THRESH ≤ l.sinkMax)))

/-- GROUP_WAKE (R235): a leg homed on a gated group stops being quiet, in this tick or by the next GATHER deadline. -/
def execGroupWake (g : BitVec 4) (s : State) : Host.Outcome State Fault Refusal :=
  act (fun s =>
    if s.aud.legs.any (fun p => p.2.home = some g.toNat && (!p.2.quiet || wakesNext s p.1 p.2)) then groupWake s g.toNat else s) s

end Sys2Proof.Machine
end

