-- ==== Sys2Proof/Machine/Audio.lean ====
section
/-! DEFINITION. Audio work of a tick (AUDIO_DECODE, MIX, AUDIO_ENCODE), route changes (R221, R223), the packets of audio the
device originates (R226, R233), and the AUD commands (R236). Log entries: 19, 22, 34, 35, 36, 39, 96. -/

namespace Sys2Proof.Machine

/-! ## Work of a tick -/

/-- A program instance that runs at point `pt` of a leg (R259, R270). -/
def instRuns (s : State) (leg pt : Nat) : Bool :=
  ((tget s.brs.insts (4 * leg + pt)).map (fun i => i.live && !i.suspended)).getD false

/-- The instance at point `pt` of a leg has run in this tick to its end, or was abandoned in it. -/
def instRan (s : State) (leg pt : Nat) : Bool :=
  match tget s.brs.insts (4 * leg + pt) with
  | none => false
  | some i =>
    i.invAt = some (curTick s)
      && ((((tget s.brs.cores i.core).bind (·.run)).map (fun r => decide (r.key ≠ 4 * leg + pt))).getD true)

/-- A leg's samples of this tick are ready for their consumers (R38, R259): its payloads are decoded and its source insert has run. -/
def sourceReady (s : State) (leg : Nat) : Bool :=
  let l := audLeg s leg
  !(audRec s leg).rxDec || l.quiet || (l.pend = [] && (!instRuns s leg 0 || instRan s leg 0))

/-- Every producer of a conference's mix has completed (R38). -/
def mixReady (s : State) (c : Nat) : Bool := (confLegs s c).all (fun p => sourceReady s p.1)

/-- The mix of this tick of a conference, or of a leg's conference, has run. -/
def confMixed (s : State) (c : Nat) : Bool := decide ((audConf s c).mixedAt = some (curTick s))
def legMixed (s : State) (leg : Nat) : Bool := confMixed s (audLeg s leg).conf

/-- Exactly `n` samples: cut, or filled up with zeros. -/
def fitLen (n : Nat) (xs : List Int) : List Int := (xs ++ List.replicate (n - xs.length) 0).take n

/-- Decode the oldest payload waiting: `pcm` is what the codec gives, `ns` what noise suppression makes of it; a leg with noise suppression
and none given has its unit abandoned (R40), and its samples pass on as they are. -/
def decodeAudio (s : State) (leg : Nat) (pcm : List (BitVec 16)) (ns : Option (List Word)) : State :=
  let l := audLeg s leg
  let r := audRec s leg
  let rate := audRate r.codec r.cprof
  let xs := (fitLen (r.pRx * rate / 1200) (pcm.map (·.toInt))).map pcmToBus
  let (rs, ys) := resample rate 48000 (if l.decLost then {} else l.rsRx) xs
  let ys := fitLen (40 * r.pRx) ys
  let want := ((liveProf s leg).map (·.nsup)).getD false
  let zs := match ns with
    | some ws => if want then fitLen (40 * r.pRx) (ws.map (·.toInt)) else ys
    | none => ys
  let s := setAudLeg s leg { l with pend := l.pend.tail, pcm := zs, rsRx := rs, decLost := false, curAt := none }
  let s := if want && ns.isNone then audUnmeasured s leg else s
  if l.pend.tail ≠ [] then s else audPrep s leg

/-- A decode abandoned for an uncorrectable word of kernel data or of a kernel's instructions: replaced as R40 states, without a count
as overrun (R412). -/
def decodeLost (s : State) (leg : Nat) : State :=
  let l := audLeg s leg
  setAudLeg s leg { l with pend := l.pend.tail, pcm := [], decLost := true, curAt := none }

/-- AUDIO_DECODE (R38, R212, R218): in WORK of the tick that released the packet, before the tick's mix. -/
def execAudioDecode (hd : BitVec 16) (pcm : List (BitVec 16)) (ns : Option (List Word)) (hits : List EccHit) (s : State) :
    Host.Outcome State Fault Refusal :=
  act (fun s =>
    let leg := hd.toNat / 4
    let l := audLeg s leg
    if hd.toNat % 4 ≠ 0 ∨ ¬ s.easel.work ∨ legMixed s leg ∨ l.quiet ∨ l.pend = [] ∨ ¬ (audRec s leg).rxDec then s
    else if eccBad s hits [0, 1, 10] then decodeLost (eccHits s hits) leg
    else decodeAudio (eccHits s hits) leg pcm ns) s

/-- The sinks of a conference's legs (R217 to R226); a sink insert holds its leg's sink back until it has run. The sinks of
the legs `late` do not finish and are abandoned at the end of WORK (R39). -/
def mixSinks (s : State) (n : Nat) (late : List Nat) (totals : List (List Int)) (hops : Nat) (legs : List Nat) : State :=
  match legs with
  | [] => s
  | k :: r =>
    if !(audRec s k).txEn then mixSinks (endingDrop s (sinkTgt k)) n late totals hops r
    else
      let (s, xs) := sinkInput s n k totals hops
      let s := if (instRuns s k 1 && !(audLeg s k).quiet) || late.contains k then setAudLeg s k { audLeg s k with sinkIn := some xs }
        else sinkFinish s k xs
      mixSinks s n late totals hops r

/-- Capture rings at the buses of a conference and at the decoded sources of its legs (R230). -/
def mixCaptures (s : State) (n c : Nat) (totals : List (List Int)) : State :=
  let legs := (confLegs s c).map (·.1)
  (mediaAt s (fun p => match p with
    | .audio 0 i _ _ => i = c
    | .audio 2 i _ _ => legs.contains i
    | _ => false)).foldl (fun s k =>
      if !mediaCaps s k then s
      else
        match (mediaOf s k).point with
        | some (.audio 0 _ b _) => mediaPush s k n ((totals.getD b silence).map sat32I)
        | some (.audio 2 i _ _) => mediaPush s k n (audLeg s i).cur
        | _ => s) s

/-- The mix of one conference. -/
def mixConf (late : List Nat) (s : State) (n c : Nat) : State :=
  let legs := (confLegs s c).map (·.1)
  let s := contribAll (setAudConf s c { audConf s c with mixedAt := some n }) n c
  let (s, totals) := mixBuses s n c
  mixCaptures (mixSinks s n late totals (audConf s c).hops legs) n c totals

/-- Level and VAD of every leg whose samples are ready (R218); `unmeas` names legs whose measurement does not finish in WORK. -/
def measureAll (unmeas : List Nat) (s : State) : State :=
  s.aud.legs.foldl (fun s p =>
    if !sourceReady s p.1 then s
    else if unmeas.contains p.1 then audUnmeasured (audPrep s p.1) p.1
    else audMeasure (audPrep s p.1) p.1) s

/-- The mix of every conference that has not been mixed in this tick and whose producers have completed (R38). -/
def mixAll (late unmeas : List Nat) (s : State) : State :=
  s.aud.confs.foldl (fun s p => if confMixed s p.1 || !mixReady s p.1 then s else mixConf late s (curTick s) p.1) (measureAll unmeas s)

/-- The legs whose sink or measurement an uncorrectable word of kernel data or of a kernel's instructions abandons in this tick, which is
not counted as overrun (R412); none where no such word was read. -/
def mixErrors (s : State) (late : Late) : List Nat × List Nat :=
  if eccBad s late.hits [0, 1, 10] then (late.badSinks.map (·.toNat), late.badMeasures.map (·.toNat)) else ([], [])

/-- The errors of a mix are counted, and the work they abandon is noted with its leg. -/
def mixNote (s : State) (late : Late) : State :=
  let (sinks, measures) := mixErrors s late
  let n := curTick s
  let s := sinks.foldl (fun s k => { s with aud := { s.aud with legs := tmod s.aud.legs k (fun l => { l with ueSink := some n }) } }) s
  let s := measures.foldl (fun s k =>
    { s with aud := { s.aud with legs := tmod s.aud.legs k (fun l => { l with ueMeas := some n }) } }) s
  eccHits s late.hits

/-- MIX (R216): in WORK, once in a tick for each conference; `late` does not finish in WORK or is abandoned for a memory error. -/
def execMix (late : Late) (s : State) : Host.Outcome State Fault Refusal :=
  act (fun s =>
    if s.easel.work then
      mixAll (late.sinks.map (·.toNat) ++ (mixErrors s late).1) (late.measures.map (·.toNat) ++ (mixErrors s late).2) (mixNote s late)
    else s) s

/-- Whether an audio encode of a leg is due in this tick (R226, R233). -/
def encodeDue (s : State) (leg : Nat) : Bool :=
  let r := audRec s leg
  r.txEn && r.pTx ≠ 0 && curTick s % r.pTx = slotTx s (4 * leg) && !(audLeg s leg).quiet
    && (audLeg s leg).encAt ≠ some (curTick s)

/-- AUDIO_ENCODE (R226): `pay` is what the codec makes of the sink outputs; `sid` marks a silence payload. An uncorrectable word of kernel
data abandons the encode: no packet, and the encoder's state as before (R40, R412). -/
def execAudioEncode (hd : BitVec 16) (pay : List Byte) (sid : Bool) (hits : List EccHit) (s : State) : Host.Outcome State Fault Refusal :=
  act (fun s =>
    let leg := hd.toNat / 4
    let l := audLeg s leg
    let r := audRec s leg
    if hd.toNat % 4 ≠ 0 ∨ ¬ s.easel.work ∨ ¬ legMixed s leg ∨ l.sinkIn.isSome ∨ ¬ encodeDue s leg then s
    else if eccBad s hits [0, 1, 10] then
      setAudLeg (eccHits s hits) leg { l with enc := none, encAt := some (curTick s) }
    else
      let s := eccHits s hits
      let xs := (l.outs.drop (l.outs.length - r.pTx)).flatten
      let xs := List.replicate (40 * r.pTx - xs.length) 0 ++ xs
      let (rs, ys) := resample 48000 (audRate r.codec r.cprof) l.rsTx xs
      let keep := hasDtx r.codec && (if r.codec = 1 then decide (pay.length ≤ 2) else sid)
      setAudLeg s leg { l with
        rsTx := rs, encIn := ys.map busToPcm, enc := some pay, encAt := some (curTick s)
        dtxPay := if keep then some pay else l.dtxPay }) s

/-- The decodes of a leg that have not run are abandoned, each an overrun (R39, R41): the decoder is marked lost. -/
def decodesEnd (s : State) (leg : Nat) : State :=
  let l := audLeg s leg
  if l.pend = [] then s
  else l.pend.foldl (fun s _ => overrun s (4 * leg) 1 0) (setAudLeg s leg { l with pend := [], pcm := [], decLost := true, curAt := none })

/-- The measurement of a leg at the end of WORK: one not done is abandoned (R40, R41). -/
def measureEnd (s : State) (leg : Nat) : State :=
  let l := audLeg s leg
  if l.quiet ∨ ¬ (audRec s leg).rxDec then audMeasure s leg
  else
    let s := audUnmeasured s leg
    let l := audLeg s leg
    if l.nsLost = some (curTick s) ∧ l.ueMeas ≠ some (curTick s) then overrun s (4 * leg) 1 1 else s

/-- What the end of WORK abandons of audio: decodes, measurements, sinks not mixed, encodes (R39, R40). -/
def audioEnd (s : State) : State :=
  s.aud.legs.foldl (fun s p =>
    let leg := p.1
    let s := measureEnd (audPrep (decodesEnd s leg) leg) leg
    let s := if (audRec s leg).txEn ∧ (¬ legMixed s leg ∨ (audLeg s leg).sinkIn.isSome) then
        let s := sinkPut s leg (if (audLeg s leg).lastOut = 0 then silence else fadeOut (audLeg s leg).lastOut)
        if (audLeg s leg).ueSink = some (curTick s) then s else overrun s (4 * leg) 1 2
      else s
    if encodeDue s leg then overrun s (4 * leg) 1 3 else s) s

/-! ## Packets of audio that the device originates (R226, R233) -/

/-- The RTP header of originated media. -/
def rtpHdr (marker : Bool) (pt : Nat) (sq : Nat) (ts ssrc : Word) : List Byte :=
  [0x80, BitVec.ofNat 8 ((if marker then 128 else 0) + pt % 128)] ++ natBE 2 sq ++ natBE 4 ts.toNat ++ natBE 4 ssrc.toNat

/-- Build one packet of originated media: it takes the send direction's next sequence number (R233). With that direction not bound
the packet is counted and not sent (R182). -/
def ownPacket (s : State) (hd : Nat) (marker : Bool) (pt : Nat) (ts : Word) (pay : List Byte) (ord : Nat) :
    State × Option Egr :=
  match tget s.net.bound hd, tget s.cip.tx hd with
  | some b, some d =>
    let s := { s with cip := { s.cip with tx := tset s.cip.tx hd { d with seq := (d.seq + 1) % 65536 } } }
    let (s, r) := rtpFrame s hd b.blk.txSsrc d.seq (rtpHdr marker pt d.seq ts b.blk.txSsrc) pay
    (s, r.map (fun (f, n) =>
      { port := b.blk.port, sub := b.blk.sub, launch := 0, leg := hd / 4, ord := ord, kind := 0, handle := hd, bytes := f,
        ssrc := b.blk.txSsrc, seq := d.seq, size := n }))
  | _, _ => (txRefused s hd, none)

/-- The payload a leg's audio sends in this EMIT: the encode's, or the stored silence payload of a quiet leg. -/
def audioPayload (s : State) (leg : Nat) : Option (List Byte) :=
  let l := audLeg s leg
  let r := audRec s leg
  let n := curTick s
  if l.encAt = some n then l.enc
  else if l.quiet ∧ r.txEn ∧ r.pTx ≠ 0 ∧ n % r.pTx = slotTx s (4 * leg) ∧
      (l.dtxAt.map (fun t => decide (t + (if r.codec = 1 then 480 else 8 * r.pTx) ≤ n))).getD true then l.dtxPay
  else none

/-- The audio packet of a leg in this EMIT. -/
def ownAudio (s : State) (leg : Nat) : State × List Egr :=
  match audioPayload s leg with
  | none => (s, [])
  | some pay =>
    let n := curTick s
    let c := (audRec s leg).codec
    let hd := 4 * leg
    let s := setAudLeg s leg { audLeg s leg with enc := none, dtxAt := some n }
    let o := ((tget s.net.bound hd).map (·.order)).getD 0
    let ts := Config.audioTs0 hd o + BitVec.ofNat 32 (n * rtpClock c / 1200)
    let (s, e) := ownPacket s hd (Config.audioMarker hd n) (Config.audioPt hd o).toNat ts pay 0
    (s, e.toList)

/-! ## Route changes (R221 to R223) -/

/-- The first tick from `e` at which no fade of the leg, in progress or staged before, is left. -/
def routeTick (l : AudLeg) (e : Nat) : Nat :=
  l.staged.foldl (fun e c => if c.tick < e then max e (c.tick + c.k) else e) (max e (l.fadeAt + l.fadeK))

/-- Stage a route change: its effect tick, and the state. Later changes staged for the leg give way. -/
def routeStage (s : State) (leg : Nat) (r : Option Route) (k : Nat) : State × Nat :=
  let l := audLeg s leg
  let e := routeTick l (effTick s)
  (setAudLeg s leg { l with staged := l.staged.filter (fun c => c.tick < e) ++ [⟨e, r, k⟩] }, e)

/-- A route comes into force over `k` ticks of fade. -/
def routeApply (n : Nat) (l : AudLeg) (r : Option Route) (k : Nat) : AudLeg :=
  { l with old := l.route, oldOn := l.onPrev, fadeAt := n, fadeK := k, route := r
           score := if l.route.isNone && r.isSome then -32768 else l.score }

/-- The route changes of every leg whose effect tick has come, and legs whose last fade is over. -/
def routesApply (s : State) : State :=
  let n := curTick s
  { s with aud := { s.aud with
      legs := (s.aud.legs.filter (fun p => (p.2.gone.map (fun g => decide (n ≤ g))).getD true)).map (fun p =>
        (p.1, ((p.2.staged.filter (fun c => c.tick ≤ n)).foldl (fun l c => routeApply n l c.route c.k)
          { p.2 with staged := p.2.staged.filter (fun c => n < c.tick) }))) } }

/-- A released leg's audio ends: its route fades out over one tick, its tone and media bindings end (R221, R229). -/
def audStop (s : State) (leg : Nat) : State :=
  match tget s.aud.legs leg with
  | none => s
  | some l =>
    let s := setAudLeg s leg { routeApply (curTick s) { l with staged := [] } none 1 with gone := some (curTick s) }
    let s := endingDrop (toneEnd s (sinkTgt leg) 3) (sinkTgt leg)
    (mediaAt s (fun p => match p with
      | .audio 1 i _ _ => i = leg
      | .audio 2 i _ _ => i = leg
      | _ => false)).foldl mediaUnbindApply s

/-- The stream is bound: both resamplers start afresh (R213). -/
def audBound (s : State) (hd : Nat) : State :=
  if hd % 4 = 0 ∧ thas s.aud.legs (hd / 4) then
    setAudLeg s (hd / 4) { audLeg s (hd / 4) with rsRx := {}, rsTx := {} }
  else s

/-! ## Commands (R236) -/

/-- The leg an audio command names, admitted, or the status that refuses it. -/
def audFor (s : State) (f leg : Nat) : Except (BitVec 16) StreamRec :=
  match legIn s leg with
  | none => .error AUD_ST_LEG
  | some l => if l.item.owner ≠ f then .error AUD_ST_NOT_OWNER else .ok (l.prof.rec' 0)

/-- The conference an audio command names, or the status that refuses it. -/
def audConfFor (s : State) (f c : Nat) : Except (BitVec 16) Unit :=
  match tget s.adm.confs c with
  | none => .error AUD_ST_CONF
  | some x => if x.owner ≠ f then .error AUD_ST_NOT_OWNER else .ok ()

/-- The modes of the audio commands. -/
def audModes : List Nat := [3, 4, 5]

/-- AUD_ROUTE_SET, kind 0 (R214, R221). -/
def execAudRouteSet (h : CmdHdr) (leg : BitVec 14) (contrib listen minus : BitVec 4) (force dtx : Bool) (xf : BitVec 3)
    (c0 c1 c2 c3 l0 l1 l2 l3 : BitVec 16) (s : State) : Host.Outcome State Fault Refusal :=
  act (command h OP_AUD_ROUTE_SET { modes := audModes } (fun s =>
    match audFor s h.fn.toNat leg.toNat with
    | .error st => (s, no st)
    | .ok r =>
      if (contrib ≠ 0 ∧ ¬ r.rxDec) ∨ ((listen ≠ 0 ∨ minus ≠ 0) ∧ ¬ r.txEn) then (s, no AUD_ST_LEG)
      else if dtx ∧ ¬ (r.txEn ∧ hasDtx r.codec) then (s, no AUD_ST_DTX)
      else
        let x : Route := ⟨contrib.toNat, listen.toNat, minus.toNat, force, dtx,
          [c0.toNat, c1.toNat, c2.toNat, c3.toNat], [l0.toNat, l1.toNat, l2.toNat, l3.toNat]⟩
        let (s, e) := routeStage s leg.toNat (some x) (xf.toNat + 1)
        (s, ok (effArea e)))) s

/-- AUD_ROUTE_SET, kind 1 (R214). -/
def execAudBusSetting (h : CmdHdr) (bus : BitVec 2) (conf : BitVec 12) (n : BitVec 7) (s : State) :
    Host.Outcome State Fault Refusal :=
  act (command h OP_AUD_ROUTE_SET { modes := audModes, reserved := n = 0 || decide (64 < n.toNat) } (fun s =>
    match audConfFor s h.fn.toNat conf.toNat with
    | .error st => (s, no st)
    | .ok _ => (stage s (effTick s) (.mixN conf.toNat bus.toNat n.toNat), ok (effArea (effTick s))))) s

/-- AUD_ROUTE_CLEAR (R221). -/
def execAudRouteClear (h : CmdHdr) (leg : BitVec 14) (xf : BitVec 3) (s : State) : Host.Outcome State Fault Refusal :=
  act (command h OP_AUD_ROUTE_CLEAR { modes := audModes } (fun s =>
    match audFor s h.fn.toNat leg.toNat with
    | .error st => (s, no st)
    | .ok _ =>
      let (s, e) := routeStage s leg.toNat none (xf.toNat + 1)
      (s, ok (effArea e)))) s

/-- AUD_SINK_DYN (R225, R236). -/
def execAudSinkDyn (h : CmdHdr) (compEn limEn : Bool) (leg : BitVec 14) (thr ratio att rel makeup ceil limRel : BitVec 16)
    (s : State) : Host.Outcome State Fault Refusal :=
  act (command h OP_AUD_SINK_DYN
    { modes := audModes
      reserved := decide (960 < thr.toNat) || decide (ratio.toNat < 10) || decide (200 < ratio.toNat) || att = 0
        || decide (1000 < att.toNat) || decide (rel.toNat < 10) || decide (5000 < rel.toNat) || decide (240 < makeup.toNat)
        || decide (240 < ceil.toNat) || limRel = 0 || decide (5000 < limRel.toNat) }
    (fun s =>
      match audFor s h.fn.toNat leg.toNat with
      | .error st => (s, no st)
      | .ok r =>
        if !r.txEn then (s, no AUD_ST_LEG)
        else
          let d : SinkDyn := ⟨compEn, limEn, thr.toNat, ratio.toNat, att.toNat, rel.toNat, makeup.toNat, ceil.toNat, limRel.toNat⟩
          (stage s (effTick s) (.sinkDyn leg.toNat d), ok (effArea (effTick s))))) s

/-- The target of a tone command, or the status that refuses it. -/
def toneFor (s : State) (f : Nat) (onBus : Bool) (bus id : Nat) : Except (BitVec 16) Nat :=
  if onBus then
    match audConfFor s f id with
    | .error st => .error st
    | .ok _ => .ok (busTgt id bus)
  else
    match audFor s f id with
    | .error st => .error st
    | .ok r => if r.txEn then .ok (sinkTgt id) else .error AUD_ST_LEG

/-- The targets that hold a tone or will from a staged command. -/
def toneTargets (s : State) : List Nat :=
  ((s.aud.tones.map (·.1)) ++ s.agenda.filterMap (fun c => match c.ch with
    | .tonePlay t _ => some t
    | _ => none)).eraseDups

/-- AUD_TONE_PLAY (R227 to R229). -/
def execAudTonePlay (h : CmdHdr) (onBus replace : Bool) (bus : BitVec 2) (id : BitVec 14) (tone : BitVec 8)
    (rep onT offT f1 f2 l1 l2 : BitVec 16) (s : State) : Host.Outcome State Fault Refusal :=
  act (command h OP_AUD_TONE_PLAY
    { modes := audModes
      reserved := toneReserved tone.toNat onT.toNat offT.toNat f1.toNat f2.toNat l1.toNat l2.toNat
        || (onBus && (replace || decide (4096 ≤ id.toNat))) }
    (fun s =>
      match toneFor s h.fn.toNat onBus bus.toNat id.toNat with
      | .error st => (s, no st)
      | .ok tgt =>
        let ts := toneTargets s
        if ¬ ts.contains tgt ∧ 4096 ≤ ts.length then (s, no AUD_ST_TONE_FULL)
        else
          match toneSpec tone.toNat onT.toNat offT.toNat f1.toNat f2.toNat l1.toNat l2.toNat with
          | none => (s, no GEN_ST_RESERVED)
          | some (os, cad, once) =>
            let left := if once then some 1 else if rep = 0 then none else some rep.toNat
            let t : Tone := { fn := h.fn.toNat, osc := os, cadence := cad, left := left, replace := replace, start := 0 }
            (stage s (effTick s) (.tonePlay tgt t), ok (effArea (effTick s))))) s

/-- AUD_TONE_STOP (R229). -/
def execAudToneStop (h : CmdHdr) (onBus : Bool) (bus : BitVec 2) (id : BitVec 14) (s : State) :
    Host.Outcome State Fault Refusal :=
  act (command h OP_AUD_TONE_STOP { modes := audModes, reserved := onBus && decide (4096 ≤ id.toNat) } (fun s =>
    match toneFor s h.fn.toNat onBus bus.toNat id.toNat with
    | .error st => (s, no st)
    | .ok tgt =>
      if !thas s.aud.tones tgt then (s, no AUD_ST_NO_TONE)
      else (stage s (effTick s) (.toneStop tgt), ok (effArea (effTick s))))) s

/-- The result area of AUD_LEVELS (R236): level and score, the sink's level and the flags, quiet run and clips. -/
def levelWords (s : State) (leg : Nat) : List Word :=
  let l := audLeg s leg
  let x := audConf s l.conf
  let i16 (v : Int) : BitVec 16 := BitVec.ofInt 16 (clampI (-32768) 32767 v)
  let on := [0, 1, 2, 3].foldl (fun m b => if (x.sel.getD b []).contains leg then m + 2 ^ b else m) 0
  let w1 : BitVec 16 := BitVec.ofNat 16 ((if l.quiet then 2 ^ 10 else 0) + on * 64 + (if l.vad then 16 else 0) + l.home.getD 0)
  [halves (i16 l.level) (i16 l.score), halves (i16 l.sinkMax) w1, sat32 l.quietRun, sat32 l.clips]

/-- AUD_LEVELS (R236). -/
def execAudLevels (h : CmdHdr) (clr : Bool) (leg : BitVec 14) (s : State) : Host.Outcome State Fault Refusal :=
  act (command h OP_AUD_LEVELS { modes := audModes } (fun s =>
    match audFor s h.fn.toNat leg.toNat with
    | .error st => (s, no st)
    | .ok _ => (if clr then setAudLeg s leg.toNat { audLeg s leg.toNat with clips := 0 } else s, ok (levelWords s leg.toNat)))) s

/-- The point of a media binding, or the status that refuses it (R230, R237). -/
def mediaPointFor (s : State) (f point id bus gain : Nat) : Except (BitVec 16) MPoint :=
  if point = 0 then
    match audConfFor s f id with
    | .error st => .error st
    | .ok _ => .ok (.audio 0 id bus gain)
  else
    match audFor s f id with
    | .error st => .error st
    | .ok r => if (point = 1 ∧ ¬ r.txEn) ∨ (point = 2 ∧ ¬ r.rxDec) then .error AUD_ST_LEG else .ok (.audio point id bus gain)

/-- AUD_MEDIA_BIND (R230). -/
def execAudMediaBind (h : CmdHdr) (m : BitVec 6) (point : BitVec 2) (id : BitVec 14) (bus : BitVec 2) (gain : BitVec 16)
    (s : State) : Host.Outcome State Fault Refusal :=
  let k := mediaKey h.fn.toNat m.toNat
  act (command h OP_AUD_MEDIA_BIND
      { modes := audModes
        reserved := point = 3 || (point = 2 && !mediaCaps s k) || (point = 0 && decide (4096 ≤ id.toNat)) }
      (fun s =>
        match mediaPointFor s h.fn.toNat point.toNat id.toNat bus.toNat gain.toNat with
        | .error st => (s, no st)
        | .ok p =>
          if ¬ bit s (HIF_RING_EN h.fn.toNat (mediaQ m.toNat)) ∨ (mediaOf s k).point.isSome then (s, no AUD_ST_RING)
          else
            (stage (setMedia s k { mediaOf s k with point := some p, live := false }) (effTick s) (.mediaBind k),
             ok (effArea (effTick s))))) s

/-- AUD_MEDIA_BIND with UNBIND set (R230). -/
def execAudMediaUnbind (h : CmdHdr) (m : BitVec 6) (s : State) : Host.Outcome State Fault Refusal :=
  act (command h OP_AUD_MEDIA_BIND { modes := audModes } (fun s =>
    let k := mediaKey h.fn.toNat m.toNat
    match (mediaOf s k).point with
    | some (.audio ..) => (stage s (effTick s) (.mediaUnbind k), ok (effArea (effTick s)))
    | _ => (s, no AUD_ST_RING))) s

end Sys2Proof.Machine
end

