-- ==== Sys2Proof/Machine/BrushCore.lean ====
section
/-! DEFINITION. A Brush core (R241 to R270): arithmetic, addressing, loops, the effect of one instruction, faults, waits and the
end of an invocation. Log entries: 19, 40, 41, 42, 43, 44. -/

namespace Sys2Proof.Machine

/-! ## Registers -/

def BBank.rd (k : BBank) (n : BitVec 3) : BitVec 24 := k.d.getD n.toNat 0
def BBank.ra (k : BBank) (n : BitVec 2) : BitVec 56 := k.a.getD n.toNat 0
def BBank.rp (k : BBank) (n : BitVec 3) : BitVec 14 := k.p.getD n.toNat 0
def BBank.ro (k : BBank) (n : BitVec 3) : BitVec 16 := k.o.getD n.toNat 0
def BBank.rel (k : BBank) (n : BitVec 3) : Nat := (k.el.getD n.toNat 0).toNat
def BBank.rpl (k : BBank) (n : BitVec 3) : Nat := (k.pl.getD n.toNat 0).toNat
def BBank.rb (k : BBank) (n : BitVec 3) : Nat := (k.b.getD n.toNat 0).toNat

def BBank.wd (k : BBank) (n : BitVec 3) (v : BitVec 24) : BBank := { k with d := k.d.set n.toNat v }
def BBank.wa (k : BBank) (n : BitVec 2) (v : BitVec 56) : BBank := { k with a := k.a.set n.toNat v }
def BBank.wp (k : BBank) (n : BitVec 3) (v : Nat) : BBank := { k with p := k.p.set n.toNat (BitVec.ofNat 14 v) }

/-- A write to Ln (R251). -/
def BBank.wl (k : BBank) (n : BitVec 3) (v : BitVec 15) : BBank :=
  let e := k.rel n
  let i := n.toNat
  { k with
    pl := k.pl.set i v
    el := if e = 0 ∨ v = 0 then k.el.set i v else k.el
    b := if e = 0 ∧ v ≠ 0 then k.b.set i (k.rp n) else k.b }

/-- What MOVE reads of a register, as a 24-bit data value; an accumulator is never read by parts (R243). -/
def BBank.read (k : BBank) : BReg → BitVec 24
  | .d n => k.rd n
  | .a _ => 0
  | .p n => (k.rp n).setWidth 24
  | .o n => (k.ro n).signExtend 24
  | .l n => (k.pl.getD n.toNat 0).setWidth 24

/-- Write a 24-bit data value to a register: MOVE Dn, An of R248; pointers, offsets and lengths take its low bits. -/
def BBank.write (k : BBank) (r : BReg) (v : BitVec 24) : BBank :=
  match r with
  | .d n => k.wd n v
  | .a n => k.wa n ((v.signExtend 56) <<< 23)
  | .p n => k.wp n (v.toNat % 16384)
  | .o n => { k with o := k.o.set n.toNat (v.setWidth 16) }
  | .l n => k.wl n (let x := v.toNat % 32768; if 16384 < x then Config.brushLen x else BitVec.ofNat 15 x)

/-! ## Arithmetic (R244 to R247) -/

/-- An exact result reduced to 56 bits, and whether it lies outside them (R245): kept modulo 2^56, or with SAM at the end of the
range. -/
def reduce56 (sam : Bool) (x : Int) : BitVec 56 × Bool :=
  let isOver := decide (x < -(2 ^ 55)) || decide (2 ^ 55 - 1 < x)
  (if isOver && sam then (if x < 0 then BitVec.ofInt 56 (-(2 ^ 55)) else BitVec.ofInt 56 (2 ^ 55 - 1)) else BitVec.ofInt 56 x, isOver)

/-- An exact accumulator result is reduced and written, with its flags (R244, R245). -/
def BBank.acc (k : BBank) (n : BitVec 2) (x : Int) : BBank :=
  let v := (reduce56 k.sam x).1
  let y := v.toInt
  { k.wa n v with flg := { k.flg with
      wrap := k.flg.wrap || (reduce56 k.sam x).2, hr := decide (y < -(2 ^ 46)) || decide (2 ^ 46 - 1 < y), neg := decide (y < 0)
      zero := decide (y = 0) } }

/-- The flags of an accumulator result that is reduced and not written. -/
def BBank.accFlags (k : BBank) (x : Int) : BBank :=
  let y := (reduce56 k.sam x).1.toInt
  { k with flg := { k.flg with
      hr := decide (y < -(2 ^ 46)) || decide (2 ^ 46 - 1 < y), neg := decide (y < 0), zero := decide (y = 0) } }

/-- The flags of a D result; `cy` is the carry or borrow of an addition or subtraction. -/
def BBank.dFlags (k : BBank) (v : BitVec 24) (cy : Option Bool) : BBank :=
  { k with flg := { k.flg with neg := v.msb, zero := decide (v = 0), cy := cy.getD k.flg.cy } }

/-- Convergent rounding at bit 23 (R247). -/
def roundAcc (x : Int) : Int :=
  let f := x % 2 ^ 23
  if 2 ^ 22 < f ∨ (f = 2 ^ 22 ∧ x / 2 ^ 23 % 2 = 1) then x - f + 2 ^ 23 else x - f

/-- The product of two data values (R245). -/
def prod (a b : BitVec 24) : Int := a.toInt * b.toInt

/-- A[55:46] are not all equal (R246). -/
def beyond (x : Int) : Bool := decide (x < -(2 ^ 46)) || decide (2 ^ 46 - 1 < x)

/-- MOVD of an accumulator value: the data value, and whether it saturated (R246). -/
def satMove (x : Int) : BitVec 24 × Bool :=
  if beyond x then (if x < 0 then 0x800000 else 0x7fffff, true) else (BitVec.ofInt 24 (x / 2 ^ 23), false)

/-- The count of bits below bit 55 that equal the sign bit (R255). -/
def signBits (v : BitVec 56) : Nat := ((List.range 55).filter (fun i => v.getLsbD i = v.msb)).length

/-! ## Addressing (R249 to R251) -/

/-- Reverse the low `k` bits. -/
def revBits (k v : Nat) : Nat := (List.range k).foldl (fun a i => if v.testBit i then a + 2 ^ (k - 1 - i) else a) 0

/-- The least k with 2^k ≥ n. -/
def log2up (n : Nat) : Nat := ((List.range 16).find? (fun k => decide (n ≤ 2 ^ k))).getD 15

/-- post_modify of R250. -/
def BBank.postMod (k : BBank) (n : BitVec 3) (m : Int) : BBank :=
  let el : Int := k.rel n
  let p : Int := (k.rp n).toNat
  if el = 0 then k.wp n ((p + m) % 16384).toNat
  else
    let b : Int := k.rb n
    let q := p + m
    let wrapped := decide (b + el ≤ q) || decide (q < b)
    let q := if b + el ≤ q then q - el else if q < b then q + el else q
    if wrapped && k.rpl n ≠ k.rel n then
      let el' : Int := k.rpl n
      let q := if el' ≠ 0 ∧ b + el' ≤ q then q - el' else q
      { k with el := k.el.set n.toNat (k.pl.getD n.toNat 0) }.wp n (q % 16384).toNat
    else k.wp n (q % 16384).toNat

/-- The operand address (R249). -/
def BBank.ea (k : BBank) (e : BEa) : Nat :=
  match e.m with
  | .idxO => ((((k.rp e.p).toNat : Int) + (k.ro e.p).toInt) % 16384).toNat
  | _ => (k.rp e.p).toNat

/-- Pn afterwards (R249). -/
def BBank.step (k : BBank) (p : BitVec 3) (m : BMode) : BBank :=
  match m with
  | .at' => k
  | .idxO => k
  | .inc => k.postMod p 1
  | .dec => k.postMod p (-1)
  | .addO => k.postMod p (k.ro p).toInt
  | .revO =>
    if k.rel p = 0 then k.postMod p (k.ro p).toInt
    else
      let lg := log2up (k.rel p)
      let d := ((((k.rp p).toNat : Int) - k.rb p) % 2 ^ lg).toNat
      let x := (((revBits lg d : Int) + (k.ro p).toInt) % 2 ^ lg).toNat
      k.wp p ((k.rb p + revBits lg x) % 16384)

/-! ## Instances and cores -/

def coreOf (s : State) (c : Nat) : BCore := (tget s.brs.cores c).getD {}
def setCore (s : State) (c : Nat) (x : BCore) : State := { s with brs := { s.brs with cores := tset s.brs.cores c x } }
def setInst (s : State) (k : Nat) (x : BInst) : State := { s with brs := { s.brs with insts := tset s.brs.insts k x } }

def zeroWord (_ : Nat) : Word := 0

/-- A word of a window; unlisted words are 0. -/
def BInst.word (i : BInst) (y : Bool) (a : Nat) : Word := mget zeroWord (if y then i.y else i.x) a

def BInst.setWord (i : BInst) (y : Bool) (a : Nat) (w : Word) : BInst :=
  if y then { i with y := mset zeroWord i.y a w } else { i with x := mset zeroWord i.x a w }

/-- Words put into a window from address `a`. -/
def BInst.setWords (i : BInst) (y : Bool) (a : Nat) : List Word → BInst
  | [] => i
  | w :: r => (i.setWord y a w).setWords y (a + 1) r

def winLen (p : BProg) (y : Bool) : Nat := if y then p.ywin else p.xwin

/-- A transfer completes: its words move (R265); those in `bad` are uncorrectable and arrive as 0 (R412). -/
def xferMove (bad : List Nat) (i : BInst) (t : BXfer) : BInst :=
  let w (j : Nat) (v : Word) : Word := if bad.contains j then 0 else v
  if t.toWin then
    (List.range t.len).foldl (fun i j => i.setWord t.y (t.win + j) (w j (mget zeroWord i.studio (t.stu + j)))) i
  else
    (List.range t.len).foldl (fun i j =>
      { i with studio := mset zeroWord i.studio (t.stu + j) (w j (i.word t.y (t.win + j))) }) i

/-- A transfer completes without errors. -/
def xferDo (i : BInst) (t : BXfer) : BInst := xferMove [] i t

/-! ## The end of an invocation (R264, R269) -/

/-- What a point hands on: the insert's output, or its input when it was abandoned (R259, R269). -/
def pointDone (s : State) (k : Nat) (xs : List Int) : State :=
  let leg := k / 4
  match k % 4 with
  | 0 => setAudLeg s leg { audLeg s leg with cur := xs }
  | 1 => if (audLeg s leg).sinkIn.isSome then sinkFinish s leg xs else s
  | _ => s

/-- An invocation is abandoned for `cause` (R268, R269); transfers already issued complete. -/
def abandon (s : State) (c cause : Nat) : State :=
  match (coreOf s c).run with
  | none => s
  | some r =>
    let s := setCore s c { coreOf s c with run := none }
    match tget s.brs.insts r.key with
    | none => s
    | some i =>
      let i := r.xfers.foldl xferDo i
      let i := { i with
        aborted := true, consec := i.consec + 1, nAband := i.nAband + 1, lastCause := cause
        maxCyc := max i.maxCyc r.cyc, faultFirst := if i.faultSince = 0 then cause else i.faultFirst
        faultSince := i.faultSince + 1 }
      let s := setBit (bump s BRS_FAULT_CNT 1) BRS_ST_FAULT
      let s := if (i.faultAt.map (fun t => decide (curTick s < t + 1200))).getD false then setInst s r.key i
        else
          raiseLeg (setInst s r.key { i with faultSince := 0, faultAt := some (curTick s) }) r.key EV_BRS_FAULT
            (BitVec.ofNat 16 (r.key / 4)) (BitVec.ofNat 32 (r.key % 4 * 2 ^ 16 + i.faultFirst)) (sat32 i.faultSince) 0 0
      let s := if cause = 7 then overrun s (4 * (r.key / 4)) 1 4 else s
      if cause = 7 ∧ r.key % 4 = 1 then s else pointDone s r.key r.input

/-- An uncorrectable word of the program store was fetched: the invocation is abandoned there, counted neither as a Brush fault nor as
an overrun (R412). -/
def abandonFetch (s : State) (c : Nat) : State :=
  match (coreOf s c).run with
  | none => s
  | some r =>
    let s := setCore s c { coreOf s c with run := none }
    match tget s.brs.insts r.key with
    | none => s
    | some i => pointDone (setInst s r.key { r.xfers.foldl xferDo i with aborted := true, maxCyc := max i.maxCyc r.cyc }) r.key r.input

/-- HALT has ended with every transfer complete: the output is read (R264), or discarded after an uncorrectable word (R412). -/
def haltDone (s : State) (c : Nat) (r : BRun) (i : BInst) (p : BProg) : State :=
  let s := setCore s c { coreOf s c with run := none }
  if r.dirty then pointDone (setInst s r.key { i with aborted := true, maxCyc := max i.maxCyc r.cyc }) r.key r.input
  else
  let s := setInst s r.key { i with aborted := false, consec := 0, maxCyc := max i.maxCyc r.cyc }
  pointDone s r.key ((List.range 40).map (fun j => (i.word true (p.outOfs + j)).toInt))

/-! ## Loops (R252, R253) -/

/-- The loop-end test at LE: the loops left, and where execution goes on. -/
def loopEnd (le : Nat) : List BLoop → List BLoop × Nat
  | [] => ([], le)
  | l :: r =>
    if l.le ≠ le then (l :: r, le)
    else if 1 < l.lc then ({ l with lc := l.lc - 1 } :: r, l.ls)
    else loopEnd le r

/-- The bank after an instruction that ends at `nx` and is no taken branch (R253). -/
def BBank.fall (k : BBank) (nx : Nat) : BBank :=
  match k.loops with
  | [] => { k with pc := BitVec.ofNat 16 nx }
  | l :: r =>
    if l.le = nx then
      let (ls, pc) := loopEnd nx (l :: r)
      { k with loops := ls, pc := BitVec.ofNat 16 pc }
    else { k with pc := BitVec.ofNat 16 nx }

def BFlags.test (f : BFlags) : BCond → Bool
  | .eq => f.zero
  | .ne => !f.zero
  | .lt => f.neg
  | .ge => !f.neg
  | .gt => !f.neg && !f.zero
  | .le => f.neg || f.zero
  | .hr => f.hr
  | .nhr => !f.hr
  | .wrap => f.wrap
  | .clamp => f.clamp

/-! ## Operands of memory -/

/-- The memory operands of an instruction with whether they are written (R248, R255). -/
def BOp.mems : BOp → List (BEa × Bool)
  | .ldh _ e => [(e, false)]
  | .ldl _ e => [(e, false)]
  | .sth _ e => [(e, true)]
  | .stl _ e => [(e, true)]
  | .ldbus _ e => [(e, false)]
  | .stbus _ e => [(e, true)]
  | .mlam _ _ x y => [(x, false), (y, false)]
  | .mla2 _ _ x _ _ y => [(x, false), (y, false)]
  | _ => []

/-- Registers an instruction loads from memory. -/
def BOp.loads : BOp → List BReg
  | .ldh d _ => [.d d]
  | .ldl d _ => [.d d]
  | .ldbus n _ => [.a n]
  | _ => []

/-- Registers an instruction reads (R255), for the stall after a load. -/
def BOp.reads : BOp → List BReg
  | .move _ r => [r]
  | .sth d _ => [.d d]
  | .stl d _ => [.d d]
  | .stbus n _ => [.a n]
  | .movd _ _ n => [.a n]
  | .mul _ _ a b => [.d a, .d b]
  | .mla _ n a b => [.a n, .d a, .d b]
  | .mls n a b => [.a n, .d a, .d b]
  | .mlam _ n _ _ => [.a n]
  | .mla2 n a _ m b _ => [.a n, .d a, .a m, .d b]
  | .add n m => [.a n, .a m]
  | .sub n m => [.a n, .a m]
  | .neg n => [.a n]
  | .abs n => [.a n]
  | .cmp n m => [.a n, .a m]
  | .shl n _ => [.a n]
  | .shr n _ => [.a n]
  | .rndc n => [.a n]
  | .sat n => [.a n]
  | .cls _ n => [.a n]
  | .addd _ a b => [.d a, .d b]
  | .subd _ a b => [.d a, .d b]
  | .and _ a b => [.d a, .d b]
  | .or _ a b => [.d a, .d b]
  | .xor _ a b => [.d a, .d b]
  | .not _ a => [.d a]
  | .lsl _ a _ => [.d a]
  | .lsr _ a _ => [.d a]
  | .asrd _ a _ => [.d a]
  | .cmpd a b => [.d a, .d b]
  | .loop (.reg n) _ => [.d n]
  | .xferR d _ _ _ => [.d d]
  | .xferW d _ _ _ => [.d d]
  | .sig => [.d 3, .d 4, .d 5, .d 6]
  | _ => []

/-- A window word is covered by an outstanding transfer, so an access to it waits (R266). -/
def covered (xs : List BXfer) (y : Bool) (a : Nat) : Bool :=
  xs.any (fun t => t.y = y && decide (t.win ≤ a) && decide (a < t.win + t.len))

/-! ## The effect of an instruction that does not wait or fault -/

/-- word[31:8] of a memory operand. -/
def BInst.hi (i : BInst) (k : BBank) (e : BEa) : BitVec 24 := (i.word e.y (k.ea e) >>> 8).setWidth 24

/-- Registers and windows after an instruction of the move, multiply, accumulator, data and address groups (R255);
pointers are post-modified by `stepAll`. -/
def BOp.run (op : BOp) (k : BBank) (i : BInst) : BBank × BInst :=
  match op with
  | .move d r => (match d, r with
    | .a n, .a m => (k.wa n (k.ra m), i)
    | _, _ => (k.write d (k.read r), i))
  | .ldi d v => (k.write d v, i)
  | .ldh d e => (k.wd d (i.hi k e), i)
  | .ldl d e => (k.wd d ((i.word e.y (k.ea e)).setWidth 24), i)
  | .sth d e => (k, i.setWord e.y (k.ea e) ((k.rd d).setWidth 32 <<< 8))
  | .stl d e => (k, i.setWord e.y (k.ea e) ((k.rd d).signExtend 32))
  | .ldbus n e => (k.wa n ((i.word e.y (k.ea e)).signExtend 56 <<< 22), i)
  | .stbus n e =>
    let x := roundConv (k.ra n).toInt 22
    let w := sat32I x
    ({ k with flg := { k.flg with clamp := k.flg.clamp || decide (w ≠ x) } }, i.setWord e.y (k.ea e) (BitVec.ofInt 32 w))
  | .movd r d n =>
    let x := (k.ra n).toInt
    let y := reduce56 k.sam (if r then roundAcc x else x)
    let (v, c) := satMove y.1.toInt
    ({ k.wd d v with flg := { k.flg with clamp := k.flg.clamp || c, wrap := k.flg.wrap || y.2 } }, i)
  | .mul r n a b => (k.acc n (if r then roundAcc (prod (k.rd a) (k.rd b)) else prod (k.rd a) (k.rd b)), i)
  | .mla r n a b =>
    let x := (k.ra n).toInt + prod (k.rd a) (k.rd b)
    (k.acc n (if r then roundAcc x else x), i)
  | .mls n a b => (k.acc n ((k.ra n).toInt - prod (k.rd a) (k.rd b)), i)
  | .mlam minus n x y =>
    let p := prod (i.hi k x) (i.hi k y)
    (k.acc n ((k.ra n).toInt + (if minus then -p else p)), i)
  | .mla2 n a x m b y =>
    let k' := k.acc n ((k.ra n).toInt + prod (k.rd a) (i.hi k x))
    (k'.acc m ((k'.ra m).toInt + prod (k.rd b) (i.hi k y)), i)
  | .add n m => (k.acc n ((k.ra n).toInt + (k.ra m).toInt), i)
  | .sub n m => (k.acc n ((k.ra n).toInt - (k.ra m).toInt), i)
  | .neg n => (k.acc n (-(k.ra n).toInt), i)
  | .abs n => (k.acc n ((k.ra n).toInt.natAbs : Nat), i)
  | .clr n => (k.acc n 0, i)
  | .cmp n m => (k.accFlags ((k.ra n).toInt - (k.ra m).toInt), i)
  | .shl n c => (k.acc n ((k.ra n).toInt * 2 ^ c.toNat), i)
  | .shr n c => (k.acc n ((k.ra n).toInt / 2 ^ c.toNat), i)
  | .rndc n => (k.acc n (roundAcc (k.ra n).toInt), i)
  | .sat n =>
    let x := (k.ra n).toInt
    if beyond x then
      ({ k with flg := { k.flg with clamp := true } }.acc n (if x < 0 then -(2 ^ 46) else 2 ^ 46 - 1), i)
    else (k.acc n x, i)
  | .cls d n =>
    let v := BitVec.ofNat 24 (signBits (k.ra n))
    ((k.wd d v).dFlags v none, i)
  | .addd d a b =>
    let v := k.rd a + k.rd b
    ((k.wd d v).dFlags v (some (decide (2 ^ 24 ≤ (k.rd a).toNat + (k.rd b).toNat))), i)
  | .subd d a b =>
    let v := k.rd a - k.rd b
    ((k.wd d v).dFlags v (some (decide ((k.rd a).toNat < (k.rd b).toNat))), i)
  | .and d a b => ((k.wd d (k.rd a &&& k.rd b)).dFlags (k.rd a &&& k.rd b) none, i)
  | .or d a b => ((k.wd d (k.rd a ||| k.rd b)).dFlags (k.rd a ||| k.rd b) none, i)
  | .xor d a b => ((k.wd d (k.rd a ^^^ k.rd b)).dFlags (k.rd a ^^^ k.rd b) none, i)
  | .not d a => ((k.wd d (~~~(k.rd a))).dFlags (~~~(k.rd a)) none, i)
  | .lsl d a c => ((k.wd d (k.rd a <<< c.toNat)).dFlags (k.rd a <<< c.toNat) none, i)
  | .lsr d a c => ((k.wd d (k.rd a >>> c.toNat)).dFlags (k.rd a >>> c.toNat) none, i)
  | .asrd d a c => ((k.wd d ((k.rd a).sshiftRight c.toNat)).dFlags ((k.rd a).sshiftRight c.toNat) none, i)
  | .cmpd a b => (k.dFlags (k.rd a - k.rd b) (some (decide ((k.rd a).toNat < (k.rd b).toNat))), i)
  | .lea p m => (k.step p m, i)
  | .clrf => ({ k with flg := { k.flg with clamp := false, wrap := false } }, i)
  | _ => (k, i)

/-- The count of a LOOP (R252). -/
def BBank.count (k : BBank) : BCount → Nat
  | .imm v => v.toNat
  | .reg d => (k.rd d).toNat % 65536

/-- Where control instructions go: the bank, and whether the branch was taken. `at'` is the instruction's address, `nx`
the next one's. -/
def BOp.flow (op : BOp) (k : BBank) (nx : Nat) : BBank × Bool :=
  match op with
  | .br t => ({ k with pc := t }, true)
  | .brCond c t => if k.flg.test c then ({ k with pc := t }, true) else (k.fall nx, false)
  | .call t => ({ k with pc := t, calls := BitVec.ofNat 16 nx :: k.calls }, true)
  | .ret => ({ k with pc := k.calls.headD 0, calls := k.calls.tail }, true)
  | .loop n e =>
    let cnt := k.count n
    if cnt = 0 then
      if (k.loops.head?.map (fun l => decide (l.le = nx))).getD false then (k.fall nx, true) else ({ k with pc := e }, true)
    else ({ k with loops := ⟨cnt, nx, e.toNat⟩ :: k.loops, pc := BitVec.ofNat 16 nx }, true)
  | .leave =>
    match k.loops with
    | [] => (k.fall nx, false)
    | l :: r => ({ k with loops := r, pc := BitVec.ofNat 16 l.le }, true)
  | _ => (k.fall nx, false)

/-! ## Faults and waits -/

/-- The fault an instruction raises before it writes anything (R249, R252, R254, R265). -/
def BOp.fault (op : BOp) (k : BBank) (r : BRun) (p : BProg) : Option Nat :=
  let bad := op.mems.any (fun m => decide (winLen p m.1.y ≤ k.ea m.1))
  let xfer (d q : BitVec 3) (y : Bool) (len : Nat) : Option Nat :=
    if winLen p y < (k.rp q).toNat + len then some 0
    else if p.studio < (k.rd d).toNat + len then some 1
    else if p.xferMax < r.words + len then some 2
    else none
  if bad then some 0
  else
    match op with
    | .xferR d q y len => xfer d q y len.toNat
    | .xferW d q y len => xfer d q y len.toNat
    | .loop _ _ => if 4 ≤ k.loops.length then some 3 else none
    | .call _ => if 8 ≤ k.calls.length then some 4 else none
    | .ret => if k.calls = [] then some 4 else none
    | _ => none

/-- Whether an instruction waits (R264 to R266). -/
def BOp.waits (op : BOp) (k : BBank) (r : BRun) : Bool :=
  match op with
  | .wait => r.xfers ≠ []
  | .halt => r.xfers ≠ []
  | .xferR .. => decide (4 ≤ r.xfers.length)
  | .xferW .. => decide (4 ≤ r.xfers.length)
  | _ => op.mems.any (fun m => covered r.xfers m.1.y (k.ea m.1))

/-- An encoding R258 would refuse: a shift by 0 or more than 24, a transfer of 0 or more than 1,024 words. -/
def BOp.valid : BOp → Bool
  | .shl _ c => decide (1 ≤ c.toNat) && decide (c.toNat ≤ 24)
  | .shr _ c => decide (1 ≤ c.toNat) && decide (c.toNat ≤ 24)
  | .xferR _ _ _ n => decide (1 ≤ n.toNat) && decide (n.toNat ≤ 1024)
  | .xferW _ _ _ n => decide (1 ≤ n.toNat) && decide (n.toNat ≤ 1024)
  | .mlam _ _ x y => !x.y && y.y
  | .mla2 _ _ x _ _ y => !x.y && y.y
  | .move (.a _) (.a _) => true
  | .move _ (.a _) => false
  | _ => true

/-- Instruction `op` at address `pc`, of two words when `two`, lies in code of `n` words with its targets (R242, R258). -/
def BOp.inCode (op : BOp) (pc n : Nat) (two : Bool) : Bool :=
  let nx := pc + (if two then 2 else 1)
  decide (nx ≤ n) &&
    (match op with
     | .br t => decide (t.toNat < n)
     | .brCond _ t => decide (t.toNat < n)
     | .call t => decide (t.toNat < n)
     | .loop _ e => decide (nx < e.toNat) && decide (e.toNat < n)
     | _ => true)

/-- Cycles of an instruction without waits (R255). -/
def BOp.cycles (op : BOp) (taken : Bool) : Nat :=
  match op with
  | .loop _ _ => 2
  | _ => if taken then 2 else 1

/-- SIG (R266). -/
def sigDo (s : State) (key : Nat) (k : BBank) : State :=
  match tget s.brs.insts key with
  | none => s
  | some i =>
    if (i.sigAt.map (fun t => decide (curTick s < t + 12))).getD false then
      setBit (setInst s key { i with sigDrop := i.sigDrop + 1 }) BRS_ST_SIG_DROP
    else
      let w (n : BitVec 3) : Word := (k.rd n).setWidth 32
      raiseLeg (setInst s key { i with sigAt := some (curTick s) }) key EV_BRS_SIGNAL (BitVec.ofNat 16 (key / 4))
        (BitVec.ofNat 32 (key % 4 * 2 ^ 24) ||| w 3) (w 4) (w 5) (w 6)

/-- One transfer is issued (R265). -/
def BOp.issue (op : BOp) (k : BBank) (r : BRun) : BRun :=
  let add (toWin : Bool) (d q : BitVec 3) (y : Bool) (len : Nat) : BRun :=
    { r with xfers := r.xfers ++ [⟨toWin, (k.rd d).toNat, (k.rp q).toNat, y, len⟩], words := r.words + len }
  match op with
  | .xferR d q y len => add true d q y len.toNat
  | .xferW d q y len => add false d q y len.toNat
  | _ => r

/-- The instance as an instruction reads it: a memory operand whose word is uncorrectable delivers 0 (R412). -/
def BOp.clean (op : BOp) (k : BBank) (i : BInst) (bad : BitVec 2) : BInst :=
  (List.range op.mems.length).foldl (fun x j =>
    match op.mems[j]? with
    | some (e, false) => if bad.getLsbD j then x.setWord e.y (k.ea e) 0 else x
    | _ => x) i

/-- Core `c` carries out `op`, of two words when `two`: it faults, waits, or has its effect. `bad` and `hits` are the memory errors its
operands meet. -/
def brushOp (s : State) (c : Nat) (op : BOp) (two : Bool) (bad : BitVec 2) (hits : List EccHit) : State :=
  let core := coreOf s c
  match core.run with
  | none => s
  | some r =>
    match tget s.brs.insts r.key with
    | none => s
    | some i =>
      match tget s.brs.progs i.prog with
      | none => s
      | some p =>
        let k := core.act
        if ¬ op.valid ∨ ¬ op.inCode k.pc.toNat p.code.length two ∨ p.cycMax + 200 ≤ r.cyc then s
        else
          match op.fault k r p with
          | some cause => abandon s c cause
          | none =>
            if op.waits k r then
              setCore s c { core with run := some { r with stall := some ⟨op, two, s.clk.cyc, bad, hits⟩ } }
            else
              let nx := k.pc.toNat + (if two then 2 else 1)
              let dirty := r.dirty || bad ≠ 0 || eccBad s hits [0]
              let s := eccHits s hits
              let k1 := (op.run k (op.clean k i bad)).1
              let i1 := (op.run k i).2
              let k2 := op.mems.foldl (fun k m => k.step m.1.p m.1.m) k1
              let (k3, taken) := op.flow k2 nx
              let lag := if r.loaded.any (fun g => op.reads.contains g) then 1 else 0
              let r := { op.issue k r with cyc := r.cyc + op.cycles taken + lag, loaded := op.loads, dirty := dirty }
              let s := setInst (setCore s c { core with act := k3, run := some r }) r.key i1
              match op with
              | .halt => haltDone s c r i1 p
              | .sig => sigDo s r.key k
              | _ => s

/-- Firmware rewrites the words of the program store that could not be read, which clears them (R410, R412). -/
def storeRewrite (s : State) (hits : List EccHit) : State :=
  (hits.filter (fun e => e.t = 10)).foldl (fun s e => poisonSet s 10 e.addr.toNat false) s

/-- An instruction issues on a core that is not waiting. -/
def brushIssue (s : State) (b : BrushRef) (op : BOp) : State :=
  match (coreOf s b.core.toNat).run with
  | some r =>
    if r.stall.isSome then s
    else if eccBad s b.hits [10] then abandonFetch (storeRewrite (eccHits s b.hits) b.hits) b.core.toNat
    else brushOp s b.core.toNat op b.two b.bad b.hits
  | none => s

/-- Core cycles of a wait that began at local cycle `since`: 2.0 GHz against 800 MHz. -/
def waitCycles (s : State) (since : Nat) : Nat := (s.clk.cyc - since) * 5 / 2

/-- The oldest outstanding transfer of a core completes, its words in `bad` as 0; an instruction that waited goes on where it can
(R265, R266, R412). -/
def xferComplete (s : State) (c : Nat) (bad : List (BitVec 11)) (hits : List EccHit) : State :=
  let core := coreOf s c
  match core.run with
  | none => s
  | some r =>
    match r.xfers, tget s.brs.insts r.key with
    | t :: rest, some i =>
      let r := { r with dirty := r.dirty || !bad.isEmpty || eccBad s hits [0, 1] }
      let s := setInst (eccHits s hits) r.key (xferMove (bad.map (·.toNat)) i t)
      match r.stall with
      | none => setCore s c { core with run := some { r with xfers := rest } }
      | some w =>
        if w.op.waits core.act { r with xfers := rest } then setCore s c { core with run := some { r with xfers := rest } }
        else
          brushOp (setCore s c { core with run := some { r with xfers := rest, stall := none, cyc := r.cyc + waitCycles s w.since } })
            c w.op w.two w.bad w.hits
    | _, _ => s

/-! ## Task arrival (R262, R263) -/

/-- The input of an instance in this tick, when its producer has run (R38, R259). -/
def pointInput (s : State) (k : Nat) : Option (List Int) :=
  let leg := k / 4
  let l := audLeg s leg
  if k % 4 = 1 then l.sinkIn
  else if l.pend ≠ [] ∨ (k % 4 = 0 ∧ legMixed s leg) then none
  else some l.raw

/-- The registers at arrival. -/
def arrivalBank (s : State) (p : BProg) (i : BInst) : BBank :=
  let n := curTick s
  let gap := (i.invAt.map (fun t => n - t - 1)).getD 0
  let d1 := (if i.invAt.isNone then 1 else 0) + (if i.aborted then 2 else 0) + (if 0 < gap then 4 else 0)
  { pc := BitVec.ofNat 16 p.entry, sam := p.sam
    p := [BitVec.ofNat 14 p.inOfs, BitVec.ofNat 14 p.outOfs, 0, 0, 0, 0, 0, 0]
    d := [BitVec.ofNat 24 n, BitVec.ofNat 24 d1, BitVec.ofNat 24 (min gap 0xffffff), i.params.getD 0 0, i.params.getD 1 0,
          i.params.getD 2 0, i.params.getD 3 0, 0] }

/-- The dispatcher loads the input block and the idle bank of the instance's core and swaps the banks. -/
def arrive (s : State) (k : Nat) : State :=
  match tget s.brs.insts k with
  | none => s
  | some i =>
    match tget s.brs.progs i.prog with
    | none => s
    | some p =>
      let core := coreOf s i.core
      if ¬ i.live ∨ i.suspended ∨ core.run.isSome ∨ i.invAt = some (curTick s) ∨ (audLeg s (k / 4)).quiet ∨ ¬ s.easel.work then s
      else
        let s := if k % 4 = 1 then s else if (audLeg s (k / 4)).pend = [] then audPrep s (k / 4) else s
        match pointInput s k with
        | none => s
        | some xs =>
          let bank := arrivalBank s p i
          let i' := { i.setWords false p.inOfs (xs.map (BitVec.ofInt 32)) with
            invAt := some (curTick s), nInv := i.nInv + 1 }
          setCore (setInst s k i') i.core { core with act := bank, idle := core.act, run := some { key := k, input := xs } }

end Sys2Proof.Machine
end

