-- ==== Sys2Proof/Machine/BrushOps.lean ====
section
/-! DEFINITION. The Brush instructions (R244 to R255, R265, R266): each row is one instruction issued on the core it names. A core
with no invocation in progress, or one that waits, issues nothing. -/

namespace Sys2Proof.Machine

/-- MOVE (R248). -/
def execMove (b : BrushRef) (dst src : BReg) (s : State) : Host.Outcome State Fault Refusal := act (brushIssue · b (.move dst src)) s

/-- LDI (R255). -/
def execLdi (b : BrushRef) (dst : BReg) (imm : BitVec 24) (s : State) : Host.Outcome State Fault Refusal := act (brushIssue · b (.ldi dst imm)) s

/-- LD_H (R248). -/
def execLdH (b : BrushRef) (d : BitVec 3) (e : BEa) (s : State) : Host.Outcome State Fault Refusal := act (brushIssue · b (.ldh d e)) s

/-- LD_L (R248). -/
def execLdL (b : BrushRef) (d : BitVec 3) (e : BEa) (s : State) : Host.Outcome State Fault Refusal := act (brushIssue · b (.ldl d e)) s

/-- ST_H (R248). -/
def execStH (b : BrushRef) (d : BitVec 3) (e : BEa) (s : State) : Host.Outcome State Fault Refusal := act (brushIssue · b (.sth d e)) s

/-- ST_L (R248). -/
def execStL (b : BrushRef) (d : BitVec 3) (e : BEa) (s : State) : Host.Outcome State Fault Refusal := act (brushIssue · b (.stl d e)) s

/-- LDBUS (R248). -/
def execLdbus (b : BrushRef) (n : BitVec 2) (e : BEa) (s : State) : Host.Outcome State Fault Refusal := act (brushIssue · b (.ldbus n e)) s

/-- STBUS (R246). -/
def execStbus (b : BrushRef) (n : BitVec 2) (e : BEa) (s : State) : Host.Outcome State Fault Refusal := act (brushIssue · b (.stbus n e)) s

/-- MOVD (R246). -/
def execMovd (b : BrushRef) (d : BitVec 3) (n : BitVec 2) (s : State) : Host.Outcome State Fault Refusal := act (brushIssue · b (.movd false d n)) s

/-- MOVD_R (R246). -/
def execMovdR (b : BrushRef) (d : BitVec 3) (n : BitVec 2) (s : State) : Host.Outcome State Fault Refusal := act (brushIssue · b (.movd true d n)) s

/-- MUL (R245). -/
def execMul (b : BrushRef) (n : BitVec 2) (x y : BitVec 3) (s : State) : Host.Outcome State Fault Refusal := act (brushIssue · b (.mul false n x y)) s

/-- MLA (R245). -/
def execMla (b : BrushRef) (n : BitVec 2) (x y : BitVec 3) (s : State) : Host.Outcome State Fault Refusal := act (brushIssue · b (.mla false n x y)) s

/-- MLS (R245). -/
def execMls (b : BrushRef) (n : BitVec 2) (x y : BitVec 3) (s : State) : Host.Outcome State Fault Refusal := act (brushIssue · b (.mls n x y)) s

/-- MUL_R (R247). -/
def execMulR (b : BrushRef) (n : BitVec 2) (x y : BitVec 3) (s : State) : Host.Outcome State Fault Refusal := act (brushIssue · b (.mul true n x y)) s

/-- MLA_R (R247). -/
def execMlaR (b : BrushRef) (n : BitVec 2) (x y : BitVec 3) (s : State) : Host.Outcome State Fault Refusal := act (brushIssue · b (.mla true n x y)) s

/-- MLA_M (R255). -/
def execMlaM (b : BrushRef) (n : BitVec 2) (x y : BEa) (s : State) : Host.Outcome State Fault Refusal := act (brushIssue · b (.mlam false n x y)) s

/-- MLS_M (R255). -/
def execMlsM (b : BrushRef) (n : BitVec 2) (x y : BEa) (s : State) : Host.Outcome State Fault Refusal := act (brushIssue · b (.mlam true n x y)) s

/-- MLA2 (R255). -/
def execMla2 (b : BrushRef) (n : BitVec 2) (u : BitVec 3) (x : BEa) (m : BitVec 2) (v : BitVec 3) (y : BEa) (s : State) : Host.Outcome State Fault Refusal := act (brushIssue · b (.mla2 n u x m v y)) s

/-- ADD (R245). -/
def execAdd (b : BrushRef) (n m : BitVec 2) (s : State) : Host.Outcome State Fault Refusal := act (brushIssue · b (.add n m)) s

/-- SUB (R245). -/
def execSub (b : BrushRef) (n m : BitVec 2) (s : State) : Host.Outcome State Fault Refusal := act (brushIssue · b (.sub n m)) s

/-- NEG (R245). -/
def execNeg (b : BrushRef) (n : BitVec 2) (s : State) : Host.Outcome State Fault Refusal := act (brushIssue · b (.neg n)) s

/-- ABS (R245). -/
def execAbs (b : BrushRef) (n : BitVec 2) (s : State) : Host.Outcome State Fault Refusal := act (brushIssue · b (.abs n)) s

/-- CLR (R255). -/
def execClr (b : BrushRef) (n : BitVec 2) (s : State) : Host.Outcome State Fault Refusal := act (brushIssue · b (.clr n)) s

/-- CMP (R255). -/
def execCmp (b : BrushRef) (n m : BitVec 2) (s : State) : Host.Outcome State Fault Refusal := act (brushIssue · b (.cmp n m)) s

/-- SHL (R245). -/
def execShl (b : BrushRef) (n : BitVec 2) (k : BitVec 5) (s : State) : Host.Outcome State Fault Refusal := act (brushIssue · b (.shl n k)) s

/-- SHR (R255). -/
def execShr (b : BrushRef) (n : BitVec 2) (k : BitVec 5) (s : State) : Host.Outcome State Fault Refusal := act (brushIssue · b (.shr n k)) s

/-- RNDC (R247). -/
def execRndc (b : BrushRef) (n : BitVec 2) (s : State) : Host.Outcome State Fault Refusal := act (brushIssue · b (.rndc n)) s

/-- SAT (R246). -/
def execSat (b : BrushRef) (n : BitVec 2) (s : State) : Host.Outcome State Fault Refusal := act (brushIssue · b (.sat n)) s

/-- CLS (R255). -/
def execCls (b : BrushRef) (d : BitVec 3) (n : BitVec 2) (s : State) : Host.Outcome State Fault Refusal := act (brushIssue · b (.cls d n)) s

/-- ADDD (R255). -/
def execAddd (b : BrushRef) (d x y : BitVec 3) (s : State) : Host.Outcome State Fault Refusal := act (brushIssue · b (.addd d x y)) s

/-- SUBD (R255). -/
def execSubd (b : BrushRef) (d x y : BitVec 3) (s : State) : Host.Outcome State Fault Refusal := act (brushIssue · b (.subd d x y)) s

/-- AND (R255). -/
def execAnd (b : BrushRef) (d x y : BitVec 3) (s : State) : Host.Outcome State Fault Refusal := act (brushIssue · b (.and d x y)) s

/-- OR (R255). -/
def execOr (b : BrushRef) (d x y : BitVec 3) (s : State) : Host.Outcome State Fault Refusal := act (brushIssue · b (.or d x y)) s

/-- XOR (R255). -/
def execXor (b : BrushRef) (d x y : BitVec 3) (s : State) : Host.Outcome State Fault Refusal := act (brushIssue · b (.xor d x y)) s

/-- NOT (R255). -/
def execNot (b : BrushRef) (d x : BitVec 3) (s : State) : Host.Outcome State Fault Refusal := act (brushIssue · b (.not d x)) s

/-- LSL (R255). -/
def execLsl (b : BrushRef) (d x : BitVec 3) (k : BitVec 5) (s : State) : Host.Outcome State Fault Refusal := act (brushIssue · b (.lsl d x k)) s

/-- LSR (R255). -/
def execLsr (b : BrushRef) (d x : BitVec 3) (k : BitVec 5) (s : State) : Host.Outcome State Fault Refusal := act (brushIssue · b (.lsr d x k)) s

/-- ASRD (R255). -/
def execAsrd (b : BrushRef) (d x : BitVec 3) (k : BitVec 5) (s : State) : Host.Outcome State Fault Refusal := act (brushIssue · b (.asrd d x k)) s

/-- CMPD (R255). -/
def execCmpd (b : BrushRef) (x y : BitVec 3) (s : State) : Host.Outcome State Fault Refusal := act (brushIssue · b (.cmpd x y)) s

/-- LEA (R250). -/
def execLea (b : BrushRef) (p : BitVec 3) (m : BMode) (s : State) : Host.Outcome State Fault Refusal := act (brushIssue · b (.lea p m)) s

/-- BR (R255). -/
def execBr (b : BrushRef) (t : BitVec 16) (s : State) : Host.Outcome State Fault Refusal := act (brushIssue · b (.br t)) s

/-- BR_COND (R255). -/
def execBrCond (b : BrushRef) (c : BCond) (t : BitVec 16) (s : State) : Host.Outcome State Fault Refusal := act (brushIssue · b (.brCond c t)) s

/-- CALL (R254). -/
def execCall (b : BrushRef) (t : BitVec 16) (s : State) : Host.Outcome State Fault Refusal := act (brushIssue · b (.call t)) s

/-- RET (R254). -/
def execRet (b : BrushRef) (s : State) : Host.Outcome State Fault Refusal := act (brushIssue · b (.ret)) s

/-- LOOP (R252). -/
def execLoop (b : BrushRef) (n : BCount) (e : BitVec 16) (s : State) : Host.Outcome State Fault Refusal := act (brushIssue · b (.loop n e)) s

/-- LEAVE (R253). -/
def execLeave (b : BrushRef) (s : State) : Host.Outcome State Fault Refusal := act (brushIssue · b (.leave)) s

/-- CLRF (R244). -/
def execClrf (b : BrushRef) (s : State) : Host.Outcome State Fault Refusal := act (brushIssue · b (.clrf)) s

/-- NOP (R255). -/
def execNop (b : BrushRef) (s : State) : Host.Outcome State Fault Refusal := act (brushIssue · b (.nop)) s

/-- XFER_R (R265). -/
def execXferR (b : BrushRef) (d p : BitVec 3) (y : Bool) (len : BitVec 11) (s : State) : Host.Outcome State Fault Refusal := act (brushIssue · b (.xferR d p y len)) s

/-- XFER_W (R265). -/
def execXferW (b : BrushRef) (d p : BitVec 3) (y : Bool) (len : BitVec 11) (s : State) : Host.Outcome State Fault Refusal := act (brushIssue · b (.xferW d p y len)) s

/-- WAIT (R266). -/
def execWait (b : BrushRef) (s : State) : Host.Outcome State Fault Refusal := act (brushIssue · b (.wait)) s

/-- SIG (R266). -/
def execSig (b : BrushRef) (s : State) : Host.Outcome State Fault Refusal := act (brushIssue · b (.sig)) s

/-- HALT (R264). -/
def execHalt (b : BrushRef) (s : State) : Host.Outcome State Fault Refusal := act (brushIssue · b (.halt)) s

end Sys2Proof.Machine
end

