-- ==== Sys2Proof/Machine/Brush.lean ====
section
/-! DEFINITION. Brush programs and instances (R256 to R275): loading, binding, arrival, waits that end, suspension, and the
BRS commands. Log entries: 40, 44, 45, 106. -/

namespace Sys2Proof.Machine

/-! ## Programs (R257, R258) -/

/-- The image's header and contents. -/
def parseImage (owner : Nat) (ws : List Word) : BProg :=
  let n := wbits ws 0 15 0
  let nx := wbits ws 1 31 16
  let ny := wbits ws 1 15 0
  { owner := owner, code := (ws.drop 16).take n, ximg := (ws.drop (16 + n)).take nx, yimg := (ws.drop (16 + n + nx)).take ny
    xwin := wbits ws 2 31 16, ywin := wbits ws 2 15 0, cycMax := wbits ws 3 20 0, studio := wbits ws 4 20 0
    xferMax := wbits ws 5 15 0, inOfs := wbits ws 6 29 16, outOfs := wbits ws 6 13 0, entry := wbits ws 7 31 16
    sam := wbool ws 7 0 }

/-- Every header field lies in its range and every reserved field is 0. -/
def headerOk (ws : List Word) (p : BProg) : Bool :=
  let n := wbits ws 0 15 0
  wbits ws 0 31 24 = 1 && wbits ws 0 23 16 = 0 && decide (1 ≤ n) && decide (n ≤ 32768)
    && decide (wbits ws 1 31 16 ≤ p.xwin) && decide (wbits ws 1 15 0 ≤ p.ywin)
    && decide (40 ≤ p.xwin) && decide (p.xwin ≤ 8192) && decide (40 ≤ p.ywin) && decide (p.ywin ≤ 8192)
    && wbits ws 3 31 21 = 0 && decide (64 ≤ p.cycMax) && decide (p.cycMax ≤ 1249800)
    && wbits ws 4 31 21 = 0 && decide (p.studio ≤ 1048576) && wbits ws 5 31 16 = 0 && (p.studio ≠ 0 || p.xferMax = 0)
    && wbits ws 6 31 30 = 0 && wbits ws 6 15 14 = 0 && decide (p.inOfs + 40 ≤ p.xwin) && decide (p.outOfs + 40 ≤ p.ywin)
    && wbits ws 7 15 1 = 0 && decide (p.entry < n) && (List.range 8).all (fun i => ws.getD (8 + i) 0 = 0)

/-- Free words of the customer program store, and of the studio pool (R274). -/
def storeFree (s : State) : Nat := 32768 - s.brs.progs.foldl (fun a p => a + p.2.code.length) 0

def instStudio (s : State) (i : BInst) : Nat := ((tget s.brs.progs i.prog).map (·.studio)).getD 0

def studioFree (s : State) : Nat := 4194304 - s.brs.insts.foldl (fun a p => a + instStudio s p.2) 0

/-- The lowest address of `lo` to `hi` − 1 from which `n` words lie free of the ranges `used`, each a start and a length. -/
def firstFit (lo hi n : Nat) (used : List (Nat × Nat)) : Option Nat :=
  ((lo :: used.map (fun u => u.1 + u.2)).filter (fun a =>
    decide (lo ≤ a) && decide (a + n ≤ hi) && used.all (fun u => decide (a + n ≤ u.1) || decide (u.1 + u.2 ≤ a)))).foldl
    (fun m a => some (min (m.getD a) a)) none

/-- Code words put into every group's store from address `a` (R258). -/
def storePut (t : Table (BitVec 32)) (a : Nat) : List (BitVec 32) → Table (BitVec 32)
  | [] => t
  | w :: r => storePut ((List.range 16).foldl (fun t g => mset zeroWord t (65536 * g + a) w) t) (a + 1) r

/-- A word of the program store of group `g`: customer words from 32,768; the words of the Woyvex kernels are not in the spec. -/
def storeWord (s : State) (g a : Nat) : Word := if a < 32768 then Config.kernelWord a else mget zeroWord s.brs.store (65536 * g + a)

/-- The programs with their code laid end to end from address `a`. -/
def packProgs (a : Nat) : Table BProg → Table BProg
  | [] => []
  | (id, p) :: r => (id, { p with base := a }) :: packProgs (a + p.code.length) r

/-- Every program's code in every group's store, as firmware writes it from the images it keeps (R447). -/
def storesWrite (s : State) : State :=
  { s with brs := { s.brs with store := s.brs.progs.foldl (fun t p => storePut t p.2.base p.2.code) [] } }

/-- A program is loaded as `id`: its code goes where it first fits, after firmware has moved the others together where it fits nowhere
between them. -/
def progPut (s : State) (id : Nat) (p : BProg) : State :=
  let n := p.code.length
  match firstFit 32768 65536 n (s.brs.progs.map (fun q => (q.2.base, q.2.code.length))) with
  | some a =>
    { s with brs := { s.brs with progs := tset s.brs.progs id { p with base := a }, store := storePut s.brs.store a p.code } }
  | none =>
    let base := 32768 + s.brs.progs.foldl (fun a q => a + q.2.code.length) 0
    storesWrite { s with brs := { s.brs with progs := tset (packProgs 32768 s.brs.progs) id { p with base := base } } }

/-- BRS_PROG_LOAD (R258); `bad` is the index of the first code word that the check of the encoding fails. -/
def execBrsProgLoad (h : CmdHdr) (prog : BitVec 8) (addr : BitVec 64) (dma : Dma) (bad : Option (BitVec 16)) (s : State) :
    Host.Outcome State Fault Refusal :=
  act (command h OP_BRS_PROG_LOAD { modes := audModes, misaligned := addr.toNat % 64 ≠ 0, dmaFailed := dma.isNone } (fun s =>
    let ws := dmaWords dma
    let p := parseImage h.fn.toNat ws
    if thas s.brs.progs prog.toNat then (s, no BRS_ST_PROG_BUSY)
    else if !headerOk ws p then (s, no BRS_ST_IMAGE [Config.imageIdx prog.toNat])
    else
      match bad with
      | some i => (s, no BRS_ST_IMAGE [i.setWidth 32])
      | none =>
        if storeFree s < p.code.length then (s, no BRS_ST_STORE_FULL)
        else
          let s := progPut s prog.toNat p
          (s, ok [lo32 (storeFree s)]))) s

/-- BRS_PROG_UNLOAD (R258). -/
def execBrsProgUnload (h : CmdHdr) (prog : BitVec 8) (s : State) : Host.Outcome State Fault Refusal :=
  act (command h OP_BRS_PROG_UNLOAD { modes := audModes } (fun s =>
    match tget s.brs.progs prog.toNat with
    | none => (s, no BRS_ST_PROG_UNKNOWN)
    | some p =>
      if p.owner ≠ h.fn.toNat then (s, no BRS_ST_NOT_OWNER)
      else if s.brs.insts.any (fun i => i.2.prog = prog.toNat) then (s, no BRS_ST_PROG_BUSY)
      else ({ s with brs := { s.brs with progs := tdel s.brs.progs prog.toNat } }, ok))) s

/-! ## Binding (R259 to R261) -/

/-- What a point needs of the leg's audio record. -/
def pointOk (pt : Nat) (r : StreamRec) : Bool := if pt = 1 then r.txEn else r.rxEn && r.rxDec

/-- The charge of an instance. -/
def instItem (f pt : Nat) (p : BProg) : Item :=
  { owner := f, jobs := [⟨.brush, pt, 0, 1, 0, true, [⟨.work, 0, p.cycMax + 200⟩, ⟨.work, 8, 4 * p.xferMax + 320⟩]⟩]
    counts := [], sport := 0 }

/-- Cycles committed on a core, and window words used on it. -/
def coreSum (s : State) (c : Nat) (f : BProg → Nat) : Nat :=
  s.brs.insts.foldl (fun a i =>
    if i.2.core = c then a + ((tget s.brs.progs i.2.prog).map f).getD 0 else a) 0

def coreRoom (s : State) (c : Nat) (p : BProg) : Bool :=
  decide (coreSum s c (fun q => q.cycMax + 200) + p.cycMax + 200 ≤ 1250000 * (1000 - reserve s) / 1000)

/-- The windows of the instances on core `c` in one of its memories, each a base and a length (R242). -/
def coreWins (s : State) (c : Nat) (y : Bool) : List (Nat × Nat) :=
  (s.brs.insts.filter (fun i => i.2.core = c)).map (fun i =>
    (if y then i.2.yb else i.2.xb, ((tget s.brs.progs i.2.prog).map (fun p => winLen p y)).getD 0))

/-- Where a window of `p` goes in the windows area of one memory of core `c`: words 8,192 to 16,383 (R242, R249). -/
def winBase (s : State) (c : Nat) (p : BProg) (y : Bool) : Option Nat := firstFit 8192 16384 (winLen p y) (coreWins s c y)

def coreMem (s : State) (c : Nat) (p : BProg) : Bool := (winBase s c p false).isSome && (winBase s c p true).isSome

/-- A word of a core's X or Y memory: of the window it lies in, or of the core's own words (R241, R242). -/
def coreWord (s : State) (c : Nat) (y : Bool) (a : Nat) : Word :=
  match s.brs.insts.find? (fun i =>
    let b := if y then i.2.yb else i.2.xb
    i.2.core = c && decide (b ≤ a) && decide (a < b + ((tget s.brs.progs i.2.prog).map (fun p => winLen p y)).getD 0)) with
  | some (_, i) => i.word y (a - (if y then i.yb else i.xb))
  | none => mget zeroWord (if y then (coreOf s c).y else (coreOf s c).x) a

/-- The words from `b` to `b` + `n` − 1 of a memory give way to a window, which firmware writes whole (R261). -/
def winTake (t : Table (BitVec 32)) (b n : Nat) : Table (BitVec 32) :=
  t.filter (fun p => decide (p.1 < b) || decide (b + n ≤ p.1))

/-- A window's words stay in the core's memory when it is freed. -/
def winGive (t w : Table (BitVec 32)) (b : Nat) : Table (BitVec 32) := w.foldl (fun t p => tset t (b + p.1) p.2) t

/-- The core of lowest committed cycles among `cs`, ties to the lower BRUSH_ID. -/
def coreBest (s : State) : List Nat → Option Nat
  | [] => none
  | c :: r =>
    match coreBest s r with
    | none => some c
    | some d => if coreSum s d (fun q => q.cycMax + 200) < coreSum s c (fun q => q.cycMax + 200) then some d else some c

/-- BRS_TASK_BIND after R94: the checks of R260 in their order. -/
def taskBind (h : CmdHdr) (prog pt leg : Nat) (ps : List (BitVec 24)) (s : State) : State × Res :=
  let f := h.fn.toNat
  let k := 4 * leg + pt
  match legIn s leg with
  | none => (s, no BRS_ST_LEG)
  | some l =>
    if !pointOk pt (l.prof.rec' 0) then (s, no BRS_ST_LEG)
    else if l.item.owner ≠ f ∨ ((tget s.brs.progs prog).map (fun p => decide (p.owner ≠ f))).getD false then
      (s, no BRS_ST_NOT_OWNER)
    else
      match tget s.brs.progs prog with
      | none => (s, no BRS_ST_PROG_UNKNOWN)
      | some p =>
        if thas s.brs.insts k then (s, no BRS_ST_POINT_BUSY)
        else if !admOpen s then (s, no BRS_ST_CLOSED)
        else
          let it := instItem f pt p
          match capacityCheck s f (allItems s) it none with
          | some x => (s, no (if x.st = ADM_ST_FN_BUDGET then BRS_ST_FN_BUDGET else BRS_ST_NO_CAPACITY) x.area)
          | none =>
            let g := homeOf s leg
            let cores := ((List.range 32).map (fun c => 32 * g + c)).filter (fun c => coreRoom s c p)
            if !groupFits s (groupItems s g ++ [it]) || cores = [] then (s, no BRS_ST_GROUP)
            else
              match coreBest s (cores.filter (fun c => coreMem s c p)) with
              | none => (s, no BRS_ST_NO_MEMORY)
              | some c =>
                if studioFree s < p.studio then (s, no BRS_ST_NO_MEMORY)
                else
                  let e := effTick s
                  let xb := (winBase s c p false).getD 8192
                  let yb := (winBase s c p true).getD 8192
                  let i : BInst := { prog := prog, core := c, params := ps, xb := xb, yb := yb }
                  let i := (i.setWords false 0 p.ximg).setWords true 0 p.yimg
                  let s := setCore s c { coreOf s c with
                    x := winTake (coreOf s c).x xb p.xwin, y := winTake (coreOf s c).y yb p.ywin }
                  let s := setInst { s with adm := { s.adm with tasks := tset s.adm.tasks k it } } k i
                  (stage s e (.brsStart k), ok (effArea e ++ [BitVec.ofNat 32 c]))

/-- BRS_TASK_BIND (R260). -/
def execBrsTaskBind (h : CmdHdr) (prog : BitVec 8) (pt : BitVec 2) (leg : BitVec 14) (p0 p1 p2 p3 : BitVec 24) (s : State) :
    Host.Outcome State Fault Refusal :=
  act (command h OP_BRS_TASK_BIND { modes := audModes, reserved := pt = 3 }
    (taskBind h prog.toNat pt.toNat leg.toNat [p0, p1, p2, p3])) s

/-- Commit the end of an instance at effect tick `e` (R261). -/
def instEnd (s : State) (k e : Nat) : State :=
  match tget s.brs.insts k with
  | none => s
  | some i =>
    if i.gone then s else stageEnd (stage (setInst s k { i with gone := true }) e (.brsStop k)) (e - 1) (.brsGone k)

/-- The instance a command names, or the status that refuses it. -/
def instFor (s : State) (f pt leg : Nat) : Except (BitVec 16) BInst :=
  match legIn s leg with
  | none => .error BRS_ST_LEG
  | some l =>
    if l.item.owner ≠ f then .error BRS_ST_NOT_OWNER
    else
      match tget s.brs.insts (4 * leg + pt) with
      | none => .error BRS_ST_POINT_FREE
      | some i => if i.gone then .error BRS_ST_POINT_FREE else .ok i

/-- BRS_TASK_UNBIND (R261). -/
def execBrsTaskUnbind (h : CmdHdr) (pt : BitVec 2) (leg : BitVec 14) (s : State) : Host.Outcome State Fault Refusal :=
  act (command h OP_BRS_TASK_UNBIND { modes := audModes, reserved := pt = 3 } (fun s =>
    match instFor s h.fn.toNat pt.toNat leg.toNat with
    | .error st => (s, no st)
    | .ok _ => (instEnd s (4 * leg.toNat + pt.toNat) (effTick s), ok (effArea (effTick s))))) s

/-- BRS_STATS (R271). -/
def execBrsStats (h : CmdHdr) (clr : Bool) (pt : BitVec 2) (leg : BitVec 14) (s : State) : Host.Outcome State Fault Refusal :=
  act (command h OP_BRS_STATS { modes := audModes, reserved := pt = 3 } (fun s =>
    match instFor s h.fn.toNat pt.toNat leg.toNat with
    | .error st => (s, no st)
    | .ok i =>
      let w := BitVec.ofNat 32 (i.lastCause * 2 ^ 24 + (if i.suspended then 2 ^ 16 else 0) + min i.sigDrop 0xffff)
      let s := if clr then
          setInst s (4 * leg.toNat + pt.toNat) { i with nInv := 0, nAband := 0, maxCyc := 0, sigDrop := 0 } else s
      (s, ok [sat32 i.nInv, sat32 i.nAband, sat32 i.maxCyc, w]))) s

/-! ## Changes in force -/

def brsStartApply (s : State) (k : Nat) : State :=
  { s with brs := { s.brs with insts := tmod s.brs.insts k (fun i => { i with live := true }) } }

/-- The instance no longer runs. -/
def brsStopApply (s : State) (k : Nat) : State :=
  { s with brs := { s.brs with insts := tmod s.brs.insts k (fun i => { i with live := false }) } }

/-- Its windows, its studio region and its charges return. -/
def brsGoneApply (s : State) (k : Nat) : State :=
  let s := match tget s.brs.insts k with
    | some i => setCore s i.core { coreOf s i.core with
        x := winGive (coreOf s i.core).x i.x i.xb, y := winGive (coreOf s i.core).y i.y i.yb }
    | none => s
  { s with brs := { s.brs with insts := tdel s.brs.insts k }, adm := { s.adm with tasks := tdel s.adm.tasks k } }

/-! ## Events -/

/-- TASK_ARRIVAL (R262). -/
def execTaskArrival (leg : BitVec 14) (pt : BitVec 2) (s : State) : Host.Outcome State Fault Refusal :=
  act (arrive · (4 * leg.toNat + pt.toNat)) s

/-- XFER_COMPLETE (R265). -/
def execXferComplete (core : BitVec 9) (bad : List (BitVec 11)) (hits : List EccHit) (s : State) :
    Host.Outcome State Fault Refusal := act (xferComplete · core.toNat bad hits) s

/-- WAIT_TIMEOUT (R267): the wait in progress has lasted SCH_WAIT_TO × 100 ns, that is 80 local cycles each. -/
def execWaitTimeout (core : BitVec 9) (s : State) : Host.Outcome State Fault Refusal :=
  act (fun s =>
    match (coreOf s core.toNat).run.bind (·.stall) with
    | some w =>
      let due := w.since + 80 * fld s SCH_WAIT_TO
      let s := cycles s (due - s.clk.cyc)
      match (coreOf s core.toNat).run with
      | some r =>
        abandon (setCore s core.toNat { coreOf s core.toNat with run := some { r with cyc := r.cyc + waitCycles s w.since } })
          core.toNat 6
      | none => s
    | none => s) s

/-- CYCLE_BUDGET_REACHED (R268 cause 5): the invocation, its waits included, has reached CYC_MAX + 200 cycles. -/
def execCycleBudgetReached (core : BitVec 9) (s : State) : Host.Outcome State Fault Refusal :=
  act (fun s =>
    match (coreOf s core.toNat).run with
    | some r =>
      let waited := (r.stall.map (fun x => waitCycles s x.since)).getD 0
      let cap := ((tget s.brs.insts r.key).bind (fun i => tget s.brs.progs i.prog)).map (fun p => p.cycMax + 200)
      if (cap.map (fun n => decide (n ≤ r.cyc + waited))).getD false then
        abandon (setCore s core.toNat { coreOf s core.toNat with run := some { r with cyc := r.cyc + waited } }) core.toNat 5
      else s
    | none => s) s

/-- INSTANCE_SUSPEND (R270). -/
def execInstanceSuspend (leg : BitVec 14) (pt : BitVec 2) (s : State) : Host.Outcome State Fault Refusal :=
  act (fun s =>
    let k := 4 * leg.toNat + pt.toNat
    match tget s.brs.insts k with
    | some i =>
      if i.suspended ∨ i.consec < fld s SCH_FAULT_SUSPEND then s
      else
        raiseLeg (setBit (setInst s k { i with suspended := true }) BRS_ST_SUSPEND) k EV_BRS_SUSPEND
          (BitVec.ofNat 16 leg.toNat) (BitVec.ofNat 32 (pt.toNat * 2 ^ 16 + i.lastCause)) 0 0 0
    | none => s) s

/-- The end of WORK: invocations in progress are abandoned, and those not started count as overruns (R39, R268). -/
def brushEnd (s : State) : State :=
  let s := s.brs.cores.foldl (fun s p => if p.2.run.isSome then abandon s p.1 7 else s) s
  s.brs.insts.foldl (fun s p =>
    if p.2.live ∧ ¬ p.2.suspended ∧ ¬ (audLeg s (p.1 / 4)).quiet ∧ p.2.invAt ≠ some (curTick s) then
      overrun s (4 * (p.1 / 4)) 1 4
    else s) s

end Sys2Proof.Machine
end

