-- ==== Sys2Proof/Machine/Calib.lean ====
section
/-! DEFINITION. The calibration commands and the live-trim slots (R430 to R434). Log entries: 65, 66, 76. -/

namespace Sys2Proof.Machine

/-- The modes in which calibration commands are permitted (R434). -/
def calModes : List Nat := [2, 3, 4, 5, 6]

/-- A refused image: the first failing entry at result offset 0x08 (R427). -/
def glazeNo (st : BitVec 16) (i : Nat) : Res := no st [0, 0, BitVec.ofNat 32 i]

/-- CAL_GLAZE_LOAD (R427): the image is checked and replaces the store, or the store is emptied. -/
def execCalGlazeLoad (h : CmdHdr) (clear : Bool) (addr : BitVec 64) (dma : Dma) (s : State) : Host.Outcome State Fault Refusal :=
  act (command h OP_CAL_GLAZE_LOAD
    { fn0 := true, modes := calModes, misaligned := !clear && addr.toNat % 64 ≠ 0, dmaFailed := !clear && dma.isNone } (fun s =>
    if clear then ({ s with cal := { s.cal with store := none } }, ok [0])
    else
      let ws := dma.getD []
      let es := glazeEntries ws
      match glazeCheck1 ws with
      | some none => (s, no CAL_ST_IMAGE [0, 0, Config.glazeIdx (crc32 (wordBytes ws))])
      | some (some i) => (s, glazeNo CAL_ST_IMAGE i)
      | none =>
        match firstIdx glazeBadItem es, glazeDup es, firstIdx (glazeBadDelta s) es, firstIdx (glazeBadMap s) es with
        | some i, _, _, _ => (s, glazeNo CAL_ST_ITEM i)
        | none, some i, _, _ => (s, glazeNo CAL_ST_DUP i)
        | none, none, some i, _ => (s, glazeNo CAL_ST_LIMIT i)
        | none, none, none, some i => (s, glazeNo CAL_ST_MAPOUT i)
        | none, none, none, none =>
          ({ s with cal := { s.cal with store := some es } }, ok [BitVec.ofNat 32 es.length]))) s

/-- CAL_GLAZE_READ (R434): the image applied at the last PRIME, or the AON store. -/
def execCalGlazeRead (h : CmdHdr) (sel : Bool) (addr : BitVec 64) (s : State) : Host.Outcome State Fault Refusal :=
  act (command h OP_CAL_GLAZE_READ { fn0 := true, modes := calModes, misaligned := addr.toNat % 64 ≠ 0 } (fun s =>
    let es := if sel then s.cal.store.getD [] else s.cal.applied
    (hostWrites s addr.toNat (glazeWords es), ok [BitVec.ofNat 32 (fld s CAL_GLZ_SRC * 4096 + es.length)]))) s

/-- The live values of an index as Glaze entries: deltas from Gesso. -/
def liveEntries (s : State) (c i : Nat) : List GlzEnt :=
  let g := (gessoOf s c i).items
  let l := liveOf s c i
  (List.range (calItems c)).map (fun k => ⟨c, k, i, BitVec.ofInt 16 (l.getD k 0 - g.getD k 0)⟩)

/-- CAL_LIVE_READ (R432, R434): at most 1,024 entries, whole indices; the stack map has no live values. -/
def execCalLiveRead (h : CmdHdr) (cls : BitVec 8) (first count : BitVec 16) (addr : BitVec 64) (s : State) :
    Host.Outcome State Fault Refusal :=
  act (command h OP_CAL_LIVE_READ { fn0 := true, modes := calModes, misaligned := addr.toNat % 64 ≠ 0 } (fun s =>
    let c := cls.toNat
    if calItems c = 0 ∨ calCount c < first.toNat + count.toNat ∨ calCount c ≤ first.toNat then (s, no CAL_ST_ITEM)
    else
      let n := if c = 4 then 0 else min count.toNat (1024 / calItems c)
      let es := ((List.range n).map (fun j => liveEntries s c (first.toNat + j))).flatten
      (hostWrites s addr.toNat (glazeWords es), ok [BitVec.ofNat 32 es.length]))) s

/-- A record in force in the layout of R424. -/
def gessoWords (c i : Nat) (r : GessoRec) : List Word :=
  let body : List Word := [BitVec.ofNat 32 (c * 2 ^ 24 + 2 ^ 16 + i), BitVec.ofNat 32 (r.items.length * 65536),
    halves (BitVec.ofInt 16 r.lo) (BitVec.ofInt 16 r.hi)] ++ r.items.map (fun v => (BitVec.ofInt 16 v).setWidth 32)
  body ++ [BitVec.ofNat 32 (crc32 (wordBytes body))]

/-- CAL_GESSO_READ (R434). -/
def execCalGessoRead (h : CmdHdr) (cls : BitVec 8) (idx : BitVec 16) (addr : BitVec 64) (s : State) :
    Host.Outcome State Fault Refusal :=
  act (command h OP_CAL_GESSO_READ { fn0 := true, modes := calModes, misaligned := addr.toNat % 64 ≠ 0 } (fun s =>
    let c := cls.toNat
    let i := idx.toNat
    if calCount c ≤ i then (s, no CAL_ST_ITEM)
    else
      let r := gessoOf s c i
      let o := (r.outcome.getD (Config.gessoOutcome (calKey c i)).toNat)
      (hostWrites s addr.toNat (gessoWords c i r),
        ok [BitVec.ofNat 32 ((if r.defaulted then 256 else 0) + o * 16 + r.mask)]))) s

/-! ## Live trim (R430, R431) -/

/-- Live trim runs in these modes, while the Easel issues ticks (R430). -/
def trims (s : State) : Bool := [3, 4, 5, 6].contains (mode s) && s.easel.running

/-- The slot of record (c, i) in S3 of this tick, which trims it once: none outside S3 (R430). -/
def trimSlot (s : State) (c i : Nat) : Option State :=
  let k := calKey c i
  if trims s && segNow s = 3 && tget s.cal.slotAt k ≠ some (curTick s) then
    some { s with cal := { s.cal with slotAt := tset s.cal.slotAt k (curTick s) } }
  else none

/-- SERDES_TRIM_SLOT (R430, R431): the search on an Ethernet lane, or on Meash lane 9 × port + physical lane, found receive items
3 to 7 with the vertical and horizontal eye openings measured, beside those of the setting in use. -/
def execSerdesTrimSlot (msh : Bool) (lane : BitVec 6) (cand : List (BitVec 16)) (v h v0 h0 : BitVec 16) (s : State) :
    Host.Outcome State Fault Refusal :=
  act (fun s =>
    let c := if msh then 2 else 1
    match trimSlot s c lane.toNat with
    | none => s
    | some t =>
      if calCount c ≤ lane.toNat || v.toNat < v0.toNat || h.toNat < h0.toNat then s
      else
        let was := liveOf t c lane.toNat
        let t := (List.range 5).foldl (fun s j =>
          match cand[j]? with
          | some x => trimItem s c lane.toNat (3 + j) x.toInt
          | none => s) t
        { t with cal := { t.cal with moves := tset t.cal.moves (calKey c lane.toNat) (was, s.clk.cyc) } }) s

/-- SENSOR_TRIM_SLOT (R430, R431): the slot in S3 of tick N with N mod 1,200 = 600 ends with the segment, and the sensors' new offsets
and the boot oscillator's new trim are applied at its end. -/
def execSensorTrimSlot (temps volts : List (BitVec 16)) (osc : Option (BitVec 16)) (s : State) : Host.Outcome State Fault Refusal :=
  act (fun s =>
    match if curTick s % 1200 = 600 then trimSlot s 5 0 else none with
    | none => s
    | some t =>
      let put (c : Nat) (vs : List (BitVec 16)) (s : State) : State :=
        (List.range (min vs.length (calItems c))).foldl (fun s k => trimItem s c 0 k (vs.getD k 0).toInt) s
      put 7 osc.toList (put 6 volts (put 5 temps (advanceTo t (s.easel.start + 708333))))) s

end Sys2Proof.Machine
end

