-- ==== Sys2Proof/Machine/CanvasMath.lean ====
section
/-! DEFINITION. The arithmetic of Canvas, free of the rest of the state: mapping (R313), blending (R321), the scaler (R324),
Palette (R327, R328) and plates (R329). Log entries: 50, 51. -/

namespace Sys2Proof.Machine

/-! ## Mapping and slices (R313, R319) -/

/-- Edge and length of a span mapped from `w` to `wc` (R313). -/
def mapSpan (x n w wc : Nat) : Nat × Nat :=
  let a := 2 * (x * wc / (2 * w))
  (a, 2 * ((x + n) * wc / (2 * w)) - a)

/-- The first row pair of slice `j` (R319). -/
def pairAt (hc p j : Nat) : Nat := j * hc / (2 * p)

/-! ## Blending (R321) -/

/-- A layer's sample over the one below it. -/
def cnvBlend (v d a : Nat) : Nat := (v * a + d * (255 - a) + 127) / 255

/-- A 10-bit sample as an 8-bit output stores it. -/
def to8 (v : Nat) : Nat := min 255 ((v + 2) / 4)

/-! ## The scaler (R324) -/

/-- The taps of a pass from `ws` to `wd`. -/
def taps (ws wd : Nat) : Nat := 4 * max 1 ((ws + wd - 1) / wd)

/-- The cubic of Keys with a = −0.5 at x ≥ 0, in double precision, its terms left to right. -/
def keys (x : Rat) : Rat :=
  let mul (a b : Rat) : Rat := dbl (a * b)
  let add (a b : Rat) : Rat := dbl (a + b)
  if x ≤ 1 then add (add (mul (mul (mul (3 / 2) x) x) x) (-(mul (mul (5 / 2) x) x))) 1
  else if x < 2 then add (add (add (mul (mul (mul (-1 / 2) x) x) x) (mul (mul (5 / 2) x) x)) (-(mul 4 x))) 2
  else 0

/-- The coefficients of a pass for phase `ph`, in double precision and rounded, the middle one adjusted so that they sum to 1,024. -/
def scaleCoefs (ws wd ph : Nat) : List Int :=
  let t := taps ws wd
  let m : Rat := max 1 (dbl ((ws : Rat) / wd))
  let cs := (List.range t).map (fun (k : Nat) =>
    let n : Int := 64 * ((k : Int) - t / 2 + 1) - ph
    let c := dbl (dbl (1024 * keys (dbl ((n.natAbs : Rat) / 64 / m))) / m)
    ratRound c.num c.den)
  cs.modify (t / 2 - 1) (· + (1024 - cs.foldl (· + ·) 0))

/-- The source position of output position `i`, in 1/65,536. -/
def scalePos (crop ws wd i : Nat) : Int :=
  let step := ws * 65536 / wd
  (crop * 65536 : Nat) + (step / 2 : Nat) - 32768 + (i * step : Nat)

/-- One output of a pass over the samples `get`, from `ws` samples at `crop` to `wd`. -/
def scalePass (crop ws wd : Nat) (get : Nat → Nat) (i : Nat) : Nat :=
  let q := scalePos crop ws wd i
  let ph := (q / 1024 % 64).toNat
  let n0 := q / 65536
  let t := taps ws wd
  let cs := scaleCoefs ws wd ph
  let sum := (cs.zipIdx).foldl (fun (a : Int) (c, k) =>
    let n := max (crop : Int) (min ((crop : Int) + ws - 1) (n0 + k - t / 2 + 1))
    a + c * get n.toNat) 0
  (min 1023 (max 0 ((sum + 512) / 1024))).toNat

/-- The scaled sample at (i, j) of a plane read by `get x y`. -/
def scale2 (cx cy ws hs wd hd : Nat) (get : Nat → Nat → Nat) (i j : Nat) : Nat :=
  scalePass cy hs hd (fun y => scalePass cx ws wd (fun x => get x y) i) j

/-! ## Palette (R327, R328) -/

/-- Kr and Kb of a matrix: 0 BT.601, 1 BT.709, 2 BT.2020. -/
def mtxKr (m : Nat) : Rat := if m = 0 then 299 / 1000 else if m = 2 then 2627 / 10000 else 2126 / 10000
def mtxKb (m : Nat) : Rat := if m = 0 then 114 / 1000 else if m = 2 then 593 / 10000 else 722 / 10000

/-- Y0, SY and SC of a range. -/
def rngY0 (full : Bool) : Int := if full then 0 else 64
def rngSY (full : Bool) : Rat := if full then 1023 else 876
def rngSC (full : Bool) : Rat := if full then 1023 else 896

/-- The linear part L of E. -/
def palL (m : Nat) (full : Bool) (r g b : Rat) : List Rat :=
  let kr := mtxKr m
  let kb := mtxKb m
  let y := kr * r + (1 - kr - kb) * g + kb * b
  [rngSY full * y, rngSC full * (b - y) / (2 * (1 - kb)), rngSC full * (r - y) / (2 * (1 - kr))]

/-- L⁻¹ applied to a vector. -/
def palInv (m : Nat) (full : Bool) (y cb cr : Rat) : Rat × Rat × Rat :=
  let kr := mtxKr m
  let kb := mtxKb m
  let y := y / rngSY full
  let b := y + 2 * (1 - kb) * cb / rngSC full
  let r := y + 2 * (1 - kr) * cr / rngSC full
  (r, (y - kr * r - kb * b) / (1 - kr - kb), b)

/-- A coefficient in S2.13: rounded, ties away from zero, and held in range. -/
def s213 (x : Rat) : Int := max (-32768) (min 32767 (ratRound (x.num * 8192) x.den))

/-- Columns of M for a conversion from (ma, fa) to (mb, fb), one per input. -/
def palCols (ma mb : Nat) (fa fb : Bool) : List (List Int) :=
  ([(1, 0, 0), (0, 1, 0), (0, 0, 1)] : List (Rat × Rat × Rat)).map (fun (v : Rat × Rat × Rat) =>
    let (r, g, b) := palInv ma fa v.1 v.2.1 v.2.2
    (palL mb fb r g b).map s213)

/-- The columns of M for 8-bit RGB. -/
def rgbCols (m : Nat) (full : Bool) : List (List Int) :=
  ([(1, 0, 0), (0, 1, 0), (0, 0, 1)] : List (Rat × Rat × Rat)).map (fun (v : Rat × Rat × Rat) =>
    (palL m full (v.1 / 255) (v.2.1 / 255) (v.2.2 / 255)).map s213)

/-- Output `i` of Palette. -/
def palOut (cols : List (List Int)) (oIn : List Int) (oOut : Int) (i : Nat) (x : List Int) : Nat :=
  let sum := (List.range 3).foldl (fun a j => a + (cols.getD j []).getD i 0 * (x.getD j 0 - oIn.getD j 0)) 0
  (min 1023 (max 0 (oOut + (sum + 4096) / 8192))).toNat

/-! ## Plates (R329) -/

/-- Units of 4 KiB that a plate takes. -/
def plateUnits (w h : Nat) : Nat := (w * h * 5 / 2 + 4095) / 4096

/-- One element of a plate's list, with its image. -/
structure Elem where
  w : Nat
  h : Nat
  x : Nat
  y : Nat
  alpha : Nat
  stride : Nat
  img : ImgData

/-- The pixel (Y, Cb, Cr, alpha) after the elements in list order. -/
def platePixel (cols : List (List Int)) (full : Bool) (es : List Elem) (x y : Nat) : Nat × Nat × Nat × Nat :=
  let y0 := rngY0 full
  es.foldl (fun (c : Nat × Nat × Nat × Nat) e =>
    if e.x ≤ x ∧ x < e.x + e.w ∧ e.y ≤ y ∧ y < e.y + e.h then
      let o := (y - e.y) * e.stride + 4 * (x - e.x)
      let at' (i : Nat) : Nat := (e.img.getD (o + i) 0).toNat
      let a := (at' 3 * e.alpha + 127) / 255
      if a = 0 then c
      else
        let v := [(at' 0 : Int), (at' 1 : Int), (at' 2 : Int)]
        let p (i : Nat) (off : Int) : Nat := palOut cols [0, 0, 0] off i v
        let vy := p 0 y0
        let vb := p 1 512
        let vr := p 2 512
        if c.2.2.2 = 0 then (vy, vb, vr, a)
        else (cnvBlend vy c.1 a, cnvBlend vb c.2.1 a, cnvBlend vr c.2.2.1 a, a + (c.2.2.2 * (255 - a) + 127) / 255)
    else c) (y0.toNat, 512, 512, 0)

/-- The plate that the elements make: chroma by 2 × 2 blocks, samples in 8 bits. -/
def buildPlate (mtx : Nat) (full : Bool) (w h : Nat) (es : List Elem) : PlateImg :=
  let cols := rgbCols mtx full
  let px (x y : Nat) := platePixel cols full es x y
  { w := w, h := h, mtx := mtx, full := full
    y := (List.range (w * h)).map (fun i => to8 (px (i % w) (i / w)).1)
    a := (List.range (w * h)).map (fun i => (px (i % w) (i / w)).2.2.2)
    c := (List.range (w * h / 2)).map (fun i =>
      let bx := i % w / 2 * 2
      let by' := i / w * 2
      let f (p : Nat × Nat × Nat × Nat) : Nat := if i % 2 = 0 then p.2.1 else p.2.2.1
      to8 ((f (px bx by') + f (px (bx + 1) by') + f (px bx (by' + 1)) + f (px (bx + 1) (by' + 1)) + 2) / 4)) }

end Sys2Proof.Machine
end

