-- ==== Sys2Proof/Machine/VideoDec.lean ====
section
/-! DEFINITION. Video decode (R276 to R292): released frames, slices, publication, damage, key-picture waits, and the media
points of a decode context (R307). Log entries: 46, 47, 97, 103, 104, 105. -/

namespace Sys2Proof.Machine

def setDec (s : State) (k : Nat) (x : DecCtx) : State := { s with vid := { s.vid with dec := tset s.vid.dec k x } }

/-- The decode context of a stream, if one is open. -/
def decOf (s : State) (hd : Nat) : Option (Nat × DecCtx) := s.vid.dec.find? (fun p => p.2.hd = hd)

/-- Ask for a key picture of RX_SSRC_0 of the context's stream (R291). -/
def decKp (s : State) (x : DecCtx) : State := (kpRequest s x.hd 0).1

/-! ## Release of frames (R138, R289) -/

/-- Packets in order of their extended sequence numbers. -/
def insX (p : RelPkt) : List RelPkt → List RelPkt
  | [] => [p]
  | q :: r => if p.pkt.x < q.pkt.x then p :: q :: r else q :: insX p r

/-- Packets split where the RTP timestamp changes. -/
def tsGroups : List RelPkt → List (List RelPkt)
  | [] => []
  | p :: r =>
    match tsGroups r with
    | (q :: g) :: t => if p.pkt.ts = q.pkt.ts then (p :: q :: g) :: t else [p] :: (q :: g) :: t
    | _ => [[p]]

/-- Sequence numbers of consecutive packets differ by 1. -/
def noGap : List RelPkt → Bool
  | p :: q :: r => q.pkt.x = p.pkt.x + 1 && noGap (q :: r)
  | _ => true

/-- The frame of one group of packets; `nx` is the sequence number expected next. -/
def mkFrame (n : Nat) (nx : Option Nat) (g : List RelPkt) : Option VFrame :=
  g.head?.map (fun p =>
    { ts := p.pkt.ts, tick := p.pkt.tick, rel := n
      gap := !noGap g || !g.any (·.pkt.marker)
      lostBefore := (nx.map (fun m => decide (m < p.pkt.x))).getD false
      key := g.any (·.facts.key) })

/-- The frames of the groups, each with the number expected next before it. -/
def mkFrames (n : Nat) (nx : Option Nat) : List (List RelPkt) → List VFrame × Option Nat
  | [] => ([], nx)
  | g :: r =>
    let nx' := (g.getLast?.map (fun p => some (p.pkt.x + 1))).getD nx
    let (fs, m) := mkFrames n nx' r
    ((mkFrame n nx g).toList ++ fs, m)

/-- The items a stream released in GATHER reach its decode context: those of RX_SSRC_0, as frames (R280, R289). -/
def vidRelease (s : State) (hd : Nat) (rel : List RelPkt) : State :=
  match decOf s hd with
  | none => s
  | some (k, x) =>
    if !x.live then s
    else
      let ps := (rel.filter (fun p => p.pkt.ssrcIdx = 0)).foldl (fun l p => insX p l) []
      let (fs, nx) := mkFrames (curTick s) x.nextX (tsGroups ps)
      setDec s k { x with
        queue := x.queue ++ fs, nextX := nx, nBytes := x.nBytes + ps.foldl (fun a p => a + p.pkt.size) 0 }

/-- After a flush of the stream's queue the context discards every frame until a key picture arrives, the one in progress too (R292). -/
def vidFlush (s : State) (hd : Nat) : State :=
  match decOf s hd with
  | none => s
  | some (k, x) =>
    if x.live then
      decKp (setDec s k { x with needKey := true, nextX := none, queue := [], nDmg := x.nDmg + x.queue.length }) x
    else s

/-! ## Damage (R289 to R291) -/

/-- A condition of R289: counted; where `taint`, the context becomes TAINTED and asks for a key picture. -/
def vidDamage (s : State) (k cause tick : Nat) (taint : Bool) : State :=
  match tget s.vid.dec k with
  | none => s
  | some x =>
    let s := setBit (bump s VID_DEC_DMG_CNT 1) VID_ST_DEC_DAMAGED
    let first := taint && x.tainted.isNone
    let s := setDec s k { x with lastCause := cause, tainted := if first then some (curTick s) else x.tainted }
    if first then
      decKp (raise s x.owner EV_VID_DAMAGED (BitVec.ofNat 16 k) (BitVec.ofNat 32 cause) (lo32 tick) 0 0) x
    else s

/-- Several conditions of one frame. -/
def vidDamages (s : State) (k tick : Nat) (cs : List (Nat × Bool)) : State :=
  cs.foldl (fun s c => vidDamage s k c.1 tick c.2) s

/-- Drop the frame at the head of the queue. -/
def dropHead (s : State) (k : Nat) : State :=
  { s with vid := { s.vid with dec := tmod s.vid.dec k (fun x => { x with queue := x.queue.tail, nDmg := x.nDmg + 1 }) } }

/-- A frame is not decoded for cause 4 or 5: a key picture is needed at once (R292). -/
def rejectHead (s : State) (k cause tick : Nat) (taint : Bool) : State :=
  let s := dropHead (vidDamage s k cause tick taint) k
  match tget s.vid.dec k with
  | some x => decKp (setDec s k { x with needKey := true }) x
  | none => s

/-! ## Pictures (R284, R290) -/

/-- A sample of the substitute in a picture of the other bit depth: no rule converts it (R290). -/
def otherDepth (ten : Bool) (v : Nat) : Nat := if ten then (Config.otherDepth v).toNat else (Config.otherDepth v).toNat % 256

/-- The substitute picture for a picture of the given size and depth (R290): the last published one of that size. -/
def substitute (last : Option Pic) (w h : Nat) (ten : Bool) : Pic :=
  let grey : Pic := { w := w, h := h, ten := ten, tick := 0, y := List.replicate (w * h) (if ten then 512 else 128)
                      c := List.replicate (w * h / 2) (if ten then 512 else 128) }
  match last with
  | some p =>
    if p.w = w ∧ p.h = h then
      if p.ten = ten then p else { p with ten := ten, y := p.y.map (otherDepth ten), c := p.c.map (otherDepth ten) }
    else grey
  | none => grey

/-- Luma rows of the top layer whose samples are decoded when `done` samples of `area` are, in whole rows of blocks. -/
def rowsDone (w h area block done : Nat) : Nat :=
  if area ≤ done ∨ w = 0 ∨ block = 0 then h else (done - (area - w * h)) / (w * block) * block

/-- The rows of a plane: decoded ones from `a`, concealed ones from `b`. -/
def mixRows (w : Nat) (bad : Nat → Bool) (a b : List Nat) : List Nat :=
  (List.range a.length).map (fun i => if w ≠ 0 && bad (i / w) then b.getD i 0 else a.getD i 0)

/-- The picture of a frame: rows that `bad` names take the substitute's samples. -/
def vidPic (x : DecCtx) (f : VFrame) (v : VidFacts) (bad : Nat → Bool) (damaged : Bool) : Pic :=
  let w := v.w.toNat
  let h := v.h.toNat
  let sub := substitute x.last w h v.ten
  let pad (n : Nat) (l : List Nat) : List Nat := (l ++ List.replicate (n - l.length) 0).take n
  { w := w, h := h, ten := v.ten, tick := f.tick, damaged := damaged, key := f.key
    mtx := v.mtx.map (·.toNat), full := v.full
    y := mixRows w bad (pad (w * h) (v.y.map (·.toNat))) sub.y
    c := mixRows w (fun r => bad (2 * r)) (pad (w * h / 2) (v.c.map (·.toNat))) sub.c }

/-- An inject ring is bound to the context's output (R307). -/
def decInjected (s : State) (k : Nat) : Bool :=
  (mediaAt s (fun p => match p with
    | .videoDec c .. => c = k
    | _ => false)).any (fun m => !mediaCaps s m)

/-- The head frame is finished with the conditions `cs`: its picture is complete (R284, R289, R291). -/
def finishHead (s : State) (k : Nat) (f : VFrame) (v : VidFacts) (bad : Nat → Bool) (cs : List Nat) : State :=
  let s := vidDamages s k f.tick (cs.map (·, true))
  match tget s.vid.dec k with
  | none => s
  | some x =>
    let codec := (liveRec s x.hd).codec
    let good := cs = [] && f.key && (codec ≠ 0x12 || v.layers)
    let pic := vidPic x f v bad (cs ≠ [])
    let pic := { pic with clean := f.key && cs = [] && (x.tainted.isNone || good) }
    let inj := decInjected s k
    let refs := (x.refs ++ [(f.ts, decide (cs ≠ []))]).filter (fun r => v.keep.contains r.1)
    let y : DecCtx := { x with
      queue := x.queue.tail, refs := refs, tainted := if good then none else x.tainted
      pubs := if inj then x.pubs else x.pubs ++ [pic], last := if inj then x.last else some pic
      nPic := if inj then x.nPic else x.nPic + 1, nKey := if f.key then x.nKey + 1 else x.nKey
      nDmg := if cs = [] then x.nDmg else x.nDmg + 1 }
    let s := setDec s k y
    match good, x.tainted with
    | true, some t => raise s x.owner EV_VID_CLEAN (BitVec.ofNat 16 k) (sat32 (curTick s - t)) 0 0 0
    | _, _ => s

/-- Row `r` lies in a range (first, count). -/
def inRows (r : Nat) (m : BitVec 16 × BitVec 16) : Bool := decide (m.1.toNat ≤ r) && decide (r < m.1.toNat + m.2.toNat)

/-- The conditions of a frame decoded up to `rows`, beside its deadline, and its concealed rows (R289): those missing, what a syntax
error leaves of its slice, and everything from a suppressed write on. -/
def frameConds (x : DecCtx) (f : VFrame) (v : VidFacts) (rows : Nat) : List Nat × (Nat → Bool) :=
  let absent := f.refUe || v.refs.any (fun t => !(x.refs.any (fun r => r.1 = t && !r.2)))
  let syn := v.syn.filter (fun m => decide (m.1.toNat < rows))
  let bounds := v.bounds.filter (fun b => decide (b.toNat < rows))
  ((if f.gap then [0] else []) ++ (if absent then [2] else []) ++ (if syn = [] then [] else [3])
      ++ (if bounds = [] then [] else [7]),
   fun r => syn.any (inRows r) || bounds.any (fun b => decide (b.toNat ≤ r)) || (f.gap && v.missing.any (inRows r)))

/-- The luma rows of the top layer that `done` samples of a frame of context `x` reach. -/
def rowsAt (s : State) (x : DecCtx) (v : VidFacts) (done : Nat) : Nat :=
  let r := liveRec s x.hd
  rowsDone v.w.toNat v.h.toNat v.area.toNat (((vidCap r.codec r.cprof).map (·.block)).getD 16) done

/-- The writes suppressed while decoding went from row `a` to row `b`: each is counted (R286). -/
def boundHits (s : State) (v : VidFacts) (a b : Nat) : State :=
  let n := (v.bounds.filter (fun q => decide (a ≤ q.toNat) && decide (q.toNat < b))).length
  if n = 0 then s else setBit (bump s VID_BOUND_CNT n) VID_ST_BOUND

/-! ## Slices (R283) -/

/-- The sizes of a frame against R276 and the record: the cause that keeps it from being decoded. -/
def sizeCause (r : StreamRec) (dpbN : Nat) (v : VidFacts) : Option Nat :=
  let w := v.w.toNat
  let h := v.h.toNat
  if w % 2 ≠ 0 ∨ h % 2 ≠ 0 ∨ w < 64 ∨ h < 64 then some 4
  else if r.rxW < w ∨ r.rxH < h ∨ r.rxW * r.rxH < v.area.toNat then some 5
  else if (r.codec = 0x10 ∨ r.codec = 0x11) ∧ dpbN < v.keep.length then some 5
  else none

/-- Start the head frame with its facts: the conditions found before it is decoded. -/
def startHead (s : State) (k : Nat) (f : VFrame) (v : VidFacts) : State :=
  match tget s.vid.dec k with
  | none => s
  | some x =>
    let r := liveRec s x.hd
    let s := if f.lostBefore && !x.needKey then vidDamage s k 1 f.tick true else s
    if v.hdr ≠ 0 then rejectHead s k 4 f.tick (v.hdr ≠ 2)
    else
      match sizeCause r x.dpbN v with
      | some c => rejectHead s k c f.tick true
      | none =>
        { s with vid := { s.vid with dec := tmod s.vid.dec k (fun x =>
          { x with needKey := false, queue := { f with facts := some v } :: x.queue.tail }) } }

/-- Decode the queue of a context within `px` pixels: `fs` are the facts of the frames it starts; `n` bounds the steps. -/
def decRun (s : State) (k px : Nat) (fs : List VidFacts) (n : Nat) : State :=
  match n with
  | 0 => s
  | n + 1 =>
    match tget s.vid.dec k with
    | none => s
    | some x =>
      match x.queue with
      | [] => s
      | f :: rest =>
        match f.facts with
        | none =>
          if x.needKey && !f.key then decRun (dropHead s k) k px fs n
          else
            match fs with
            | [] => s
            | v :: fs => decRun (startHead s k f v) k px fs n
        | some v =>
          let take := min px (v.area.toNat - f.done)
          let s := boundHits s v (rowsAt s x v f.done) (rowsAt s x v (f.done + take))
          let f := { f with done := f.done + take }
          if f.done < v.area.toNat then setDec s k { x with queue := f :: rest }
          else
            let (cs, bad) := frameConds x f v v.h.toNat
            decRun (finishHead s k f v bad cs) k (px - take) fs n

/-- An uncorrectable word that the slice read: of context state or the bitstream (cause 4), or of a reference (cause 2, R412). -/
def decErrors (s : State) (k : Nat) (hits : List EccHit) : State :=
  let t := eccHits s hits
  match (tget s.vid.dec k).bind (fun x => x.queue.head?) with
  | none => t
  | some f =>
    if eccBad s hits [1, 2, 4] then rejectHead t k 4 f.tick true
    else if eccBad s hits [6, 7, 8, 9] then
      { t with vid := { t.vid with dec := tmod t.vid.dec k (fun x =>
        { x with queue := { f with refUe := true } :: x.queue.tail }) } }
    else t

/-- It is context `k`'s turn on its engine: no context of a lower number on the same engine still has work to do in this WORK (R282). -/
def decTurn (s : State) (k : Nat) (x : DecCtx) : Bool :=
  !s.vid.dec.any (fun p => decide (p.1 < k) && p.2.engine = x.engine && p.2.live && !p.2.queue.isEmpty
    && p.2.ranAt ≠ some (curTick s))

/-- VIDEO_DECODE_SLICE (R283): in WORK, once a tick for a context. -/
def execVideoDecodeSlice (ctx : BitVec 12) (facts : List VidFacts) (hits : List EccHit) (s : State) :
    Host.Outcome State Fault Refusal :=
  act (fun s =>
    let k := ctx.toNat
    match tget s.vid.dec k with
    | none => s
    | some x =>
      if ¬ s.easel.work ∨ ¬ x.live ∨ x.ranAt = some (curTick s) ∨ ¬ decTurn s k x then s
      else
        let s := decErrors (setDec s k { x with ranAt := some (curTick s) }) k hits
        decRun s k x.px facts (3 * x.queue.length + 3)) s

/-- The head frame is abandoned with cause 6: rows not decoded are concealed (R283, R289, R290). `count`: as an overrun, which work of
a skipped tick is not (R26). -/
def abandonHead (count : Bool) (s : State) (k : Nat) : State :=
  match tget s.vid.dec k with
  | none => s
  | some x =>
    match x.queue with
    | [] => s
    | f :: _ =>
      let s := if count then overrun s x.hd 1 5 else s
      if x.needKey && !f.key then dropHead s k
      else
        let r := liveRec s x.hd
        match f.facts with
        | some v =>
          let rows := rowsAt s x v f.done
          let (cs, bad) := frameConds x f v rows
          finishHead s k f v (fun q => bad q || decide (rows ≤ q)) (cs ++ [6])
        | none =>
          let s := if f.lostBefore && !x.needKey then vidDamage s k 1 f.tick true else s
          let (w, h, t) := match x.last with
            | some p => (p.w, p.h, p.ten)
            | none => (r.rxW, r.rxH, decide (r.rxDepth = 1))
          let v : VidFacts := ⟨BitVec.ofNat 16 w, BitVec.ofNat 16 h, BitVec.ofNat 32 (w * h), t, 0, [], (x.refs.map (·.1)),
            [], [], [], x.last.bind (fun p => p.mtx.map (BitVec.ofNat 2)), (x.last.map (·.full)).getD false, false, [], []⟩
          let s := { s with vid := { s.vid with dec := tmod s.vid.dec k (fun x => { x with needKey := false }) } }
          finishHead s k { f with key := false } v (fun _ => true) ((if f.gap then [0] else []) ++ [6])

/-- Abandon heads whose deadline is this WORK, or one of a skipped tick before it; `n` bounds them. -/
def abandonLate (count : Bool) (s : State) (k p n : Nat) : State :=
  match n with
  | 0 => s
  | n + 1 =>
    match (tget s.vid.dec k).bind (fun x => x.queue.head?) with
    | some f => if f.rel + p ≤ curTick s + (if count then 1 else 0) then abandonLate count (abandonHead count s k) k p n else s
    | none => s

/-! ## Media points (R307) -/

/-- The words of a picture in a media buffer: luma lines, then chroma lines (R103). -/
def picLines (p : Pic) (stride : Nat) : List (Nat × List Word) :=
  let bytes (v : Nat) : List Byte :=
    if p.ten then [BitVec.ofNat 8 (v * 64), BitVec.ofNat 8 (v * 64 / 256)] else [BitVec.ofNat 8 v]
  let line (l : List Nat) : List Word := bytesWords (l.flatMap bytes)
  (List.range p.h).map (fun r => (r * stride, line ((p.y.drop (r * p.w)).take p.w)))
    ++ (List.range (p.h / 2)).map (fun r => ((p.h + r) * stride, line ((p.c.drop (r * p.w)).take p.w)))

/-- The bytes of a picture's lines (R103). -/
def picBytes (w h : Nat) (ten : Bool) : Nat := w * h * 3 / 2 * (if ten then 2 else 1)

/-- The picture an inject entry holds. -/
def MEnt.picture (e : MEnt) (w h n : Nat) (ten : Bool) : Pic :=
  let bs := wordBytes e.data
  let smp (o i : Nat) : Nat :=
    if ten then ((bs.getD (o + 2 * i) 0).toNat + 256 * (bs.getD (o + 2 * i + 1) 0).toNat) / 64 else (bs.getD (o + i) 0).toNat
  { w := w, h := h, ten := ten, tick := n
    y := (List.range (w * h)).map (fun i => smp (i / w * e.stride) (i % w))
    c := (List.range (w * h / 2)).map (fun i => smp ((h + i / w) * e.stride) (i % w)) }

/-- Give a capture ring one picture (R307). -/
def mediaPicture (s : State) (m : Nat) (pic : Pic) : State :=
  let r := mediaOf s m
  match r.point with
  | none => s
  | some p =>
    let n := curTick s
    let (a, h, b) := mediaHead p n r.ents
    match h with
    | some e =>
      let s := (picLines pic e.stride).foldl (fun s l => fnWrites s (m / 64) (e.buf + l.1) l.2) s
      let e := { e with pos := picBytes pic.w pic.h pic.ten, start := some n, st := some 0 }
      mediaGap (setMedia s m { r with ents := a ++ e :: b }) m true
    | none => mediaGap (setMedia s m { r with ents := a ++ b }) m false

/-- Capture rings at a decode context's output take each published picture. -/
def decCapture (s : State) (k : Nat) (pic : Pic) : State :=
  ((mediaAt s (fun p => match p with
    | .videoDec c .. => c = k
    | _ => false)).filter (mediaCaps s)).foldl (fun s m => mediaPicture s m pic) s

/-- Inject rings at decode contexts: an entry that can start becomes the current picture (R307). A ring that holds no entry for the
tick is in a gap (R105); here an entry that waits for a later START_TICK is no gap: the model's choice, log entry 47. -/
def vidInject (s : State) : State :=
  ((mediaAt s (fun p => match p with
    | .videoDec .. => true
    | _ => false)).filter (fun m => !mediaCaps s m)).foldl (fun s m =>
      let r := mediaOf s m
      match r.point with
      | some (.videoDec k w h ten) =>
        let n := curTick s
        let (a, hd, b) := mediaHead (.videoDec k w h ten) n r.ents
        match hd with
        | some e =>
          let e' := { e with pos := picBytes w h ten, start := some n, st := some (if e.isLate n then GEN_ST_MEDIA_LATE else 0) }
          let s := mediaGap (setMedia s m { r with ents := a ++ e' :: b }) m true
          { s with vid := { s.vid with dec := tmod s.vid.dec k (fun x => { x with cur := some (e.picture w h n ten) }) } }
        | none => mediaGap (setMedia s m { r with ents := a ++ b }) m (!b.isEmpty)
      | _ => s) s

/-- The end of WORK for decode: slices that did not run and frames past their deadline are abandoned; completed pictures
become current (R39, R283, R284). -/
def decEnd (s : State) : State :=
  s.vid.dec.foldl (fun s p =>
    let k := p.1
    if !p.2.live then s
    else
      let pr := (liveRec s p.2.hd).pRx
      let s := if p.2.ranAt ≠ some (curTick s) then abandonHead true s k else s
      let s := abandonLate true s k pr (p.2.queue.length + 1)
      match tget s.vid.dec k with
      | some x =>
        let s := x.pubs.foldl (fun s pic => decCapture s k pic) s
        { s with vid := { s.vid with dec := tmod s.vid.dec k (fun x =>
          { x with cur := (x.pubs.getLast?).orElse (fun _ => x.cur), pubs := [] }) } }
      | none => s) s

/-- Skipped ticks for a decode context (R26): the frame whose decode falls in each of the `n` skipped ticks is abandoned, and so are
those whose deadlines passed. -/
def decSkip (n : Nat) (s : State) (k : Nat) (x : DecCtx) : State :=
  if !x.live then s
  else
    let s := (List.range (min n x.queue.length)).foldl (fun s _ => abandonHead false s k) s
    abandonLate false s k (liveRec s x.hd).pRx x.queue.length

/-! ## Key-picture waits (R170, R291) -/

/-- The decode context of a stream waits for a key picture. -/
def decWaits (s : State) (hd : Nat) : Bool :=
  match decOf s hd with
  | some (_, x) => x.live && (x.needKey || x.tainted.isSome)
  | none => false

/-- EV_FWD_KP_TIMEOUT of the subscriptions that waited through three requests, once for each wait. -/
def kpTimeouts (s : State) (hd i : Nat) : State :=
  (s.fwd.subs.filter (fun p => p.2.src = hd && subWaits p.2 = some i && decide (3 ≤ p.2.tries) && !p.2.toRaised)).foldl
    (fun s p =>
      raise (setSub s p.1 { p.2 with toRaised := true }) p.2.owner EV_FWD_KP_TIMEOUT (BitVec.ofNat 16 p.2.dst)
        (BitVec.ofNat 32 p.1) (((tget s.net.bound hd).map (fun b => b.blk.ssrcs.getD i 0)).getD 0) 0 0) s

/-- A key picture of SSRC `i` of stream `hd` is still waited for: by a subscription, by the decode context, or for want of an AV1
structure (R157, R170, R291). -/
def kpWaits (s : State) (hd : BitVec 16) (i : BitVec 2) : Bool :=
  s.fwd.subs.any (fun p => p.2.src = hd.toNat && subWaits p.2 = some i.toNat) || (i = 0 && decWaits s hd.toNat)
    || (srcOf s hd.toNat).noStruct

/-- KP_GAP_END (R170): FWD_KP_GAP ticks after the last request to SSRC `i` of stream `hd`, the request is repeated while one
is still waited for. -/
def execKpGapEnd (hd : BitVec 16) (i : BitVec 2) (s : State) : Host.Outcome State Fault Refusal :=
  act (fun s =>
    let k := 4 * hd.toNat + i.toNat
    match tget s.fwd.kps k with
    | none => s
    | some r =>
      if (r.sentAt.map (fun t => decide (curTick s < t + fld s FWD_KP_GAP))).getD true then s
      else
        let waits := kpWaits s hd i
        let s := { s with fwd := { s.fwd with
          kps := tset s.fwd.kps k { r with merged := false, due := r.due || waits, sentAt := if waits then r.sentAt else none } } }
        kpTimeouts s hd.toNat i.toNat) s

end Sys2Proof.Machine
end

