-- ==== Sys2Proof/Machine/VideoEnc.lean ====
section
/-! DEFINITION. Video encode (R293 to R306): receiving legs and their limits, layers, rate control, slices, packets, key
pictures. Log entries: 48, 100, 101, 102, 104. -/

namespace Sys2Proof.Machine

def setEnc (s : State) (k : Nat) (x : EncCtx) : State := { s with vid := { s.vid with enc := tset s.vid.enc k x } }

def modEnc (s : State) (k : Nat) (f : EncCtx → EncCtx) : State :=
  { s with vid := { s.vid with enc := tmod s.vid.enc k f } }

/-! ## Legs that receive an encode (R295, R303) -/

/-- A leg's profile in force receives the encode. -/
def receives (x : EncCtx) (leg : Nat) (p : Profile) : Bool :=
  if x.own then leg = x.item && p.ownEnc else p.compose && !p.ownEnc && p.layout = x.item && (p.rec' 1).txEn

/-- The legs that receive the encode with their stream 1 records, in LEG_ID order. -/
def receivers (s : State) (x : EncCtx) : List (Nat × StreamRec) :=
  s.adm.legs.filterMap (fun l =>
    match l.2.live with
    | some p => if receives x l.1 p then some (l.1, p.rec' 1) else none
    | none => none)

/-- The smallest of a list, none when it is empty. -/
def minOf (l : List Nat) : Option Nat :=
  match l with
  | [] => none
  | a :: r => some (r.foldl min a)

/-- F_pkt (R295) as firmware computes it; with no leg receiving nothing limits it. -/
def fPkt (s : State) (x : EncCtx) : Nat := (minOf ((receivers s x).map (fun l => l.2.txPktMax))).getD 65535

/-- Bo and No of a record (R57). -/
def boOf (r : StreamRec) : Nat := cdiv (r.txKbps * 125) 1200
def noOf (r : StreamRec) : Nat := cdiv r.txPps 1200

/-! ## The AV1 dependency descriptor (R296, R298) -/

/-- Its packets carry the dependency descriptor or the frame-marking element (R296). -/
def needExt (x : EncCtx) : Bool :=
  (x.codec = 0x12 && (decide (1 < x.sLay) || decide (1 < x.tLay))) || (x.codec = 0x10 && decide (1 < x.tLay))

/-- The templates of an encode: spatial id, temporal id, key. Each spatial layer has one for its key pictures, then one for each temporal
id. -/
def ddTpls (x : EncCtx) : List (Nat × Nat × Bool) :=
  (List.range x.sLay).flatMap (fun s => (s, 0, true) :: (List.range x.tLay).map (fun t => (s, t, false)))

/-- The frame-number differences of a template's dependencies (R298, R299): its own layer in the reference picture, and the layer below. -/
def ddBack (x : EncCtx) (p : Nat × Nat × Bool) : List Nat :=
  (if p.2.2 then [] else [x.sLay * 2 ^ (x.tLay - 1 - p.2.1)]) ++ (if p.1 = 0 then [] else [1])

/-- A template's indication for the decode target of layer (s, t): absent, Required, or Switch on a key picture and on every picture with a
temporal id above 0 (R298). -/
def ddDti (p : Nat × Nat × Bool) (s t : Nat) : Nat :=
  if s < p.1 ∨ t < p.2.1 then 0 else if p.2.2 ∨ 0 < p.2.1 then 2 else 3

/-- How the next template's layer follows: the same, the next temporal, the next spatial, or none. -/
def ddNext : List (Nat × Nat × Bool) → List Nat
  | p :: q :: r => (if q.1 ≠ p.1 then 2 else if q.2.1 ≠ p.2.1 then 1 else 0) :: ddNext (q :: r)
  | [_] => [3]
  | [] => []

/-- The template dependency structure: no offset, no chains, no resolutions. -/
def ddStructure (x : EncCtx) : Bits :=
  let ts := ddTpls x
  let n := x.sLay * x.tLay
  putBits 6 0 ++ putBits 5 (n - 1) ++ (ddNext ts).flatMap (putBits 2)
    ++ ts.flatMap (fun p => (List.range n).flatMap (fun d => putBits 2 (ddDti p (d / x.tLay) (d % x.tLay))))
    ++ ts.flatMap (fun p => (ddBack x p).flatMap (fun d => true :: putBits 4 (d - 1)) ++ [false])
    ++ putBits (Nat.log2 (n + 1)) 0 ++ [false]

/-- The descriptor of a packet of layer `sid` of picture `no`: first and last packet of its frame, temporal id, and the structure. -/
def ddElement (x : EncCtx) (no sid tid : Nat) (key first last str : Bool) : List Byte :=
  bitBytes ([first, last] ++ putBits 6 (sid * (x.tLay + 1) + (if key then 0 else 1 + tid)) ++ putBits 16 (no * x.sLay + sid)
    ++ (if str then [true, false, false, false, false] ++ ddStructure x else []))

/-- Words of a header extension that holds an element of `n` bytes, in the one-byte form up to 16 bytes. -/
def elWords (n : Nat) : Nat := cdiv (if n ≤ 16 then n + 1 else n + 2) 4

/-- The most words of header extension a packet of the encode carries: those of a key picture's structure (R303). -/
def extWords (x : EncCtx) : Nat :=
  if !needExt x then 0 else if x.codec = 0x12 then elWords (ddElement x 0 0 0 true true true true).length else 1

/-- RTP header bytes with a header extension of `e` words (R303). -/
def rtpBytes (e : Nat) : Nat := 12 + (if e = 0 then 0 else 4 * (1 + e))

/-- The overhead h of a leg (R303). -/
def encOverhead (s : State) (x : EncCtx) (leg : Nat) : Nat := rtpBytes (extWords x) + txTag s (4 * leg + 1)

/-- TICK_CAP (R303); with no leg receiving nothing limits it. -/
def tickCap (s : State) (x : EncCtx) : Nat :=
  (minOf ((receivers s x).map (fun l =>
    let h := encOverhead s x l.1
    min (boOf l.2 - h * noOf l.2) (noOf l.2 * (x.fpkt - h))))).getD 0xffffffff

/-- A leg has started or stopped receiving the encode: F_pkt and TICK_CAP are computed again (R295, R303). -/
def encLimits (s : State) (k : Nat) : State :=
  modEnc s k (fun x =>
    let x := { x with fpkt := fPkt s x }
    { x with tcap := tickCap s x })

/-- Rate settings take effect, and TICK_CAP is computed again (R303, R304). -/
def encRateApply (s : State) (k : Nat) (r : EncRate) : State :=
  modEnc s k (fun x => { x with rate := some r, tcap := tickCap s x })

/-! ## Layers and blocks (R294, R298, R299) -/

/-- The sizes of the spatial layers, lowest first; `n` layers, the top one `w` × `h` (R299). -/
def encLayers (w h n : Nat) : List (Nat × Nat) :=
  match n with
  | 0 => []
  | n + 1 => encLayers ((w / 2 + 1) / 2 * 2) ((h / 2 + 1) / 2 * 2) n ++ [(w, h)]

/-- Nb (R294). -/
def encBlocks (x : EncCtx) : Nat :=
  let b := ((vidCap x.codec x.cprof).map (·.block)).getD 16
  (encLayers x.w x.h x.sLay).foldl (fun a l => a + cdiv l.1 b * cdiv l.2 b) 0

/-- The first block of slice `j` (R294). -/
def sliceAt (nb p j : Nat) : Nat := j * nb / p

/-- The temporal id of picture `k` of the pattern, and its weight in hundredths (R298). -/
def encTid (layers k : Nat) : Nat :=
  match layers with
  | 2 => k % 2
  | 3 => if k % 4 = 0 then 0 else if k % 4 = 2 then 1 else 2
  | _ => 0

def encWeight (layers tid : Nat) : Nat :=
  match layers, tid with
  | 2, 0 => 125
  | 2, _ => 75
  | 3, 0 => 160
  | 3, 1 => 100
  | 3, _ => 70
  | _, _ => 100

/-! ## Budgets (R300, R301) -/

/-- β and the header reserve (R301). -/
def encBeta (codec : Nat) (key : Bool) : Nat × Nat :=
  match codec, key with
  | 0x10, false => (2, 64)
  | 0x10, true => (16, 256)
  | 0x11, false => (4, 64)
  | 0x11, true => (24, 320)
  | 0x12, false => (4, 64)
  | 0x12, true => (48, 512)
  | _, false => (2, 32)
  | _, true => (16, 128)

/-- Rmin of `n` blocks with `slices` of their slices not yet started (R301). -/
def rMin (codec : Nat) (key : Bool) (slices n : Nat) : Nat := 16 * slices + cdiv ((encBeta codec key).1 * n) 8

/-- M_pic (R301). -/
def mPic (x : EncCtx) (key : Bool) : Nat := (encBeta x.codec key).2 + rMin x.codec key x.period (encBlocks x)

/-- R_bytes (R300). -/
def rBytes (x : EncCtx) (r : EncRate) : Nat := r.kbps * 125 * x.period / 1200

/-- T_nom of a picture (R300). -/
def tNom (x : EncCtx) (r : EncRate) (key : Bool) (tid : Nat) : Nat :=
  if key then rBytes x r * r.mult else rBytes x r * encWeight x.tLay tid / 100

/-- B_pic (R300); for VP8 further limited to TICK_CAP (R303). -/
def bPic (x : EncCtx) (r : EncRate) (key : Bool) (tid cap : Nat) : Nat :=
  let t := tNom x r key tid
  let te := max (t / 4) (t - x.debt)
  let b := min r.cap (max (mPic x key) (te * r.pct / 100))
  if x.codec = 0x13 then min b cap else b

/-- The floors of R303: FRAME_CAP under a key picture's M_pic, or TICK_CAP under the largest slice of one. -/
def capTooLow (x : EncCtx) (r : EncRate) (cap : Nat) : Bool :=
  let nb := encBlocks x
  let largest := (List.range x.period).foldl (fun m j => max m (sliceAt nb x.period (j + 1) - sliceAt nb x.period j)) 0
  decide (r.cap < mPic x true) || decide (cap < rMin x.codec true 1 largest + (encBeta x.codec true).2)

/-! ## Key pictures (R305, R306) -/

/-- A request by command or from a receiver: merged when it falls within VID_ENC_KP_GAP of the last key picture. -/
def keyRequest (s : State) (k reason : Nat) : State × Bool :=
  match tget s.vid.enc k with
  | none => (s, false)
  | some x =>
    let e := effTick s
    let gapEnd := (x.lastKey.map (· + fld s VID_ENC_KP_GAP)).getD 0
    let merged := decide (curTick s < gapEnd)
    (setEnc s k { x with reqs := x.reqs ++ [⟨e, if merged then max e gapEnd else e, reason⟩] }, merged)

/-- A PLI or FIR received on stream 1 of leg `leg` that names its TX_SSRC (R127, R305). -/
def encFeedback (s : State) (leg : Nat) (targets : List Nat) : State :=
  match tget s.net.bound (4 * leg + 1) with
  | none => s
  | some b =>
    if !targets.contains b.blk.txSsrc.toNat then s
    else
      s.vid.enc.foldl (fun s p =>
        if p.2.live && (receivers s p.2).any (fun l => l.1 = leg) then (keyRequest s p.1 2).1 else s) s

/-- KEY_INT_EXPIRY (R305): KEY_INT ticks have passed since the last key picture, at or before the tick that starts next. -/
def execKeyIntExpiry (ctx : BitVec 10) (s : State) : Host.Outcome State Fault Refusal :=
  act (fun s =>
    match tget s.vid.enc ctx.toNat with
    | some x =>
      match x.lastKey with
      | some t =>
        if x.live ∧ x.keyInt ≠ 0 ∧ t + x.keyInt ≤ curTick s + 1 ∧ ¬ x.reqs.any (fun r => r.reason = 3) then
          setEnc s ctx.toNat { x with reqs := x.reqs ++ [⟨t + x.keyInt, t + x.keyInt, 3⟩] }
        else s
      | none => s
    | none => s) s

/-- Why the picture that starts in tick `n` is a key picture, if it is (R305, R306). -/
def keyReason (x : EncCtx) (n : Nat) : Option Nat :=
  if x.lastKey.isNone then some 0
  else if x.keyNext then some 4
  else (x.reqs.find? (fun r => r.eff ≤ n)).map (·.reason)

/-! ## A picture starts (R293, R300, R304, R305) -/

/-- Capture rings at an encode context's input (R307). -/
def encCapture (s : State) (k : Nat) (pic : Pic) : State :=
  ((mediaAt s (fun p => match p with
    | .videoEnc c .. => c = k
    | _ => false)).filter (mediaCaps s)).foldl (fun s m => mediaPicture s m pic) s

/-- Buffer `i` of the composition of context `k` (R314). -/
def compBuf (s : State) (k i : Nat) : CnvBuf := ((tget s.cnv.comps k).map (fun c => c.bufs.getD i {})).getD {}

/-- The buffer that the composition of context `k` has written since its last boundary: the picture that starts encoding now (R319). -/
def inputBuf (s : State) (k : Nat) : Nat := ((tget s.cnv.comps k).map (·.cur)).getD 0

/-- The slot of an encode context (R293). -/
def encSlot (x : EncCtx) : Nat := x.item % x.period

/-- Start the picture of tick `n` of a context in whose slot it falls and whose rate settings are in force. -/
def encStart (s : State) (n k : Nat) : State :=
  match tget s.vid.enc k with
  | none => s
  | some x =>
    if !x.live || n % x.period ≠ encSlot x then s
    else
      match x.rate with
      | none => s
      | some r =>
        let why := keyReason x n
        let key := why.isSome
        let i := if key then 0 else x.k + 1
        let tid := encTid x.tLay i
        let b := inputBuf s k
        let pic : EncPic :=
          { start := n, no := x.frameNo, per := x.period, buf := b, key := key, tid := tid, tNom := tNom x r key tid
            bPic := bPic x r key tid x.tcap, tickCap := x.tcap, fPkt := x.fpkt }
        let x : EncCtx := { x with
          pic := some pic, k := i, keyNext := x.pic.isSome, lastKey := if key then some n else x.lastKey
          reqs := if key then x.reqs.filter (fun q => n < q.from') else x.reqs, frameNo := x.frameNo + 1
          picId := (x.picId + 1) % 32768, tl0 := if tid = 0 then (x.tl0 + 1) % 256 else x.tl0 }
        let f := compBuf s k b
        let s := encCapture (setEnc s k x) k
          { w := x.w, h := x.h, ten := x.ten, tick := n, key := false, y := f.y, c := f.c }
        match why with
        | some w => raise s x.owner EV_VID_KEY_PIC (BitVec.ofNat 16 k) (BitVec.ofNat 32 w) (lo32 n) 0 0
        | none => s

/-- Every picture that starts in this tick. -/
def encStartAll (s : State) : State := s.vid.enc.foldl (fun s p => encStart s (curTick s) p.1) s

/-! ## Budget checks (R302) -/

/-- The block from which minimum-size coding holds: to the end of the picture (`pic`) or of the slice. `bytes` and `slice`
are the bytes of the picture and of the slice so far, `b` the next block, `e` the end of the slice. -/
def budgetScan (codec : Nat) (key : Bool) (bp cap nb p j e : Nat) (bytes slice b : Nat) : List Nat → Option (Nat × Bool)
  | [] => none
  | n :: r =>
    let bytes := bytes + n
    let slice := slice + n
    if bp < bytes + rMin codec key (p - 1 - j) (nb - b - 1) then some (b, true)
    else if cap < slice + rMin codec key 0 (e - b - 1) then some (b, false)
    else budgetScan codec key bp cap nb p j e bytes slice (b + 1) r

/-- Blocks of the picture that hold a row of old content (R331), of a single-layer picture by its block rows. -/
def oldBlocks (x : EncCtx) (old : List Nat) (first last : Nat) : Bool :=
  let bs := ((vidCap x.codec x.cprof).map (·.block)).getD 16
  let cols := cdiv x.w bs
  let base := encBlocks x - cols * cdiv x.h bs
  old.any (fun r => decide (first < base + (r / bs + 1) * cols) && decide (base + r / bs * cols < last))

/-! ## Packets (R295, R296) -/

/-- The header-extension element of a packet: frame marking, or the dependency descriptor of layer `sid`; `first` and `last` tell the first
and last packet of the frame it belongs to, `str` the packet with the template structure (R296). -/
def encExt (x : EncCtx) (pic : EncPic) (sid : Nat) (first last str : Bool) : List Byte :=
  if !needExt x then []
  else if x.codec = 0x10 then
    [BitVec.ofNat 8 ((if first then 128 else 0) + (if last then 64 else 0) + (if pic.key then 32 else 0)
      + (if pic.tid + 1 = x.tLay then 16 else 0) + (if 0 < pic.tid then 8 else 0) + pic.tid), 0, BitVec.ofNat 8 x.tl0]
  else ddElement x pic.no sid pic.tid pic.key first last str

/-- Bytes of RTP header of a packet of the picture, with the template structure or without. -/
def encHdrLen (x : EncCtx) (pic : EncPic) (str : Bool) : Nat :=
  let n := (encExt x pic 0 true true str).length
  rtpBytes (if n = 0 then 0 else elWords n)

/-- A NAL unit of H.264 as payloads of at most `m` bytes: itself, or fragmentation units FU-A (R295). -/
def nalPays (m : Nat) (d : List Byte) : List (List Byte) :=
  if d.length ≤ m then [d]
  else
    let hd := (d.headD 0).toNat
    let cs := chunks (m - 2) d.length d.tail
    (List.range cs.length).map (fun i =>
      [BitVec.ofNat 8 (hd / 32 * 32 + 28),
       BitVec.ofNat 8 ((if i = 0 then 128 else 0) + (if i + 1 = cs.length then 64 else 0) + hd % 32)] ++ cs.getD i [])

/-- A NAL unit of H.265 as payloads: itself, or fragmentation units (R295). -/
def hevcPays (m : Nat) (d : List Byte) : List (List Byte) :=
  if d.length ≤ m then [d]
  else
    let h0 := (d.headD 0).toNat
    let cs := chunks (m - 3) d.length (d.drop 2)
    (List.range cs.length).map (fun i =>
      [BitVec.ofNat 8 (h0 / 128 * 128 + 49 * 2 + h0 % 2), d.getD 1 0,
       BitVec.ofNat 8 ((if i = 0 then 128 else 0) + (if i + 1 = cs.length then 64 else 0) + h0 / 2 % 64)] ++ cs.getD i [])

/-- A part of an AV1 OBU as payloads, the first of at most `f` bytes, the others of `m`. `nw`: the first opens a coded video sequence. -/
def av1Pays (f m : Nat) (u : EncUnit) (nw : Bool) : List (List Byte) :=
  let cs := if u.data = [] then [] else u.data.take (f - 1) :: chunks (m - 1) u.data.length (u.data.drop (f - 1))
  (List.range cs.length).map (fun i =>
    BitVec.ofNat 8 ((if i ≠ 0 || u.cont then 128 else 0) + (if i + 1 ≠ cs.length || u.more then 64 else 0) + 16
      + (if nw && i = 0 then 8 else 0)) :: cs.getD i [])

/-- A VP8 frame as payloads (R295). -/
def vp8Pays (x : EncCtx) (pic : EncPic) (m : Nat) (d : List Byte) : List (List Byte) :=
  let cs := chunks (m - 6) d.length d
  (List.range cs.length).map (fun i =>
    [BitVec.ofNat 8 (128 + (if 1 < x.tLay ∧ pic.tid + 1 = x.tLay then 32 else 0) + (if i = 0 then 16 else 0)),
     BitVec.ofNat 8 (128 + 64 + 32), BitVec.ofNat 8 (128 + x.picId / 256), BitVec.ofNat 8 x.picId, BitVec.ofNat 8 x.tl0,
     BitVec.ofNat 8 (pic.tid * 64 + (if 0 < pic.tid then 32 else 0))] ++ cs.getD i [])

/-- Parameter sets before a key picture in one STAP-A or AP, or, where that exceeds a packet, each by itself (R295). -/
def paramPays (codec m : Nat) (ps : List (List Byte)) : List (List Byte) :=
  let agg := ps.flatMap (fun p => natBE 2 p.length ++ p)
  let one : List Byte :=
    if codec = 0x10 then BitVec.ofNat 8 (ps.foldl (fun m p => max m ((p.headD 0).toNat / 32 % 4)) 0 * 32 + 24) :: agg
    else [96, 1] ++ agg
  if ps = [] then []
  else if one.length ≤ m then [one]
  else ps.flatMap (if codec = 0x10 then nalPays m else hevcPays m)

/-- A payload with the spatial layer it belongs to, and whether it starts and ends that layer's frame. -/
structure EncPay where
  sid : Nat
  first : Bool
  last : Bool
  pay : List Byte

/-- The payloads of a slice of an AV1 picture: the sequence header OBU goes before the units of a key picture. -/
def av1Slice (f m : Nat) (nw : Bool) (ps : List (List Byte)) (us : List EncUnit) : List EncPay :=
  let us := (if ps = [] then [] else [(⟨0, false, false, ps.flatten⟩ : EncUnit)]) ++ us
  us.zipIdx.flatMap (fun (u, i) =>
    let l := av1Pays (if i = 0 then f else m) m u (nw && i = 0)
    l.zipIdx.map (fun (p, j) =>
      { sid := u.sid.toNat, pay := p
        first := j = 0 && !u.cont && !(us.take i).any (fun v => v.sid = u.sid)
        last := decide (j + 1 = l.length) && !u.more && !(us.drop (i + 1)).any (fun v => v.sid = u.sid) }))

/-- The payloads of a slice of an H.264 or H.265 picture, or the whole picture of VP8; `last` slice or not. -/
def nalSlice (x : EncCtx) (pic : EncPic) (m : Nat) (ps : List (List Byte)) (us : List EncUnit) (first last : Bool) : List EncPay :=
  let ds : List (List Byte) := us.map (·.data)
  let out : List (List Byte) := match x.codec with
    | 0x10 => paramPays 0x10 m ps ++ ds.flatMap (nalPays m)
    | 0x11 => paramPays 0x11 m ps ++ ds.flatMap (hevcPays m)
    | _ => vp8Pays x pic m ds.flatten
  out.zipIdx.map (fun (p, i) => ⟨0, first && i = 0, last && decide (i + 1 = out.length), p⟩)

/-- The packets of a slice's units within F_pkt, `tag` bytes of it the authentication tag; the marker goes on the last packet of the last
slice, the template structure on the first packet of a key picture (R295, R296). -/
def slicePkts (x : EncCtx) (pic : EncPic) (tag : Nat) (ps : List (List Byte)) (us : List EncUnit) (first last : Bool) : List EncPkt :=
  let room (str : Bool) : Nat := pic.fPkt - encHdrLen x pic str - tag
  let str := pic.key && first
  let l := if x.codec = 0x12 then av1Slice (room str) (room false) str ps us
    else nalSlice x pic (room false) ps us first last
  l.zipIdx.map (fun (p, i) =>
    { marker := last && decide (i + 1 = l.length), ext := encExt x pic p.sid p.first p.last (str && i = 0), pay := p.pay })

/-! ## Slices (R294, R297, R302) -/

/-- A picture with a block in minimum-size mode: counted, EV_VID_MIN_MODE at most once per 1,200 ticks (R302). -/
def minModeEvt (s : State) (k : Nat) : State :=
  match tget s.vid.enc k with
  | none => s
  | some x =>
    let s := setBit (bump s VID_ENC_MIN_CNT 1) VID_ST_MIN_MODE
    let x := { x with nMin := x.nMin + 1, minSince := x.minSince + 1 }
    if (x.minLast.map (fun t => decide (curTick s < t + 1200))).getD false then setEnc s k x
    else
      raise (setEnc s k { x with minSince := 0, minLast := some (curTick s) }) x.owner EV_VID_MIN_MODE (BitVec.ofNat 16 k)
        (sat32 x.minSince) (sat32 x.debt) 0 0

/-- The picture of a context is over (R300, R309). -/
def picEnd (s : State) (k : Nat) : State :=
  match (tget s.vid.enc k) with
  | none => s
  | some x =>
    match x.pic with
    | none => s
    | some p =>
      let s := setEnc s k { x with
        pic := none, keyNext := x.keyNext || decide (p.done.length < p.per), debt := x.debt + p.size - p.tNom, nPic := x.nPic + 1
        nKey := if p.key then x.nKey + 1 else x.nKey, nDmg := if p.lost then x.nDmg + 1 else x.nDmg, nBytes := x.nBytes + p.size
        lastSize := p.size }
      if p.minAny then minModeEvt s k else s

/-- The slice of a context's picture that is due in this tick. -/
def sliceDue (s : State) (x : EncCtx) : Option Nat :=
  match x.pic with
  | some p => if curTick s - p.start < p.per ∧ ¬ p.done.contains (curTick s - p.start) then some (curTick s - p.start) else none
  | none => none

/-- The longest SRTP tag among the legs that receive the encode. -/
def encTag (s : State) (x : EncCtx) : Nat := ((receivers s x).map (fun l => txTag s (4 * l.1 + 1))).foldl max 0

/-- Packets for this tick's EMIT of picture `p`. -/
def encOut (s : State) (k : Nat) (p : EncPic) (pkts : List EncPkt) : State :=
  modEnc s k (fun x => { x with out := pkts, outAt := some (curTick s), outTs := BitVec.ofNat 32 (75 * p.start) + x.tsOfs })

/-- VP8: the bytes of the picture's slices leave together in its last tick (R297). -/
def vp8Out (s : State) (k : Nat) : State :=
  match tget s.vid.enc k with
  | some x =>
    match x.pic with
    | some p => encOut s k p (slicePkts x p (encTag s x) [] (p.held.map (fun h => ⟨0, false, false, h⟩)) true true)
    | none => s
  | none => s

/-- A slice is abandoned (R40, R306): the next picture is a key picture. What a VP8 picture's other slices gave is sent as usual. -/
def sliceLost (s : State) (k j : Nat) : State :=
  let s := modEnc s k (fun x => { x with
    keyNext := true, pic := x.pic.map (fun p => { p with lost := true, done := p.done ++ [j] }) })
  match tget s.vid.enc k with
  | some x =>
    match x.pic with
    | some p =>
      if j + 1 ≠ p.per then s
      else picEnd (if x.codec = 0x13 ∧ curTick s = p.start + j then vp8Out s k else s) k
    | none => s
  | none => s

/-- Bytes of parameter data and of units. -/
def paramBytes (ps : List (List Byte)) : Nat := ps.foldl (fun a u => a + u.length) 0
def unitBytes (us : List EncUnit) : Nat := us.foldl (fun a u => a + u.data.length) 0

/-- The place in slice `j` from which minimum-size coding holds in it, with whether it holds to the end of the picture (R302). -/
def minFrom (x : EncCtx) (p : EncPic) (j pb : Nat) (blocks : List Nat) : Option (Nat × Bool) :=
  let nb := encBlocks x
  let b0 := sliceAt nb p.per j
  if p.minMode then some (0, true)
  else
    (budgetScan x.codec p.key p.bPic p.tickCap nb p.per j (sliceAt nb p.per (j + 1)) (p.size + pb) pb b0 blocks).map
      (fun r => (r.1 - b0, r.2))

/-- The units that slice `j` of a picture completes (R295), by spatial layer, whether each goes on a unit begun earlier, and whether a later
slice goes on with it: a slice NAL unit, or for AV1 a part of the tile of every layer whose blocks it holds. -/
def sliceUnits (x : EncCtx) (per j : Nat) : List (Nat × Bool × Bool) :=
  let nb := encBlocks x
  let c := sliceAt nb per j
  let d := sliceAt nb per (j + 1)
  if c = d then []
  else if x.codec ≠ 0x12 then [(0, false, false)]
  else
    (List.range x.sLay).filterMap (fun i =>
      let a := encBlocks { x with w := ((encLayers x.w x.h x.sLay).getD (i - 1) (0, 0)).1, h := ((encLayers x.w x.h x.sLay).getD (i - 1) (0, 0)).2, sLay := i }
      let b := encBlocks { x with w := ((encLayers x.w x.h x.sLay).getD i (0, 0)).1, h := ((encLayers x.w x.h x.sLay).getD i (0, 0)).2, sLay := i + 1 }
      if max a c < min b d then some (i, decide (a < c), decide (d < b)) else none)

/-- The NAL unit type of a unit of H.264 or H.265, the OBU type of one of AV1. -/
def unitType (codec : Nat) (u : List Byte) : Nat :=
  let b := (u.headD 0).toNat
  match codec with
  | 0x10 => b % 32
  | 0x11 => b / 2 % 64
  | _ => b / 8 % 16

/-- The parameter data before a key picture (R295): SPS and PPS; VPS, SPS and PPS; a sequence header OBU; none for VP8. -/
def paramTypes (codec : Nat) : List Nat :=
  match codec with
  | 0x10 => [7, 8]
  | 0x11 => [32, 33, 34]
  | 0x12 => [1]
  | _ => []

/-- What the engine can make of slice `j` (R295, R301, R302, R331): its units and parameter data are those of the codec; blocks before `m`
take their bytes; those from `m` on, whose entries after the one that did not fit are their bits, and those that hold old content, take at
most β bits; a slice header in that mode takes at most 16 bytes; parameter data and header keep to the reserve. -/
def sliceFits (x : EncCtx) (p : EncPic) (j m : Nat) (old : List Nat) (blocks : List Nat) (us : List EncUnit) (ps : List (List Byte)) :
    Bool :=
  let nb := encBlocks x
  let b0 := sliceAt nb p.per j
  let n := sliceAt nb p.per (j + 1) - b0
  let be := encBeta x.codec p.key
  let normal := (blocks.take m).foldl (· + ·) 0
  let small := blocks.drop (m + 1)
  let u := unitBytes us
  decide (us.map (fun u => (u.sid.toNat, u.cont, u.more)) = sliceUnits x p.per j)
    && decide (ps.map (unitType x.codec) = if p.key && j = 0 then paramTypes x.codec else [])
    && decide (blocks.length = n) && decide (paramBytes ps ≤ be.2) && decide (normal ≤ u) && small.all (fun b => decide (b ≤ be.1))
    && decide (u ≤ normal + (if m = 0 then 16 else 0) + cdiv ((if m < n then be.1 else 0) + small.foldl (· + ·) 0) 8)
    && (List.range (min m n)).all (fun i =>
      !oldBlocks x old (b0 + i) (b0 + i + 1) || decide (blocks.getD i 0 ≤ cdiv be.1 8 + (if i = 0 then 16 else 0)))

/-- Encode slice `j`: `blocks` are the bytes of its blocks coded normally, headers with the block they precede, and the bits of those after
them (log entry 48); what the engine cannot make of it changes nothing. -/
def encSlice (s : State) (k j : Nat) (x : EncCtx) (p : EncPic) (blocks : List Nat) (us : List EncUnit) (ps : List (List Byte)) :
    State :=
  let nb := encBlocks x
  let b0 := sliceAt nb p.per j
  let e := sliceAt nb p.per (j + 1)
  let ps := if p.key && j = 0 then ps else []
  let pb := paramBytes ps
  let min := minFrom x p j pb blocks
  let old := (compBuf s k p.buf).old
  if !sliceFits x p j ((min.map (·.1)).getD (e - b0)) old blocks us ps then s
  else
    let last := decide (j + 1 = p.per)
    let vp8 := x.codec = 0x13
    let p : EncPic := { p with
      size := p.size + unitBytes us + pb, done := p.done ++ [j], minMode := p.minMode || (min.map (·.2)).getD false
      minAny := p.minAny || (min.isSome && decide (b0 < e)) || oldBlocks x old b0 e
      held := if vp8 then p.held ++ us.map (·.data) else [] }
    let s := setEnc s k { x with pic := some p }
    let s := if vp8 then (if last then vp8Out s k else s)
      else encOut s k p (slicePkts x p (encTag s x) ps us (decide (j = 0)) last)
    if last then picEnd s k else s

/-- It is context `k`'s turn on its engine: no context of a lower number on the same engine still has a slice to encode in this WORK
(R282). -/
def encTurn (s : State) (k : Nat) (x : EncCtx) : Bool :=
  !s.vid.enc.any (fun p => decide (p.1 < k) && p.2.engine = x.engine && p.2.live && (sliceDue s p.2).isSome)

/-- VIDEO_ENCODE_SLICE (R294, R302): in WORK. An uncorrectable word of the context's state abandons the slice (R412). -/
def execVideoEncodeSlice (ctx : BitVec 10) (blocks : List (BitVec 24)) (units : List EncUnit) (params : List (List (BitVec 8)))
    (hits : List EccHit) (s : State) : Host.Outcome State Fault Refusal :=
  act (fun s =>
    let k := ctx.toNat
    match tget s.vid.enc k with
    | none => s
    | some x =>
      match sliceDue s x, x.pic with
      | some j, some p =>
        if ¬ s.easel.work ∨ ¬ x.live ∨ ¬ encTurn s k x then s
        else
          let t := eccHits s hits
          if eccBad s hits [2] then sliceLost t k j
          else
            let p := if eccBad s hits [6, 7, 8, 9] then { p with minAny := true } else p
            encSlice t k j x p (blocks.map (·.toNat)) units params
      | _, _ => s) s

/-- The end of WORK for encode: slices due that did not run are abandoned (R39, R40). -/
def encEnd (s : State) : State :=
  s.vid.enc.foldl (fun s p =>
    match sliceDue s p.2 with
    | some j =>
      if !p.2.live then s
      else
        let s := sliceLost s p.1 j
        if p.2.own then overrun s (4 * p.2.item + 1) 1 6 else overrunLayout s p.2.item 6
    | none => s) s

/-! ## Packets leave (R296, R297) -/

/-- A packet beyond a leg's Bo or No is dropped (R297). -/
def txDrop (s : State) (leg : Nat) : State :=
  let s := setBit (bump s VID_TX_DROP_CNT 1) VID_ST_TX_DROP
  let d := (tget s.vid.drops leg).getD {}
  let d := { d with since := d.since + 1 }
  let put (d : TxDrop) : State := { s with vid := { s.vid with drops := tset s.vid.drops leg d } }
  if (d.last.map (fun t => decide (curTick s < t + 1200))).getD false then put d
  else
    raiseLeg (put { since := 0, last := some (curTick s) }) (4 * leg + 1) EV_VID_TX_DROP (BitVec.ofNat 16 (4 * leg + 1))
      (sat32 d.since) 0 0 0

/-- The RTP header of an encoded packet: with its extension element, one-byte form up to 16 bytes. -/
def encHdr (x : EncCtx) (p : EncPkt) (sq : Nat) (ssrc : Word) : List Byte :=
  let h := rtpHdr p.marker x.pt sq x.outTs ssrc
  if p.ext = [] then h
  else
    let one := decide (p.ext.length ≤ 16)
    let el := (if one then [BitVec.ofNat 8 (x.ext * 16 + p.ext.length - 1)] else [BitVec.ofNat 8 x.ext, BitVec.ofNat 8 p.ext.length])
      ++ p.ext
    let el := el ++ zeros ((4 - el.length % 4) % 4)
    putB h 0 [0x90] ++ (if one then [0xbe, 0xde] else [0x10, 0]) ++ natBE 2 (el.length / 4) ++ el

/-- Packets of a context for one leg within `bytes` and `pkts`; the order of R172 starts at `ord`. Those due on a send direction that is
not bound are counted and not sent (R182). -/
def encTake (s : State) (x : EncCtx) (leg bytes pkts ord : Nat) : List EncPkt → State × List Egr
  | [] => (s, [])
  | p :: r =>
    let hd := 4 * leg + 1
    let n := (encHdr x p 0 0).length + p.pay.length + txTag s hd
    if bytes < n ∨ pkts = 0 then encTake (txDrop s leg) x leg bytes pkts ord r
    else
      match tget s.net.bound hd, tget s.cip.tx hd with
      | some b, some d =>
        let s := { s with cip := { s.cip with tx := tset s.cip.tx hd { d with seq := (d.seq + 1) % 65536 } } }
        let (s, f) := rtpFrame s hd b.blk.txSsrc d.seq (encHdr x p d.seq b.blk.txSsrc) p.pay
        let e := f.map (fun (f, m) =>
          ({ port := b.blk.port, sub := b.blk.sub, launch := 0, leg := leg, ord := ord, kind := 0, handle := hd, bytes := f,
             ssrc := b.blk.txSsrc, seq := d.seq, size := m } : Egr))
        let (s, es) := encTake s x leg (bytes - n) (pkts - 1) (ord + 1) r
        (s, e.toList ++ es)
      | _, _ => encTake (txRefused s hd) x leg (bytes - n) (pkts - 1) (ord + 1) r

/-- The packets of stream 1 that a leg's EMIT sends (R297). -/
def ownVideo (s : State) (leg : Nat) : State × List Egr :=
  match s.vid.enc.find? (fun p => p.2.outAt = some (curTick s) && (receivers s p.2).any (fun l => l.1 = leg)) with
  | some (_, x) =>
    let r := liveRec s (4 * leg + 1)
    encTake s x leg (boOf r) (noOf r) 1 x.out
  | none => (s, [])

end Sys2Proof.Machine
end

