-- ==== Sys2Proof/Machine/Canvas.lean ====
section
/-! DEFINITION. Canvas composition (R313 to R335): compositions, frame boundaries, slices, staged groups, plates and the CNV
commands. Log entries: 49, 51, 105. -/

namespace Sys2Proof.Machine

/-! ## State access -/

def layoutOf (s : State) (id : Nat) : CnvLayout := (tget s.cnv.layouts id).getD {}

def setLayout (s : State) (id : Nat) (l : CnvLayout) : State :=
  { s with cnv := { s.cnv with layouts := tset s.cnv.layouts id l } }

def setComp (s : State) (k : Nat) (c : Comp) : State := { s with cnv := { s.cnv with comps := tset s.cnv.comps k c } }

def setPlate (s : State) (k : Nat) (p : Plate) : State := { s with cnv := { s.cnv with plates := tset s.cnv.plates k p } }

/-- A layout's width and height as admitted. -/
def layoutWH (s : State) (id : Nat) : Nat × Nat :=
  match tget s.adm.layouts id with
  | some l => (l.w, l.h)
  | none => (2, 2)

/-- The description in force for a composition whose boundary is tick `n` (R315). -/
def descAt (l : CnvLayout) (n : Nat) : OutDesc := (((l.descs.filter (fun d => d.1 ≤ n)).getLast?).map (·.2)).getD {}

/-- The record of the stream that a decode context serves. -/
def ctxRec (s : State) (ctx : Nat) : StreamRec :=
  match tget s.vid.dec ctx with
  | some x => recOf s x.hd
  | none => {}

/-- The source size of a decode layer: its crop, or the whole picture as RX_W × RX_H (R316, R326). -/
def srcSize (s : State) (l : Layer) : Nat × Nat :=
  if l.cw = 0 then ((ctxRec s l.src).rxW, (ctxRec s l.src).rxH) else (l.cw, l.ch)

/-- The rectangle of a layer in a composition of `w` × `h` (R313). -/
def mapRect (s : State) (id w h : Nat) (l : Layer) : (Nat × Nat) × (Nat × Nat) :=
  let (lw, lh) := layoutWH s id
  (mapSpan l.x l.w lw w, mapSpan l.y l.h lh h)

/-- The source number of a decode layer whose context has closed: no context has it. -/
def noSource : Nat := 4096

/-- A layer drawn in a composition: of nonzero size, with a source that has not closed, and not hidden from its own source's leg
(R313, R316, R320). -/
def drawnIn (s : State) (id w h : Nat) (own : Option Nat) (l : Layer) : Bool :=
  let ((_, wc), (_, hc)) := mapRect s id w h l
  wc ≠ 0 && hc ≠ 0 && !(l.kind = 0 && l.src = noSource) &&
    !(l.selfHide && l.kind = 0 && (match own, tget s.vid.dec l.src with
      | some leg, some x => x.hd / 4 = leg
      | _, _ => false))

/-! ## Checks of R325 and R326 -/

/-- Bytes of line buffer a decode layer needs at `w` × `h` (R325). -/
def lineBytes (s : State) (id w h : Nat) (l : Layer) : Nat :=
  let ((_, wc), (_, hc)) := mapRect s id w h l
  if l.kind ≠ 0 ∨ hc = 0 then 0 else (taps (srcSize s l).2 hc + 2) * wc * 3

/-- The area a decode layer reads (R326). -/
def readArea (s : State) (l : Layer) : Nat := if l.kind = 0 then (srcSize s l).1 * (srcSize s l).2 else 0

/-- A size at which a layout's layers are checked: the leg of an own composition, the context of a composition, and the layers it omits. -/
structure CompAt where
  w : Nat
  h : Nat
  own : Option Nat := none
  ctx : Option Nat := none
  omits : List Nat := []

/-- The layers a composition omits (R318). -/
def omitted (s : State) (k : Nat) : List Nat :=
  (((tget s.cnv.comps k).map (·.held)).getD []).filterMap (fun h => if h.2.omitted.isSome then some h.1 else none)

/-- The compositions of a layout: one exists from its context's opening to the effect tick of its closing (R308, R314). -/
def compsAt (s : State) (id : Nat) : List CompAt :=
  (s.vid.enc.filter (fun p => p.2.layout = id && (!p.2.gone || p.2.live))).map (fun p =>
    ⟨p.2.w, p.2.h, if p.2.own then some p.2.item else none, some p.1, omitted s p.1⟩)

/-- The sizes at which a layout's layers are checked: its own, and those of its compositions. -/
def checkSizes (s : State) (id : Nat) : List CompAt :=
  { w := (layoutWH s id).1, h := (layoutWH s id).2 } :: compsAt s id

/-- A layer is drawn at one of those sizes. -/
def CompAt.draws (s : State) (id : Nat) (c : CompAt) (l : Layer) : Bool := drawnIn s id c.w c.h c.own l

/-- Staged settings of a layer. -/
def stagedSets (l : CnvLayout) (i : Nat) : List Layer :=
  l.groups.flatMap (fun g => (g.changes.filter (fun c => c.layer = i)).filterMap (·.set))

/-- Settings of a layer, current and staged. -/
def layerSets (l : CnvLayout) (i : Nat) : List Layer := (tget l.layers i).toList ++ stagedSets l i

/-- The settings of a layer that a composition draws, now or once they flip: a layer it omits is not drawn there now. -/
def setsIn (s : State) (id : Nat) (l : CnvLayout) (c : CompAt) (i : Nat) : List Layer :=
  ((if c.omits.contains i then [] else (tget l.layers i).toList) ++ stagedSets l i).filter (c.draws s id)

/-- Read area of a layout in one composition, each layer at the greater of its settings (R317). -/
def readDemand (s : State) (id : Nat) (l : CnvLayout) (c : CompAt) : Nat :=
  (List.range 64).foldl (fun a i => a + ((setsIn s id l c i).map (readArea s)).foldl max 0) 0

/-- A layer shows decode context `ctx`. -/
def Layer.shows (l : Layer) (ctx : Nat) : Bool := l.kind = 0 && l.src = ctx

/-- The layers of a layout that a composition draws from decode context `ctx`. -/
def drawnFrom (s : State) (ctx id : Nat) (l : CnvLayout) (c : CompAt) : Nat :=
  ((List.range 64).filter (fun i => (setsIn s id l c i).any (·.shows ctx))).length

/-- Readers of a decode context in one layout: for each layer that names it, now or staged, the compositions that draw it, at
least one (R317). -/
def layoutReaders (s : State) (ctx id : Nat) (l : CnvLayout) : Nat :=
  (List.range 64).foldl (fun a i =>
    if (layerSets l i).any (·.shows ctx) then
      a + max 1 (((compsAt s id).filter (fun c => (setsIn s id l c i).any (·.shows ctx))).length)
    else a) 0

/-- Readers of a decode context in every layout. -/
def readers (s : State) (ctx : Nat) : Nat :=
  s.cnv.layouts.foldl (fun a p => a + layoutReaders s ctx p.1 p.2) 0

/-- The composition of a context is formed: it has had a frame boundary (R318). -/
def formed (s : State) (k : Nat) : Bool := (tget s.cnv.comps k).any (·.bound.isSome)

/-- Readers of a decode context in every composition formed but that of context `k`. -/
def readersBut (s : State) (ctx k : Nat) : Nat :=
  s.cnv.layouts.foldl (fun a p =>
    ((compsAt s p.1).filter (fun c => c.ctx ≠ some k && c.ctx.any (formed s))).foldl (fun a c => a + drawnFrom s ctx p.1 p.2 c) a) 0

/-- HOLDS of a decode context. -/
def holdsOf (s : State) (ctx : Nat) : Nat := ((tget s.vid.dec ctx).map (·.holds)).getD 0

/-! ## Omission (R318) -/

/-- Which of checks 6 to 8 a layer fails in composition `k` beside the layers `with'` that it draws: 0, 1 or 2. -/
def omitReason (s : State) (k : Nat) (x : EncCtx) (with' : List Layer) (l : Layer) : Option Nat :=
  let own := if x.own then some x.item else none
  if l.kind ≠ 0 ∨ !drawnIn s x.layout x.w x.h own l then none
  else
    let ls := with'.filter (drawnIn s x.layout x.w x.h own)
    let area := ls.foldl (fun a b => a + readArea s b) 0
    if 65536 < lineBytes s x.layout x.w x.h l then some 0
    else if 4 * x.w * x.h < area + readArea s l then some 1
    else if holdsOf s l.src < readersBut s l.src k + (ls.filter (·.shows l.src)).length + 1 then some 2
    else none

/-- Decide for layers of a composition in increasing LAYER, beside those it draws already; a layer newly omitted is reported. -/
def omitLayers (s : State) (k : Nat) (x : EncCtx) (c : Comp) (with' : List Layer) : List (Nat × Layer) → State × Comp
  | [] => (s, c)
  | (i, l) :: r =>
    let h := (tget c.held i).getD {}
    match omitReason s k x with' l with
    | none => omitLayers s k x { c with held := tset c.held i { h with omitted := none } } (l :: with') r
    | some why =>
      let c := { c with held := tset c.held i { h with omitted := some why, pic := none } }
      let s := if h.omitted.isSome then s
        else
          raise (setBit (bump s CNV_OMIT_CNT 1) CNV_ST_OMIT) x.owner EV_CNV_LAYER_OMIT (BitVec.ofNat 16 x.layout)
            (BitVec.ofNat 32 (i * 2 ^ 16 + why)) (BitVec.ofNat 32 k) 0 0
      omitLayers s k x c with' r

/-- At a boundary whose layers were `prev`, a layer keeps its place without a new check: the composition is not new, and it drew the layer
with this setting. -/
def keepsLayer (c : Comp) (prev : Table Layer) (p : Nat × Layer) : Bool :=
  c.bound.isSome && tget prev p.1 = some p.2 && (((tget c.held p.1).bind (·.omitted)).isNone)

/-! ## Flips (R322, R323) -/

/-- A staged change is ready for a flip whose effect tick is `e`. -/
def changeReady (s : State) (e : Nat) (c : StagedLayer) : Bool :=
  match c.set with
  | none => true
  | some l =>
    if l.kind = 2 then true
    else if l.kind = 1 then ((tget s.cnv.plates l.src).map (fun p => p.img.isSome && !p.lost)).getD false
    else if l.fence = 0 then true
    else
      match (tget s.vid.dec l.src).bind (·.cur) with
      | some p => decide (e ≤ p.tick) && (l.fence = 1 || p.clean)
      | none => false

/-- A group's changes take effect in a layout. -/
def applyGroup (l : CnvLayout) (g : CnvGroup) : CnvLayout :=
  { l with
    groups := l.groups.erase g
    layers := g.changes.foldl (fun t c => match c.set with
      | some x => tset t c.layer x
      | none => tdel t c.layer) l.layers }

/-- EV_CNV_FLIP of a group at the boundary of tick `n`. -/
def flipEvt (s : State) (id : Nat) (g : CnvGroup) (done : Bool) (n : Nat) : State :=
  match tget s.adm.layouts id with
  | some a =>
    raise s a.item.owner EV_CNV_FLIP (BitVec.ofNat 16 id)
      (BitVec.ofNat 32 ((if done then 256 else 0) + g.group)) (lo32 n) 0 0
  | none => s

/-- Test one flip at the boundary of tick `n`. -/
def testFlip (s : State) (id n : Nat) (g : CnvGroup) : State :=
  match g.flipAt with
  | none => s
  | some e =>
    if n < e ∨ fld s CNV_FLIP_TO ≤ g.waits then s
    else
      let l := layoutOf s id
      if g.changes.all (changeReady s e) then flipEvt (setLayout s id (applyGroup l g)) id g true n
      else
        setLayout s id { l with groups := l.groups.map (fun x => if x = g then { g with waits := g.waits + 1 } else x) }

/-- The layers whose fence the boundary of tick `n` finds met: each latches the picture that met it (R323). -/
def fencedLayers (s : State) (id n : Nat) : List Nat :=
  (layoutOf s id).groups.flatMap (fun g =>
    match g.flipAt with
    | some e =>
      if e ≤ n ∧ g.waits < fld s CNV_FLIP_TO ∧ g.changes.all (changeReady s e) then
        g.changes.filterMap (fun c => if (c.set.map (fun l => decide (l.fence ≠ 0))).getD false then some c.layer else none)
      else []
    | none => [])

/-- FLIP_TIMEOUT (R323): groups of a layout that CNV_FLIP_TO boundaries left unready are discarded. -/
def execFlipTimeout (layout : BitVec 9) (s : State) : Host.Outcome State Fault Refusal :=
  act (fun s =>
    let id := layout.toNat
    ((layoutOf s id).groups.filter (fun g => g.flipAt.isSome && decide (fld s CNV_FLIP_TO ≤ g.waits))).foldl (fun s g =>
      let l := layoutOf s id
      let s := setLayout s id { l with groups := l.groups.erase g }
      flipEvt (setBit (bump s CNV_FLIP_TO_CNT 1) CNV_ST_FLIP_TO) id g false (curTick s)) s) s

/-! ## Frame boundaries (R319, R320, R330) -/

/-- EV_CNV_STALE of a layer. -/
def staleEvt (s : State) (id i : Nat) (st : Bool) : State :=
  match tget s.adm.layouts id with
  | some a => raise s a.item.owner EV_CNV_STALE (BitVec.ofNat 16 id) (BitVec.ofNat 32 (i * 2 ^ 16 + (if st then 1 else 0))) 0 0 0
  | none => s

/-- A decode layer compares its source's current picture with the picture it holds (R320); `met`: its fence was met by that picture. -/
def latchLayer (met : List Nat) (s : State) (x : EncCtx) (c : Comp) (i : Nat) (l : Layer) : State × Comp :=
  let h := (tget c.held i).getD {}
  if l.kind ≠ 0 ∨ h.omitted.isSome then (s, c)
  else
    match (tget s.vid.dec l.src).bind (fun d => if d.live then d.cur else none) with
    | some p =>
      if (h.pic.map (fun q => decide (q.tick < p.tick))).getD true ∧ ¬ (p.damaged ∧ l.hideDmg ∧ ¬ met.contains i) then
        let s := if h.stale ∧ ¬ x.own then staleEvt s x.layout i false else s
        (s, { c with held := tset c.held i { h with pic := some p, n := 0, stale := false } })
      else (s, { c with held := tset c.held i { h with n := h.n + 1 } })
    | none => (s, { c with held := tset c.held i { h with n := h.n + 1 } })

def latchLayers (met : List Nat) (s : State) (x : EncCtx) (c : Comp) : List (Nat × Layer) → State × Comp
  | [] => (s, c)
  | (i, l) :: r =>
    let (s, c) := latchLayer met s x c i l
    latchLayers met s x c r

/-- The layers in force in a composition become those of its layout; a layer that shows another source holds nothing yet, but is stale
until it takes a picture. -/
def takeLayers (c : Comp) (ls : Table Layer) : Comp :=
  { c with
    layers := ls
    held := c.held.filterMap (fun h => match tget c.layers h.1, tget ls h.1 with
      | some a, some b => some (h.1, if a.kind = b.kind ∧ a.src = b.src then h.2 else { stale := h.2.stale })
      | _, _ => none) }

/-- Plates in force in a composition: those VALID, with their version (R330). -/
def takePlates (s : State) (c : Comp) : Comp :=
  { c with plates := s.cnv.plates.filterMap (fun p => if p.2.img.isSome && !p.2.lost then some (p.1, p.2.ver) else none) }

/-- A composition shows version `v` of plate `k`. -/
def showsPlate (s : State) (k v : Nat) : Bool :=
  s.cnv.comps.any (fun c => tget c.2.plates k = some v && c.2.layers.any (fun l => l.2.kind = 1 && l.2.src = k))

/-- Old content of plates that no composition shows any more is given back (R330). -/
def dropOldPlates (s : State) : State :=
  { s with cnv := { s.cnv with plates := s.cnv.plates.map (fun (k, p) =>
      (k, { p with old := p.old.filter (fun o => showsPlate s k o.1) })) } }

/-- The frame boundary of composition `k` in this tick, its layout's flips tested. -/
def compBoundary (s : State) (k : Nat) (x : EncCtx) (met : List Nat) : State :=
  match tget s.cnv.comps k with
  | none => s
  | some c =>
    let l := layoutOf s x.layout
    let t := takePlates s (takeLayers { c with desc := descAt l (curTick s) } l.layers)
    let stays := keepsLayer t c.layers
    let (s, t) := omitLayers s k x t ((l.layers.filter stays).map (·.2)) (l.layers.filter (fun p => !stays p))
    let (s, t) := latchLayers met s x t l.layers
    let cur := 1 - t.cur
    dropOldPlates (setComp s k { t with
      bound := some (curTick s), per := x.period, done := [], cur := cur, bufs := t.bufs.modify cur (fun b => { b with old := [] }) })

/-- The boundary of a layout composition: the layout's flips are tested at it (R323). -/
def layoutBoundary (s : State) (k : Nat) (x : EncCtx) : State :=
  let n := curTick s
  let met := fencedLayers s x.layout n
  compBoundary ((layoutOf s x.layout).groups.foldl (fun s g => testFlip s x.layout n g) s) k x met

/-- A composition has a frame boundary in this tick that has not come yet (R319). -/
def boundaryDue (s : State) (k : Nat) (x : EncCtx) : Bool :=
  x.live && curTick s % x.period = encSlot x && (tget s.cnv.comps k).any (fun c => c.bound ≠ some (curTick s))

/-- The frame boundary of composition `k` in this tick. An own composition takes up what flips at a boundary of the layout composition in
the same tick: that one comes first (R323). -/
def frameBoundary (s : State) (k : Nat) (x : EncCtx) : State :=
  if !x.own then layoutBoundary s k x
  else
    match s.vid.enc.find? (fun p => !p.2.own && p.2.layout = x.layout && boundaryDue s p.1 p.2) with
    | some p => compBoundary (layoutBoundary s p.1 p.2) k x []
    | none => compBoundary s k x []

/-- FRAME_BOUNDARY (R320): of the composition of context `ctx`, at the start of a tick of its slot, once. -/
def execFrameBoundary (ctx : BitVec 10) (s : State) : Host.Outcome State Fault Refusal :=
  act (fun s =>
    match tget s.vid.enc ctx.toNat with
    | some x => if boundaryDue s ctx.toNat x then frameBoundary s ctx.toNat x else s
    | none => s) s

/-- LAYER_STALE (R320): a layer of the layout composition has held one picture for CNV_STALE_FRAMES boundaries. -/
def execLayerStale (layout : BitVec 9) (layer : BitVec 6) (s : State) : Host.Outcome State Fault Refusal :=
  act (fun s =>
    let i := layer.toNat
    match s.vid.enc.find? (fun p => !p.2.own && p.2.layout = layout.toNat && p.2.live) with
    | some (k, _) =>
      match tget s.cnv.comps k with
      | some c =>
        match tget c.held i with
        | some h =>
          if h.pic.isSome ∧ ¬ h.stale ∧ fld s CNV_STALE_FRAMES ≤ h.n then
            staleEvt (setComp s k { c with held := tset c.held i { h with stale := true } }) layout.toNat i true
          else s
        | none => s
      | none => s
    | none => s) s

/-! ## Slices (R319, R321, R324, R327) -/

/-- What a layer gives at a luma position of its composition: the alpha there, or none where it does not cover it. -/
structure Drawn where
  x : Nat
  y : Nat
  w : Nat
  h : Nat
  lum : Nat → Nat → Nat
  chr : Nat → Nat → List Nat
  alpha : Nat → Nat → Nat

/-- The description a picture counts as (R327). -/
def picDesc (p : Pic) : Nat × Bool :=
  (match p.mtx with
   | none => if p.h < 720 then 0 else 1
   | some m => if m = 3 then 1 else m, p.full)

/-- Palette over a layer's 4:2:0 samples (R327, R328): from description `a` to the composition's. -/
def palette (a : Nat × Bool) (d : OutDesc) (w : Drawn) : Drawn :=
  if a = (d.mtx, d.full) then w
  else
    let cols := palCols a.1 d.mtx a.2 d.full
    let oi := [rngY0 a.2, 512, 512]
    let cat (x y : Nat) : List Nat := w.chr (x / 2) (y / 2)
    { w with
      lum := fun x y => palOut cols oi (rngY0 d.full) 0 [(w.lum x y : Nat), ((cat x y).getD 0 0 : Nat), ((cat x y).getD 1 0 : Nat)]
      chr := fun x y =>
        let m := (w.lum (2 * x) (2 * y) + w.lum (2 * x + 1) (2 * y) + w.lum (2 * x) (2 * y + 1)
          + w.lum (2 * x + 1) (2 * y + 1) + 2) / 4
        let v : List Int := [(m : Nat), ((w.chr x y).getD 0 0 : Nat), ((w.chr x y).getD 1 0 : Nat)]
        [palOut cols oi 512 1 v, palOut cols oi 512 2 v] }

/-- A decode layer as it is drawn from the picture it holds (R324). -/
def drawPic (x y w h : Nat) (l : Layer) (p : Pic) (d : OutDesc) : Drawn :=
  let ws := if l.cw = 0 then p.w else min l.cw (p.w - l.cx)
  let hs := if l.cw = 0 then p.h else min l.ch (p.h - l.cy)
  let up (v : Nat) : Nat := if p.ten then v else 4 * v
  palette (picDesc p) d
    { x := x, y := y, w := w, h := h, alpha := fun _ _ => if ws = 0 ∨ hs = 0 then 0 else l.alpha
      lum := scale2 l.cx l.cy ws hs w h (fun i j => up (p.y.getD (j * p.w + i) 0))
      chr := fun i j => [0, 1].map (fun c =>
        scale2 (l.cx / 2) (l.cy / 2) (ws / 2) (hs / 2) (w / 2) (h / 2) (fun a b => up (p.c.getD (b * p.w + 2 * a + c) 0)) i j) }

/-- A plate layer (R321); pixels of words found uncorrectable have alpha 0. -/
def drawPlate (x y w h : Nat) (l : Layer) (p : PlateImg) (bad : List (Nat × Nat)) (d : OutDesc) : Drawn :=
  palette (p.mtx, p.full) d
    { x := x, y := y, w := w, h := h
      alpha := fun i j => if i < p.w ∧ j < p.h ∧ ¬ bad.contains (i, j) then (p.a.getD (j * p.w + i) 0 * l.alpha + 127) / 255 else 0
      lum := fun i j => 4 * p.y.getD (j * p.w + i) 0
      chr := fun i j => [4 * p.c.getD (j * p.w + 2 * i) 0, 4 * p.c.getD (j * p.w + 2 * i + 1) 0] }

/-- A fill layer. -/
def drawFill (x y w h : Nat) (l : Layer) : Drawn :=
  { x := x, y := y, w := w, h := h, alpha := fun _ _ => l.alpha, lum := fun _ _ => l.src / 2 ^ 20 % 1024
    chr := fun _ _ => [l.src / 2 ^ 10 % 1024, l.src % 1024] }

/-- The content of a plate that a composition shows. -/
def plateIn (s : State) (c : Comp) (k : Nat) : Option PlateImg :=
  match tget c.plates k, tget s.cnv.plates k with
  | some v, some p => if v = p.ver then p.img else tget p.old v
  | _, _ => none

/-- The layers of a composition as they are drawn, lowest first; `skip` names layers whose source a slice could not read. -/
def drawnLayers (s : State) (x : EncCtx) (c : Comp) (skip : List Nat) (bad : Nat → List (Nat × Nat)) : List Drawn :=
  c.layers.filterMap (fun (i, l) =>
    let own := if x.own then some x.item else none
    let ((lx, lw), (ly, lh)) := mapRect s x.layout x.w x.h l
    let h := (tget c.held i).getD {}
    if !drawnIn s x.layout x.w x.h own l || h.omitted.isSome || skip.contains i then none
    else if l.kind = 0 then h.pic.map (fun p => drawPic lx ly lw lh l p c.desc)
    else if l.kind = 1 then (plateIn s c l.src).map (fun p => drawPlate lx ly lw lh l p (bad l.src) c.desc)
    else some (drawFill lx ly lw lh l))

/-- The 10-bit luma sample at (x, y). -/
def compLuma (d : OutDesc) (ls : List Drawn) (x y : Nat) : Nat :=
  ls.foldl (fun v l =>
    if l.x ≤ x ∧ x < l.x + l.w ∧ l.y ≤ y ∧ y < l.y + l.h then cnvBlend (l.lum (x - l.x) (y - l.y)) v (l.alpha (x - l.x) (y - l.y))
    else v) d.bgY

/-- The 10-bit chroma samples of the block at (x, y) in chroma positions. -/
def compChroma (d : OutDesc) (ls : List Drawn) (x y : Nat) : List Nat :=
  ls.foldl (fun v l =>
    if l.x ≤ 2 * x ∧ 2 * x < l.x + l.w ∧ l.y ≤ 2 * y ∧ 2 * y < l.y + l.h then
      let i := 2 * x - l.x
      let j := 2 * y - l.y
      let a := (l.alpha i j + l.alpha (i + 1) j + l.alpha i (j + 1) + l.alpha (i + 1) (j + 1) + 2) / 4
      List.zipWith (fun n o => cnvBlend n o a) (l.chr (i / 2) (j / 2)) v
    else v) [d.bgCb, d.bgCr]

/-- Replace `n` samples from `o`. -/
def splice (xs : List Nat) (o : Nat) (ys : List Nat) : List Nat := xs.take o ++ ys ++ xs.drop (o + ys.length)

/-- Write row pairs `a` to `b − 1` of a buffer. -/
def writeRows (x : EncCtx) (d : OutDesc) (ls : List Drawn) (a b : Nat) (f : CnvBuf) : CnvBuf :=
  let st (v : Nat) : Nat := if x.ten then v else to8 v
  let n := b - a
  { f with
    y := splice f.y (2 * a * x.w) ((List.range (2 * n * x.w)).map (fun i => st (compLuma d ls (i % x.w) (2 * a + i / x.w))))
    c := splice f.c (a * x.w) (((List.range (n * (x.w / 2))).map (fun i =>
      (compChroma d ls (i % (x.w / 2)) (a + i / (x.w / 2))).map st)).flatten) }

/-- A buffer full of the background (R314). -/
def bgBuf (x : EncCtx) (d : OutDesc) : CnvBuf := writeRows x d [] 0 (x.h / 2) {}

/-- The slice of a composition that is due in this tick. -/
def compDue (s : State) (c : Comp) : Option Nat :=
  match c.bound with
  | some b =>
    if curTick s - b < c.per ∧ ¬ c.done.contains (curTick s - b) then some (curTick s - b) else none
  | none => none

/-- An uncorrectable word of a plate was read: the plate is LOST (R330). -/
def plateLost (s : State) (k n : Nat) : State :=
  match tget s.cnv.plates k with
  | some p =>
    let s := setBit (bump s CNV_PLATE_UE_CNT n) CNV_ST_PLATE_UE
    if p.lost then s
    else raise (setPlate s k { p with lost := true }) p.owner EV_CNV_PLATE_LOST (BitVec.ofNat 16 k) (sat32 n) 0 0 0
  | none => s

/-- Rows of row pairs `a` to `b − 1` keep their old content (R331). -/
def oldRows (a b : Nat) (f : CnvBuf) : CnvBuf := { f with old := f.old ++ (List.range (2 * (b - a))).map (2 * a + ·) }

/-- Compose slice `j` of composition `k`; stopped after `stop` row pairs, its other rows keep their old content. -/
def canvasSlice (s : State) (k j : Nat) (x : EncCtx) (c : Comp) (skip : List Nat) (bad : Nat → List (Nat × Nat)) (stop : Option Nat) :
    State :=
  let a := pairAt x.h c.per j
  let b := pairAt x.h c.per (j + 1)
  let e := match stop with
    | some n => min b (a + n)
    | none => b
  let ls := if a = e then [] else drawnLayers s x c skip bad
  setComp s k { c with
    done := c.done ++ [j]
    bufs := c.bufs.modify c.cur (fun f => oldRows e b (if a = e then f else writeRows x c.desc ls a e f)) }

/-- A slice stopped under R39 counts as an overrun (R331). -/
def cnvOverrun (s : State) (x : EncCtx) : State :=
  if x.own then overrun s (4 * x.item + 1) 1 7 else overrunLayout s x.layout 7

/-- CANVAS_SLICE (R319): in WORK. `skip` is what it leaves out (R331, R412); `lost` names the plates with an uncorrectable
word, each with the pixels of the word (R330). -/
def execCanvasSlice (ctx : BitVec 10) (hits : List EccHit) (skip : SliceSkip) (lost : List (BitVec 12 × List (BitVec 13 × BitVec 13)))
    (s : State) : Host.Outcome State Fault Refusal :=
  act (fun s =>
    let k := ctx.toNat
    match tget s.vid.enc k, tget s.cnv.comps k with
    | some x, some c =>
      match compDue s c with
      | some j =>
        if ¬ s.easel.work ∨ ¬ x.live then s
        else
          let s := eccHits s hits
          let bad (p : Nat) : List (Nat × Nat) :=
            (lost.filter (fun e => e.1.toNat = p)).flatMap (fun e => e.2.map (fun q => (q.1.toNat, q.2.toNat)))
          let s := canvasSlice s k j x c (skip.layers.map (·.toNat)) bad (skip.stop.map (·.toNat))
          let s := if skip.stop.isSome then cnvOverrun s x else s
          ((lost.map (fun e => e.1.toNat)).eraseDups).foldl (fun s p =>
            plateLost s p ((lost.filter (fun e => e.1.toNat = p)).length)) s
      | none => s
    | _, _ => s) s

/-- The end of WORK for Canvas: slices due that did not run leave old rows (R331). -/
def cnvEnd (s : State) : State :=
  s.cnv.comps.foldl (fun s p =>
    match tget s.vid.enc p.1 with
    | some x =>
      match compDue s p.2 with
      | some j => cnvOverrun (canvasSlice s p.1 j x p.2 [] (fun _ => []) (some 0)) x
      | none => s
    | none => s) s

/-! ## Skipped ticks (R26) -/

/-- The boundary of a skipped tick `n`: nothing is latched, and the composition of that boundary goes into the other buffer. -/
def boundarySkip (s : State) (k n : Nat) (x : EncCtx) : State :=
  match tget s.cnv.comps k with
  | some c =>
    let cur := 1 - c.cur
    setComp s k { c with
      bound := some n, per := x.period, done := [], cur := cur, bufs := c.bufs.modify cur (fun b => { b with old := [] }) }
  | none => s

/-- Slices of a composition that fall in skipped ticks leave their rows' old content (R331). -/
def cnvSkip (sk : Nat → Bool) (s : State) (k : Nat) (x : EncCtx) : State :=
  match tget s.cnv.comps k with
  | none => s
  | some c =>
    (List.range c.per).foldl (fun s j =>
      match tget s.cnv.comps k with
      | some c =>
        if (c.bound.map (fun b => sk (b + j))).getD false ∧ ¬ c.done.contains j then
          canvasSlice s k j x c [] (fun _ => []) (some 0)
        else s
      | none => s) s

/-- Slices of a picture that fall in skipped ticks are abandoned slices (R26, R306). -/
def encSkip (sk : Nat → Bool) (s : State) (k : Nat) : State :=
  match (tget s.vid.enc k).bind (·.pic) with
  | some p => (List.range p.per).foldl (fun s j => if sk (p.start + j) && !p.done.contains j then sliceLost s k j else s) s
  | none => s

/-- Skipped ticks before tick `n` for an encode context and its composition: what was in progress loses its slices there; so do the picture
and the composition that would have started there, and those wholly within leave a key picture as next. -/
def ctxSkip (sk : Nat → Bool) (n : Nat) (s : State) (k : Nat) (x : EncCtx) : State :=
  let s := encSkip sk (cnvSkip sk s k x) k
  let t := n - 1 - (n - 1 + x.period - encSlot x) % x.period
  if !x.live || !sk t then s
  else
    let s := if sk (t - x.period) then
        modEnc (cnvSkip sk (boundarySkip s k (t - x.period) x) k x) k (fun x => { x with keyNext := true })
      else s
    let s := if n < t + x.period then encSkip sk (encStart s t k) k else modEnc s k (fun x => { x with keyNext := true })
    cnvSkip sk (boundarySkip s k t x) k x

/-! ## Layout and layer commands (R332) -/

/-- The layout a command names: admitted and the function's, or the status that refuses it (R317). -/
def layoutFor (s : State) (f id : Nat) : Except (BitVec 16) LayoutAdm :=
  match tget s.adm.layouts id with
  | none => .error CNV_ST_LAYOUT
  | some l => if l.item.releasing then .error CNV_ST_LAYOUT else if l.item.owner ≠ f then .error CNV_ST_NOT_OWNER else .ok l

/-- CNV_LAYOUT_SET (R315). -/
def execCnvLayoutSet (h : CmdHdr) (layout : BitVec 9) (mtx : BitVec 2) (full : Bool) (bgY bgCb bgCr : BitVec 10) (s : State) :
    Host.Outcome State Fault Refusal :=
  act (command h OP_CNV_LAYOUT_SET { modes := audModes, reserved := mtx = 3 } (fun s =>
    match layoutFor s h.fn.toNat layout.toNat with
    | .error st => (s, no st)
    | .ok _ =>
      let e := effTick s
      let l := layoutOf s layout.toNat
      (setLayout s layout.toNat { l with descs := l.descs ++ [(e, ⟨mtx.toNat, full, bgY.toNat, bgCb.toNat, bgCr.toNat⟩)] },
       ok (effArea e)))) s

/-- Check 4 of R317: the layer is staged elsewhere, or its group waits for a flip. -/
def stagedCheck (l : CnvLayout) (g i : Nat) : Option (BitVec 16) :=
  if l.groups.any (fun x => x.changes.any (fun c => c.layer = i) && (x.group ≠ g)) then some CNV_ST_STAGED
  else if l.groups.any (fun x => x.group = g && x.flipAt.isSome && (g ≠ 0 || x.changes.any (fun c => c.layer = i))) then
    some CNV_ST_FLIP_PENDING
  else none

/-- Stage a change of a layer: in group `g`, or with group 0 to flip at once (R322). -/
def stageLayer (s : State) (id g : Nat) (c : StagedLayer) : State :=
  let l := layoutOf s id
  if g = 0 then setLayout s id { l with groups := l.groups ++ [{ group := 0, changes := [c], flipAt := some (effTick s) }] }
  else if l.groups.any (fun x => x.group = g) then
    setLayout s id { l with groups := l.groups.map (fun x =>
      if x.group = g then { x with changes := x.changes.filter (fun y => y.layer ≠ c.layer) ++ [c] } else x) }
  else setLayout s id { l with groups := l.groups ++ [{ group := g, changes := [c] }] }

/-- Check 5 of R317. -/
def geometryOk (s : State) (a : LayoutAdm) (l : Layer) : Bool :=
  decide (l.x + l.w ≤ a.w) && decide (l.y + l.h ≤ a.h) &&
  (match l.kind with
   | 0 =>
     let r := ctxRec s l.src
     let (ws, hs) := srcSize s l
     decide (l.cx + ws ≤ r.rxW) && decide (l.cy + hs ≤ r.rxH) && decide (ws ≤ 8 * l.w) && decide (l.w ≤ 8 * ws)
       && decide (hs ≤ 8 * l.h) && decide (l.h ≤ 8 * hs)
   | 1 => ((tget s.cnv.plates l.src).bind (fun p => p.img.orElse (fun _ => p.loading.map (·.2.1)))).any
       (fun p => p.w = l.w && p.h = l.h)
   | _ => true)

/-- Checks 6 to 8 of R317 for setting `l` of a layer of layout `id`; `t` is the state with it staged. -/
def demandCheck (s t : State) (id : Nat) (l : Layer) : Option (BitVec 16) :=
  let sizes := checkSizes s id
  if sizes.any (fun c => c.draws s id l && decide (65536 < lineBytes s id c.w c.h l)) then some CNV_ST_LINE_BUFFER
  else if l.kind = 0 && sizes.any (fun c => decide (4 * c.w * c.h < readDemand t id (layoutOf t id) c)) then some CNV_ST_READ
  else if l.kind = 0 && decide (holdsOf s l.src < readers t l.src) then some CNV_ST_HOLDS
  else none

/-- CNV_LAYER_SET after R94: the checks of R317 in their order. -/
def layerSet (f id i g : Nat) (l : Layer) (s : State) : State × Res :=
  match layoutFor s f id with
  | .error st => (s, no st)
  | .ok a =>
    let dec := (tget s.vid.dec l.src).bind (fun x => if x.gone then none else some x)
    let pl := (tget s.cnv.plates l.src).bind (fun p => if p.gone then none else some p)
    if (l.kind = 0 && (dec.map (fun x => decide (x.owner ≠ f))).getD false)
        || (l.kind = 1 && (pl.map (fun x => decide (x.owner ≠ f))).getD false) then (s, no CNV_ST_NOT_OWNER)
    else if (l.kind = 0 && dec.isNone) || (l.kind = 1 && pl.isNone) then (s, no CNV_ST_SOURCE)
    else
      match stagedCheck (layoutOf s id) g i with
      | some st => (s, no st)
      | none =>
        if !geometryOk s a l then (s, no CNV_ST_GEOMETRY)
        else
          let t := stageLayer s id g ⟨i, some l⟩
          match demandCheck s t id l with
          | some st => (s, no st)
          | none => (t, ok (effArea (effTick s) ++ [if g = 0 then 0 else 1]))

/-- A field set of CNV_LAYER_SET that R316 does not list. -/
def layerReserved (kind : Nat) (src x y w h cx cy cw ch fence : Nat) : Bool :=
  kind = 3 || (kind ≤ 1 && decide (4096 ≤ src)) || (kind = 2 && decide (2 ^ 30 ≤ src))
  || [x, y, w, h, cx, cy, cw, ch].any (fun v => v % 2 ≠ 0) || decide (w < 2) || decide (h < 2)
  || decide ((cw = 0) ≠ (ch = 0)) || (kind ≠ 0 && [cx, cy, cw, ch, fence].any (· ≠ 0)) || fence = 3

/-- CNV_LAYER_SET (R316, R317, R322). -/
def execCnvLayerSet (h : CmdHdr) (kind : BitVec 2) (hideDmg selfHide : Bool) (group : BitVec 4) (layer : BitVec 6)
    (layout : BitVec 9) (src : BitVec 32) (x y w ht cx cy cw ch : BitVec 16) (alpha : BitVec 8) (fence : BitVec 2) (s : State) :
    Host.Outcome State Fault Refusal :=
  act (command h OP_CNV_LAYER_SET
    { modes := audModes
      reserved := layerReserved kind.toNat src.toNat x.toNat y.toNat w.toNat ht.toNat cx.toNat cy.toNat cw.toNat ch.toNat
        fence.toNat }
    (layerSet h.fn.toNat layout.toNat layer.toNat group.toNat
      ⟨kind.toNat, hideDmg, selfHide, src.toNat, x.toNat, y.toNat, w.toNat, ht.toNat, cx.toNat, cy.toNat, cw.toNat, ch.toNat,
        alpha.toNat, fence.toNat⟩)) s

/-- CNV_LAYER_CLEAR (R317, R322). -/
def execCnvLayerClear (h : CmdHdr) (group : BitVec 4) (layer : BitVec 6) (layout : BitVec 9) (s : State) :
    Host.Outcome State Fault Refusal :=
  act (command h OP_CNV_LAYER_CLEAR { modes := audModes } (fun s =>
    let id := layout.toNat
    let i := layer.toNat
    match layoutFor s h.fn.toNat id with
    | .error st => (s, no st)
    | .ok _ =>
      let l := layoutOf s id
      match stagedCheck l group.toNat i with
      | some st => (s, no st)
      | none =>
        if ¬ thas l.layers i ∧ ¬ l.groups.any (fun g => g.changes.any (fun c => c.layer = i)) then (s, no CNV_ST_LAYER_EMPTY)
        else (stageLayer s id group.toNat ⟨i, none⟩, ok (effArea (effTick s) ++ [if group = 0 then 0 else 1])))) s

/-- CNV_GROUP_FLIP (R322). -/
def execCnvGroupFlip (h : CmdHdr) (group : BitVec 4) (layout : BitVec 9) (s : State) : Host.Outcome State Fault Refusal :=
  act (command h OP_CNV_GROUP_FLIP { modes := audModes, reserved := group = 0 } (fun s =>
    let id := layout.toNat
    match layoutFor s h.fn.toNat id with
    | .error st => (s, no st)
    | .ok _ =>
      let l := layoutOf s id
      match l.groups.find? (fun g => g.group = group.toNat) with
      | none => (s, no CNV_ST_GROUP_EMPTY)
      | some g =>
        if g.flipAt.isSome then (s, no CNV_ST_FLIP_PENDING)
        else
          let e := effTick s
          (setLayout s id { l with groups := l.groups.map (fun x => if x = g then { g with flipAt := some e } else x) },
           ok (effArea e)))) s

/-! ## Varnish (R329, R330) -/

/-- Varnish units free. -/
def varnishFree (s : State) : Nat :=
  let u (i : PlateImg) : Nat := plateUnits i.w i.h
  4096 - s.cnv.plates.foldl (fun a p =>
    a + (p.2.img.map u).getD 0 + p.2.old.foldl (fun b o => b + u o.2) 0 + (p.2.loading.map (fun l => u l.2.1)).getD 0) 0

/-- Element `i` of a list block with its image. -/
def elemAt (ws : List Word) (imgs : List ImgData) (i : Nat) : Elem :=
  let o := 8 * i
  ⟨wbits ws (o + 2) 31 16, wbits ws (o + 2) 15 0, wbits ws (o + 3) 31 16, wbits ws (o + 3) 15 0, wbits ws (o + 4) 31 24,
    wbits ws (o + 4) 23 0, imgs.getD i []⟩

/-- An element list that R329 allows. -/
def elemOk (ws : List Word) (w h i : Nat) : Bool :=
  let e := elemAt ws [] i
  let o := 8 * i
  wbits ws o 5 0 = 0 && decide (1 ≤ e.w) && decide (e.w ≤ 8192) && decide (1 ≤ e.h) && decide (e.h ≤ 8192)
    && decide (e.x + e.w ≤ w) && decide (e.y + e.h ≤ h) && e.stride % 4 = 0 && decide (4 * e.w ≤ e.stride)
    && [5, 6, 7].all (fun j => ws.getD (o + j) 0 = 0)

/-- CNV_VARNISH_LOAD (R329, R330): `imgs` are the elements' images as read. The command completes at PLATE_VALID. -/
def execCnvVarnishLoad (h : CmdHdr) (plate : BitVec 12) (w ht : BitVec 16) (mtx : BitVec 2) (full : Bool) (count : BitVec 5)
    (addr : BitVec 64) (dma : Dma) (imgs : Option (List ImgData)) (s : State) : Host.Outcome State Fault Refusal :=
  act (commandLong h OP_CNV_VARNISH_LOAD
    { modes := audModes, reserved := mtx = 3 || count = 0 || decide (16 < count.toNat), misaligned := addr.toNat % 64 ≠ 0
      dmaFailed := dma.isNone || imgs.isNone }
    (fun s =>
      let k := plate.toNat
      let p := (tget s.cnv.plates k).getD { owner := h.fn.toNat }
      let ws := dmaWords dma
      let w := w.toNat
      let ht := ht.toNat
      if p.owner ≠ h.fn.toNat then (s, some (no CNV_ST_NOT_OWNER))
      else if w % 2 ≠ 0 || ht % 2 ≠ 0 || decide (w < 2) || decide (ht < 2) || decide (8192 < w) || decide (8192 < ht)
          || !(List.range count.toNat).all (elemOk ws w ht) then (s, some (no CNV_ST_PLATE_IMAGE))
      else if p.loading.isSome || p.gone then (s, some (no CNV_ST_PLATE_BUSY))
      else if varnishFree s < plateUnits w ht then (s, some (no CNV_ST_VARNISH_FULL))
      else
        let img := buildPlate mtx.toNat full w ht ((List.range count.toNat).map (elemAt ws (imgs.getD [])))
        (setPlate s k { p with loading := some (h, img, curTick s) }, none))) s

/-- New content becomes VALID; the old stays for the compositions that show it. -/
def Plate.fill (p : Plate) (img : PlateImg) : Plate :=
  { p with img := some img, old := p.old ++ p.img.toList.map (p.ver, ·), lost := false, loading := none, ver := p.ver + 1 }

/-- PLATE_VALID (R329, R330): the new content of a plate, which firmware makes, is in place and its command completes. -/
def execPlateValid (plate : BitVec 12) (s : State) : Host.Outcome State Fault Refusal :=
  act (fun s =>
    let k := plate.toNat
    match if s.pwr.fwStop then none else tget s.cnv.plates k with
    | some p =>
      match p.loading with
      | some (h, img, _) =>
        let s := dropOldPlates (setPlate s k (p.fill img))
        complete s h OP_CNV_VARNISH_LOAD ST_OK (effArea (effTick s) ++ [BitVec.ofNat 32 (varnishFree s)])
      | none => s
    | none => s) s

/-- A layer, current or staged, names plate `k`. -/
def plateNamed (s : State) (k : Nat) : Bool :=
  s.cnv.layouts.any (fun p => (List.range 64).any (fun i => (layerSets p.2 i).any (fun l => l.kind = 1 && l.src = k)))
  || s.cnv.comps.any (fun c => c.2.layers.any (fun l => l.2.kind = 1 && l.2.src = k))

/-- CNV_VARNISH_DROP (R330): the plate is FREE from the effect tick on. -/
def execCnvVarnishDrop (h : CmdHdr) (plate : BitVec 12) (s : State) : Host.Outcome State Fault Refusal :=
  act (command h OP_CNV_VARNISH_DROP { modes := audModes } (fun s =>
    match (tget s.cnv.plates plate.toNat).bind (fun p => if p.gone then none else some p) with
    | none => (s, no CNV_ST_SOURCE)
    | some p =>
      if p.owner ≠ h.fn.toNat then (s, no CNV_ST_NOT_OWNER)
      else if p.loading.isSome || plateNamed s plate.toNat then (s, no CNV_ST_PLATE_BUSY)
      else
        let e := effTick s
        (stage (setPlate s plate.toNat { p with gone := true }) e (.plateDrop plate.toNat), ok (effArea e)))) s

/-- The effect tick of CNV_VARNISH_DROP. -/
def plateDropApply (s : State) (k : Nat) : State :=
  if (tget s.cnv.plates k).any (·.gone) then { s with cnv := { s.cnv with plates := tdel s.cnv.plates k } } else s

/-- Every plate becomes FREE (R330), on entry to DOZE or SLEEP. -/
def platesFree (s : State) : State := { s with cnv := { s.cnv with plates := [] } }

/-! ## Contexts and layouts that end (R315, R320) -/

/-- A decode context has closed: layers that name it draw nothing from now on (R320). -/
def cnvSourceGone (s : State) (ctx : Nat) : State :=
  let hit (l : Layer) : Bool := l.kind = 0 && l.src = ctx
  let s := s.cnv.comps.foldl (fun s p =>
    match tget s.vid.enc p.1 with
    | some x =>
      (p.2.layers.filter (fun l => hit l.2)).foldl (fun s l =>
        raise s x.owner EV_CNV_LAYER_OMIT (BitVec.ofNat 16 x.layout) (BitVec.ofNat 32 (l.1 * 2 ^ 16 + 3)) (BitVec.ofNat 32 p.1) 0 0) s
    | none => s) s
  let dead (l : Layer) : Layer := if hit l then { l with src := noSource } else l
  { s with cnv := { s.cnv with
      comps := s.cnv.comps.map (fun (k, c) =>
        (k, { c with held := c.held.map (fun h => if (tget c.layers h.1).any hit then (h.1, { stale := h.2.stale }) else h), layers := c.layers.map (fun l => (l.1, dead l.2)) }))
      layouts := s.cnv.layouts.map (fun (k, l) =>
        (k, { l with
          layers := l.layers.map (fun x => (x.1, dead x.2))
          groups := l.groups.map (fun g => { g with changes := g.changes.map (fun c => { c with set := c.set.map dead }) }) })) } }

/-- A layout's release clears every layer, staged change and group (R315). -/
def cnvLayoutGone (s : State) (id : Nat) : State := { s with cnv := { s.cnv with layouts := tdel s.cnv.layouts id } }

end Sys2Proof.Machine
end

