-- ==== Sys2Proof/Machine/Desc.lean ====
section
/-! DEFINITION. Command descriptors (R92): opcodes, the bits of the command area that each opcode defines, and the command that a
descriptor's words spell (R94 to R118). Log entries: 12. -/

namespace Sys2Proof.Machine

/-- Bits `hi` to `lo` of word `i` of the command area. -/
def cw (a : List Word) (i hi lo n : Nat) : BitVec n := BitVec.ofNat n (bitsOf (a.getD i 0) hi lo)

/-- Bit `b` of word `i`. -/
def cb (a : List Word) (i b : Nat) : Bool := bitsOf (a.getD i 0) b b = 1

/-- The host address whose low word is word `i`. -/
def ca (a : List Word) (i : Nat) : BitVec 64 := a.getD (i + 1) 0 ++ a.getD i 0

/-- Words 2 and 3 of the command area hold an address. -/
def addrMask (w0 : Nat) : List Nat := [w0, 0, 0xffffffff, 0xffffffff]

/-- What an opcode's command area defines: whether it is reserved to function 0, and by word the bits that are no reserved
field. Kinds that word 0 selects have masks of their own. -/
structure Layout where
  fn0 : Bool
  mask : List Nat

/-- The layout of an opcode's command area; none for an opcode not in the catalogue of R118. -/
def layoutOfOp (op : Nat) (a : List Word) : Option Layout :=
  let f (m : List Nat) : Option Layout := some ⟨false, m⟩
  let z (m : List Nat) : Option Layout := some ⟨true, m⟩
  let full := 0xffffffff
  match op / 256, op % 256 with
  | 0x01, 0x01 => f []
  | 0x01, 0x02 => f []
  | 0x01, 0x03 => f [0x8000ffff]
  | 0x01, 0x04 => z [0x3f]
  | 0x02, 0x01 => f [0xfff, 0x0fff0fff, 0x1f]
  | 0x02, 0x02 => f [0xfff]
  | 0x02, 0x03 => f (addrMask 0x03ffffff)
  | 0x02, 0x04 => f (addrMask 0x03ffffff)
  | 0x02, 0x05 => f [0x3fff]
  | 0x02, 0x06 => f [0x8000ffff]
  | 0x02, 0x07 => z [0x003f0f00, 0x7ff]
  | 0x02, 0x08 => f [0x001fffff, full, 0xfff0ffff, 1]
  | 0x02, 0x09 => f [0x1ff]
  | 0x03, 0x01 => f (addrMask 0xffff)
  | 0x03, 0x02 => f [0xffff]
  | 0x03, 0x03 => z (addrMask 0x8000000f)
  | 0x03, 0x04 => f [0x8000ffff, 0xf]
  | 0x03, 0x05 => f [0xffff]
  | 0x03, 0x10 => f [0xfffff, full, full, full, 0xffffff00, 0xffff0000, 0xc000070f]
  | 0x03, 0x11 => f [0xfffff]
  | 0x03, 0x12 => f [0xfffff, 0, 0, 0, 0, 0, 0xc000070f]
  | 0x03, 0x13 => f [0x3fff]
  | 0x03, 0x14 => f [0x3ffff]
  | 0x03, 0x15 => f [0x33fff, full, full, full]
  | 0x04, 0x01 => f (addrMask 1)
  | 0x04, 0x02 => f (addrMask 0xffffff)
  | 0x04, 0x03 => f [0xffff, 0xffff]
  | 0x04, 0x04 => f [0xffff]
  | 0x04, 0x05 => f [0xdc01ffff, 0xffff, full, 0xffff0000, full, full, full, full, 0x7fffffff]
  | 0x04, 0x06 => f [0x1ffff]
  | 0x04, 0x07 => f (addrMask 0x8007ffff)
  | 0x05, 0x01 => if cb a 0 31 then f [0x83000fff, 0x7f] else f [0x3fff, 0xfff18007, full, full, full, full]
  | 0x05, 0x02 => f [0x3fff, 7]
  | 0x05, 0x03 => f [0xc0003fff, full, full, full, 0xffff]
  | 0x05, 0x04 => f [if cb a 0 31 then 0x83003fff else 0xc3003fff, 0xff00ffff, full, full, full]
  | 0x05, 0x05 => f [0x83003fff]
  | 0x05, 0x06 => f [0x80003fff]
  | 0x05, 0x07 => f [0x803fffff, 0x0300ffff]
  | 0x06, 0x01 => f (addrMask 0xff)
  | 0x06, 0x02 => f [0xff]
  | 0x06, 0x03 => f [0xff033fff, 0xffffff, 0xffffff, 0xffffff, 0xffffff]
  | 0x06, 0x04 => f [0x33fff]
  | 0x06, 0x05 => f [0x80033fff]
  | 0x07, 0x01 => f [0xff1fffff]
  | 0x07, 0x02 => f [0xfff]
  | 0x07, 0x03 => f [0x80003fff, full, 0xff7fffff, full]
  | 0x07, 0x04 => f [0x3ff]
  | 0x07, 0x05 => f [0x3ff, full, full, 0xff0f]
  | 0x07, 0x06 => f [0x3ff]
  | 0x07, 0x07 => f [0xb03f0fff, full]
  | 0x07, 0x08 => f (addrMask 0xc0000fff)
  | 0x08, 0x01 => f [0x1ff, 0xe0000000, 0x3fffffff]
  | 0x08, 0x02 => f [0xff3f01ff, full, full, full, full, full, 0xff000300]
  | 0x08, 0x03 => f [0x0f3f01ff]
  | 0x08, 0x04 => f [0x0f0001ff]
  | 0x08, 0x05 => f [0xfff, full, 0xe000001f, 0, full, full]
  | 0x08, 0x06 => f [0xfff]
  | 0x09, 0x01 => z [0xc0000000, full, if cb a 0 30 then 0xffff else full, if cb a 0 30 then 0x3fffffff else 0]
  | 0x09, 0x02 => z [0x80000000, full]
  | 0x09, 0x03 => z [0xefff8000, full, full, 0xffffff]
  | 0x09, 0x04 => f []
  | 0x0a, 0x01 =>
    match bitsOf (a.getD 0 0) 31 30 with
    | 0 => z [0xe, 0x37, 0x1f]
    | 1 => z [0x401f000c]
    | 2 => f [0x8000ffff, 0xfffff, 0x1f, 0x80000000]
    | _ => f [0xc000ffff, 0x0f0fffff, full, full, full, full, 0x80000000]
  | 0x0a, 0x02 => z [full, full, full, 0xffff]
  | 0x0a, 0x03 => z [0xc, 0xff]
  | 0x0a, 0x04 => f [0xc]
  | 0x0a, 0x05 => z [0xf]
  | 0x0b, 0x01 => z [0x8000000f]
  | 0x0b, 0x02 => z [0x8000000f, 0x7ff, 0x7ff]
  | 0x0b, 0x03 => z []
  | 0x0b, 0x04 => z (addrMask 0x80000000)
  | 0x0c, 0x01 => z (addrMask 0x80000000)
  | 0x0c, 0x02 => z (addrMask 1)
  | 0x0c, 0x03 => z [0xff00ffff, 0xffff, full, full]
  | 0x0c, 0x04 => z (addrMask 0xff00ffff)
  | 0x0d, 0x01 => z [7]
  | 0x0d, 0x02 => z (addrMask 0x80000000)
  | 0x0d, 0x03 => z [0xffff]
  | 0x0d, 0x04 => z []
  | _, _ => none

/-- What the descriptor's command brings with it from host memory beside its own words: a block it names, the first
instruction of a Brush image that the assembler's rules refuse, the images of a Varnish element list. -/
structure CmdData where
  dma : Dma
  bad : Option (BitVec 16)
  imgs : Option (List ImgData)

/-- What the general opcodes (R112) spell; `op` is the low byte. -/
def decodeGen (h : CmdHdr) (op : Nat) (a : List Word) (_x : CmdData) : Option Instr :=
  let hd := cw a 0 15 0 16
  let clr := cb a 0 31
  match op with
  | 0x01 => some (.genNop h)
  | 0x02 => some (.genFnInfo h)
  | 0x03 => some (.genEventMask h clr hd)
  | 0x04 => some (.genVfReset h (cw a 0 5 0 6))
  | _ => none

/-- What the admission opcodes spell; `op` is the low byte. -/
def decodeAdm (h : CmdHdr) (op : Nat) (a : List Word) (x : CmdData) : Option Instr :=
  let leg := cw a 0 13 0 14
  let hd := cw a 0 15 0 16
  let addr := ca a 2
  let clr := cb a 0 31
  match op with
  | 0x01 => some (.admConfOpen h (cw a 0 11 0 12) (cw a 1 27 16 12) (cw a 1 11 0 12) (cw a 2 4 0 5))
  | 0x02 => some (.admConfClose h (cw a 0 11 0 12))
  | 0x03 => some (.admLegAdmit h (cw a 0 25 14 12) leg addr x.dma)
  | 0x04 => some (.admLegModify h (cw a 0 25 14 12) leg addr x.dma)
  | 0x05 => some (.admLegRelease h leg)
  | 0x06 => some (.admLegStats h clr hd)
  | 0x07 => some (.admFnBudgetSet h (cw a 0 21 16 6) (cw a 0 11 8 4) (cw a 1 10 0 11))
  | 0x08 => some (.admLayoutAdmit h (cw a 0 20 12 9) (cw a 0 11 0 12) (cw a 1 31 16 16) (cw a 1 15 0 16) (cw a 2 31 20 12)
      (cw a 2 15 8 8) (cw a 2 7 0 8) (cw a 3 0 0 1))
  | 0x09 => some (.admLayoutRelease h (cw a 0 8 0 9))
  | _ => none

/-- What the network and forwarding opcodes spell; `op` is the low byte. -/
def decodeNet (h : CmdHdr) (op : Nat) (a : List Word) (x : CmdData) : Option Instr :=
  let leg := cw a 0 13 0 14
  let hd := cw a 0 15 0 16
  let addr := ca a 2
  let clr := cb a 0 31
  match op with
  | 0x01 => some (.netStreamBind h hd addr x.dma)
  | 0x02 => some (.netStreamUnbind h hd)
  | 0x03 => some (.netPortStats h clr (cw a 0 3 2 2) (cw a 0 1 0 2) addr)
  | 0x04 => some (.netJbSet h clr hd (cw a 1 3 0 4))
  | 0x05 => some (.netQueueFlush h hd)
  | 0x10 => some (.fwdSubSet h (cw a 0 19 0 20) (cw a 1 31 16 16) (cw a 1 15 0 16) (cw a 2 31 0 32) (cw a 3 31 0 32)
      (cw a 4 31 16 16) (cb a 4 15) (cw a 4 14 8 7) (cw a 5 31 28 4) (cw a 5 27 24 4) (cw a 5 23 20 4) (cw a 5 19 16 4)
      (cb a 6 31) (cb a 6 30) (cw a 6 10 8 3) (cw a 6 3 2 2) (cw a 6 1 0 2))
  | 0x11 => some (.fwdSubClear h (cw a 0 19 0 20))
  | 0x12 => some (.fwdSubCap h (cw a 0 19 0 20) (cb a 6 31) (cb a 6 30) (cw a 6 10 8 3) (cw a 6 3 2 2) (cw a 6 1 0 2))
  | 0x13 => some (.fwdEstRead h leg)
  | 0x14 => some (.fwdKeyPicReq h (cw a 0 17 16 2) hd)
  | 0x15 => some (.fwdPaceSet h (cw a 0 17 16 2) leg (cw a 1 31 0 32) (cw a 2 31 0 32) (cw a 3 31 0 32))
  | _ => none

/-- What the key and cipher opcodes spell; `op` is the low byte. -/
def decodeKey (h : CmdHdr) (op : Nat) (a : List Word) (x : CmdData) : Option Instr :=
  let hd := cw a 0 15 0 16
  let addr := ca a 2
  let clr := cb a 0 31
  match op with
  | 0x01 => if cb a 0 0 then some (.kekAgree h addr x.dma) else some (.keyKekInfo h addr)
  | 0x02 => some (.keyImport h (cw a 0 23 16 8) hd addr x.dma)
  | 0x03 => some (.keyDerive h hd (cw a 1 15 0 16))
  | 0x04 => some (.keyErase h hd)
  | 0x05 => some (.cipBind h clr (cb a 0 30) (cw a 0 28 26 3) (cb a 0 16) hd (cw a 1 15 0 16) (cw a 2 31 0 32)
      (cw a 3 31 16 16) (cw a 4 31 0 32) (cw a 5 31 0 32) (cw a 6 31 0 32) (cw a 7 31 0 32) (cw a 8 30 0 31))
  | 0x06 => some (.cipUnbind h (cb a 0 16) hd)
  | 0x07 => some (.cipStats h clr (cw a 0 18 17 2) (cb a 0 16) hd addr)
  | _ => none

/-- What the audio opcodes spell; `op` is the low byte. -/
def decodeAud (h : CmdHdr) (op : Nat) (a : List Word) (_x : CmdData) : Option Instr :=
  let leg := cw a 0 13 0 14
  let clr := cb a 0 31
  match op with
  | 0x01 =>
    if clr then some (.audBusSetting h (cw a 0 25 24 2) (cw a 0 11 0 12) (cw a 1 6 0 7))
    else some (.audRouteSet h leg (cw a 1 31 28 4) (cw a 1 27 24 4) (cw a 1 23 20 4) (cb a 1 16) (cb a 1 15) (cw a 1 2 0 3)
      (cw a 2 15 0 16) (cw a 2 31 16 16) (cw a 3 15 0 16) (cw a 3 31 16 16) (cw a 4 15 0 16) (cw a 4 31 16 16)
      (cw a 5 15 0 16) (cw a 5 31 16 16))
  | 0x02 => some (.audRouteClear h leg (cw a 1 2 0 3))
  | 0x03 => some (.audSinkDyn h clr (cb a 0 30) leg (cw a 1 31 16 16) (cw a 1 15 0 16) (cw a 2 31 16 16) (cw a 2 15 0 16)
      (cw a 3 31 16 16) (cw a 3 15 0 16) (cw a 4 15 0 16))
  | 0x04 => some (.audTonePlay h clr (cb a 0 30) (cw a 0 25 24 2) leg (cw a 1 31 24 8) (cw a 1 15 0 16) (cw a 2 31 16 16)
      (cw a 2 15 0 16) (cw a 3 31 16 16) (cw a 3 15 0 16) (cw a 4 31 16 16) (cw a 4 15 0 16))
  | 0x05 => some (.audToneStop h clr (cw a 0 25 24 2) leg)
  | 0x06 => some (.audLevels h clr leg)
  | 0x07 =>
    if clr then
      if cw a 0 15 14 2 = (3 : BitVec 2) ∨ (cw a 0 15 14 2 = (0 : BitVec 2) ∧ cw a 0 13 12 2 ≠ (0 : BitVec 2)) then none
      else some (.audMediaUnbind h (cw a 0 21 16 6))
    else some (.audMediaBind h (cw a 0 21 16 6) (cw a 0 15 14 2) leg (cw a 1 25 24 2) (cw a 1 15 0 16))
  | _ => none

/-- What the Brush opcodes spell; `op` is the low byte. -/
def decodeBrs (h : CmdHdr) (op : Nat) (a : List Word) (x : CmdData) : Option Instr :=
  let leg := cw a 0 13 0 14
  let addr := ca a 2
  let clr := cb a 0 31
  match op with
  | 0x01 => some (.brsProgLoad h (cw a 0 7 0 8) addr x.dma x.bad)
  | 0x02 => some (.brsProgUnload h (cw a 0 7 0 8))
  | 0x03 => some (.brsTaskBind h (cw a 0 31 24 8) (cw a 0 17 16 2) leg (cw a 1 23 0 24) (cw a 2 23 0 24) (cw a 3 23 0 24)
      (cw a 4 23 0 24))
  | 0x04 => some (.brsTaskUnbind h (cw a 0 17 16 2) leg)
  | 0x05 => some (.brsStats h clr (cw a 0 17 16 2) leg)
  | _ => none

/-- What the video opcodes spell; `op` is the low byte. -/
def decodeVid (h : CmdHdr) (op : Nat) (a : List Word) (_x : CmdData) : Option Instr :=
  let leg := cw a 0 13 0 14
  let hd := cw a 0 15 0 16
  let addr := ca a 2
  let clr := cb a 0 31
  match op with
  | 0x01 => some (.vidDecOpen h clr (cw a 0 30 29 2) (cw a 0 28 27 2) (cw a 0 26 24 3) (cw a 0 20 16 5) hd)
  | 0x02 => some (.vidDecClose h (cw a 0 11 0 12))
  | 0x03 => some (.vidEncOpen h clr leg (cw a 1 31 16 16) (cw a 1 15 0 16) (cw a 2 31 30 2) (cw a 2 29 28 2) (cw a 2 27 24 4)
      (cw a 2 22 16 7) (cw a 2 15 0 16) (cw a 3 31 0 32))
  | 0x04 => some (.vidEncClose h (cw a 0 9 0 10))
  | 0x05 => some (.vidEncRate h (cw a 0 9 0 10) (cw a 1 31 0 32) (cw a 2 31 0 32) (cw a 3 15 8 8) (cw a 3 3 0 4))
  | 0x06 => some (.vidKeyPic h (cw a 0 9 0 10))
  | 0x07 =>
    if clr then
      if cw a 0 29 28 2 = (3 : BitVec 2) ∨ (cw a 0 29 28 2 = (2 : BitVec 2) ∧ cw a 0 11 10 2 ≠ (0 : BitVec 2)) then none
      else some (.vidMediaUnbind h (cw a 0 21 16 6))
    else some (.vidMediaBind h (cw a 0 29 28 2) (cw a 0 21 16 6) (cw a 0 11 0 12) (cw a 1 31 16 16) (cw a 1 15 0 16))
  | 0x08 => some (.vidStats h clr (cb a 0 30) (cw a 0 11 0 12) addr)
  | _ => none

/-- What the canvas opcodes spell; `op` is the low byte. -/
def decodeCnv (h : CmdHdr) (op : Nat) (a : List Word) (x : CmdData) : Option Instr :=
  match op with
  | 0x01 => some (.cnvLayoutSet h (cw a 0 8 0 9) (cw a 1 31 30 2) (cb a 1 29) (cw a 2 29 20 10) (cw a 2 19 10 10) (cw a 2 9 0 10))
  | 0x02 => some (.cnvLayerSet h (cw a 0 31 30 2) (cb a 0 29) (cb a 0 28) (cw a 0 27 24 4) (cw a 0 21 16 6) (cw a 0 8 0 9)
      (cw a 1 31 0 32) (cw a 2 31 16 16) (cw a 2 15 0 16) (cw a 3 31 16 16) (cw a 3 15 0 16) (cw a 4 31 16 16) (cw a 4 15 0 16)
      (cw a 5 31 16 16) (cw a 5 15 0 16) (cw a 6 31 24 8) (cw a 6 9 8 2))
  | 0x03 => some (.cnvLayerClear h (cw a 0 27 24 4) (cw a 0 21 16 6) (cw a 0 8 0 9))
  | 0x04 => some (.cnvGroupFlip h (cw a 0 27 24 4) (cw a 0 8 0 9))
  | 0x05 => some (.cnvVarnishLoad h (cw a 0 11 0 12) (cw a 1 31 16 16) (cw a 1 15 0 16) (cw a 2 31 30 2) (cb a 2 29)
      (cw a 2 4 0 5) (ca a 4) x.dma x.imgs)
  | 0x06 => some (.cnvVarnishDrop h (cw a 0 11 0 12))
  | _ => none

/-- What the time opcodes spell; `op` is the low byte. -/
def decodePtp (h : CmdHdr) (op : Nat) (a : List Word) (_x : CmdData) : Option Instr :=
  let clr := cb a 0 31
  match op with
  | 0x01 =>
    if cb a 0 30 then some (.ptpStep h clr true ((cw a 2 15 0 32 ++ cw a 1 31 0 32 : BitVec 64)) (cw a 3 29 0 30))
    else some (.ptpStep h clr false (ca a 1) 0)
  | 0x02 => some (.ptpRate h clr (cw a 1 31 0 32))
  | 0x03 => some (.ptpServoCfg h clr (cw a 0 30 29 2) (cw a 0 27 24 4) (cw a 0 23 16 8) (cb a 0 15) (cw a 1 31 0 32)
      (cw a 2 31 0 32) (cw a 3 23 16 8) (cw a 3 15 0 16))
  | 0x04 => some (.ptpStatus h)
  | _ => none

/-- What the Meash opcodes spell; `op` is the low byte. -/
def decodeMsh (h : CmdHdr) (op : Nat) (a : List Word) (_x : CmdData) : Option Instr :=
  let hd := cw a 0 15 0 16
  match op with
  | 0x01 =>
    match bitsOf (a.getD 0 0) 31 30 with
    | 0 => some (.mshPortCfg h (cw a 0 3 2 2) (cb a 0 1) (cw a 1 5 4 2) (cb a 1 2) (cb a 1 1) (cb a 1 0) (cw a 2 4 0 5))
    | 1 => some (.mshRouteSet h (cw a 0 20 16 5) (cw a 0 3 2 2))
    | 2 => some (.mshStreamExport h hd (cw a 1 19 0 20) (cw a 2 4 0 5) (cb a 3 31))
    | _ => some (.mshStreamImport h hd (cw a 1 19 0 20) (cw a 1 27 24 4) (cw a 2 31 0 32) (cw a 3 31 0 32) (cw a 4 31 0 32)
        (cw a 5 31 0 32) (cb a 6 31))
  | 0x02 =>
    let w (i : Nat) : BitVec 32 :=
      cw a i 7 0 8 ++ cw a i 15 8 8 ++ (cw a i 23 16 8 ++ cw a i 31 24 8 : BitVec 16)
    some (.mshTraceSet h (BitVec.ofNat 112 ((w 0).toNat * 2 ^ 80 + (w 1).toNat * 2 ^ 48 + (w 2).toNat * 2 ^ 16 + (w 3).toNat / 2 ^ 16)))
  | 0x03 => some (.mshApsCmd h (cw a 0 3 2 2) (cw a 1 7 4 4) (cw a 1 3 0 4))
  | 0x04 => some (.mshPeerStatus h (cw a 0 3 2 2))
  | 0x05 => some (.mshWakeSend h (cw a 0 3 0 4))
  | _ => none

/-- What the memory opcodes spell; `op` is the low byte. -/
def decodeMem (h : CmdHdr) (op : Nat) (a : List Word) (_x : CmdData) : Option Instr :=
  let addr := ca a 2
  let clr := cb a 0 31
  match op with
  | 0x01 => some (.memSweep h clr (cw a 0 3 0 4))
  | 0x02 =>
    if clr then some (.softRepairClearAll h (cw a 0 3 0 4) (cw a 1 10 0 11) (cw a 2 10 0 11))
    else some (.memSoftRepair h (cw a 0 3 0 4) (cw a 1 10 0 11) (cw a 2 10 0 11))
  | 0x03 => some (.memSpareStatus h)
  | 0x04 => some (.memErrLog h clr addr)
  | _ => none

/-- What the calibration opcodes spell; `op` is the low byte. -/
def decodeCal (h : CmdHdr) (op : Nat) (a : List Word) (x : CmdData) : Option Instr :=
  let hd := cw a 0 15 0 16
  let addr := ca a 2
  let clr := cb a 0 31
  match op with
  | 0x01 => some (.calGlazeLoad h clr addr x.dma)
  | 0x02 => some (.calGlazeRead h (cb a 0 0) addr)
  | 0x03 => some (.calLiveRead h (cw a 0 31 24 8) hd (cw a 1 15 0 16) addr)
  | 0x04 => some (.calGessoRead h (cw a 0 31 24 8) hd addr)
  | _ => none

/-- What the power opcodes spell; `op` is the low byte. -/
def decodePwr (h : CmdHdr) (op : Nat) (a : List Word) (_x : CmdData) : Option Instr :=
  let hd := cw a 0 15 0 16
  let addr := ca a 2
  let clr := cb a 0 31
  match op with
  | 0x01 =>
    match bitsOf (a.getD 0 0) 2 0 with
    | 3 => some (.pwrModeReqRun h)
    | 5 => some (.pwrModeReqDrain h)
    | 6 => some (.pwrModeReqDoze h)
    | 7 => some (.pwrModeReqSleep h)
    | _ => none
  | 0x02 => some (.pwrResidency h clr addr)
  | 0x03 => some (.pwrSilHoldSet h hd)
  | 0x04 => some (.pwrThermal h)
  | _ => none

/-- The command that opcode `op` and command area `a` spell (R118); none for an opcode outside the catalogue and for a reserved encoding
that selects no command. -/
def decodeCmd (h : CmdHdr) (op : Nat) (a : List Word) (x : CmdData) : Option Instr :=
  let lo := op % 256
  match op / 256 with
  | 0x01 => decodeGen h lo a x
  | 0x02 => decodeAdm h lo a x
  | 0x03 => decodeNet h lo a x
  | 0x04 => decodeKey h lo a x
  | 0x05 => decodeAud h lo a x
  | 0x06 => decodeBrs h lo a x
  | 0x07 => decodeVid h lo a x
  | 0x08 => decodeCnv h lo a x
  | 0x09 => decodePtp h lo a x
  | 0x0a => decodeMsh h lo a x
  | 0x0b => decodeMem h lo a x
  | 0x0c => decodeCal h lo a x
  | 0x0d => decodePwr h lo a x
  | _ => none

/-- No reserved field of the header or the command area is nonzero (R94, step 3). -/
def reservedClear (ws : List Word) (mask : List Nat) : Bool :=
  bitsOf (ws.getD 1 0) 29 0 = 0 && ws.getD 2 0 = 0 && ws.getD 3 0 = 0
    && (List.range 12).all (fun i => (ws.getD (4 + i) 0) &&& ~~~(BitVec.ofNat 32 (mask.getD i 0)) = 0)

/-- The command of a fetched descriptor with the status that steps 1 to 3 of R94 give at once. -/
def descWaiting (h : CmdHdr) (ws : List Word) (x : CmdData) : Waiting :=
  let op := bitsOf (ws.getD 0 0) 31 16
  let a := ws.drop 4
  let cmd := decodeCmd h op a x
  let early : Option (BitVec 16) :=
    match layoutOfOp op a with
    | none => some GEN_ST_OPCODE
    | some l =>
      if l.fn0 && h.fn ≠ 0 then some GEN_ST_NOT_PERMITTED
      else if !reservedClear ws l.mask || cmd.isNone then some GEN_ST_RESERVED
      else none
  { h := h, fence := bitsOf (ws.getD 1 0) 31 31 = 1, opcode := BitVec.ofNat 16 op, early := early, cmd := cmd }

/-! ## The other way: the descriptor of a command (R92, R118) -/

/-- The sum of values, each moved up to its lowest bit. -/
def fieldSum : List (Nat × Nat) → Nat
  | [] => 0
  | (i, v) :: r => v * 2 ^ i + fieldSum r

/-- A word from the values of its fields, each at its lowest bit. -/
def fw (fs : List (Nat × Nat)) : Word := BitVec.ofNat 32 (fieldSum fs)

/-- No block of host memory comes with the command. -/
def noData : CmdData := ⟨none, none, none⟩

/-- The header, the opcode, the command area and the block of host memory that spell a host command; none for a command that no
descriptor carries, for a PTP_STEP by an offset that carries a time, and for seconds beyond 48 bits. -/
def encodeCmd (i : Instr) : Option (CmdHdr × Nat × List Word × CmdData) :=
  match i with
  | .genNop h => some (h, 0x0101, [], noData)
  | .genFnInfo h => some (h, 0x0102, [], noData)
  | .genEventMask h enable code => some (h, 0x0103, [fw [(0, code.toNat), (31, enable.toNat)]], noData)
  | .genVfReset h f => some (h, 0x0104, [fw [(0, f.toNat)]], noData)
  | .admConfOpen h conf audPmax vidPmax hops =>
    some (h, 0x0201, [fw [(0, conf.toNat)], fw [(0, vidPmax.toNat), (16, audPmax.toNat)], fw [(0, hops.toNat)]], noData)
  | .admConfClose h conf => some (h, 0x0202, [fw [(0, conf.toNat)]], noData)
  | .admLegAdmit h conf leg addr dma =>
    some (h, 0x0203, [fw [(0, leg.toNat), (14, conf.toNat)], fw [], fw [(0, addr.toNat % 2 ^ 32)], fw
      [(0, addr.toNat / 2 ^ 32)]], ⟨dma, none, none⟩)
  | .admLegModify h conf leg addr dma =>
    some (h, 0x0204, [fw [(0, leg.toNat), (14, conf.toNat)], fw [], fw [(0, addr.toNat % 2 ^ 32)], fw
      [(0, addr.toNat / 2 ^ 32)]], ⟨dma, none, none⟩)
  | .admLegRelease h leg => some (h, 0x0205, [fw [(0, leg.toNat)]], noData)
  | .admLegStats h clr hd => some (h, 0x0206, [fw [(0, hd.toNat), (31, clr.toNat)]], noData)
  | .admFnBudgetSet h f r v => some (h, 0x0207, [fw [(8, r.toNat), (16, f.toNat)], fw [(0, v.toNat)]], noData)
  | .admLayoutAdmit h id conf w ht per codec cprof depth =>
    some (h, 0x0208, [fw [(0, conf.toNat), (12, id.toNat)], fw [(0, ht.toNat), (16, w.toNat)], fw [(0, cprof.toNat),
      (8, codec.toNat), (20, per.toNat)], fw [(0, depth.toNat)]], noData)
  | .admLayoutRelease h id => some (h, 0x0209, [fw [(0, id.toNat)]], noData)
  | .netStreamBind h hd addr dma =>
    some (h, 0x0301, [fw [(0, hd.toNat)], fw [], fw [(0, addr.toNat % 2 ^ 32)], fw [(0, addr.toNat / 2 ^ 32)]], ⟨dma, none,
      none⟩)
  | .netStreamUnbind h hd => some (h, 0x0302, [fw [(0, hd.toNat)]], noData)
  | .netPortStats h clr p u addr =>
    some (h, 0x0303, [fw [(0, u.toNat), (2, p.toNat), (31, clr.toNat)], fw [], fw [(0, addr.toNat % 2 ^ 32)], fw
      [(0, addr.toNat / 2 ^ 32)]], noData)
  | .netJbSet h reanchor hd run => some (h, 0x0304, [fw [(0, hd.toNat), (31, reanchor.toNat)], fw [(0, run.toNat)]], noData)
  | .netQueueFlush h hd => some (h, 0x0305, [fw [(0, hd.toNat)]], noData)
  | .fwdSubSet h id src dst ssrc tsOfs seqStart ptEn ptOut ddIn ddOut fmIn fmOut pause kpFir prio capS capT =>
    some (h, 0x0310, [fw [(0, id.toNat)], fw [(0, dst.toNat), (16, src.toNat)], fw [(0, ssrc.toNat)], fw [(0, tsOfs.toNat)],
      fw [(8, ptOut.toNat), (15, ptEn.toNat), (16, seqStart.toNat)], fw [(16, fmOut.toNat), (20, fmIn.toNat),
      (24, ddOut.toNat), (28, ddIn.toNat)], fw [(0, capT.toNat), (2, capS.toNat), (8, prio.toNat), (30, kpFir.toNat),
      (31, pause.toNat)]], noData)
  | .fwdSubClear h id => some (h, 0x0311, [fw [(0, id.toNat)]], noData)
  | .fwdSubCap h id pause kpFir prio capS capT =>
    some (h, 0x0312, [fw [(0, id.toNat)], fw [], fw [], fw [], fw [], fw [], fw [(0, capT.toNat), (2, capS.toNat),
      (8, prio.toNat), (30, kpFir.toNat), (31, pause.toNat)]], noData)
  | .fwdEstRead h leg => some (h, 0x0313, [fw [(0, leg.toNat)]], noData)
  | .fwdKeyPicReq h i hd => some (h, 0x0314, [fw [(0, hd.toNat), (16, i.toNat)]], noData)
  | .fwdPaceSet h emode leg line init max =>
    some (h, 0x0315, [fw [(0, leg.toNat), (16, emode.toNat)], fw [(0, line.toNat)], fw [(0, init.toNat)], fw
      [(0, max.toNat)]], noData)
  | .kekAgree h addr dma =>
    some (h, 0x0401, [fw [(0, 1)], fw [], fw [(0, addr.toNat % 2 ^ 32)], fw [(0, addr.toNat / 2 ^ 32)]], ⟨dma, none, none⟩)
  | .keyKekInfo h addr => some (h, 0x0401, [fw [], fw [], fw [(0, addr.toNat % 2 ^ 32)], fw [(0, addr.toNat / 2 ^ 32)]], noData)
  | .keyImport h suite slot addr dma =>
    some (h, 0x0402, [fw [(0, slot.toNat), (16, suite.toNat)], fw [], fw [(0, addr.toNat % 2 ^ 32)], fw
      [(0, addr.toNat / 2 ^ 32)]], ⟨dma, none, none⟩)
  | .keyDerive h master sess => some (h, 0x0403, [fw [(0, master.toNat)], fw [(0, sess.toNat)]], noData)
  | .keyErase h slot => some (h, 0x0404, [fw [(0, slot.toNat)]], noData)
  | .cipBind h keep clear rplW dir hd slot txRoc txSeq roc0 roc1 roc2 roc3 tcpIdx =>
    some (h, 0x0405, [fw [(0, hd.toNat), (16, dir.toNat), (26, rplW.toNat), (30, clear.toNat), (31, keep.toNat)], fw
      [(0, slot.toNat)], fw [(0, txRoc.toNat)], fw [(16, txSeq.toNat)], fw [(0, roc0.toNat)], fw [(0, roc1.toNat)], fw
      [(0, roc2.toNat)], fw [(0, roc3.toNat)], fw [(0, tcpIdx.toNat)]], noData)
  | .cipUnbind h dir hd => some (h, 0x0406, [fw [(0, hd.toNat), (16, dir.toNat)]], noData)
  | .cipStats h clr i dir hd addr =>
    some (h, 0x0407, [fw [(0, hd.toNat), (16, dir.toNat), (17, i.toNat), (31, clr.toNat)], fw [], fw
      [(0, addr.toNat % 2 ^ 32)], fw [(0, addr.toNat / 2 ^ 32)]], noData)
  | .audBusSetting h bus conf n => some (h, 0x0501, [fw [(0, conf.toNat), (24, bus.toNat), (31, 1)], fw [(0, n.toNat)]], noData)
  | .audRouteSet h leg contrib listen minus force dtx xf c0 c1 c2 c3 l0 l1 l2 l3 =>
    some (h, 0x0501, [fw [(0, leg.toNat)], fw [(0, xf.toNat), (15, dtx.toNat), (16, force.toNat), (20, minus.toNat),
      (24, listen.toNat), (28, contrib.toNat)], fw [(0, c0.toNat), (16, c1.toNat)], fw [(0, c2.toNat), (16, c3.toNat)], fw
      [(0, l0.toNat), (16, l1.toNat)], fw [(0, l2.toNat), (16, l3.toNat)]], noData)
  | .audRouteClear h leg xf => some (h, 0x0502, [fw [(0, leg.toNat)], fw [(0, xf.toNat)]], noData)
  | .audSinkDyn h compEn limEn leg thr ratio att rel makeup ceil limRel =>
    some (h, 0x0503, [fw [(0, leg.toNat), (30, limEn.toNat), (31, compEn.toNat)], fw [(0, ratio.toNat), (16, thr.toNat)], fw
      [(0, rel.toNat), (16, att.toNat)], fw [(0, ceil.toNat), (16, makeup.toNat)], fw [(0, limRel.toNat)]], noData)
  | .audTonePlay h onBus replace bus id tone rep onT offT f1 f2 l1 l2 =>
    some (h, 0x0504, [fw [(0, id.toNat), (24, bus.toNat), (30, replace.toNat), (31, onBus.toNat)], fw [(0, rep.toNat),
      (24, tone.toNat)], fw [(0, offT.toNat), (16, onT.toNat)], fw [(0, f2.toNat), (16, f1.toNat)], fw [(0, l2.toNat),
      (16, l1.toNat)]], noData)
  | .audToneStop h onBus bus id => some (h, 0x0505, [fw [(0, id.toNat), (24, bus.toNat), (31, onBus.toNat)]], noData)
  | .audLevels h clr leg => some (h, 0x0506, [fw [(0, leg.toNat), (31, clr.toNat)]], noData)
  | .audMediaUnbind h m => some (h, 0x0507, [fw [(16, m.toNat), (31, 1)]], noData)
  | .audMediaBind h m point id bus gain =>
    some (h, 0x0507, [fw [(0, id.toNat), (14, point.toNat), (16, m.toNat)], fw [(0, gain.toNat), (24, bus.toNat)]], noData)
  | .brsProgLoad h prog addr dma bad =>
    some (h, 0x0601, [fw [(0, prog.toNat)], fw [], fw [(0, addr.toNat % 2 ^ 32)], fw [(0, addr.toNat / 2 ^ 32)]], ⟨dma, bad,
      none⟩)
  | .brsProgUnload h prog => some (h, 0x0602, [fw [(0, prog.toNat)]], noData)
  | .brsTaskBind h prog pt leg p0 p1 p2 p3 =>
    some (h, 0x0603, [fw [(0, leg.toNat), (16, pt.toNat), (24, prog.toNat)], fw [(0, p0.toNat)], fw [(0, p1.toNat)], fw
      [(0, p2.toNat)], fw [(0, p3.toNat)]], noData)
  | .brsTaskUnbind h pt leg => some (h, 0x0604, [fw [(0, leg.toNat), (16, pt.toNat)]], noData)
  | .brsStats h clr pt leg => some (h, 0x0605, [fw [(0, leg.toNat), (16, pt.toNat), (31, clr.toNat)]], noData)
  | .vidDecOpen h kpFir opS opT holds dpb hd =>
    some (h, 0x0701, [fw [(0, hd.toNat), (16, dpb.toNat), (24, holds.toNat), (27, opT.toNat), (29, opS.toNat),
      (31, kpFir.toNat)]], noData)
  | .vidDecClose h ctx => some (h, 0x0702, [fw [(0, ctx.toNat)]], noData)
  | .vidEncOpen h own id topW topH sl tl ext pt keyInt tsOfs =>
    some (h, 0x0703, [fw [(0, id.toNat), (31, own.toNat)], fw [(0, topH.toNat), (16, topW.toNat)], fw [(0, keyInt.toNat),
      (16, pt.toNat), (24, ext.toNat), (28, tl.toNat), (30, sl.toNat)], fw [(0, tsOfs.toNat)]], noData)
  | .vidEncClose h ctx => some (h, 0x0704, [fw [(0, ctx.toNat)]], noData)
  | .vidEncRate h ctx kbps cap pct mult =>
    some (h, 0x0705, [fw [(0, ctx.toNat)], fw [(0, kbps.toNat)], fw [(0, cap.toNat)], fw [(0, mult.toNat), (8, pct.toNat)]],
      noData)
  | .vidKeyPic h ctx => some (h, 0x0706, [fw [(0, ctx.toNat)]], noData)
  | .vidMediaUnbind h m => some (h, 0x0707, [fw [(16, m.toNat), (31, 1)]], noData)
  | .vidMediaBind h point m ctx w ht =>
    some (h, 0x0707, [fw [(0, ctx.toNat), (16, m.toNat), (28, point.toNat)], fw [(0, ht.toNat), (16, w.toNat)]], noData)
  | .vidStats h clr enc ctx addr =>
    some (h, 0x0708, [fw [(0, ctx.toNat), (30, enc.toNat), (31, clr.toNat)], fw [], fw [(0, addr.toNat % 2 ^ 32)], fw
      [(0, addr.toNat / 2 ^ 32)]], noData)
  | .cnvLayoutSet h layout mtx full bgY bgCb bgCr =>
    some (h, 0x0801, [fw [(0, layout.toNat)], fw [(29, full.toNat), (30, mtx.toNat)], fw [(0, bgCr.toNat), (10, bgCb.toNat),
      (20, bgY.toNat)]], noData)
  | .cnvLayerSet h kind hideDmg selfHide group layer layout src x y w ht cx cy cw ch alpha fence =>
    some (h, 0x0802, [fw [(0, layout.toNat), (16, layer.toNat), (24, group.toNat), (28, selfHide.toNat), (29, hideDmg.toNat),
      (30, kind.toNat)], fw [(0, src.toNat)], fw [(0, y.toNat), (16, x.toNat)], fw [(0, ht.toNat), (16, w.toNat)], fw
      [(0, cy.toNat), (16, cx.toNat)], fw [(0, ch.toNat), (16, cw.toNat)], fw [(8, fence.toNat), (24, alpha.toNat)]], noData)
  | .cnvLayerClear h group layer layout => some (h, 0x0803, [fw [(0, layout.toNat), (16, layer.toNat), (24, group.toNat)]], noData)
  | .cnvGroupFlip h group layout => some (h, 0x0804, [fw [(0, layout.toNat), (24, group.toNat)]], noData)
  | .cnvVarnishLoad h plate w ht mtx full count addr dma imgs =>
    some (h, 0x0805, [fw [(0, plate.toNat)], fw [(0, ht.toNat), (16, w.toNat)], fw [(0, count.toNat), (29, full.toNat),
      (30, mtx.toNat)], fw [], fw [(0, addr.toNat % 2 ^ 32)], fw [(0, addr.toNat / 2 ^ 32)]], ⟨dma, none, imgs⟩)
  | .cnvVarnishDrop h plate => some (h, 0x0806, [fw [(0, plate.toNat)]], noData)
  | .ptpRate h synced r => some (h, 0x0902, [fw [(31, synced.toNat)], fw [(0, r.toNat)]], noData)
  | .ptpServoCfg h en src ports domain dest prio stepNs lockCnt lockNs =>
    some (h, 0x0903, [fw [(15, dest.toNat), (16, domain.toNat), (24, ports.toNat), (29, src.toNat), (31, en.toNat)], fw
      [(0, prio.toNat)], fw [(0, stepNs.toNat)], fw [(0, lockNs.toNat), (16, lockCnt.toNat)]], noData)
  | .ptpStatus h => some (h, 0x0904, [], noData)
  | .mshPortCfg h m en width tree exp wake node =>
    some (h, 0x0a01, [fw [(1, en.toNat), (2, m.toNat)], fw [(0, wake.toNat), (1, exp.toNat), (2, tree.toNat),
      (4, width.toNat)], fw [(0, node.toNat)]], noData)
  | .mshRouteSet h node m => some (h, 0x0a01, [fw [(2, m.toNat), (16, node.toNat), (30, 1)]], noData)
  | .mshStreamExport h hd relay dst remove =>
    some (h, 0x0a01, [fw [(0, hd.toNat), (30, 2)], fw [(0, relay.toNat)], fw [(0, dst.toNat)], fw [(31, remove.toNat)]],
      noData)
  | .mshStreamImport h hd relay valid s0 s1 s2 s3 remove =>
    some (h, 0x0a01, [fw [(0, hd.toNat), (30, 3)], fw [(0, relay.toNat), (24, valid.toNat)], fw [(0, s0.toNat)], fw
      [(0, s1.toNat)], fw [(0, s2.toNat)], fw [(0, s3.toNat)], fw [(31, remove.toNat)]], noData)
  | .mshApsCmd h m req lane => some (h, 0x0a03, [fw [(2, m.toNat)], fw [(0, lane.toNat), (4, req.toNat)]], noData)
  | .mshPeerStatus h m => some (h, 0x0a04, [fw [(2, m.toNat)]], noData)
  | .mshWakeSend h mask => some (h, 0x0a05, [fw [(0, mask.toNat)]], noData)
  | .memSweep h repair t => some (h, 0x0b01, [fw [(0, t.toNat), (31, repair.toNat)]], noData)
  | .softRepairClearAll h t m row => some (h, 0x0b02, [fw [(0, t.toNat), (31, 1)], fw [(0, m.toNat)], fw [(0, row.toNat)]], noData)
  | .memSoftRepair h t m row => some (h, 0x0b02, [fw [(0, t.toNat)], fw [(0, m.toNat)], fw [(0, row.toNat)]], noData)
  | .memSpareStatus h => some (h, 0x0b03, [], noData)
  | .memErrLog h clr addr =>
    some (h, 0x0b04, [fw [(31, clr.toNat)], fw [], fw [(0, addr.toNat % 2 ^ 32)], fw [(0, addr.toNat / 2 ^ 32)]], noData)
  | .calGlazeLoad h clear addr dma =>
    some (h, 0x0c01, [fw [(31, clear.toNat)], fw [], fw [(0, addr.toNat % 2 ^ 32)], fw [(0, addr.toNat / 2 ^ 32)]], ⟨dma,
      none, none⟩)
  | .calGlazeRead h sel addr =>
    some (h, 0x0c02, [fw [(0, sel.toNat)], fw [], fw [(0, addr.toNat % 2 ^ 32)], fw [(0, addr.toNat / 2 ^ 32)]], noData)
  | .calLiveRead h cls first count addr =>
    some (h, 0x0c03, [fw [(0, first.toNat), (24, cls.toNat)], fw [(0, count.toNat)], fw [(0, addr.toNat % 2 ^ 32)], fw
      [(0, addr.toNat / 2 ^ 32)]], noData)
  | .calGessoRead h cls idx addr =>
    some (h, 0x0c04, [fw [(0, idx.toNat), (24, cls.toNat)], fw [], fw [(0, addr.toNat % 2 ^ 32)], fw
      [(0, addr.toNat / 2 ^ 32)]], noData)
  | .pwrModeReqRun h => some (h, 0x0d01, [fw [(0, 3)]], noData)
  | .pwrModeReqDrain h => some (h, 0x0d01, [fw [(0, 5)]], noData)
  | .pwrModeReqDoze h => some (h, 0x0d01, [fw [(0, 6)]], noData)
  | .pwrModeReqSleep h => some (h, 0x0d01, [fw [(0, 7)]], noData)
  | .pwrResidency h clr addr =>
    some (h, 0x0d02, [fw [(31, clr.toNat)], fw [], fw [(0, addr.toNat % 2 ^ 32)], fw [(0, addr.toNat / 2 ^ 32)]], noData)
  | .pwrSilHoldSet h v => some (h, 0x0d03, [fw [(0, v.toNat)]], noData)
  | .pwrThermal h => some (h, 0x0d04, [], noData)
  | .ptpStep h newEpoch set v n =>
    let lo := fw [(0, v.toNat % 2 ^ 32)]
    let hi := fw [(0, v.toNat / 2 ^ 32)]
    if set && decide (v.toNat < 2 ^ 48) then some (h, 0x0901, [fw [(30, 1), (31, newEpoch.toNat)], lo, hi, fw [(0, n.toNat)]], noData)
    else if !set && n = 0 then some (h, 0x0901, [fw [(31, newEpoch.toNat)], lo, hi], noData)
    else none
  | .mshTraceSet h id =>
    let b (i : Nat) : Nat := id.toNat / 2 ^ (8 * (13 - i)) % 2 ^ 8
    some (h, 0x0a02, [fw [(0, b 0), (8, b 1), (16, b 2), (24, b 3)], fw [(0, b 4), (8, b 5), (16, b 6), (24, b 7)],
      fw [(0, b 8), (8, b 9), (16, b 10), (24, b 11)], fw [(0, b 12), (8, b 13)]], noData)
  | _ => none

/-- The 16 words of the descriptor with opcode `op` and command area `a` (R92); the command area is words 4 to 15. -/
def descriptor (h : CmdHdr) (op : Nat) (a : List Word) (fence : Bool) : List Word :=
  [fw [(0, h.tag.toNat), (16, op)], fw [(30, h.irqNow.toNat), (31, fence.toNat)], 0, 0] ++ a ++ List.replicate (12 - a.length) 0

end Sys2Proof.Machine
end

