-- ==== Sys2Proof/Machine/Video.lean ====
section
/-! DEFINITION. The VID commands (R280, R281, R285, R303, R305, R307 to R310, R314): contexts open and close, rates, key
pictures, media rings, statistics. Log entries: 48, 81. -/

namespace Sys2Proof.Machine

/-! ## Engines and the pool (R281, R285, R314) -/

/-- Units of 4 KiB of the video pool that contexts hold. -/
def poolUsed (s : State) : Nat :=
  s.vid.dec.foldl (fun a p => a + p.2.units) 0 + s.vid.enc.foldl (fun a p => a + p.2.units) 0

def poolLeft (s : State) : Nat := s.vid.pool - poolUsed s

/-- The engine of lowest load among `n` with room for `px` more within `lim`, ties to the lower number (R281). -/
def pickEngine (load : Nat → Nat) (lim px n : Nat) : Option Nat :=
  ((List.range n).filter (fun e => load e + px ≤ lim)).foldl (fun b e =>
    match b with
    | none => some e
    | some m => if load e < load m then some e else some m) none

def decLoad (s : State) (e : Nat) : Nat := s.vid.dec.foldl (fun a p => if p.2.engine = e then a + p.2.px else a) 0
def encLoad (s : State) (e : Nat) : Nat := s.vid.enc.foldl (fun a p => if p.2.engine = e then a + p.2.px else a) 0

/-- The Canvas charge of a composition (R314). -/
def compPx (x : EncCtx) : Nat := cdiv (x.w * x.h) x.period

def cnvLoad (s : State) (e : Nat) : Nat :=
  s.vid.enc.foldl (fun a p => if p.2.cengine = e then a + compPx p.2 else a) 0

/-- An engine's limit in pixels (R281, R314). -/
def engineLimit (s : State) (px : Nat) : Nat := px * (1000 - reserve s) / 1000

/-- A number rounded up to a multiple. -/
def roundup (a m : Nat) : Nat := cdiv a m * m

/-- Units of 4 KiB of one picture buffer of a decode context (R285). -/
def decBufUnits (r : StreamRec) : Nat :=
  let w := roundup r.rxW 64
  let h := roundup r.rxH 64
  let b := depthF r.rxDepth
  cdiv (w * b * h * 3 / 2 + w * h / 256 * 64) 4096

/-- DPB_N of R285. -/
def dpbOf (codec n : Nat) : Nat := if codec = 0x12 then 8 else if codec = 0x13 then 3 else n

/-- Units of one output buffer of a composition (R314). -/
def compBufUnits (w h : Nat) (ten : Bool) : Nat :=
  cdiv (roundup (w * (if ten then 2 else 1)) 64 * h * 3 / 2) 4096

/-! ## Decode contexts -/

/-- The number of a new decode or encode context for `key`: firmware's choice among the free ones (R280). -/
def newCtx (s : State) (enc : Bool) (key : Nat) : Option Nat :=
  if enc then tfree s.vid.enc 1024 (Config.ctxPick (65536 + key) s.clk.cyc) else tfree s.vid.dec 4096 (Config.ctxPick key s.clk.cyc)

/-- VID_DEC_OPEN after R94 (R280, R281, R285). -/
def decOpen (f hd opS opT holds dpb : Nat) (fir : Bool) (s : State) : State × Res :=
  match legIn s (hd / 4) with
  | none => (s, no VID_ST_STREAM)
  | some l =>
    let r := l.prof.rec' (hd % 4)
    if l.item.owner ≠ f then (s, no VID_ST_NOT_OWNER)
    else if !(r.rxEn && r.rxDec && isVideo r.codec) || !((tget s.net.bound hd).any (fun b => !b.gone)) then
      (s, no VID_ST_STREAM)
    else if s.vid.dec.any (fun p => p.2.hd = hd) then (s, no VID_ST_CTX_BUSY)
    else if r.codec ≠ 0x12 && (opS ≠ 0 || opT ≠ 0) then (s, no VID_ST_PARAM)
    else
      let n := dpbOf r.codec dpb
      let units := (n + 1 + holds) * decBufUnits r
      let px := cdiv (r.rxW * r.rxH) r.pRx
      if poolLeft s < units then (s, no VID_ST_NO_MEMORY)
      else
        match pickEngine (decLoad s) (engineLimit s 1250000) px 16, newCtx s false hd with
        | some e, some k =>
          let x : DecCtx := { owner := f, hd := hd, engine := e, px := px, units := units, kpFir := fir, opS := opS, opT := opT
                              holds := holds, dpbN := n }
          let t := effTick s
          (stage (setDec s k x) t (.vidStart false k), ok (effArea t ++ [BitVec.ofNat 32 (e * 2 ^ 16 + k), lo32 units]))
        | _, _ => (s, no VID_ST_ENGINE)

/-- DPB_N in a form that the stream's codec does not have (R10, R308): 1 to 16 for H.264 and H.265, 0 for the others. -/
def dpbReserved (s : State) (hd dpb : Nat) : Bool :=
  match legIn s (hd / 4) with
  | none => decide (16 < dpb)
  | some l =>
    let r := l.prof.rec' (hd % 4)
    if r.codec = 0x10 ∨ r.codec = 0x11 then decide (dpb < 1 ∨ 16 < dpb) else if isVideo r.codec then dpb ≠ 0 else decide (16 < dpb)

/-- VID_DEC_OPEN. -/
def execVidDecOpen (h : CmdHdr) (kpFir : Bool) (opS opT : BitVec 2) (holds : BitVec 3) (dpb : BitVec 5) (hd : BitVec 16)
    (s : State) : Host.Outcome State Fault Refusal :=
  act (command h OP_VID_DEC_OPEN { modes := audModes, reserved := hd.toNat % 4 = 3 || dpbReserved s hd.toNat dpb.toNat }
    (decOpen h.fn.toNat hd.toNat opS.toNat opT.toNat (holds.toNat + 1) dpb.toNat kpFir)) s

/-- Start the close of a context at effect tick `e` (R308). -/
def vidClose (s : State) (enc : Bool) (k e : Nat) : State :=
  let s := if enc then modEnc s k (fun x => { x with gone := true })
    else { s with vid := { s.vid with dec := tmod s.vid.dec k (fun x => { x with gone := true }) } }
  stageEnd (stage s e (.vidStop enc k)) (e - 1) (.vidGone enc k)

/-- The decode or encode context a command names, as its owner, or the status that refuses it. -/
def ctxOwner (s : State) (f : Nat) (enc : Bool) (k : Nat) : Option (BitVec 16) :=
  let o := if enc then (tget s.vid.enc k).map (fun x => (x.owner, x.gone)) else (tget s.vid.dec k).map (fun x => (x.owner, x.gone))
  match o with
  | none => some VID_ST_CTX_UNKNOWN
  | some (w, gone) => if w ≠ f then some VID_ST_NOT_OWNER else if gone then some VID_ST_CTX_UNKNOWN else none

/-- VID_DEC_CLOSE (R308). -/
def execVidDecClose (h : CmdHdr) (ctx : BitVec 12) (s : State) : Host.Outcome State Fault Refusal :=
  act (command h OP_VID_DEC_CLOSE { modes := audModes } (fun s =>
    match ctxOwner s h.fn.toNat false ctx.toNat with
    | some st => (s, no st)
    | none => (vidClose s false ctx.toNat (effTick s), ok (effArea (effTick s))))) s

/-! ## Encode contexts -/

/-- What VID_ENC_OPEN opens a context for: owner, layout, W × H, period, codec, CPROF, depth; or the status that refuses it. -/
def encTarget (s : State) (f : Nat) (own : Bool) (id : Nat) : Except (BitVec 16) (Nat × Nat × Nat × Nat × Nat × Nat × Nat) :=
  if own then
    match legIn s id with
    | none => .error VID_ST_STREAM
    | some l =>
      let r := l.prof.rec' 1
      if l.item.owner ≠ f then .error VID_ST_NOT_OWNER
      else if !l.prof.ownEnc then .error VID_ST_STREAM
      else .ok (l.prof.layout, r.txW, r.txH, r.pTx, r.codec, r.cprof, r.txDepth)
  else
    match tget s.adm.layouts id with
    | none => .error VID_ST_STREAM
    | some l =>
      if l.item.owner ≠ f then .error VID_ST_NOT_OWNER
      else if l.item.releasing then .error VID_ST_STREAM
      else .ok (id, l.w, l.h, l.period, l.codec, l.cprof, l.depth)

/-- Sizes, layers and extension IDs that R276, R296 and R299 refuse. -/
def encParamBad (x : EncCtx) (w h : Nat) : Bool :=
  match vidCap x.codec x.cprof with
  | none => true
  | some c =>
    let ls := encLayers x.w x.h x.sLay
    !sizeOk c x.w x.h || decide (w < x.w) || decide (h < x.h) || decide (w * h < ls.foldl (fun a l => a + l.1 * l.2) 0)
      || decide (3 < x.sLay) || (x.codec ≠ 0x12 && x.sLay ≠ 1) || decide (c.maxTemporal < x.tLay) || x.ext = 15
      || (needExt x && x.ext = 0)

/-- VID_ENC_OPEN after R94 (R280, R281, R299, R314). -/
def encOpen (f : Nat) (own : Bool) (id topW topH sl tl ext pt keyInt : Nat) (ts : Word) (s : State) : State × Res :=
  match encTarget s f own id with
  | .error st => (s, no st)
  | .ok (lay, w, h, p, codec, cprof, depth) =>
    if s.vid.enc.any (fun q => q.2.own = own && q.2.item = id) then (s, no VID_ST_CTX_BUSY)
    else
      let x : EncCtx := { owner := f, own := own, item := id, layout := lay, engine := 0, cengine := 0, px := cdiv (w * h) p
                          units := 2 * compBufUnits topW topH (depth = 1), w := topW, h := topH
                          period := p, codec := codec, cprof := cprof, ten := decide (depth = 1), sLay := sl, tLay := tl
                          ext := ext, pt := pt, keyInt := keyInt, tsOfs := ts }
      if encParamBad x w h then (s, no VID_ST_PARAM)
      else if poolLeft s < x.units then (s, no VID_ST_NO_MEMORY)
      else
        match pickEngine (encLoad s) (engineLimit s 625000) x.px 16, pickEngine (cnvLoad s) (engineLimit s 2500000) (compPx x) 4,
          newCtx s true (2 * id + if own then 1 else 0) with
        | some e, some c, some k =>
          let t := effTick s
          (stage (setEnc s k { x with engine := e, cengine := c, fpkt := fPkt s x }) t (.vidStart true k),
           ok (effArea t ++ [BitVec.ofNat 32 (e * 2 ^ 16 + k)]))
        | _, _, _ => (s, no VID_ST_ENGINE)

/-- VID_ENC_OPEN. -/
def execVidEncOpen (h : CmdHdr) (own : Bool) (id : BitVec 14) (topW topH : BitVec 16) (sl tl : BitVec 2) (ext : BitVec 4)
    (pt : BitVec 7) (keyInt : BitVec 16) (tsOfs : BitVec 32) (s : State) : Host.Outcome State Fault Refusal :=
  act (command h OP_VID_ENC_OPEN { modes := audModes, reserved := !own && decide (512 ≤ id.toNat) }
    (encOpen h.fn.toNat own id.toNat topW.toNat topH.toNat (sl.toNat + 1) (tl.toNat + 1) ext.toNat pt.toNat keyInt.toNat tsOfs)) s

/-- VID_ENC_CLOSE (R308). -/
def execVidEncClose (h : CmdHdr) (ctx : BitVec 10) (s : State) : Host.Outcome State Fault Refusal :=
  act (command h OP_VID_ENC_CLOSE { modes := audModes } (fun s =>
    match ctxOwner s h.fn.toNat true ctx.toNat with
    | some st => (s, no st)
    | none => (vidClose s true ctx.toNat (effTick s), ok (effArea (effTick s))))) s

/-- VID_ENC_RATE (R303, R304). -/
def execVidEncRate (h : CmdHdr) (ctx : BitVec 10) (kbps cap : BitVec 32) (pct : BitVec 8) (mult : BitVec 4) (s : State) :
    Host.Outcome State Fault Refusal :=
  act (command h OP_VID_ENC_RATE { modes := audModes, reserved := decide (pct.toNat < 100) || mult = 0 } (fun s =>
    match ctxOwner s h.fn.toNat true ctx.toNat, tget s.vid.enc ctx.toNat with
    | none, some x =>
      let r : EncRate := ⟨kbps.toNat, cap.toNat, pct.toNat, mult.toNat⟩
      let tc := tickCap s x
      if capTooLow x r tc then (s, no VID_ST_CAP)
      else
        let e := effTick s
        (stage s e (.encRate ctx.toNat r), ok (effArea e ++ [sat32 tc]))
    | some st, _ => (s, no st)
    | none, none => (s, no VID_ST_CTX_UNKNOWN))) s

/-- VID_KEY_PIC (R305). -/
def execVidKeyPic (h : CmdHdr) (ctx : BitVec 10) (s : State) : Host.Outcome State Fault Refusal :=
  act (command h OP_VID_KEY_PIC { modes := audModes } (fun s =>
    match ctxOwner s h.fn.toNat true ctx.toNat with
    | some st => (s, no st)
    | none =>
      let e := effTick s
      let (s, m) := keyRequest s ctx.toNat 1
      (s, ok (effArea e ++ [if m then 1 else 0])))) s

/-! ## Media rings and statistics -/

/-- VID_MEDIA_BIND (R307). -/
def execVidMediaBind (h : CmdHdr) (point : BitVec 2) (m : BitVec 6) (ctx : BitVec 12) (w ht : BitVec 16) (s : State) :
    Host.Outcome State Fault Refusal :=
  act (command h OP_VID_MEDIA_BIND { modes := audModes, reserved := point = 3 || (point = 2 && decide (1024 ≤ ctx.toNat)) } (fun s =>
    let f := h.fn.toNat
    let k := mediaKey f m.toNat
    let enc := point = 2
    match ctxOwner s f enc ctx.toNat with
    | some st => (s, no st)
    | none =>
      let p : MPoint := match tget s.vid.enc ctx.toNat with
        | some x => if enc then .videoEnc ctx.toNat x.w x.h x.ten
          else .videoDec ctx.toNat (ctxRec s ctx.toNat).rxW (ctxRec s ctx.toNat).rxH (decide ((ctxRec s ctx.toNat).rxDepth = 1))
        | none => .videoDec ctx.toNat (ctxRec s ctx.toNat).rxW (ctxRec s ctx.toNat).rxH (decide ((ctxRec s ctx.toNat).rxDepth = 1))
      let size := match p with
        | .videoEnc _ w h _ => (w, h)
        | .videoDec _ w h _ => (w, h)
        | .audio .. => (0, 0)
      if size ≠ (w.toNat, ht.toNat) then (s, no VID_ST_PARAM)
      else if ¬ bit s (HIF_RING_EN f (mediaQ m.toNat)) ∨ mediaCaps s k = decide (point = 0) ∨ (mediaOf s k).point.isSome then
        (s, no VID_ST_RING)
      else
        let e := effTick s
        (stage (setMedia s k { mediaOf s k with point := some p, live := false }) e (.mediaBind k), ok (effArea e)))) s

/-- VID_MEDIA_BIND with UNBIND set (R307). -/
def execVidMediaUnbind (h : CmdHdr) (m : BitVec 6) (s : State) : Host.Outcome State Fault Refusal :=
  act (command h OP_VID_MEDIA_BIND { modes := audModes } (fun s =>
    let k := mediaKey h.fn.toNat m.toNat
    match (mediaOf s k).point with
    | some (.videoDec ..) => (stage s (effTick s) (.mediaUnbind k), ok (effArea (effTick s)))
    | some (.videoEnc ..) => (stage s (effTick s) (.mediaUnbind k), ok (effArea (effTick s)))
    | _ => (s, no VID_ST_RING))) s

/-- The block of R309 for a decode context, and for an encode context. -/
def decStats (x : DecCtx) : List Word :=
  [sat32 x.nPic, sat32 x.nKey, sat32 x.nDmg, 0, sat32 x.nBytes, 0, 0,
   BitVec.ofNat 32 ((if x.tainted.isSome then 2 ^ 31 else 0) + x.lastCause), 0, 0, 0, 0, 0, 0, 0, 0]

def encStats (x : EncCtx) : List Word :=
  [sat32 x.nPic, sat32 x.nKey, sat32 x.nDmg, sat32 x.nMin, sat32 x.nBytes, sat32 x.debt, sat32 x.lastSize, 0,
   0, 0, 0, 0, 0, 0, 0, 0]

/-- VID_STATS (R309). -/
def execVidStats (h : CmdHdr) (clr enc : Bool) (ctx : BitVec 12) (addr : BitVec 64) (s : State) :
    Host.Outcome State Fault Refusal :=
  act (command h OP_VID_STATS
    { modes := audModes, reserved := enc && decide (1024 ≤ ctx.toNat) } (fun s =>
    let k := ctx.toNat
    match ctxOwner s h.fn.toNat enc k with
    | some st => (s, no st)
    | none =>
      if enc then
        match tget s.vid.enc k with
        | some x =>
          let s := hostWrites s addr.toNat (encStats x)
          (if clr then setEnc s k { x with nPic := 0, nKey := 0, nDmg := 0, nMin := 0, nBytes := 0 } else s, ok)
        | none => (s, no VID_ST_CTX_UNKNOWN)
      else
        match tget s.vid.dec k with
        | some x =>
          let s := hostWrites s addr.toNat (decStats x)
          (if clr then setDec s k { x with nPic := 0, nKey := 0, nDmg := 0, nBytes := 0 } else s, ok)
        | none => (s, no VID_ST_CTX_UNKNOWN))) s

/-! ## Flushes -/

/-- NET_QUEUE_FLUSH (R142): cells and items discarded; no item is open between commands. The stream's decode context waits for a
key picture (R292). -/
def execNetQueueFlush (h : CmdHdr) (hd : BitVec 16) (s : State) : Host.Outcome State Fault Refusal :=
  act (command h OP_NET_QUEUE_FLUSH { reserved := hd.toNat % 4 = 3 } (fun s =>
    match boundFor s h.fn.toNat hd.toNat with
    | .error st => (s, no st)
    | .ok b =>
      if !(recOf s hd.toNat).rxEn then (s, no NET_ST_NOT_ADMITTED)
      else
        let s := countAccepted (setBound s hd.toNat (flushQ b)) hd.toNat b.q.length
        (vidFlush s hd.toNat, ok (flushRes b)))) s

/-! ## Changes in force (R280, R308, R314) -/

/-- A context starts: a decode context asks for a key picture at once (R292); a composition's buffers hold the background. -/
def vidStartApply (s : State) (enc : Bool) (k : Nat) : State :=
  if enc then
    match tget s.vid.enc k with
    | some x =>
      let b := bgBuf x (descAt (layoutOf s x.layout) (curTick s))
      setComp (setEnc s k { x with live := true }) k { bufs := [b, b] }
    | none => s
  else
    match tget s.vid.dec k with
    | some x => decKp (setDec s k { x with live := true }) x
    | none => s

/-- A media point of context `k`. -/
def ctxPoint (enc : Bool) (k : Nat) (p : MPoint) : Bool :=
  match p with
  | .videoDec c .. => !enc && c = k
  | .videoEnc c .. => enc && c = k
  | .audio .. => false

/-- A context's effect tick of closing: its work and media bindings end; its composition ends, or layers that show it. -/
def vidStopApply (s : State) (enc : Bool) (k : Nat) : State :=
  let s := (s.aud.media.filter (fun m => (m.2.point.map (ctxPoint enc k)).getD false)).foldl (fun s m => mediaEnd s m.1 true) s
  if enc then
    let s := modEnc s k (fun x => { x with live := false, gone := true, pic := none, out := [], outAt := none })
    dropOldPlates { s with cnv := { s.cnv with comps := tdel s.cnv.comps k } }
  else
    cnvSourceGone { s with vid := { s.vid with
      dec := tmod s.vid.dec k (fun x => { x with live := false, gone := true, queue := [], pubs := [], cur := none }) } } k

/-- Its pool and engine room return. -/
def vidGoneApply (s : State) (enc : Bool) (k : Nat) : State :=
  if enc then { s with vid := { s.vid with enc := tdel s.vid.enc k } }
  else { s with vid := { s.vid with dec := tdel s.vid.dec k } }

/-- The contexts of a leg, or of a layout. -/
def legCtxs (s : State) (leg : Nat) : List (Bool × Nat) :=
  (s.vid.dec.filter (fun p => p.2.hd / 4 = leg)).map (fun p => (false, p.1))
    ++ (s.vid.enc.filter (fun p => p.2.own && p.2.item = leg)).map (fun p => (true, p.1))

def layoutCtxs (s : State) (id : Nat) : List (Bool × Nat) :=
  (s.vid.enc.filter (fun p => !p.2.own && p.2.item = id)).map (fun p => (true, p.1))

end Sys2Proof.Machine
end

