-- ==== Sys2Proof/Machine/MshCore.lean ====
section
/-! DEFINITION. Meash units, credits and queues (R372 to R378), and the frame's marker, scrambler and block order (R361 to
R363). Log entries: 56, 57. -/

namespace Sys2Proof.Machine

/-! ## Check sequences -/

/-- `k` steps of CRC-16 with x^16 + x^12 + x^5 + 1. -/
def crc16Bits (c k : Nat) : Nat :=
  match k with
  | 0 => c
  | k + 1 => crc16Bits (if 0x8000 ≤ c then ((c * 2) % 65536) ^^^ 0x1021 else c * 2) k

/-- AM_CRC of R361: over bytes 0x06 to 0x09, initial value 0xFFFF. -/
def crc16 (bs : List Byte) : Nat := bs.foldl (fun c b => crc16Bits (c ^^^ (b.toNat * 256)) 8) 0xffff

/-! ## The frame (R361 to R363) -/

/-- AM_PAT. -/
def AM_PAT : Nat := 0x3c5aa5c396e1

/-- The alignment marker of a frame: MFC, LOG_LANE, PHY_LANE, TTI_BYTE, APS_REQ and APS_LANE. -/
def amBytes (mfc log phy tti req lane : Nat) : List Byte :=
  let b := [BitVec.ofNat 8 mfc, BitVec.ofNat 8 (log * 16 + phy), BitVec.ofNat 8 tti, BitVec.ofNat 8 (req * 16 + lane)]
  natBE 6 AM_PAT ++ b ++ natBE 2 (crc16 b) ++ [0, 0, 0, 0]

/-- SEED: bits [30:0] of the CRC-32 over the 14-byte CASCADE_ID. -/
def mshSeed (cascade : Nat) : Nat := crc32 (natBE 14 cascade) % 2 ^ 31

/-- The state the scrambler is reset to at byte 0x10 of a frame (R362). -/
def scrambleStart (seed mfc phy : Nat) : Nat :=
  let x := seed ^^^ (mfc * 2 ^ 23) ^^^ (phy * 2 ^ 19)
  if x = 0 then 0x7fffffff else x

/-- `k` bits of the PRBS31 sequence, most significant first, and the state after them. -/
def prbs31 (st k acc : Nat) : Nat × Nat :=
  match k with
  | 0 => (acc, st)
  | k + 1 =>
    let b := ((st / 2 ^ 30) + (st / 2 ^ 27)) % 2
    prbs31 ((st * 2 + b) % 2 ^ 31) k (acc * 2 + b)

/-- Payload bytes scrambled, or descrambled, from a state of the generator (R362). -/
def scramble (st : Nat) : List Byte → List Byte
  | [] => []
  | b :: r =>
    let (x, st) := prbs31 st 8 0
    (b ^^^ BitVec.ofNat 8 x) :: scramble st r

/-- The place in a frame period's group stream of block `b` of logical lane `i` (R363). -/
def groupBlock (w b i : Nat) : Nat := w * b + i

/-! ## Ports and lanes -/

def mshPort (s : State) (m : Nat) : MshPort := (tget s.msh.ports m).getD {}
def setMshPort (s : State) (m : Nat) (x : MshPort) : State := { s with msh := { s.msh with ports := tset s.msh.ports m x } }
def laneOf (s : State) (m l : Nat) : Lane := (tget s.msh.lanes (16 * m + l)).getD {}
def setLane (s : State) (m l : Nat) (x : Lane) : State := { s with msh := { s.msh with lanes := tset s.msh.lanes (16 * m + l) x } }

/-- The group of port `m` is in service (R367), and the MSH domain has its power (R438). -/
def mshUp (s : State) (m : Nat) : Bool := (fld s PWR_DOM_ON).testBit 4 && bit s (MSH_GROUP_UP m)

/-- The ports in force that are marked TREE (R375). -/
def treePorts (s : State) : List Nat := [0, 1, 2, 3].filter (fun m => (mshPort s m).live.en && (mshPort s m).live.tree)

/-! ## Units and credits (R372 to R374) -/

/-- Blocks a unit's body takes, 63 bytes in each. -/
def unitBlocks (body : List Byte) : Nat := cdiv body.length 63

/-- A body with its CRC-32. -/
def withCrc (body : List Byte) : List Byte := body ++ natBE 4 (crc32 body)

/-- The body ends with its CRC-32. -/
def unitCrcOk (body : List Byte) : Bool :=
  let n := body.length - 4
  decide (4 ≤ body.length) && decide (crc32 (body.take n) = be body n 4)

/-- The receive buffer of a VC, in blocks (R373). -/
def vcSize (v : Nat) : Nat := match v with | 0 => 8192 | 1 => 512 | _ => 32768

/-- A unit of `k` blocks may start on VC `v` (R374). -/
def hasCredit (s : State) (m v k : Nat) : Bool :=
  let x := mshPort s m
  mshUp s m && decide (k ≤ (x.lim.getD v 0 + 65536 - x.sent.getD v 0) % 65536)

/-- `n` bytes that no rule states, at this cycle. -/
def fill (s : State) (n : Nat) : List Byte := (List.range n).map (Config.mshFill s.clk.cyc)

/-- The blocks of a unit of TYPE `t` on VC `v` (R372): header byte and 63 bytes of the body in each. -/
def blocksOf (s : State) (t v : Nat) (body : List Byte) : List (List Byte) :=
  let cs := chunks 63 body.length body
  cs.zipIdx.map (fun (c, i) =>
    BitVec.ofNat 8 (16 * t + (if i = 0 then 8 else 0) + (if i + 1 = cs.length then 4 else 0) + v) :: (c ++ fill s (63 - c.length)))

/-- A unit takes its place among those that wait: a partial behind the unit in progress and other partials, other units last (R372). -/
def placeUnit (u : TxUnit) (l : List TxUnit) : List TxUnit :=
  if u.type = 3 then l.takeWhile (fun v => v.begun || v.type = 3) ++ u :: l.dropWhile (fun v => v.begun || v.type = 3) else l ++ [u]

/-- A unit goes out on port `m`: its blocks enter the group stream, tick markers and credits between any two others (R372). -/
def unitOut (s : State) (m t v : Nat) (body : List Byte) : State :=
  let x := mshPort s m
  let bs := blocksOf s t v body
  let x := if t = 1 ∨ t = 2 then { x with txc := x.txc ++ bs } else { x with txu := placeUnit { type := t, blocks := bs } x.txu }
  emitOut (setMshPort s m x) (.mshUnit m t body)

/-- A credited unit is sent. -/
def sendUnit (s : State) (m v t : Nat) (body : List Byte) : State :=
  let x := mshPort s m
  unitOut (setMshPort s m { x with sent := x.sent.set v ((x.sent.getD v 0 + unitBlocks body) % 65536) }) m t v body

/-- The blocks of a received unit, consumed or discarded, are to be freed: they stay in the buffer until the next credit unit tells the
sender (R373, log entry 57). -/
def freeBlocks (s : State) (m v k : Nat) : State :=
  let x := mshPort s m
  setMshPort s m { x with held := x.held.set v (x.held.getD v 0 + k) }

/-- What the buffers held is freed: F_v moves on (R373). -/
def freeHeld (s : State) (m : Nat) : State :=
  let x := mshPort s m
  setMshPort s m { x with
    freed := [0, 1, 2].map (fun v => (x.freed.getD v 0 + x.held.getD v 0) % 65536), held := [0, 0, 0] }

/-- A received unit is discarded under R372; its credits return. -/
def unitErr (s : State) (m v k : Nat) : State :=
  setBit (bump (freeBlocks s m v k) MSH_UNIT_ERR_CNT 1) MSH_ST_UNIT_ERR

/-- A credit violation on VC `v`: `over` when the buffer was overrun (R374). -/
def creditErr (s : State) (m v : Nat) (isOver : Bool) : State :=
  let s := setBit (bump s MSH_CREDIT_ERR_CNT 1) MSH_ST_CREDIT
  raise s 0 EV_MSH_CREDIT (BitVec.ofNat 16 m) (BitVec.ofNat 32 (v + if isOver then 256 else 0)) 0 0 0

/-- Send waiting partials while VC 0 has credit; those that stay. -/
def pump0 (s : State) (m : Nat) : List (Nat × List Byte) → State × List (Nat × List Byte)
  | [] => (s, [])
  | (n, b) :: r => if hasCredit s m 0 (unitBlocks b) then pump0 (sendUnit s m 0 3 b) m r else (s, (n, b) :: r)

/-- Send waiting media while VC 2 has credit; those that stay. -/
def pump2 (s : State) (m : Nat) : List (Nat × List Byte) → State × List (Nat × List Byte)
  | [] => (s, [])
  | (t, b) :: r => if hasCredit s m 2 (unitBlocks b) then pump2 (sendUnit s m 2 4 b) m r else (s, (t, b) :: r)

/-- Send what credit allows on port `m`: partials, then media (R372, R374). -/
def pumpPort (s : State) (m : Nat) : State :=
  let (s, q0) := pump0 s m (mshPort s m).q0
  let (s, qm) := pump2 s m (mshPort s m).qm
  setMshPort s m { mshPort s m with q0 := q0, qm := qm }

/-! ## Media (R378) -/

/-- A media unit is discarded and counted. -/
def mediaDrop (s : State) : State := bump s MSH_MEDIA_DROP_CNT 1

/-- A media unit joins the queue of port `m`, or is discarded when the queue is full, and goes as credit allows. -/
def mediaQueue (s : State) (m : Nat) (body : List Byte) : State :=
  let x := mshPort s m
  let held := x.qm.foldl (fun a e => a + unitBlocks e.2) 0
  if 65536 < held + unitBlocks body then mediaDrop s
  else pumpPort (setMshPort s m { x with qm := x.qm ++ [(localNs s, body)] }) m

/-- A media unit goes on the port the route table names for its destination. -/
def mediaRoute (s : State) (dst : Nat) (body : List Byte) : State :=
  match tget s.msh.routes dst with
  | some m => mediaQueue s m body
  | none => mediaDrop s

/-- The body of a media unit (R378). -/
def mediaBody (relay dst src x : Nat) (rtp : List Byte) : List Byte :=
  withCrc (natBE 1 (relay / 65536) ++ natBE 2 relay ++ natBE 1 dst ++ natBE 1 src ++ natBE 6 x ++ natBE 2 rtp.length ++ rtp)

/-- A packet of an exported stream that passed policing and authentication is sent toward DST_NODE, in clear. -/
def exportPkt (s : State) (hd x : Nat) (rtp : List Byte) : State :=
  s.msh.exports.foldl (fun s (r, e) =>
    if e.live && e.hd = hd then mediaRoute s e.dst (mediaBody r e.dst (fld s MESH_NODE) x rtp) else s) s

/-! ## Partials (R376, R377) -/

/-- The body of a partial unit. -/
def partialBody (conf origin n : Nat) (last : Bool) (bs : List (List Int)) : List Byte :=
  withCrc (natBE 2 conf ++ natBE 1 (if last then 128 else 0) ++ natBE 1 origin ++ natBE 8 n ++ zeros 4
    ++ ((List.range 4).map (fun b => ((List.range 40).map (fun i =>
          natBE 4 (BitVec.ofInt 32 ((bs.getD b []).getD i 0)).toNat)).flatten)).flatten)

/-- A partial goes on port `m`, or waits for credit until EMIT(`n`) ends. -/
def partialOut (s : State) (n m : Nat) (body : List Byte) : State :=
  let x := mshPort s m
  pumpPort (setMshPort s m { x with q0 := x.q0 ++ [(n, body)] }) m

/-- PARTIAL_SEND in EMIT(`n`): the device's own partial of every cascade conference, and those to relay, on every TREE port
(R376, R377). -/
def partialSend (s : State) (n : Nat) : State :=
  let node := fld s MESH_NODE
  let s := s.aud.confs.foldl (fun s (c, x) =>
    if x.hops = 0 || (x.closeAt.map (fun e => decide (e ≤ n))).getD false then s
    else
      let bs := ((x.own.find? (fun q => q.1 = n)).map (·.2)).getD []
      let body := partialBody c node n (x.closeAt = some (n + 1)) bs
      (treePorts s).foldl (fun s m => partialOut s n m body) s) s
  let due := s.msh.relay.filter (fun r => r.1 ≤ n)
  let s := { s with msh := { s.msh with relay := s.msh.relay.filter (fun r => n < r.1) } }
  due.foldl (fun s (t, from', body) =>
    if t = n then ((treePorts s).filter (· ≠ from')).foldl (fun s m => partialOut s n m body) s else s) s

/-- EMIT(`n`) has ended: partials that found no credit are not sent (R376). -/
def partialEnd (s : State) (n : Nat) : State :=
  [0, 1, 2, 3].foldl (fun s m =>
    let x := mshPort s m
    let k := (x.q0.filter (fun e => e.1 ≤ n)).length
    if k = 0 then s
    else setBit (bump (setMshPort s m { x with q0 := x.q0.filter (fun e => n < e.1) }) MSH_PART_DROP_CNT k) MSH_ST_PART) s

end Sys2Proof.Machine
end

