-- ==== Sys2Proof/Machine/Receive.lean ====
section
/-! DEFINITION. Frames received (R122 to R127, R130) and a stream's packets on their way into its jitter buffer (R68 to
R70, R126, R135 to R140). Log entries: 4, 26, 111. -/

namespace Sys2Proof.Machine

/-! ## Ticks as the Easel counts them -/

/-- How far the Easel's time line lies from that of R22, in 1/8 ns: 0 unless it follows the markers (R382). -/
def easelBase (s : State) : Int :=
  if s.easel.follow then 8 * (s.easel.start : Int) + s.easel.startFrac - 8 * tickStartNs s.easel.now else 0

/-- The tick in which clock time `t` ns lies on the Easel's time line. -/
def tickIn (s : State) (t : Nat) : Nat := tickOf ((8 * (t : Int) - easelBase s) / 8).toNat

/-- The GATHER deadline of tick `n` (R34). -/
def deadlineOf (s : State) (n : Nat) : Int := (8 * (tickStartNs n : Int) + easelBase s) / 8 - fld s TIK_INGRESS_ALLOW

/-! ## Into the jitter buffer -/

/-- A packet's place in its stream: RX SSRC index, extended sequence number, UDP payload size, RTP header, clear payload,
full ingress time in ns. -/
structure RxPkt where
  i : Nat
  x : Nat
  size : Nat
  hdr : List Byte
  pay : List Byte
  ts : Nat

/-- Steps 5 and 6 of R68, and the push: the packet's tick, lateness, and its item in the spill queue (R135 to R140). -/
def jbPush (s : State) (hd p u : Nat) (k : RxPkt) : State :=
  match tget s.net.bound hd with
  | none => s
  | some b =>
    let b := lateRunClear b k.i
    let r := liveRec s hd
    let rts : Word := BitVec.ofNat 32 (be k.hdr 4 4)
    let a := jbAssign (rtpClock r.codec) (slotRx s hd) r.pRx r.jRx b.tail (b.anchors.getD k.i {}) rts (tickIn s k.ts)
    let s := setBound s hd { b with anchors := b.anchors.set k.i a.anchor }
    let s := match a.resync with
      | some c => resyncEvt s hd k.i c a.anchor.a
      | none => s
    let b := (tget s.net.bound hd).getD b
    if deadlineOf s a.tick ≤ k.ts then
      countLate (setBound s hd { b with anchors := b.anchors.set k.i { a.anchor with lateRun := a.anchor.lateRun + 1 } }) hd p u
    else
      let cells := itemCells k.size
      if !queueTakes b cells then stat s p u RX_Q_REFUSED 1
      else
        let it : Pkt := { tick := a.tick, tsNs := k.ts, ssrcIdx := k.i, x := k.x, ts := rts, marker := (be k.hdr 1 1).testBit 7
                          pt := be k.hdr 1 1 % 128, carried := a.carried, size := k.size, cells := cells, hdr := k.hdr, pay := k.pay }
        setBound s hd { b with
          q := b.q ++ [it], tail := a.tick, anchors := b.anchors.set k.i { a.anchor with lateRun := 0 } }

/-- A classified RTP packet (R68): size and policing, authentication and replay, then export (R378) and the jitter
buffer. -/
def rtpRx (s : State) (hd i p u ts : Nat) (pkt : List Byte) : State :=
  match police s hd pkt.length with
  | none => policed (setPolice s hd (policeRefill s hd)) hd p u
  | some s =>
    let n := rtpHdrLen pkt
    let hdr := pkt.take n
    let (s, r) := rxSrtp s hd i (be pkt 2 2) (be pkt 8 4) hdr (pkt.drop n)
    match r with
    | none => stat s p u RX_AUTH_FAIL 1
    | some (x, pay) => jbPush (exportPkt s hd x (hdr ++ pay)) hd p u ⟨i, x, pkt.length, hdr, pay, ts⟩

/-! ## Sockets (R125 to R127) -/

/-- A received UDP packet: the frame, its offsets, and where it arrived. -/
structure RxUdp where
  p : Nat
  u : Nat
  ts : Nat
  frame : List Byte
  ip : Ip
  pay : List Byte

/-- SRC_CHECK of a bind block refuses the packet (R126). -/
def srcRefused (b : BindBlk) (k : RxUdp) : Bool :=
  b.srcCheck && (decide (k.ip.src ≠ b.remoteIp) || decide (be k.frame k.ip.pay 2 ≠ b.remoteUdp))

/-- To the socket's function (R130). -/
def toSocket (s : State) (hd : Nat) (k : RxUdp) (reason : Nat) (frame : List Byte) : State :=
  match legOwner s (hd / 4) with
  | some f => hpaDeliver s f k.p k.u reason hd k.ts frame
  | none => s

/-- RTCP of a socket whose first bound stream is `hd` (R127). Firmware that has stopped takes no copy (R514). -/
def rtcpRx (s : State) (hd : Nat) (b : BindBlk) (k : RxUdp) : State :=
  if srcRefused b k then stat s k.p k.u RX_UNBOUND 1
  else
    let (s, r) := rxSrtcp s hd k.pay
    match r with
    | none => stat s k.p k.u RX_AUTH_FAIL 1
    | some c =>
      let s := toSocket s hd k 3 (k.frame.take (k.ip.pay + 8) ++ c ++ k.frame.drop (k.ip.pay + 8 + k.pay.length))
      let ps := rtcpSplit c (c.length / 4 + 1)
      if !ps.any (·.copied) || s.pwr.fwStop then s
      else ps.foldl (fun s q => encFeedback (fwdRtcp s hd q) (hd / 4) q.kpTargets) s

/-- A UDP payload on a socket with the live streams `on`, the first bound first (R125). -/
def socketRx (s : State) (on : List (Nat × Bound)) (k : RxUdp) : State :=
  match on with
  | [] => s
  | (hd, b) :: _ =>
    let b0 := be k.pay 0 1
    let bad := stat s k.p k.u RX_HDR_ERR 1
    if k.pay = [] then bad
    else if b0 < 4 then
      if be k.pay 4 4 = 0x2112a442 ∧ 8 ≤ k.pay.length then toSocket s hd k 1 k.frame else bad
    else if 20 ≤ b0 ∧ b0 < 64 then toSocket s hd k 2 k.frame
    else if 128 ≤ b0 ∧ b0 < 192 then
      if 192 ≤ be k.pay 1 1 ∧ be k.pay 1 1 < 224 then rtcpRx s hd b.blk k
      else
        let ssrc : Word := BitVec.ofNat 32 (be k.pay 8 4)
        let hit := on.findSome? (fun q =>
          if k.pay.length < 12 then none
          else ((validIdx q.2.blk).find? (fun i => q.2.blk.ssrcs.getD i 0 = ssrc)).map (fun i => (q.1, i, q.2.blk)))
        match hit with
        | none => stat (toSocket s hd k 4 k.frame) k.p k.u RX_UNKNOWN_SSRC 1
        | some (h, i, blk) =>
          if srcRefused blk k then stat s k.p k.u RX_UNBOUND 1 else rtpRx s h i k.p k.u k.ts k.pay
    else bad

/-- Insert a stream by the order of its bind. -/
def insertOrder (q : Nat × Bound) : List (Nat × Bound) → List (Nat × Bound)
  | [] => [q]
  | r :: t => if q.2.order < r.2.order then q :: r :: t else r :: insertOrder q t

/-- The streams in force on a socket, the first bound first. -/
def liveSocket (s : State) (k : List Nat) : List (Nat × Bound) :=
  ((socketStreams s k).filter (fun q => q.2.live)).foldl (fun a q => insertOrder q a) []

/-! ## Frames (R123) -/

/-- Steps 8 to 13 of R123, and step 5 for UDP, for an IP frame. -/
def ipRx (s : State) (p u ts : Nat) (e : Eth) (frame : List Byte) : State :=
  let host := fld s NET_HOSTFN
  let ip := parseIp e.etype frame e.off
  let bad := stat s p u RX_HDR_ERR 1
  let dport := be frame (ip.pay + 2) 2
  if ip.udpTo frame 319 || ip.udpTo frame 320 then bump s PTP_RX_DROP_CNT 1
  else if !ip.ok then bad
  else if ip.odd then hpaDeliver s host p u 5 0xffff ts frame
  else if ip.proto ≠ 17 then hpaDeliver s host p u 6 0xffff ts frame
  else if !udpOk ip frame then bad
  else
    let vlan := match e.tags with
      | [] => some 0
      | [(_, t)] => some (1 + t % 4096)
      | _ => none
    let on := match vlan with
      | some v => liveSocket s [p, u, v, if ip.v6 then 1 else 0, ip.dst, dport]
      | none => []
    if on = [] then
      if bit s NET_MISS_TO_HOST then hpaDeliver s host p u 7 0xffff ts frame else stat s p u RX_UNBOUND 1
    else
      let n := be frame (ip.pay + 4) 2 - 8
      socketRx s on ⟨p, u, ts, frame, ip, sl frame (ip.pay + 8) n⟩

/-- The destination addresses of step 2 of R123. -/
def macPasses (s : State) (p u : Nat) (frame : List Byte) : Bool :=
  let d := be frame 0 6
  d = portMac s p u || d = 0xffffffffffff || d / 2 ^ 32 = 0x3333 || d = 0x011b19000000 || d = 0x0180c200000e

/-- A frame that passed step 1 of R123. -/
def frameRx (s : State) (p u : Nat) (frame : List Byte) : State :=
  let ts := ingressNs s p
  let e := parseEth frame
  if !macPasses s p u frame then stat s p u RX_MAC_FILTER 1
  else if !tagsOk e then stat s p u RX_HDR_ERR 1
  else if e.etype = 0x8808 then stat s p u RX_MAC_CTRL 1
  else if e.etype = 0x88f7 then ptpRx s p u (be frame 0 6) e.tags.length ts (frame.drop e.off)
  else if e.etype = 0x0806 then hpaDeliver s (fld s NET_HOSTFN) p u 6 0xffff ts frame
  else if e.etype ≠ 0x0800 ∧ e.etype ≠ 0x86dd then stat s p u RX_HDR_ERR 1
  else ipRx s p u ts e frame

/-- FRAME_RECEIVE (R123): a frame, without its FCS, reaches subport `u` of port `p` now. Frames above 250,000 in a tick are
dropped before step 1 (R507). A frame with a word of the packet buffer that cannot be read is dropped (R412). -/
def execFrameReceive (p u : BitVec 2) (fcsOk : Bool) (frame : RxFrame) (s : State) : Host.Outcome State Fault Refusal :=
  act (fun s =>
    let p := p.toNat
    let u := u.toNat
    if !linkUp s p u then s
    else if 250000 ≤ s.net.rxFrames then s
    else
      let s := { s with net := { s.net with rxFrames := s.net.rxFrames + 1 } }
      let n := frame.bytes.length + 4
      if !fcsOk || decide (n < 64) then stat s p u RX_FCS_ERR 1
      else if fld s (NET_PORT_MAXF p) < n then stat s p u RX_OVERSIZE 1
      else
        let t := eccHits (stat (stat s p u RX_FRAMES 1) p u RX_BYTES n) frame.hits
        if eccBad s frame.hits [4] then t else frameRx t p u frame.bytes) s

end Sys2Proof.Machine
end

