-- ==== Sys2Proof/Machine/EaselCore.lean ====
section
/-! DEFINITION. The Easel's tick sequence (R21 to R28): skips and holds when its time line moves, and a clock step at B
(R26, R342). Times of the time line are in 1/8 ns (R382). Log entries: 16, 18, 53, 55, 58, 82. -/

namespace Sys2Proof.Machine

/-- The lowest tick whose start by R22 is at or after `t` ns. -/
def ceilTick (t : Nat) : Nat := if tickStartNs (tickOf t) = t then tickOf t else tickOf t + 1

/-- The lowest tick whose start, moved by `base`, is at or after `t8`. -/
def ceilTick8 (base t8 : Int) : Nat := ceilTick (cdiv (t8 - base).toNat 8)

/-- Start of tick `k` on a time line moved by `base` against R22. -/
def start8 (base : Int) (k : Nat) : Int := 8 * tickStartNs k + base

/-- The Easel takes the time line moved by `base` at its boundary, `t8` on that line: ticks in between are skipped, or
ticks are withheld (R26). `held` ticks of a hold in progress are already counted. -/
def easelMove (s : State) (base t8 : Int) (held : Nat) : State :=
  let n := s.easel.now
  let nxt := max (n + 1) (ceilTick8 base t8)
  let sk := nxt - (n + 1)
  let s := { s with easel := { s.easel with next := nxt, due := ((start8 base nxt) / 8).toNat, dueFrac := ((start8 base nxt) % 8).toNat } }
  if 0 < sk then
    let s := { s with easel := { s.easel with skipped := s.easel.skipped ++ [(n + 1, sk)], holding := false } }
    let s := setBit (bump s TIK_SKIP_CNT sk) TIK_ST_SKIP
    raise s 0 EV_TICK_SKIP 0 (lo32 (n + 1)) (hi32 (n + 1)) (BitVec.ofNat 32 (min sk 0xffffffff)) 0
  else if t8 < start8 base (n + 1) then
    let len := ((start8 base (n + 1) - t8) / 8).toNat
    let s := setBit (bump s TIK_HOLD_CNT (n + 1 - ceilTick8 base t8 - held)) TIK_ST_HOLD
    raise (tickCut { s with easel := { s.easel with holding := true } }) 0 EV_TICK_HOLD 0 (lo32 n) (hi32 n) (lo32 len) (hi32 len)
  else s

/-- What the step does to the Easel at B, from `b` to `t` ns (R26); before the first tick it only sets where ticks start
(R28), once no tick starts any more it changes the time only (R342), and a time line taken from the markers moves with the clock (R24). -/
def easelStep (s : State) (b t : Nat) : State :=
  let e := s.easel
  if tickStopped e then { s with easel := { e with due := t, dueFrac := 0 } }
  else if e.follow then
    { s with easel := { e with start := (e.start + (t : Int) - b).toNat, due := (e.due + (t : Int) - b).toNat } }
  else if !e.running || !e.issued then
    { s with easel := { e with next := ceilTick t, due := tickStartNs (ceilTick t), dueFrac := 0 } }
  else if e.holding ∧ b ≤ t ∧ ceilTick t ≤ e.now + 1 then s
  else easelMove s 0 (8 * t) (if e.holding then e.now + 1 - ceilTick b else 0)

/-- Instants of frames already scheduled keep their place in local time (R26). -/
def shiftEgress (s : State) (d : Int) : State :=
  { s with net := { s.net with
      egress := s.net.egress.map (fun e => { e with launch := (e.launch + d).toNat })
      busyUntil := s.net.busyUntil.map (fun p => (p.1, (p.2 + 1000 * d).toNat)) } }

/-- Where an open EMIT(N) ends when B comes now with a step or a new time line: 375,000 ns later on the local clock (R26). -/
def emitFix (s : State) : Option Nat :=
  if s.easel.emit.isSome then some (s.clk.cyc + 300000) else s.easel.emitEndCyc

/-- EMIT(N) goes on for 375,000 ns after B, on the local clock (R26), and what waits for a clock time moves with the step. -/
def shiftEasel (s : State) (d : Int) : State :=
  { s with easel := { s.easel with
      emitEndCyc := emitFix s
      outFirst := (s.easel.outFirst + d).toNat } }

/-- The time unit after a step to `t` ns: measurements start anew, and PPS_OUT rises next for the first second boundary at least
1,000 ns later, unless that pulse has risen before B (R348). -/
def ppsStepped (p : Ptp) (t : Nat) : Ptp :=
  { p with
    staged := none, gen := p.gen + 1, ppsStep := p.ppsEarly.isNone, ppsEarly := none
    ppsFrom := match p.ppsEarly with
      | some n => n * 1000000000 + 1
      | none => t + 1000 }

/-- The staged step is applied at B (R342): the time changes, EV_PTP_STEP and a kind 3 entry follow, and the Easel takes
its next tick from the stepped time. -/
def stepApply (s : State) : State :=
  match s.ptp.staged with
  | none => s
  | some p =>
    let last := lastTick s
    let b := stepAt s p
    let s := tsFlush (advanceTo s b)
    let t := p.abs.getD (b + p.off).toNat
    let d : Int := (t : Int) - b
    let s := { s with
      clk := { s.clk with t := match p.abs with
                               | some a => a * 2 ^ 48
                               | none => (s.clk.t + d * 2 ^ 48).toNat }
      ptp := ppsStepped s.ptp t }
    let s := shiftEasel (shiftEgress (stepEvt s p.servo p.epoch d last) d) d
    easelStep (tsEntry s 3 (fld s PTP_EPOCH) 0 0 t) b t

/-- The Easel's time line changes at B, the boundary `due`, to the one moved by `base` against R22, with the effect R26 gives a step:
EMIT goes on for 375,000 ns after B. -/
def lineMove (s : State) (follow : Bool) (base : Int) : State :=
  let e := s.easel
  let s := advanceTo s e.due
  easelMove { s with easel := { s.easel with follow := follow, emitEndCyc := emitFix s }, msh := { s.msh with adopt := none } }
    base (8 * (e.due : Int) + e.dueFrac) 0

/-- The Easel changes over to another time line at its tick boundary: a follower to the markers' number and phase (R383), and once
TIK_SRC is 0 again back to the line of R22, which R24 leaves open (DESIGN CHOICE, log entry 82). -/
def adoptApply (s : State) : State :=
  if !s.easel.issued then s
  else
    match s.msh.adopt with
    | some (n, t8) => lineMove s true (t8 - 8 * tickStartNs n)
    | none => if s.easel.follow && fld s TIK_SRC = 0 then lineMove s false 0 else s

/-- The staged step that is due at the Easel's boundary. -/
def stepDue (s : State) : Option PtpStep := s.ptp.staged.filter (fun p => decide (stepAt s p ≤ s.easel.due))

/-- The instant of the boundary at which the tick in progress ends, or a hold, on the clock as it runs now. -/
def boundaryAt (s : State) : Nat := ((stepDue s).map (stepAt s)).getD s.easel.due

/-- A step that is due at the boundary is applied there (R26). -/
def boundaryStep (s : State) : State := if (stepDue s).isSome then stepApply s else s

/-- What happens at the boundary before the next tick starts: a step that is due (R26), then a new time line (R383). -/
def boundaryMoves (s : State) : State := adoptApply (boundaryStep s)

/-- The Easel as the boundary leaves it, looked at ahead, and the start of the tick it issues next, on the clock as it runs now. -/
def nextStart (s : State) : Easel × Nat :=
  let e := (boundaryMoves s).easel
  (e, if (stepDue s).isSome then boundaryAt s + (e.due - ns (boundaryStep s)) else e.due)

/-- STEP_APPLY (R342): time runs on to B and the staged step is applied. -/
def execStepApply (s : State) : Host.Outcome State Fault Refusal := act stepApply s

end Sys2Proof.Machine
end

