-- ==== Sys2Proof/Machine/Time.lean ====
section
/-! DEFINITION. The time commands and the events of the time unit (R336 to R359). Log entries: 18, 53, 54, 55. -/

namespace Sys2Proof.Machine

/-- The device is out of service from the effect tick of a PWR_MODE_REQ SLEEP (R342, R448): the tick before it has ended, or a step has
led past it. -/
def outOfService (s : State) : Bool :=
  let e := s.easel
  tickStopped e && (!e.running || decide (e.due ≤ ns s) || (e.stopAt.map (fun n => decide (n < e.next))).getD false)

/-- The modes in which time and Meash commands are permitted (R356, R386). -/
def timeModes : List Nat := [2, 3, 4, 5, 6]

/-- The time at which a step leaves the clock stays in its range, with the magnitude of R356. -/
def stepInRange (s : State) (set : Bool) (v : BitVec 64) (n : BitVec 30) : Bool :=
  if set then decide (n.toNat < 1000000000)
  else
    let t : Int := nextB s + v.toInt
    decide (v.toInt.natAbs ≤ 2 ^ 62) && decide (0 ≤ t) && decide (t < 2 ^ 48 * 1000000000)

/-- PTP_STEP (R340 to R342, R356): stage a step, or open an epoch. -/
def execPtpStep (h : CmdHdr) (newEpoch set : Bool) (v : BitVec 64) (n : BitVec 30) (s : State) :
    Host.Outcome State Fault Refusal :=
  act (command h OP_PTP_STEP
    { fn0 := true, reserved := if set then decide (2 ^ 48 ≤ v.toNat) else decide (n ≠ 0)
      modes := if outOfService s then [] else timeModes } (fun s =>
    let last := lastTick s
    let res (s : State) : Res := ok [lo32 last, hi32 last, BitVec.ofNat 32 (fld s PTP_EPOCH)]
    if !stepInRange s set v n then (s, no PTP_ST_RANGE)
    else if s.ptp.servo && !newEpoch then (s, no PTP_ST_SERVO)
    else if s.ptp.staged.isSome then (s, no PTP_ST_STEP_PENDING)
    else if !newEpoch && bit s PTP_STEP_USED then (s, no PTP_ST_EPOCH)
    else
      let s := if newEpoch then openEpoch s else s
      let s := if newEpoch && !set && decide (v = 0) then stepEvt s false true 0 last
        else stageStep s (if set then some (v.toNat * 1000000000 + n.toNat) else none) v.toInt false newEpoch
      (s, res s))) s

/-- PTP_RATE (R339, R353): the correction is applied at once. -/
def execPtpRate (h : CmdHdr) (synced : Bool) (r : BitVec 32) (s : State) : Host.Outcome State Fault Refusal :=
  act (command h OP_PTP_RATE { fn0 := true, modes := if outOfService s then [] else timeModes } (fun s =>
    if RMAX < r.toInt.natAbs then (s, no PTP_ST_RANGE)
    else if s.ptp.servo then (s, no PTP_ST_SERVO)
    else
      let s := setReg s PTP_RATE.addr r
      (if synced then setFld s PTP_UNCERTAIN 0 else s, ok))) s

/-- The four one-byte priorities a word holds, the lowest first (R350). -/
def servoPrios (w : Word) : List Nat := (List.range 4).map (fun i => w.toNat / 256 ^ i % 256)

/-- The servo as PTP_SERVO_CFG sets it: the announcements of the ports it keeps, the master chosen again, the state (R350, R356). -/
def servoSet (s : State) (en : Bool) (src : Nat) (ports : BitVec 4) (domain : Nat) (dest : Bool) (prios : List Nat)
    (stepNs lockCnt lockNs : Nat) : State :=
  let p := s.ptp
  let anns := p.anns.filter (fun q => decide (p.domain = domain) && ports.getLsbD q.1)
  let s := selectMaster (setPtp s { p with
    servo := en, src := src, ports := ports.toNat, domain := domain, dest := dest, prios := prios
    stepNs := stepNs, lockCnt := lockCnt, lockNs := lockNs, i := 0, run := 0, anns := anns
    measAt := localNs s })
  if !en then ptpState s 4 else if fld s PTP_STATE = 4 then ptpState s 0 else s

/-- PTP_SERVO_CFG (R356). -/
def execPtpServoCfg (h : CmdHdr) (en : Bool) (src : BitVec 2) (ports : BitVec 4) (domain : BitVec 8) (dest : Bool)
    (prio : BitVec 32) (stepNs : BitVec 32) (lockCnt : BitVec 8) (lockNs : BitVec 16) (s : State) :
    Host.Outcome State Fault Refusal :=
  act (command h OP_PTP_SERVO_CFG { fn0 := true, reserved := decide (2 ≤ src.toNat) || lockNs = 0, modes := timeModes } (fun s =>
    let prios := servoPrios prio
    if stepNs.toNat < 1000 ∨ 1000000000 < stepNs.toNat ∨ lockCnt = 0 ∨ prios.contains 0 then (s, no PTP_ST_RANGE)
    else if (List.range 4).any (fun p => ports.getLsbD p && !subportOk s p 0) then (s, no PTP_ST_PORT)
    else if domain.toNat < 24 ∨ 43 < domain.toNat then (s, no PTP_ST_DOMAIN)
    else
      (servoSet s en src.toNat ports domain.toNat dest prios stepNs.toNat lockCnt.toNat lockNs.toNat, ok))) s

/-- The result area of PTP_STATUS (R356). -/
def ptpStatusWords (s : State) : List Word :=
  let m := s.ptp.master.getD 0
  let utc := ((tget s.ptp.anns m).map (·.utc)).getD 0 % 256
  [BitVec.ofNat 32 (fld s PTP_EPOCH * 65536 + utc * 256 + m * 64 + fld s PTP_STEP_USED * 16
     + fld s PTP_UNCERTAIN * 8 + fld s PTP_STATE),
   i32 s.ptp.theta, i32 s.ptp.mpd, reg s PTP_RATE.addr]

/-- PTP_STATUS (R356). -/
def execPtpStatus (h : CmdHdr) (s : State) : Host.Outcome State Fault Refusal :=
  act (command h OP_PTP_STATUS { modes := timeModes } (fun s => (s, ok (ptpStatusWords s)))) s

/-- The Delay_Req frame of port `p` (R350), without FCS. -/
def delayReqFrame (s : State) (p sq : Nat) : List Byte :=
  let f := natBE 6 (if s.ptp.dest then 0x0180c200000e else 0x011b19000000) ++ natBE 6 (portMac s p 0) ++ natBE 2 0x88f7
    ++ [0x01, 0x02] ++ natBE 2 44 ++ [BitVec.ofNat 8 s.ptp.domain, 0, 0, 0] ++ zeros 12
    ++ natBE 10 (portIdentity s p) ++ natBE 2 sq ++ [0x01, 0x7f] ++ zeros 10
  f ++ zeros (60 - f.length)

/-- The clock time at which an open EMIT(`n`) ends. -/
def emitEndNs (s : State) (n : Nat) : Nat :=
  match s.easel.emitEndCyc with
  | none => emitCloseNs s n
  | some c => ns s + (c - s.clk.cyc) * 5 / 4

/-- The launch time of a Delay_Req: `ofs` ns into an EMIT window, and inside it (R347). The window is the open one while there is room
for it, else that of the tick in progress while it has not opened, else that of the next tick the Easel issues; none where it issues
none. -/
def reqLaunch (s : State) (ofs : Nat) : Option Nat :=
  let o := min ofs 499999
  let e := s.easel
  let open' := s.easel.emit.bind (fun n =>
    let l := max (ns s) (if n = e.now then e.start + 708333 + o else 0)
    if l < emitEndNs s n then some l else none)
  let own := if e.running && e.issued && !e.emitted && !e.holding then some (max (ns s) (e.start + 708333 + o)) else none
  let (x, t) := nextStart s
  let next := if !e.running || tickStopped x then none else some (max (ns s) (t + 708333 + o))
  (open'.or own).or next

/-- DELAY_REQ_SEND (R350): on the port of the selected master, 1/16 s after the one before, firmware gives a Delay_Req a
launch time `ofs` ns into an EMIT window (R347). -/
def execDelayReqSend (ofs : BitVec 19) (s : State) : Host.Outcome State Fault Refusal :=
  act (fun s =>
    match s.ptp.master with
    | none => s
    | some p =>
      let s := match s.ptp.reqAt with
        | some a => advanceLocal s (a + 62500000 - localNs s)
        | none => s
      if s.pwr.fwStop || !s.clk.running then s
      else
        match reqLaunch s ofs.toNat with
        | none => s
        | some l =>
          let sq := s.ptp.seq
          let e : Egr := { port := p, sub := 0, launch := l, leg := 0, ord := 0, kind := 4, handle := 0
                           bytes := delayReqFrame s p sq, seq := sq, tsId := some sq }
          { s with
            net := { s.net with egress := s.net.egress ++ [e] }
            ptp := { s.ptp with req := some ⟨p, sq, none⟩, seq := (sq + 1) % 65536, reqAt := some (localNs s) } }) s

/-- ANNOUNCE_TIMEOUT (R350, R352): 3 intervals of 1/8 s without an Announce of the selected master. -/
def execAnnounceTimeout (s : State) : Host.Outcome State Fault Refusal :=
  act (fun s =>
    match s.ptp.master with
    | none => s
    | some p =>
      match tget s.ptp.anns p with
      | none => s
      | some a =>
        let s := advanceLocal s (a.at' + 375000000 - localNs s)
        selectMaster (holdover (setPtp s { s.ptp with anns := tdel s.ptp.anns p }))) s

/-- MEASUREMENT_TIMEOUT (R352): no measurement for 1 s. -/
def execMeasurementTimeout (s : State) : Host.Outcome State Fault Refusal :=
  act (fun s =>
    if fld s PTP_STATE = 1 ∨ fld s PTP_STATE = 2 then
      holdover (advanceLocal s (s.ptp.measAt + 1000000000 - localNs s))
    else s) s

/-- HOLDOVER_LIMIT (R352): HOLDOVER has lasted PTP_HOLD_LIMIT seconds. -/
def execHoldoverLimit (s : State) : Host.Outcome State Fault Refusal :=
  act (fun s =>
    if fld s PTP_STATE = 3 then
      ppsCut (setFld (advanceLocal s (s.ptp.holdAt + fld s PTP_HOLD_LIMIT * 1000000000 - localNs s)) PTP_UNCERTAIN 1)
    else s) s

/-- The pulse of second `n` rises `adv` ns before the clock time `t`, or now where that has passed. The pad shows it once its group is
DRIVEN (R456). -/
def ppsPulse (s : State) (n t : Nat) : State :=
  let s := advanceTo s (t - fld s PTP_PPS_ADV)
  let w := fld s PPS_WIDTH * 100000
  if fld s PAD_ST_TIME = 2 then emitOut (setPtp s { s.ptp with ppsFall := some (localNs s + w) }) (.ppsOut n w) else s

/-- PPS_OUT_PULSE (R348): the next rising edge, PTP_PPS_ADV ns before a second boundary of the clock. After a step it is that of the
first boundary at least 1,000 ns after B, late where it would have been due before the step was known, and before B where a staged
step makes it so. -/
def execPpsOutPulse (s : State) : Host.Outcome State Fault Refusal :=
  act (fun s =>
    let adv := fld s PTP_PPS_ADV
    let from' := if s.ptp.ppsStep && decide (ns s ≤ (s.ptp.ppsFrom + 999999999) / 1000000000 * 1000000000)
      then s.ptp.ppsFrom else max (ns s + adv) s.ptp.ppsFrom
    let n := (from' + 999999999) / 1000000000
    if !bit s PPS_OUT_EN || !s.clk.running || (bit s PPS_SQUELCH && bit s PTP_UNCERTAIN) then s
    else
      match s.ptp.staged.filter (fun p => decide (stepAt s p ≤ n * 1000000000)) with
      | none =>
        ppsPulse (setPtp s { s.ptp with ppsFrom := n * 1000000000 + 1, ppsStep := false }) n (n * 1000000000)
      | some p =>
        let b := stepAt s p
        let t := p.abs.getD (b + p.off).toNat
        let k := (t + 1000 + 999999999) / 1000000000
        let local' := b + (k * 1000000000 - t)
        if s.ptp.ppsEarly.isSome || decide (b + adv ≤ local') then s
        else ppsPulse (setPtp s { s.ptp with ppsEarly := some k }) k local') s

/-- θ of a PPS_IN edge at the full time `t` (R351). -/
def ppsTheta (t : Nat) : Int := ((t % 1000000000 + 500000000) % 1000000000 : Nat) - 500000000

/-- PPS_IN_EDGE (R349, R351): an edge reaches PPS_IN now. -/
def execPpsInEdge (falling : Bool) (s : State) : Host.Outcome State Fault Refusal :=
  act (fun s =>
    if !bit s PPS_IN_EN || bit s PPS_IN_EDGE != falling || !s.clk.running
        || (s.ptp.ppsEdge && decide (localNs s < s.ptp.ppsAt + 900000000)) then s
    else
      let n := (s.ptp.ppsN + 1) % 65536
      let lost := s.ptp.ppsLost
      let s := setPtp s { s.ptp with ppsN := n, ppsAt := localNs s, ppsEdge := true, ppsLost := false }
      let s := tsEntry s 2 n 0 0 (ns s)
      let s := if lost then raise s 0 EV_PTP_PPS 0 0 0 0 0 else s
      if s.ptp.src = 1 then measurement s (ppsTheta (ns s)) s.ptp.mpd (Config.ppsMeasId n) else s) s

/-- PPS_IN_LOSS (R349, R352): 1,100 ms without an edge. -/
def execPpsInLoss (s : State) : Host.Outcome State Fault Refusal :=
  act (fun s =>
    if !bit s PPS_IN_EN || s.ptp.ppsLost then s
    else
      let s := advanceLocal s (s.ptp.ppsAt + 1100000000 - localNs s)
      let s := setBit (setPtp s { s.ptp with ppsLost := true }) PTP_ST_PPS_LOSS
      let s := raise s 0 EV_PTP_PPS 0 1 0 0 0
      if s.ptp.src = 1 then holdover s else s) s

/-- PTP_LAUNCH_MISS (R347): a PTP frame that has not started 2,000 ns after its launch time, as its subport's link is down. -/
def execPtpLaunchMiss (s : State) : Host.Outcome State Fault Refusal :=
  act (fun s =>
    match earliest (s.net.egress.filter (fun e => e.kind = 4 && (!linkUp s e.port e.sub || decide (e.launch + 2000 ≤ ns s)))) with
    | none => s
    | some e =>
      let s := advanceTo s (e.launch + 2000)
      let s := { s with net := { s.net with egress := s.net.egress.erase e } }
      setBit (bump s PTP_LAUNCH_MISS_CNT 1) PTP_ST_LAUNCH_MISS) s

end Sys2Proof.Machine
end

