-- ==== Sys2Proof/Machine/Meash.lean ====
section
/-! DEFINITION. The Meash ports (R360 to R389): commands, lane alignment, trace, the lane group, protection switching,
units and credits, partials and media, tick markers and tick lock, and the wake pattern.
Log entries: 1, 4, 56, 57, 58, 59, 60, 66. -/

namespace Sys2Proof.Machine

/-! ## Lanes (R364, R367, R368) -/

/-- The lane is LOCKED and without LOF, MAP, SKEW or TIM: it is in service. -/
def laneOk (s : State) (m l : Nat) : Bool := (fld s (MSH_LANES_OK m)).testBit l

/-- A number with bit `i` set to `v`. -/
def withBit (x i : Nat) (v : Bool) : Nat := x - (if x.testBit i then 2 ^ i else 0) + (if v then 2 ^ i else 0)

/-- The least arrival delay of the lanes of a port that are in service. -/
def earliestDelay (s : State) (m : Nat) : Option Nat :=
  (((List.range 9).filter (laneOk s m)).map (fun l => (laneOf s m l).delay)).min?

/-- Corrected symbols of a lane over the last 1,200 ticks. -/
def laneSyms (s : State) (x : Lane) : Nat := (x.syms.filter (fun q => curTick s < q.1 + 1200)).foldl (fun a q => a + q.2) 0

/-- Defects, SF and SD of a lane as its state stands (R364, R367, R368); `lof` says whether it has LOF. A change of defects
raises EV_MSH_LANE. -/
def laneEval (s : State) (m l : Nat) (lof : Bool) : State :=
  let x := laneOf s m l
  let locked := decide (fld s (MSH_AM_STATE m l) = 2)
  let skew := if locked then min 2047 (x.delay - (earliestDelay s m).getD x.delay) else 0
  let mapd := locked && decide (x.phy ≠ l)
  let sk := decide (1000 < skew)
  let sd := decide (fld s MSH_SD_SYM * 1000 < laneSyms s x)
  let sf := lof || mapd || sk || bit s (MSH_TIM m) || decide (fld s MSH_SF_UNCORR < max x.unc x.uncPrev)
  let at0 := decide (l = 8) || decide (fld s MSH_HOLDOFF = 0)
  let x := { x with
    sfSince := if sf then some (x.sfSince.getD (localNs s)) else none
    sdSince := if sd then some (x.sdSince.getD (localNs s)) else none
    sfOn := sf && (x.sfOn || at0), sdOn := sd && (x.sdOn || at0) }
  let d := (if lof then 8 else 0) + (if mapd then 4 else 0) + (if sk then 2 else 0) + (if sd then 1 else 0)
  let ev := (if lof then 256 else 0) + (if mapd then 512 else 0) + (if sk then 1024 else 0) + (if sd then 2048 else 0) + l
  let old := fld s (MSH_LANE_DEF m l)
  let s := setFld (setFld (setLane s m l x) (MSH_SKEW m l) skew) (MSH_LANE_DEF m l) d
  let s := setFld s (MSH_LANES_OK m)
    (withBit (fld s (MSH_LANES_OK m)) l (locked && !lof && !mapd && !sk && !bit s (MSH_TIM m)))
  if old = d then s else raise s 0 EV_MSH_LANE (BitVec.ofNat 16 m) (BitVec.ofNat 32 ev) 0 0 0

/-! ## The lane group (R367) -/

/-- The physical lane from which logical lane `i` is taken: lane 8 where it is selected there. -/
def laneFor (x : MshPort) (i : Nat) : Nat := if x.sel = some i then 8 else i

/-- Logical lane `i` is received on a lane in service; a working lane with SF is lost while lane 8 has SF-P (R367, R371). -/
def logicalOk (s : State) (m i : Nat) : Bool :=
  let l := laneFor (mshPort s m) i
  laneOk s m l && decide (fld s (MSH_LOG_LANE m l) = i) && !((laneOf s m i).sfOn && (laneOf s m 8).sfOn)

/-- The group of port `m` leaves service (R367): what it has partly received is discarded. -/
def groupDown (s : State) (m : Nat) : State :=
  if !mshUp s m then s
  else
    raise (setFld (setMshPort s m { mshPort s m with rxPay := [], rxLast := none, stream := [], held := [0, 0, 0] }) (MSH_GROUP_UP m) 0) 0 EV_MSH_LINK (BitVec.ofNat 16 m)
      0 0 0 0

/-- The group enters or leaves service (R367, R373): credits restart at 0, and a wake pattern ends (R385). -/
def groupEval (s : State) (m : Nat) : State :=
  let x := mshPort s m
  let up := x.live.en && (List.range x.live.w).all (fun i => logicalOk s m i)
  if up = mshUp s m then s
  else if !up then groupDown s m
  else
      let s := raise (setFld s (MSH_GROUP_UP m) 1) 0 EV_MSH_LINK (BitVec.ofNat 16 m) 1 0 0 0
      let s := if m = fld s MSH_TICK_PORT then setFld s (MSH_TICK_LOCK m) (if fld s TIK_SRC = 0 then 3 else fld s (MSH_TICK_LOCK m)) else s
      let s := setMshPort s m { x with
        sent := [0, 0, 0], lim := [0, 0, 0], freed := [0, 0, 0], held := [0, 0, 0], waking := none, txc := [], txu := [] }
      if x.waking.isSome then emitOut s (.mshWake m false) else s

/-! ## Protection switching (R369 to R371) -/

/-- The priority of a request code (R369). -/
def apsPrio (r : Nat) : Nat :=
  match r with
  | 0xf => 1 | 0xe => 2 | 0xd => 3 | 0xb => 4 | 0x9 => 5 | 0x7 => 6 | 0x5 => 7 | _ => 8

/-- The local request that counts (R369). -/
def apsLocal (s : State) (m : Nat) : Nat × Nat :=
  let x := mshPort s m
  let ls := List.range x.live.w
  if x.cmd.1 = 0xf then (0xf, 15)
  else if (laneOf s m 8).sfOn then (0xe, 15)
  else if x.cmd.1 = 0xd then x.cmd
  else
    match ls.find? (fun l => (laneOf s m l).sfOn) with
    | some l => (0xb, l)
    | none =>
      match ls.find? (fun l => (laneOf s m l).sdOn) with
      | some l => (0x9, l)
      | none =>
        if x.cmd.1 = 0x7 then x.cmd
        else match x.wtr with
          | some (l, _) => (0x5, l)
          | none => (0, 15)

/-- The request that counts on the port: the higher-priority one of own and peer's, the lower lane on a tie (R370). -/
def apsAsked (s : State) (m : Nat) : Nat × Nat :=
  let a := apsLocal s m
  let b := (mshPort s m).peer
  if apsPrio a.1 < apsPrio b.1 then a else if apsPrio b.1 < apsPrio a.1 then b else if a.2 ≤ b.2 then a else b

/-- The request in force: a lane kept under MSH_NONREV stays while nothing is requested (R370, R371). -/
def apsForce (s : State) (m : Nat) : Nat × Nat :=
  let f := apsAsked s m
  if apsPrio f.1 = 8 then (0, ((mshPort s m).keep).getD 15) else f

/-- Bring the request in force up to date, with `keep` the lane that stays on protection while nothing is requested; each change of the
lane in force raises EV_MSH_APS (R371). A request above wait-to-restore ends one. -/
def apsSettle (s : State) (m : Nat) (keep : Option Nat) : State :=
  let x := mshPort s m
  let p := apsPrio (apsAsked s m).1
  let s := setMshPort s m { x with wtr := if p < 7 then none else x.wtr, keep := if p < 8 then none else keep }
  let f := apsForce s m
  let s := setFld (setMshPort s m { mshPort s m with force := f }) (MSH_APS_STATE m) (f.1 * 16 + f.2)
  if x.force.2 = f.2 then s
  else
    raise s 0 EV_MSH_APS (BitVec.ofNat 16 m)
      (BitVec.ofNat 32 (f.1 * 16 + f.2 + if x.sel.isSome ∧ x.sel = some f.2 then 256 else 0)) 0 0 0

/-- The request in force after a change; with MSH_NONREV set a lane selected from protection is kept there, at the end that followed its
peer too (R371). -/
def apsEval (s : State) (m : Nat) : State :=
  let x := mshPort s m
  apsSettle s m (if x.keep.isSome then x.keep else if bit s MSH_NONREV then x.sel else none)

/-- A whole frame period: the payloads of frame `f`, which follows the last one taken, of every logical lane, from the lanes they are
taken from, are the group stream (R363); what is held of it and of frames before it goes. -/
def groupFrame (x : MshPort) (f : Nat) : Option MshPort :=
  let w := x.live.w
  let of' (i : Nat) : Option (List (List Byte)) :=
    (((tget x.rxPay (laneFor x i)).getD []).find? (fun q => q.mfc = f && q.log = i)).map (·.blocks)
  let after := x.rxLast.all (fun e => decide (f ≠ e) && decide ((f + 256 - e) % 256 < 128))
  if after && (List.range w).all (fun i => (of' i).isSome) then
    let blk (k : Nat) : List Byte := ((of' (k % w)).getD []).getD (k / w) []
    some { x with
      rxLast := some f, stream := (List.range (32 * w)).map blk
      rxPay := x.rxPay.map (fun q => (q.1, if q.2.any (fun r => r.mfc = f) then (q.2.dropWhile (fun r => r.mfc ≠ f)).tail else q.2)) }
  else none

/-- Every frame period that has become whole, in order. -/
def groupFrames (n : Nat) (x : MshPort) : MshPort :=
  match n with
  | 0 => x
  | n + 1 =>
    match ((tget x.rxPay (laneFor x 0)).getD []).findSome? (fun q => groupFrame x q.mfc) with
    | some y => groupFrames n y
    | none => x

/-- The selector changes to or from lane 8 at a frame boundary: the copy's frames that the deskew holds follow the last one taken (R370);
the two markers after a switch of logical lane 0 give no φ (R382). -/
def apsSelect (s : State) (m : Nat) : State :=
  let x := mshPort s m
  let want := if x.force.2 < x.live.w then some x.force.2 else none
  let go := match want with
    | some l => laneOk s m 8 && decide (fld s (MSH_LOG_LANE m 8) = l)
    | none => true
  if !go || want = x.sel then s
  else
    let z := decide (want = some 0) || decide (x.sel = some 0)
    let x := groupFrames 8 { x with sel := want, skip := if z then 2 else x.skip }
    groupEval (setBit (setMshPort s m x) MSH_ST_APS) m

/-- What follows a change of lane `l`: the SF or SD of a lane selected from lane 8 that clears starts a wait-to-restore,
but with MSH_NONREV (R371); then the request in force and the group. -/
def laneDone (s : State) (m l : Nat) (had : Bool) : State :=
  let x := mshPort s m
  let y := laneOf s m l
  let cleared := had && !(y.sfOn || y.sdOn) && decide (x.sel = some l)
  let s := if cleared && !bit s MSH_NONREV then setMshPort s m { x with wtr := some (l, localNs s) } else s
  groupEval (apsEval s m) m

/-- A lane's state changes to `st` with or without LOF. -/
def laneTo (s : State) (m l st : Nat) (lof : Bool) : State :=
  let y := laneOf s m l
  laneDone (laneEval (setFld s (MSH_AM_STATE m l) st) m l lof) m l (y.sfOn || y.sdOn)

/-- LOF as registered. -/
def laneLof (s : State) (m l : Nat) : Bool := (fld s (MSH_LANE_DEF m l)).testBit 3

/-- A lane whose count has reached MSH_AM_N is LOCKED (R364). -/
def amLock (s : State) (m l : Nat) : State :=
  if fld s (MSH_AM_STATE m l) = 1 ∧ fld s MSH_AM_N ≤ (laneOf s m l).cnt then
    let x := laneOf s m l
    laneTo (setLane s m l { x with bad := 0, buf := x.buf.drop (x.ofs - 2064), ofs := min x.ofs 2064 }) m l 2 false
  else s

/-- A lane whose bad count has reached MSH_AM_M enters SEARCH with LOF (R364). -/
def amLoss (s : State) (m l : Nat) : State :=
  if fld s (MSH_AM_STATE m l) = 2 ∧ fld s MSH_AM_M ≤ (laneOf s m l).bad then
    laneTo (setFld (setLane s m l { laneOf s m l with
      bad := 0, cnt := 0, tti := [], multi := [], buf := (laneOf s m l).buf.tail, ofs := 0 }) (MSH_LOG_LANE m l) 15) m l 0 true
  else s

/-- Set bits of a number below 2^48. -/
def ones (x : Nat) : Nat := (List.range 48).foldl (fun a i => if x.testBit i then a + 1 else a) 0

/-- One more trace byte of a lane; a multiframe whose 16 bytes repeat counts (R366). -/
def laneTti (x : Lane) (mfc : Nat) (b : Byte) : Lane :=
  let t := if mfc = 0 then [b] else if x.tti.length = mfc then x.tti ++ [b] else []
  if mfc = 255 then
    let v := t.take 16
    let good := decide (t.length = 256) && decide (t = (List.replicate 16 v).flatten)
    { x with tti := [], multi := if good then (x.multi ++ [v]).drop (x.multi.length - 2) else [] }
  else { x with tti := t }

/-- What FEC reports of a lane with a frame: uncorrectable codewords and corrected symbols (R368). -/
def laneFec (s : State) (x : Lane) (unc sym : Nat) : Lane :=
  let n := curTick s
  let x := if x.uncTick = n then { x with unc := x.unc + unc }
    else { x with uncPrev := if x.uncTick + 1 = n then x.unc else 0, unc := unc, uncTick := n }
  { x with syms := x.syms.filter (fun q => n < q.1 + 1200) ++ (if sym = 0 then [] else [(n, sym)]) }

/-- The payload of the frame that lane `l` has received whole is descrambled (R362) and held until the others of its frame have come, at
most 1,000 ns, which is seven frames, behind the lane that is ahead (R367). A lane that carries none of the port's logical lanes, a group
out of service and a trace mismatch leave nothing of it. -/
def laneDeliver (s : State) (m l : Nat) : State :=
  let x := laneOf s m l
  let p := mshPort s m
  let i := fld s (MSH_LOG_LANE m l)
  if x.ofs < 2064 || !mshUp s m || bit s (MSH_TIM m) || !decide (i < p.live.w) then s
  else
    let pay := scramble (scrambleStart (mshSeed s.msh.cascade) x.mfc x.phy) (sl x.buf 16 2048)
    let q := (tget p.rxPay l).getD [] ++ [⟨x.mfc, i, chunks 64 2048 pay⟩]
    setMshPort s m (groupFrames 8 { p with rxPay := tset p.rxPay l (q.drop (q.length - 8)) })

/-- Test the marker of lane `l` at its next position (R364). SEARCH goes on byte by byte, a failed candidate at the byte after its first
marker's first. -/
def laneTest (s : State) (m l : Nat) : State :=
  let x := laneOf s m l
  let b := sl x.buf x.ofs 16
  let mfc := be b 6 1
  let phy := be b 7 1 % 16
  let crc := decide (crc16 (sl b 6 4) = be b 10 2)
  let exact := decide (be b 0 6 = AM_PAT) && crc
  let next := decide (mfc = (x.mfc + 1) % 256)
  match fld s (MSH_AM_STATE m l) with
  | 0 =>
    if exact then setFld (setLane s m l { x with cnt := 1, mfc := mfc, phy := phy, ofs := 2064 }) (MSH_AM_STATE m l) 1
    else setLane s m l { x with buf := x.buf.tail }
  | 1 =>
    if exact && next && decide (phy = x.phy) then setLane s m l { x with cnt := x.cnt + 1, mfc := mfc, ofs := x.ofs + 2064 }
    else setFld (setLane s m l { x with cnt := 0, buf := x.buf.tail, ofs := 0 }) (MSH_AM_STATE m l) 0
  | _ =>
    let s := laneDeliver s m l
    let x := { x with buf := x.buf.drop x.ofs, ofs := 2064 }
    if decide (ones (be b 0 6 ^^^ AM_PAT) ≤ 3) && crc && next then
      let s := setFld s (MSH_LOG_LANE m l) (be b 7 1 / 16)
      let s := if l = 8 then setMshPort s m { mshPort s m with peer := (be b 9 1 / 16, be b 9 1 % 16) } else s
      setLane s m l (laneTti { x with bad := 0, mfc := mfc, phy := phy } mfc (BitVec.ofNat 8 (be b 8 1)))
    else
      let c := (x.mfc + 1) % 256
      setLane s m l { x with bad := x.bad + 1, mfc := c, tti := [], multi := if c = 255 then [] else x.multi }

/-- Test every position that the bytes held allow; `n` bounds the tests. -/
def laneScan (n : Nat) (s : State) (m l : Nat) : State :=
  match n with
  | 0 => s
  | n + 1 =>
    let s := amLoss (amLock s m l) m l
    let x := laneOf s m l
    if x.buf.length < x.ofs + 16 then s else laneScan n (laneTest s m l) m l

/-- LANE_FRAME_RECEIVE (R364): the bytes `b` that lane `l` of port `m` receives next, a frame's worth as a rule; `delay` is its arrival
delay in ns, `unc` and `sym` what FEC reports. -/
def execLaneFrameReceive (m : BitVec 2) (l : BitVec 4) (b : List Byte) (delay unc sym : BitVec 16) (s : State) :
    Host.Outcome State Fault Refusal :=
  act (fun s =>
    let m := m.toNat
    let l := l.toNat
    let c := (mshPort s m).live
    if !ctlOn s || !c.en || !(decide (l < c.w) || decide (l = 8)) then s
    else
      let x := laneOf s m l
      let had := x.sfOn || x.sdOn
      let x := laneFec s { x with delay := delay.toNat, buf := x.buf ++ b } unc.toNat sym.toNat
      let s := laneScan (16 * x.buf.length + 16) (setLane s m l x) m l
      laneDone (laneEval s m l (laneLof s m l)) m l had) s

/-- AM_LOCK (R364). -/
def execAmLock (m : BitVec 2) (l : BitVec 4) (s : State) : Host.Outcome State Fault Refusal :=
  act (fun s => if 8 < l.toNat then s else amLock s m.toNat l.toNat) s

/-- AM_LOSS (R364). -/
def execAmLoss (m : BitVec 2) (l : BitVec 4) (s : State) : Host.Outcome State Fault Refusal :=
  act (fun s => if 8 < l.toNat then s else amLoss s m.toNat l.toNat) s

/-! ## Frames sent (R361 to R363, R366, R370) -/

/-- The next block of the group stream: tick markers and credits first, then units in their order, else an idle block (R372). -/
def nextBlock (s : State) (x : MshPort) : MshPort × List Byte :=
  match x.txc, x.txu with
  | b :: r, _ => ({ x with txc := r }, b)
  | [], u :: r =>
    match u.blocks with
    | b :: [] => ({ x with txu := r }, b)
    | b :: bs => ({ x with txu := { u with begun := true, blocks := bs } :: r }, b)
    | [] => ({ x with txu := r }, ((blocksOf s 0 0 (withCrc (fill s 59))).headD []))
  | [], [] => (x, (blocksOf s 0 0 (withCrc (fill s 59))).headD [])

/-- `n` blocks. -/
def nextBlocks (s : State) (x : MshPort) (n : Nat) : MshPort × List (List Byte) :=
  match n with
  | 0 => (x, [])
  | n + 1 =>
    let (x, b) := nextBlock s x
    let (x, bs) := nextBlocks s x n
    (x, b :: bs)

/-- The trace identifier the device sends on port `m` (R366). -/
def ownTrace (s : State) (m : Nat) : List Byte :=
  natBE 1 (fld s MESH_NODE) ++ natBE 1 m ++ natBE 14 s.msh.cascade

/-- A frame of physical lane `l` of port `m` that carries logical lane `log`, payload `pay` (R361, R362). -/
def laneFrame (s : State) (m l log mfc : Nat) (aps : Nat × Nat) (pay : List Byte) : List Byte :=
  amBytes mfc log l ((ownTrace s m).getD (mfc % 16) 0).toNat aps.1 aps.2
    ++ scramble (scrambleStart (mshSeed s.msh.cascade) mfc l) pay

/-- Every lane of port `m` sends a frame: working lane `i` carries logical lane `i`, and lane 8 the logical lane that the request in force
names, or none (R370), with the request that counts here. While the port wakes its peer, lane 0 carries the bursts of R385. -/
def portFrames (s : State) (m : Nat) : State :=
  let p := mshPort s m
  let w := p.live.w
  let mfc := p.txN % 256
  let (x, bs) := nextBlocks s p (32 * w)
  let pay (i : Nat) : List Byte := (List.range 32).flatMap (fun b => bs.getD (groupBlock w b i) [])
  let i := p.force.2
  let own := apsLocal s m
  let s := setMshPort s m { x with txN := p.txN + 1 }
  let s := ((List.range w).filter (fun l => l ≠ 0 || p.waking.isNone)).foldl (fun s l => emitOut s (.mshFrame m l (laneFrame s m l l mfc (0, 0) (pay l)))) s
  emitOut s (.mshFrame m 8 (if i < w then laneFrame s m 8 i mfc own (pay i) else laneFrame s m 8 15 mfc own (fill s 2048)))

/-- The frames of port `m` that are due by this cycle: a frame lasts 2,064 × 8 / 100.390625 ns, which is 4,227,072 / 32,125 cycles of
800 MHz (R360, R361). One frame of each lane goes at a time. -/
def portSend (s : State) (m : Nat) : State :=
  let x := mshPort s m
  if !x.live.en || !s.clk.running then s
  else
    match x.txFrom with
    | none => portFrames (setMshPort s m { x with txFrom := some s.clk.cyc, txN := 0 }) m
    | some c => if 4227072 * x.txN ≤ 32125 * (s.clk.cyc - c) then portFrames s m else s

/-- A port sends nothing any more, and its group leaves service. -/
def mshStop (s : State) (m : Nat) : State :=
  let s := groupDown s m
  if thas s.msh.ports m then setMshPort s m { mshPort s m with txFrom := none, txc := [], txu := [] } else s

/-- What the block does in a cycle in which no command waits: time passes (R336), and the Meash ports send their frames (R361). -/
def idle (s : State) : State := [0, 1, 2, 3].foldl portSend (cycles s 1)

/-! ## Trace identifiers (R366) -/

/-- Every lane of a port is judged anew, then the request in force and the group. -/
def portEval (s : State) (m : Nat) : State :=
  groupEval (apsEval ((List.range 9).foldl (fun s l => laneEval s m l (laneLof s m l)) s) m) m

/-- TIM of port `m` as its accepted values stand: a mismatch, or lanes that differ (R366). -/
def traceEval (s : State) (m : Nat) : State :=
  let c := (mshPort s m).live
  let vs := ((List.range 9).filter (fun l => l < c.w || l = 8)).filterMap (fun l => (laneOf s m l).acc)
  let mism (v : List Byte) : Bool :=
    decide (v.drop 2 ≠ natBE 14 s.msh.cascade) || (c.exp && decide (be v 0 1 % 32 ≠ c.node))
  let bad := vs.any mism || decide (1 < vs.eraseDups.length)
  if bad = bit s (MSH_TIM m) then s
  else
    let v := (vs.find? mism).getD (vs.headD [])
    let s := setFld s (MSH_TIM m) (if bad then 1 else 0)
    let s := if bad then setBit s MSH_ST_TRACE else s
    portEval (raise s 0 EV_MSH_TRACE (BitVec.ofNat 16 m) (BitVec.ofNat 32 (be v 0 1 % 32)) (if bad then 1 else 0) 0 0) m

/-- TRACE_ACCEPT (R366): a lane has received the same 16 bytes in three consecutive multiframes. -/
def execTraceAccept (m : BitVec 2) (l : BitVec 4) (s : State) : Host.Outcome State Fault Refusal :=
  act (fun s =>
    let m := m.toNat
    let l := l.toNat
    let x := laneOf s m l
    match x.multi with
    | [a, b, c] =>
      if a = b ∧ b = c ∧ l ≤ 8 then
        traceEval (setFld (setLane s m l { x with acc := some a }) (MSH_PEER_NODE m) (be a 0 1 % 32)) m
      else s
    | _ => s) s

/-! ## Timed parts of protection switching (R368, R370, R371) -/

/-- SF_HOLDOFF_EXPIRY (R368): SF or SD of a working lane has persisted for MSH_HOLDOFF. -/
def execSfHoldoffExpiry (m : BitVec 2) (l : BitVec 3) (s : State) : Host.Outcome State Fault Refusal :=
  act (fun s =>
    let m := m.toNat
    let l := l.toNat
    let h := fld s MSH_HOLDOFF * 100000
    let x := laneOf s m l
    let due := ([x.sfSince.bind (fun t => if x.sfOn then none else some (t + h)),
      x.sdSince.bind (fun t => if x.sdOn then none else some (t + h))].filterMap id).min?
    match due with
    | none => s
    | some t =>
      let s := advanceLocal s (t - localNs s)
      let on (a : Option Nat) : Bool := (a.map (fun b => decide (b + h ≤ t))).getD false
      groupEval (apsEval (setLane s m l { x with sfOn := x.sfOn || on x.sfSince, sdOn := x.sdOn || on x.sdSince }) m) m) s

/-- APS_SELECT (R370). -/
def execApsSelect (m : BitVec 2) (s : State) : Host.Outcome State Fault Refusal := act (fun s => apsSelect s m.toNat) s

/-- WTR_EXPIRY (R371): MSH_WTR seconds after it began a wait-to-restore ends and the lane reverts. -/
def execWtrExpiry (m : BitVec 2) (s : State) : Host.Outcome State Fault Refusal :=
  act (fun s =>
    let m := m.toNat
    match (mshPort s m).wtr with
    | none => s
    | some (_, t) =>
      let s := advanceLocal s (t + fld s MSH_WTR * 1000000000 - localNs s)
      apsSelect (apsEval (setMshPort s m { mshPort s m with wtr := none }) m) m) s

/-! ## Commands (R386) -/

/-- MSH_PORT_CFG KIND 0 (R386). -/
def execMshPortCfg (h : CmdHdr) (m : BitVec 2) (en : Bool) (width : BitVec 2) (tree exp wake : Bool) (node : BitVec 5)
    (s : State) : Host.Outcome State Fault Refusal :=
  act (command h OP_MSH_PORT_CFG { fn0 := true, reserved := width = 3, modes := timeModes } (fun s =>
    let c : MshCfg := { en := en, w := 2 * 2 ^ width.toNat, tree := tree, exp := exp, wake := wake, node := node.toNat }
    let e := effTick s
    let s := setMshPort s m.toNat { mshPort s m.toNat with cfg := c }
    (stage s e (.mshPort m.toNat c), ok (effArea e)))) s

/-- The configuration of a port comes into force; a port disabled or of another width starts its lanes anew. -/
def mshPortApply (s : State) (m : Nat) (c : MshCfg) : State :=
  let x := mshPort s m
  if x.live.en = c.en ∧ x.live.w = c.w then traceEval (setMshPort s m { x with live := c }) m
  else
    let s := (List.range 9).foldl (fun s l =>
      setReg { s with msh := { s.msh with lanes := tdel s.msh.lanes (16 * m + l) } } (MSH_SKEW m l).addr
        (regReset (MSH_SKEW m l).addr)) s
    let x := { x with sel := none, wtr := none, keep := none, cmd := (0, 15), peer := (0, 15), force := (0, 15) }
    let s := setMshPort s m { x with live := c, txFrom := none, txc := [], txu := [], rxPay := [], rxLast := none, stream := [] }
    let s := setFld (setFld (setFld s (MSH_LANES_OK m) 0) (MSH_TIM m) 0) (MSH_APS_STATE m) 15
    let s := if c.en then (List.range 9).foldl (fun s l => if l < c.w ∨ l = 8 then linkTrain s 2 (9 * m + l) else s) s else s
    groupEval s m

/-- MSH_PORT_CFG KIND 1 (R378, R386). -/
def execMshRouteSet (h : CmdHdr) (node : BitVec 5) (m : BitVec 2) (s : State) : Host.Outcome State Fault Refusal :=
  act (command h OP_MSH_PORT_CFG { fn0 := true, modes := timeModes } (fun s =>
    if !(mshPort s m.toNat).cfg.en then (s, no MSH_ST_PORT)
    else
      let e := effTick s
      (stage s e (.mshRoute node.toNat m.toNat), ok (effArea e)))) s

/-- The leg and record of a stream that KIND 2 or 3 names, or the status that refuses it (R387). -/
def mshStream (s : State) (f hd : Nat) (good : StreamRec → Bool) : Except (BitVec 16) StreamRec :=
  match legIn s (hd / 4) with
  | none => .error MSH_ST_STREAM
  | some l =>
    if l.item.owner ≠ f then .error MSH_ST_NOT_OWNER
    else if good (l.prof.rec' (hd % 4)) then .ok (l.prof.rec' (hd % 4))
    else .error MSH_ST_STREAM

/-- MSH_PORT_CFG KIND 2 (R378): export a stream, or end its export. -/
def execMshStreamExport (h : CmdHdr) (hd : BitVec 16) (relay : BitVec 20) (dst : BitVec 5) (remove : Bool) (s : State) :
    Host.Outcome State Fault Refusal :=
  act (command h OP_MSH_PORT_CFG { reserved := hd.toNat % 4 = 3, modes := timeModes } (fun s =>
    let r := relay.toNat
    match mshStream s h.fn.toNat hd.toNat (fun r => r.rxEn) with
    | .error st => (s, no st)
    | .ok _ =>
      let e := effTick s
      if remove then
        match tget s.msh.exports r with
        | some x =>
          if x.hd = hd.toNat ∧ ¬ x.gone then
            let s := { s with msh := { s.msh with exports := tset s.msh.exports r { x with gone := true } } }
            (stage s e (.mshExportEnd r), ok (effArea e))
          else (s, no MSH_ST_RELAY_UNKNOWN)
        | none => (s, no MSH_ST_RELAY_UNKNOWN)
      else if thas s.msh.exports r || thas s.msh.imports r then (s, no MSH_ST_RELAY_BUSY)
      else
        let s := { s with msh := { s.msh with exports := tset s.msh.exports r { hd := hd.toNat, dst := dst.toNat } } }
        (stage s e (.mshExport r), ok (effArea e)))) s

/-- MSH_PORT_CFG KIND 3 (R379): import a relay into a stream as NET_STREAM_BIND does for receive, or remove it. -/
def execMshStreamImport (h : CmdHdr) (hd : BitVec 16) (relay : BitVec 20) (valid : BitVec 4) (s0 s1 s2 s3 : BitVec 32)
    (remove : Bool) (s : State) : Host.Outcome State Fault Refusal :=
  act (command h OP_MSH_PORT_CFG { reserved := hd.toNat % 4 = 3, modes := timeModes } (fun s =>
    let r := relay.toNat
    let k := hd.toNat
    match mshStream s h.fn.toNat k (fun r => r.rxEn && r.rxFwd && !r.txEn) with
    | .error st => (s, no st)
    | .ok rec' =>
      let e := effTick s
      let res (order : Nat) := ok (effArea e ++ [(Config.queueId k order).setWidth 32])
      if remove then
        if tget s.msh.imports r = some k ∧ isBound s k then
          (streamRelease s k e, res (((tget s.net.bound k).map (·.order)).getD 0))
        else (s, no MSH_ST_RELAY_UNKNOWN)
      else if thas s.net.bound k then (s, no MSH_ST_STREAM)
      else if thas s.msh.exports r || thas s.msh.imports r then (s, no MSH_ST_RELAY_BUSY)
      else if poolFree s < queueLimit rec' then (s, no MSH_ST_POOL)
      else
        let blk : BindBlk := { port := 4, ssrcs := [s0, s1, s2, s3], valid := valid.toNat }
        let s := { s with
          net := { s.net with nextOrder := s.net.nextOrder + 1 }
          msh := { s.msh with imports := tset s.msh.imports r k } }
        let s := setBound s k { blk := blk, order := s.net.nextOrder, limit := queueLimit rec' }
        (stage s e (.netBind k), res s.net.nextOrder))) s

/-- MSH_TRACE_SET (R366). -/
def execMshTraceSet (h : CmdHdr) (id : BitVec 112) (s : State) : Host.Outcome State Fault Refusal :=
  act (command h OP_MSH_TRACE_SET { fn0 := true, modes := timeModes } (fun s =>
    let e := effTick s
    (stage s e (.mshTrace id.toNat), ok (effArea e)))) s

/-- CASCADE_ID in force: accepted values are compared anew. -/
def mshTraceApply (s : State) (id : Nat) : State :=
  [0, 1, 2, 3].foldl traceEval { s with msh := { s.msh with cascade := id } }

/-- A request of MSH_APS_CMD in force (R369, R371). -/
def mshApsApply (s : State) (m req lane : Nat) : State :=
  let x := mshPort s m
  if req = 0 then apsSettle (setMshPort s m { x with cmd := (0, 15), wtr := none, keep := none }) m none
  else apsEval (setMshPort s m { x with cmd := (req, lane) }) m

/-- MSH_APS_CMD (R369, R386). -/
def execMshApsCmd (h : CmdHdr) (m : BitVec 2) (req lane : BitVec 4) (s : State) : Host.Outcome State Fault Refusal :=
  act (command h OP_MSH_APS_CMD
    { fn0 := true, modes := timeModes
      reserved := !([0x0, 0x7, 0xd, 0xf].contains req.toNat)
        || (if req = 0 ∨ req = 0xf then decide (lane ≠ 15) else decide (7 < lane.toNat)) } (fun s =>
    let x := mshPort s m.toNat
    if !x.cfg.en then (s, no MSH_ST_PORT)
    else if req ≠ 0 ∧ apsPrio x.force.1 < apsPrio req.toNat then (s, no MSH_ST_APS_DENIED)
    else
      let e := effTick s
      let f := (mshPort (mshApsApply s m.toNat req.toNat lane.toNat) m.toNat).force
      (stage s e (.mshAps m.toNat req.toNat lane.toNat), ok (effArea e ++ [BitVec.ofNat 32 (f.1 * 16 + f.2)])))) s

/-- The result area of MSH_PEER_STATUS (R386). -/
def peerWords (s : State) (m : Nat) : List Word :=
  let w := fld s (MSH_GROUP_UP m) * 2 ^ 31 + fld s (MSH_LANES_OK m) * 2 ^ 22 + fld s (MSH_PEER_NODE m) * 2 ^ 16
    + fld s (MSH_APS_STATE m) * 2 ^ 8 + fld s (MSH_TIM m) * 4
  let lock := if fld s TIK_SRC = 0 then 3 else fld s (MSH_TICK_LOCK m)
  [BitVec.ofNat 32 w, i32 ((reg s MSH_TICK_DELAY.addr).toInt.tdiv 8), reg s MSH_TICK_PHASE.addr, BitVec.ofNat 32 lock]

/-- MSH_PEER_STATUS (R386). -/
def execMshPeerStatus (h : CmdHdr) (m : BitVec 2) (s : State) : Host.Outcome State Fault Refusal :=
  act (command h OP_MSH_PEER_STATUS { modes := timeModes } (fun s =>
    if !(mshPort s m.toNat).live.en then (s, no MSH_ST_PORT) else (s, ok (peerWords s m.toNat)))) s

/-- MSH_WAKE_SEND (R385): the wake pattern starts on lane 0 of each port named. -/
def execMshWakeSend (h : CmdHdr) (mask : BitVec 4) (s : State) : Host.Outcome State Fault Refusal :=
  act (command h OP_MSH_WAKE_SEND { fn0 := true, modes := timeModes } (fun s =>
    let ms := [0, 1, 2, 3].filter (fun m => mask.getLsbD m)
    if ms.any (fun m => !(mshPort s m).live.en) then (s, no MSH_ST_PORT)
    else if ms.any (mshUp s) then (s, no MSH_ST_LINK_UP)
    else
      (ms.foldl (fun s m => emitOut (setMshPort s m { mshPort s m with waking := some (localNs s) }) (.mshWake m true)) s, ok))) s

/-- WAKE_PATTERN_SEND_END (R385): 20 ms after it started, on a port whose group has not entered service. -/
def execWakePatternSendEnd (m : BitVec 2) (s : State) : Host.Outcome State Fault Refusal :=
  act (fun s =>
    let m := m.toNat
    match (mshPort s m).waking with
    | none => s
    | some t =>
      let s := advanceLocal s (t + 20000000 - localNs s)
      emitOut (setMshPort s m { mshPort s m with waking := none }) (.mshWake m false)) s

/-! ## Units received (R372 to R379) -/

/-- A unit of VC `v` that arrives whole, with a good CRC, while its buffer has room goes on to `k`; else it is discarded. One that the
group leaving service cuts short is counted too (R372, R374). -/
def unitRx (s : State) (m v : Nat) (body : List Byte) (cut good : Bool) (k : State → State) : State :=
  let n := unitBlocks body
  let x := mshPort s m
  if !(mshUp s m || (cut && x.live.en)) then s
  else if vcSize v < x.held.getD v 0 + n then creditErr (freeBlocks s m v n) m v true
  else if cut || !unitCrcOk body || !good then unitErr s m v n
  else k (freeBlocks s m v n)

/-- The four buses of 40 samples of a partial's body. -/
def partialSamples (body : List Byte) : List (List Int) :=
  (List.range 4).map (fun b => (List.range 40).map (fun i => (BitVec.ofNat 32 (be body (16 + 160 * b + 4 * i) 4)).toInt))

/-- A partial for a conference the device carries: kept for its tick's T_b, or late (R377). -/
def partialUse (s : State) (c origin n : Nat) (last : Bool) (bs : List (List Int)) : State :=
  match tget s.aud.confs c with
  | none => s
  | some x =>
    if x.hops = 0 then s
    else if n + x.hops < curTick s ∨ (n + x.hops = curTick s ∧ ¬ s.easel.gather) then
      setBit (bump s MSH_PART_LATE_CNT 1) MSH_ST_PART
    else
      let p := (tget x.peers origin).getD {}
      let p := { p with parts := p.parts ++ [(n, bs)], lastTick := if last then some n else p.lastTick }
      setAudConf s c { x with peers := tset x.peers origin p }

/-- A partial whose copy was not seen before (R377): relayed in EMIT of the tick it arrives in, and used. -/
def partialRx (s : State) (m : Nat) (body : List Byte) : State :=
  let c := be body 0 2 % 4096
  let origin := be body 3 1 % 32
  let n := be body 4 8
  let t := curTick s
  if s.msh.seen.contains (origin, c, n) then s
  else
    let s := { s with msh := { s.msh with seen := s.msh.seen.filter (fun q => t < q.2.2 + 64) ++ [(origin, c, n)] } }
    let hops := match tget s.aud.confs c with
      | some x => x.hops
      | none => (Config.relayHops c).toNat
    let s := if t < n + hops then
        if s.easel.emit = some t then ((treePorts s).filter (· ≠ m)).foldl (fun s m => partialOut s t m body) s
        else { s with msh := { s.msh with relay := s.msh.relay ++ [(t, m, body)] } }
      else s
    partialUse s c origin n ((be body 2 1).testBit 7) (partialSamples body)

/-- PARTIAL_UNIT_RECEIVE (R377); `cut`: the group left service before the unit was whole. -/
def execPartialUnitReceive (m : BitVec 2) (body : List Byte) (cut : Bool) (s : State) : Host.Outcome State Fault Refusal :=
  act (fun s => unitRx s m.toNat 0 body cut (body.length = 660) (fun s => partialRx s m.toNat body)) s

/-- A media unit for this device: classified by RELAY_ID and SSRC, then handled under R68 (R379). Port number 4 stands for
Meash in the port counters, of which none is read. -/
def mediaImport (s : State) (body : List Byte) : State :=
  let rtp := sl body 13 (be body 11 2)
  let relay := be body 0 1 % 16 * 65536 + be body 1 2
  let ssrc : Word := BitVec.ofNat 32 (be rtp 8 4)
  let hit := (tget s.msh.imports relay).bind (fun hd => (tget s.net.bound hd).bind (fun b =>
    if b.live && decide (12 ≤ rtp.length) then ((validIdx b.blk).find? (fun i => b.blk.ssrcs.getD i 0 = ssrc)).map (fun i => (hd, i))
    else none))
  match hit with
  | none => mediaDrop s
  | some (hd, i) =>
    match police s hd rtp.length with
    | none => policed (setPolice s hd (policeRefill s hd)) hd 4 0
    | some s =>
      let n := rtpHdrLen rtp
      jbPush (exportPkt s hd (be body 5 6) rtp) hd 4 0 ⟨i, be body 5 6, rtp.length, rtp.take n, rtp.drop n, ns s⟩

/-- MEDIA_UNIT_RECEIVE (R378, R379). -/
def execMediaUnitReceive (m : BitVec 2) (body : List Byte) (cut : Bool) (s : State) : Host.Outcome State Fault Refusal :=
  act (fun s => unitRx s m.toNat 2 body cut (13 + be body 11 2 + 4 ≤ body.length) (fun s =>
    let dst := be body 3 1 % 32
    if dst = fld s MESH_NODE then mediaImport s body else mediaRoute s dst body)) s

/-- CONTROL_UNIT_RECEIVE (R372): a control unit, whose content is not published, or a unit of a TYPE not in the table. -/
def execControlUnitReceive (m : BitVec 2) (type : BitVec 4) (vc : BitVec 2) (body : List Byte) (cut : Bool) (s : State) :
    Host.Outcome State Fault Refusal :=
  act (fun s => if type.toNat < 5 then s
    else unitRx s m.toNat (if type = 5 then 1 else vc.toNat) body cut (type = 5) id) s

/-- CREDIT_UNIT_RECEIVE (R374): the limits are taken, or all refused; units that waited for credit go. -/
def execCreditUnitReceive (m : BitVec 2) (body : List Byte) (s : State) : Host.Outcome State Fault Refusal :=
  act (fun s =>
    let m := m.toNat
    let x := mshPort s m
    let lim := [be body 0 2, be body 2 2, be body 4 2]
    let isOver (v : Nat) : Bool := decide (vcSize v < (lim.getD v 0 + 65536 - x.sent.getD v 0) % 65536)
    if !mshUp s m then s
    else if !unitCrcOk body || decide (body.length ≠ 10) then setBit (bump s MSH_UNIT_ERR_CNT 1) MSH_ST_UNIT_ERR
    else
      match [0, 1, 2].find? isOver with
      | some v => creditErr s m v false
      | none => pumpPort (setMshPort s m { x with lim := lim }) m) s

/-- CREDIT_UNIT_SEND (R373). -/
def execCreditUnitSend (m : BitVec 2) (s : State) : Host.Outcome State Fault Refusal :=
  act (fun s =>
    let t := freeHeld s m.toNat
    let x := mshPort t m.toNat
    let l (v : Nat) : List Byte := natBE 2 ((x.freed.getD v 0 + vcSize v) % 65536)
    if !mshUp s m.toNat then s else unitOut t m.toNat 2 0 (withCrc (l 0 ++ l 1 ++ l 2))) s

/-- MEDIA_UNIT_TIMEOUT (R378): the oldest unit of a port's media queue has waited longer than 833,333 ns. -/
def execMediaUnitTimeout (m : BitVec 2) (s : State) : Host.Outcome State Fault Refusal :=
  act (fun s =>
    let x := mshPort s m.toNat
    match x.qm with
    | [] => s
    | (t, _) :: r =>
      let s := advanceLocal s (t + 833334 - localNs s)
      mediaDrop (setMshPort s m.toNat { x with qm := r })) s

/-! ## Tick markers (R380 to R383) -/

/-- The device is the root or tick-locked. -/
def tickGood (s : State) : Bool :=
  fld s TIK_SRC = 0 || fld s (MSH_TICK_LOCK (fld s MSH_TICK_PORT)) = 2

/-- The tick marker of tick `n` on port `m`, sent with port offset `o` (R381): the tick, the offset, the echo and the state byte. -/
def markerBody (s : State) (m n : Nat) (o : Int) : List Byte :=
  let echo : Word := (((mshPort s m).rx.find? (fun q => q.1 + 1 = n)).map (fun q => BitVec.ofInt 32 q.2)).getD 0x80000000
  withCrc (natBE 8 n ++ natBE 4 (BitVec.ofInt 32 o).toNat ++ natBE 4 echo.toNat
    ++ natBE 1 (fld s MESH_NODE + if tickGood s then 128 else 0))

/-- TX_OFS of a marker whose frame is the first to leave from now on (R381), in 1/8 ns: frames follow one another at 4,227,072 / 32,125
cycles from the first (R361); on a port that sends no frame yet, `ofs` after 10,000 ns. -/
def txOfs (s : State) (m : Nat) (ofs : Nat) : Int :=
  match (mshPort s m).txFrom with
  | none => 80000 + ofs
  | some c =>
    let late := 32125 * (s.clk.cyc - c)
    let wait := cdiv late 4227072 * 4227072 - late
    (s.clk.t / 2 ^ 45 : Nat) - (8 * (s.easel.start : Int) + s.easel.startFrac) + (wait * incOf (rate s) / 32125 / 2 ^ 45 : Nat)

/-- The marker of tick `n` goes out on port `m`, once. -/
def markerSend (ofs : List (BitVec 11)) (n : Nat) (s : State) (m : Nat) : State :=
  let x := mshPort s m
  if !mshUp s m || x.tx.any (fun q => q.1 = n) then s
  else
    let o := txOfs s m ((ofs.getD m 0).toNat % 1316)
    unitOut (setMshPort s m { x with tx := (n, o) :: x.tx.take 1 }) m 1 0 (markerBody s m n o)

/-- TICK_MARKER_SEND (R381): the marker of the tick in progress on every port in service; `ofs` is, by port, how long after
10,000 ns the frame's marker leaves, in 1/8 ns below one frame, where no frame sent so far fixes it. -/
def execTickMarkerSend (ofs : List (BitVec 11)) (s : State) : Host.Outcome State Fault Refusal :=
  act (fun s =>
    let n := s.easel.now
    if !s.easel.issued then s
    else
      [0, 1, 2, 3].foldl (markerSend ofs n) (advanceTo s (s.easel.start + 10000))) s

/-- The start of the device's own tick `n` in 1/8 ns (R381): what comes next starts where the Easel has set it, every other tick on the
time line of the tick in progress. -/
def ownStart8 (s : State) (n : Nat) : Int :=
  if n = s.easel.next then 8 * (s.easel.due : Int) + s.easel.dueFrac
  else 8 * (s.easel.start : Int) + s.easel.startFrac - 8 * tickStartNs s.easel.now + 8 * tickStartNs n

/-- The device's tick number agrees with a marker's. -/
def sameTick (s : State) (n : Nat) : Bool := decide (n = s.easel.now) || decide (n + 1 = s.easel.now)

/-- A follower takes a marker of tick `n` with `φ`, where it has one, and `t8`, the peer's tick start as far as it can tell
(R382, R383): while not locked it adopts a number or phase that differs, else it trims its next tick start. To a locked follower a marker
of another number is no valid one, so that lock is lost and the number taken after it (log entry 58). -/
def followMarker (s : State) (n : Nat) (phi : Option Int) (t8 : Int) : State :=
  let m := fld s MSH_TICK_PORT
  let same := sameTick s n
  let locked := decide (fld s (MSH_TICK_LOCK m) = 2)
  if locked && !same then s
  else
    let s := if locked then s else setFld s (MSH_TICK_LOCK m) 1
    let s := { s with msh := { s.msh with lastOk := some (curTick s) } }
    match phi with
    | none => if same then s else { s with msh := { s.msh with okRun := 0, adopt := some (n, t8) } }
    | some f =>
      let s := { s with msh := { s.msh with
        okRun := if same && decide (f.natAbs ≤ 160) then s.msh.okRun + 1 else 0
        badRun := if 800 < f.natAbs then s.msh.badRun + 1 else 0 } }
      if !locked && (!same || decide (16 < f.natAbs)) then { s with msh := { s.msh with adopt := some (n, t8) } }
      else
        let d : Int := 8 * (s.easel.due : Int) + s.easel.dueFrac - max (-16) (min 16 f)
        { s with easel := { s.easel with follow := true, due := (d / 8).toNat, dueFrac := (d % 8).toNat } }

/-- φ and d of R382 in 1/8 ns, for a marker of tick `n` with a valid RX_ECHO. -/
def markerPhase (s : State) (m n : Nat) (rx txPeer : Int) (echo : Word) : Option (Int × Int) :=
  if echo = 0x80000000 then none
  else
    ((mshPort s m).tx.find? (fun q => q.1 + 1 = n)).map (fun o =>
      ((echo.toInt - o.2 - rx + txPeer).tdiv 2 - (BitVec.ofNat 16 (fld s (MSH_ASYM m))).toInt, (rx - txPeer + echo.toInt - o.2).tdiv 2))

/-- TICK_MARKER_RECEIVE (R382): a marker arrives on port `m` now. -/
def execTickMarkerReceive (m : BitVec 2) (body : List Byte) (s : State) : Host.Outcome State Fault Refusal :=
  act (fun s =>
    let m := m.toNat
    if !mshUp s m || !s.easel.issued then s
    else if !unitCrcOk body || decide (body.length ≠ 21) then setBit (bump s MSH_UNIT_ERR_CNT 1) MSH_ST_UNIT_ERR
    else
      let n := be body 0 8
      let txPeer := (BitVec.ofNat 32 (be body 8 4)).toInt
      let echo : Word := BitVec.ofNat 32 (be body 12 4)
      let arr : Int := s.clk.t / 2 ^ 45
      let rx := arr - ownStart8 s n
      let x := mshPort s m
      let keep := x.rx.filter (fun q => q.1 ≠ n)
      let fits := decide (-(2 ^ 31) < rx) && decide (rx < 2 ^ 31)
      let s := setMshPort s m { x with rx := (if fits then (n, rx) :: keep else keep).take 3, skip := x.skip - 1 }
      let good := (be body 16 1).testBit 7
      if fld s TIK_SRC ≠ 1 ∨ m ≠ fld s MSH_TICK_PORT then s
      else
        match markerPhase s m n rx txPeer echo with
        | some (phi, d) =>
          let s := setReg s MSH_TICK_DELAY.addr (i32 d)
          if 0 < x.skip then
            if good && sameTick s n then { s with msh := { s.msh with lastOk := some (curTick s) } } else s
          else
            let s := setReg s MSH_TICK_PHASE.addr (i32 phi)
            if good then followMarker s n (some phi) (ownStart8 s n - phi) else s
        | none => if good then followMarker s n none (arr - txPeer) else s) s

/-- TICK_LOCK_ACQUIRE (R383, R24): MSH_TLOCK_N good markers. -/
def execTickLockAcquire (s : State) : Host.Outcome State Fault Refusal :=
  act (fun s =>
    let m := fld s MSH_TICK_PORT
    if fld s TIK_SRC = 1 ∧ fld s (MSH_TICK_LOCK m) = 1 ∧ fld s MSH_TLOCK_N ≤ s.msh.okRun then
      let lost := s.msh.lost
      let s := setFld { s with msh := { s.msh with lost := false, badRun := 0 } } (MSH_TICK_LOCK m) 2
      if lost then raise s 0 EV_TICK_SRC 0 1 0 0 0 else s
    else s) s

/-- TICK_LOCK_LOST (R24, R383): three ticks without a valid marker, or three bad phases; the Easel goes on from the last
number and phase on the hardware clock. -/
def execTickLockLost (s : State) : Host.Outcome State Fault Refusal :=
  act (fun s =>
    let m := fld s MSH_TICK_PORT
    let silent := (s.msh.lastOk.map (fun t => decide (t + 3 < curTick s))).getD true
    if fld s TIK_SRC = 1 ∧ fld s (MSH_TICK_LOCK m) = 2 ∧ (silent ∨ 3 ≤ s.msh.badRun) then
      let s := { s with msh := { s.msh with lost := true, okRun := 0, badRun := 0, adopt := none } }
      raise (setBit (setFld s (MSH_TICK_LOCK m) 0) TIK_ST_SRC_LOST) 0 EV_TICK_SRC 0 0 0 0 0
    else s) s

end Sys2Proof.Machine
end

