-- ==== Sys2Proof/Machine/Memory.lean ====
section
/-! DEFINITION. The memory commands and the events of the HBM controller and the error code (R390 to R422), with the retrain
ladder (R400, R401, R433). Log entries: 61, 62, 63, 64, 109. -/

namespace Sys2Proof.Machine

/-- The modes in which memory commands are permitted (R418). -/
def memModes : List Nat := [3, 4, 5, 6]

/-- Target `t`'s domains are powered (R407). -/
def targetOn (s : State) (t : Nat) : Bool :=
  match t with
  | 0 => domOn s DOM_BRS
  | 10 => domOn s DOM_BRS
  | 2 => domOn s DOM_VID && domOn s DOM_CNV
  | 3 => domOn s DOM_CNV
  | 5 => domOn s 2
  | _ => domOn s DOM_MEM

/-- Repair macros of an SRAM region, and rows of 128 bytes in each (R407, R416). -/
def macrosOf (t : Nat) : Nat :=
  match t with
  | 0 => 1024 | 1 => 384 | 2 => 160 | 3 => 64 | 4 => 128 | 5 => 32 | 10 => 16 | _ => 0

def rowsOf (t : Nat) : Nat := if t = 0 then 512 else 2048

/-- Rows of 128 bytes to word addresses of a region. -/
def rowAddr (t m r : Nat) : Nat := (m * rowsOf t + r) * if t = 0 ∨ t = 10 then 32 else 16

/-! ## Commands (R418) -/

/-- MEM_SWEEP (R417): the target's allocated words are read in the background. -/
def execMemSweep (h : CmdHdr) (repair : Bool) (t : BitVec 4) (s : State) : Host.Outcome State Fault Refusal :=
  act (commandLong h OP_MEM_SWEEP { fn0 := true, modes := memModes } (fun s =>
    if 10 < t.toNat then (s, some (no MEM_ST_TARGET))
    else if s.mem.sweep.isSome then (s, some (no MEM_ST_BUSY))
    else if !targetOn s t.toNat then (s, some (no MEM_ST_DOMAIN))
    else ({ s with mem := { s.mem with sweep := some ⟨h, t.toNat, repair⟩ } }, none))) s

/-- A word that a sweep found: read, and with REPAIR given an empty merge, a second access (R410, R417). -/
def sweepWord (repair : Bool) (s : State) (e : EccHit) : State :=
  let s := eccHit s { e with acc := 0 }
  if repair then eccHit s { e with acc := 1 } else s

/-- SWEEP_COMPLETE (R417), unless firmware has stopped (R514): the target has been read: `read` and `skipped` words, those not clean in
`hits`. -/
def execSweepComplete (read skipped : BitVec 40) (hits : List EccHit) (s : State) : Host.Outcome State Fault Refusal :=
  act (fun s =>
    match if s.pwr.fwStop then none else s.mem.sweep with
    | none => s
    | some w =>
      let es := hits.filter (fun e => e.ok && e.t.toNat = w.target)
      let ce := (es.filter (fun e => (foundAs s e).1 = 0)).length
      let s := es.foldl (sweepWord w.repair) s
      complete { s with mem := { s.mem with sweep := none } } w.h OP_MEM_SWEEP ST_OK
        [sat32 read.toNat, sat32 ce, sat32 (es.length - ce), sat32 (skipped.toNat / 1000)]) s

/-- MEM_SOFT_REPAIR (R416, R418). -/
def execMemSoftRepair (h : CmdHdr) (t : BitVec 4) (m row : BitVec 11) (s : State) : Host.Outcome State Fault Refusal :=
  act (command h OP_MEM_SOFT_REPAIR { fn0 := true, modes := memModes } (fun s =>
    let e := (t.toNat, m.toNat, row.toNat)
    if macrosOf t.toNat ≤ m.toNat ∨ rowsOf t.toNat ≤ row.toNat then (s, no MEM_ST_TARGET)
    else if !targetOn s t.toNat then (s, no MEM_ST_DOMAIN)
    else if 256 ≤ s.mem.repairs.length then (s, no MEM_ST_REPAIR_FULL)
    else if s.mem.repairs.contains e then (s, no MEM_ST_REPAIR_DUP)
    else
      ({ s with mem := { s.mem with repairs := s.mem.repairs ++ [e] } }, ok [BitVec.ofNat 32 (s.mem.repairs.length + 1)]))) s

/-- MEM_SOFT_REPAIR with CLEAR_ALL (R418): the other fields must be 0. -/
def execSoftRepairClearAll (h : CmdHdr) (t : BitVec 4) (m row : BitVec 11) (s : State) : Host.Outcome State Fault Refusal :=
  act (command h OP_MEM_SOFT_REPAIR { fn0 := true, reserved := t ≠ 0 || m ≠ 0 || row ≠ 0, modes := memModes } (fun s =>
    ({ s with mem := { s.mem with repairs := [] } }, ok [0]))) s

def stackOf (s : State) (st : Nat) : Stack := (tget s.mem.hbmStacks st).getD {}

def setStack (s : State) (st : Nat) (x : Stack) : State :=
  { s with mem := { s.mem with hbmStacks := tset s.mem.hbmStacks st x } }

/-- MiB that a stack's migration has moved. -/
def Stack.mib (x : Stack) : Nat := (x.mig.map (fun m => m.chunk / 1024)).getD x.moved

/-- MEM_SPARE_STATUS (R418). -/
def execMemSpareStatus (h : CmdHdr) (s : State) : Host.Outcome State Fault Refusal :=
  act (command h OP_MEM_SPARE_STATUS { fn0 := true, modes := memModes } (fun s =>
    let byte (st : Nat) : Nat := fld s (MEM_SPARE_STATE st) * 64 + (stackOf s st).failed.getD 32
    let mib (st : Nat) : Nat := (stackOf s st).mib
    (s, ok [BitVec.ofNat 32 (byte 0 + byte 1 * 2 ^ 8 + byte 2 * 2 ^ 16 + byte 3 * 2 ^ 24),
      BitVec.ofNat 32 (mib 1 * 65536 + mib 0), BitVec.ofNat 32 (mib 3 * 65536 + mib 2), reg s MEM_POISON_CNT.addr]))) s

/-- A record's words (R414). -/
def EccLog.words (e : EccLog) : List Word :=
  [BitVec.ofNat 32 (e.kind * 2 ^ 28 + e.target * 2 ^ 24 + e.synd * 2 ^ 16), lo32 e.addr, BitVec.ofNat 32 (e.addr / 2 ^ 32 % 4), lo32 e.tick]

/-- MEM_ERR_LOG (R414, R418). -/
def execMemErrLog (h : CmdHdr) (clr : Bool) (addr : BitVec 64) (s : State) : Host.Outcome State Fault Refusal :=
  act (command h OP_MEM_ERR_LOG { fn0 := true, modes := memModes, misaligned := addr.toNat % 64 ≠ 0 } (fun s =>
    let n := s.mem.log.length
    let s := hostWrites s addr.toNat (s.mem.log.map EccLog.words).flatten
    (if clr then { s with mem := { s.mem with log := [] } } else s, ok [BitVec.ofNat 32 n]))) s

/-! ## Refresh (R398) -/

/-- A stack's latest temperature reading in °C, signed (R398, R489). -/
def memTemp (s : State) (k : Nat) : Int := (BitVec.ofNat 8 (fld s (MEM_TEMP k))).toInt

/-- HBM_REFRESH (R398): a pseudo-channel of stack `st` is refreshed, as every one of them is. An interval change that the latest
reading calls for takes effect now. -/
def execHbmRefresh (st : BitVec 2) (_p : BitVec 5) (s : State) : Host.Outcome State Fault Refusal :=
  act (fun s =>
    let k := st.toNat
    let hot : Bool := decide ((fld s MEM_HOT_C : Int) < memTemp s k)
    if !domOn s DOM_MEM || (stackOf s k).tempAt.isNone || bit s (MEM_REF_HALF k) = hot then s
    else
      let s := setFld s (MEM_REF_HALF k) (if hot then 1 else 0)
      let s := if hot then setBit s MEM_ST_HOT else s
      raise s 0 EV_MEM_REFRESH (BitVec.ofNat 16 k) (BitVec.ofNat 32 (fld s (MEM_TEMP k) * 256 + if hot then 1 else 0)) 0 0 0) s

def pcOf (s : State) (k : Nat) : Pc := (tget s.mem.pcs k).getD {}

def setPc (s : State) (k : Nat) (x : Pc) : State := { s with mem := { s.mem with pcs := tset s.mem.pcs k x } }

/-- A pseudo-channel that is retrained (R401, R433): a working one or the spare, not one that is migrated from. -/
def retrains (s : State) (st p : Nat) : Bool :=
  ((stackOf s st).slots.contains p || fld s (MEM_SPARE_PC st) = p) && (stackOf s st).mig.all (fun m => m.failed ≠ p)

/-- A retrain starts, or the trigger joins the one that runs (R433). -/
def retrainStart (s : State) (st p : Nat) : State :=
  let k := 32 * st + p
  if !retrains s st p || (pcOf s k).step ≠ 0 then s else setPc s k { pcOf s k with step := 1, pieces := 0 }

/-- HBM_TEMP_READ (R398, R401): a stack's own temperature, once every 12 ticks. -/
def execHbmTempRead (st : BitVec 2) (temp : BitVec 8) (s : State) : Host.Outcome State Fault Refusal :=
  act (fun s =>
    let k := st.toNat
    let x := stackOf s k
    if !domOn s DOM_MEM || !s.easel.running || (x.tempAt.map (fun n => decide (curTick s < n + 12))).getD false then s
    else
      let s := setStack (setFld s (MEM_TEMP k) temp.toNat) k { x with tempAt := some (curTick s) }
      (List.range 32).foldl (fun s p =>
        match (pcOf s (32 * k + p)).temp with
        | none => setPc s (32 * k + p) { pcOf s (32 * k + p) with temp := some temp.toInt }
        | some t =>
          if fld s MEM_RETRAIN_DT ≤ (t - temp.toInt).natAbs then retrainStart s k p else s) s) s

/-- RETRAIN_INTERVAL (R401): MEM_RETRAIN_TICKS since the pseudo-channel's last retrain. -/
def execRetrainInterval (st : BitVec 2) (p : BitVec 5) (s : State) : Host.Outcome State Fault Refusal :=
  act (fun s =>
    let k := 32 * st.toNat + p.toNat
    if curTick s < (pcOf s k).at' + fld s MEM_RETRAIN_TICKS then s else retrainStart s st.toNat p.toNat) s

/-! ## The retrain ladder (R433) -/

/-- The least of a setting's eye margins, byte lane by byte lane and side by side (R399). -/
def leastMargin (ms : List Nat) : Nat := ms.foldl min 255

/-- A retrain of pseudo-channel `k` ends: with an outcome of R433, EV_CAL_RETRAIN and the matching bit. -/
def retrainEnd (s : State) (k : Nat) (outcome : Option Nat) : State :=
  let x := pcOf s k
  let s := setPc s k { x with step := 0, pieces := 0, at' := curTick s, fail := x.fail || outcome = some 2
                              temp := (x.temp.map (fun _ => memTemp s (k / 32))) }
  match outcome with
  | none => s
  | some o =>
    let s := if o = 0 then setBit (bump s CAL_RETRAIN_HELD_CNT 1) CAL_ST_RETRAIN_HELD
      else if o = 1 then setBit (bump s CAL_RETRAIN_WIDE_CNT 1) CAL_ST_RETRAIN_WIDE
      else setBit s CAL_ST_RETRAIN_FAIL
    raise s 0 EV_CAL_RETRAIN (BitVec.ofNat 16 k) (BitVec.ofNat 32 o) (BitVec.ofNat 32 (leastMargin x.margins)) 0 0

/-- A setting a piece may test: every item within R432's limits, in step 1 also within 8 steps of the last good one. -/
def settingIn (s : State) (k step : Nat) (v : List Int) : Bool :=
  let r := gessoOf s 3 k
  let last := liveOf s 3 k
  v.length = calItems 3 && (List.range v.length).all (fun i =>
    let x := v.getD i 0
    let g := r.items.getD i 0
    decide (g + r.lo ≤ x) && decide (x ≤ g + r.hi) && (step ≠ 1 || decide ((x - last.getD i 0).natAbs ≤ 8)))

/-- RETRAIN_PIECE (R400, R430, R433): one piece, in the calibration slot that each segment of a tick gives the pseudo-channel. The
surroundings bring the candidate it tested, with the margins its pattern test found by byte lane and side, and in step 1 those of the
last good setting. -/
def execRetrainPiece (st : BitVec 2) (p : BitVec 5) (cand : List (BitVec 16)) (margin good : List (BitVec 8)) (s : State) :
    Host.Outcome State Fault Refusal :=
  act (fun s =>
    let k := 32 * st.toNat + p.toNat
    let x := pcOf s k
    let slot := (curTick s, segNow s)
    if x.step = 0 || x.pieceAt = some slot || !memModes.contains (mode s) || !s.easel.running then s
    else
      let v := cand.map (·.toInt)
      let mc := margin.map (·.toNat)
      let mg := if x.step = 1 then good.map (·.toNat) else x.margins
      let min' := fld s MEM_MARGIN_MIN
      let s := setPc s k { x with pieces := x.pieces + 1, pieceAt := some slot, margins := mg }
      if settingIn s k x.step v && mc.length = 8 && decide (min' ≤ leastMargin mc) then
        let s := setLive s 3 k v
        let s := retrainEnd s k (if x.step = 1 then none else some 1)
        setPc s k { pcOf s k with margins := mc }
      else if x.step = 1 ∧ 32 ≤ x.pieces + 1 then
        if min' ≤ leastMargin mg then retrainEnd s k (some 0)
        else setPc s k { pcOf s k with step := 3, pieces := 0 }
      else if x.step = 3 ∧ 8 ≤ x.pieces + 1 then retrainEnd s k (some 2)
      else s) s

/-- The margins of pseudo-channel `k` that training finds, by byte lane and side: free values, none below `least` (R399, R433). -/
def freeMargins (s : State) (k least : Nat) : List Nat :=
  (List.range 8).map (fun j => max least (Config.margin k j s.clk.cyc).toNat)

/-- A setting of pseudo-channel `k` that training finds: free values within R432's limits, `near` ones within 8 steps of the last good
setting as step 1 tests them (R433). -/
def freeSetting (s : State) (k : Nat) (near : Bool) : List Int :=
  let r := gessoOf s 3 k
  (List.range (calItems 3)).map (fun i =>
    let g := r.items.getD i 0
    let l := (liveOf s 3 k).getD i 0
    let lo := if near then max (g + r.lo) (l - 8) else g + r.lo
    let hi := if near then min (g + r.hi) (l + 8) else g + r.hi
    max lo (min hi (Config.trained (calKey 3 k) i s.clk.cyc).toInt))

/-- The retrain of pseudo-channel `k` on a wake, in training mode (R433, R450): the ladder ends in one of its four ways, which the spec
does not fix (`Config.wakeTrained`). -/
def wakeRetrain (s : State) (k : Nat) : State :=
  let x := pcOf s k
  let least := fld s MEM_MARGIN_MIN
  let good (s : State) : State := setPc s k { pcOf s k with margins := freeMargins s k least }
  if (stackOf s (k / 32)).mig.any (fun m => m.failed = k % 32) then setPc s k { x with step := 0, pieces := 0 }
  else
    match (Config.wakeTrained k s.clk.cyc).toNat with
    | 0 => good (retrainEnd (setLive s 3 k (freeSetting s k true)) k none)
    | 1 => retrainEnd (good s) k (some 0)
    | 2 => good (retrainEnd (setPc (setLive s 3 k (freeSetting s k false)) k { x with margins := freeMargins s k 0 }) k (some 1))
    | _ => retrainEnd (setPc s k { x with margins := freeMargins s k 0 }) k (some 2)

/-! ## Spare takeover (R402 to R406) -/

/-- Pseudo-channel `p` of stack `st` has failed in a way of R402. -/
def pcFailed (s : State) (st p : Nat) : Bool :=
  let x := pcOf s (32 * st + p)
  x.fail || decide (fld s MEM_UE_FAIL < (x.ues.filter (fun m => decide (curTick s < m + 1200))).length)

def spareEvt (s : State) (st state p poisoned : Nat) : State :=
  raise s 0 EV_MEM_SPARE (BitVec.ofNat 16 st) (BitVec.ofNat 32 (p * 256 + state)) (sat32 poisoned) 0 0

/-- PC_FAIL (R402, R405, R515): a failed working pseudo-channel gives its slot to a free spare, or serves on without one. A
spare that fails is no free spare. -/
def execPcFail (st : BitVec 2) (p : BitVec 5) (s : State) : Host.Outcome State Fault Refusal :=
  act (fun s =>
    let i := st.toNat
    let q := p.toNat
    let x := stackOf s i
    if !pcFailed s i q then s
    else
      let s := setPc s (32 * i + q) { pcOf s (32 * i + q) with fail := false, ues := [], step := 0, pieces := 0 }
      if x.slots.contains q then
        let sp := fld s (MEM_SPARE_PC i)
        let s := setFld (setBit s MEM_ST_SPARE) (MEM_OUT_PC i) q
        if fld s (MEM_SPARE_STATE i) = 0 ∧ sp < 32 then
          let slot := x.slots.idxOf q
          let s := setStack s i { x with slots := x.slots.set slot sp, failed := some q, mig := some ⟨slot, q, 0, 0⟩, moved := 0 }
          degrade (spareEvt (setFld s (MEM_SPARE_STATE i) 1) i 0 q 0) false
        else
          let s := setStack s i { x with failed := some q }
          degrade (spareEvt (setFld s (MEM_SPARE_STATE i) 3) i 2 q 0) true
      else if fld s (MEM_SPARE_PC i) = q ∧ fld s (MEM_SPARE_STATE i) = 0 then setFld s (MEM_SPARE_STATE i) 3
      else s) s

/-- 1 KiB chunks of a slot (R390, R403). -/
def slotChunks : Nat := 786432

/-- A word of a migrated chunk that is not clean (R403): a corrected one is written clean; any other is written poisoned, counted and
logged. -/
def migrateHit (s : State) (st : Nat) (e : EccHit) : State :=
  let (k, sy) := foundAs s e
  if k = 0 then eccHit s e
  else
    let t := e.t.toNat
    let a := e.addr.toNat
    let s := setBit (bump (countUe s t k) MEM_POISON_CNT 1) MEM_ST_POISON
    let s := ueEvt (eccLog (poisonSet s t a true) 3 t sy a) t 3
    let x := stackOf s st
    setStack s st { x with mig := x.mig.map (fun m => { m with poisoned := m.poisoned + 1 }) }

/-- A word of the chunk that migration `m` of stack `i` copies next (R391, R403). -/
def inChunk (i : Nat) (m : Migration) (t a : Nat) : Bool :=
  let q := hbmSlot (a * 8)
  t = 6 + i && q.1 = i && q.2.1 = m.slot && q.2.2 / 1024 = m.chunk

/-- The words of the chunk that are not clean: those a read found, and those that hold poison. -/
def chunkHits (s : State) (i : Nat) (m : Migration) (hits : List EccHit) : List EccHit :=
  let es := hits.filter (fun e => e.ok && e.acc = 0 && inChunk i m e.t.toNat e.addr.toNat)
  let ps := s.mem.poison.filter (fun q => inChunk i m q.1 q.2 && es.all (fun e => e.addr.toNat ≠ q.2))
  es ++ ps.map (fun q => ⟨BitVec.ofNat 4 q.1, 0, 3, 255, BitVec.ofNat 34 q.2⟩)

/-- MIGRATION_CHUNK (R403, R404): the next chunk of the slot is copied; `hits` are its words that were not clean. -/
def execMigrationChunk (st : BitVec 2) (hits : List EccHit) (s : State) : Host.Outcome State Fault Refusal :=
  act (fun s =>
    let i := st.toNat
    match (stackOf s i).mig with
    | none => s
    | some m =>
      if slotChunks ≤ m.chunk ∨ !domOn s DOM_MEM then s
      else
        let s := (chunkHits s i m hits).foldl (fun s e => migrateHit s i e) s
        let x := stackOf s i
        setStack s i { x with mig := x.mig.map (fun m => { m with chunk := m.chunk + 1 }) }) s

/-- MIGRATION_END (R403): every chunk is copied; the failed pseudo-channel is mapped out. -/
def execMigrationEnd (st : BitVec 2) (s : State) : Host.Outcome State Fault Refusal :=
  act (fun s =>
    let i := st.toNat
    let x := stackOf s i
    match x.mig with
    | none => s
    | some m =>
      if m.chunk < slotChunks then s
      else
        let s := setStack s i { x with mig := none, moved := 768 }
        spareEvt (setFld (setFld s (MEM_SPARE_STATE i) 2) (MEM_OUT_PC i) m.failed) i 1 m.failed m.poisoned) s

/-! ## Buckets (R413) -/

/-- BUCKET_LEAK (R413): ECC_LEAK_TICKS ticks after the last, every bucket loses 1. -/
def execBucketLeak (s : State) : Host.Outcome State Fault Refusal :=
  act (fun s =>
    let n := s.mem.leakAt + fld s ECC_LEAK_TICKS
    if curTick s < n then s
    else
      let s := { s with mem := { s.mem with leakAt := n } }
      (List.range 11).foldl (fun s t => setFld s (ECC_BUCKET t) (fld s (ECC_BUCKET t) - 1)) s) s

/-- BUCKET_OVERFLOW (R413): a correctable word of target `t` that raises its bucket above ECC_CE_THRESH. -/
def execBucketOverflow (t : BitVec 4) (synd : BitVec 8) (addr : BitVec 34) (s : State) : Host.Outcome State Fault Refusal :=
  act (fun s =>
    if !(EccHit.mk t 0 0 synd addr).ok ∨ fld s (ECC_BUCKET t.toNat) + 1 ≤ fld s ECC_CE_THRESH then s
    else eccCe s t.toNat synd.toNat addr.toNat) s

/-! ## Repair at PRIME (R416) -/

/-- The soft-repair list's rows are applied in order, while the macro has a spare row that neither the factory repairs nor an
earlier row took; the others are logged with LOG_KIND 5. `done` holds the macros used so far. -/
def softRepairs (s : State) (l : List (Nat × Nat × Nat)) (done : List (Nat × Nat)) : State × List (Nat × Nat) :=
  match l with
  | [] => (s, done)
  | (t, m, r) :: rest =>
    if min 4 (Config.fuseRows t m).toNat + done.count (t, m) < 4 then softRepairs s rest (done ++ [(t, m)])
    else softRepairs (eccLog s 5 t 0 (rowAddr t m r)) rest done

/-- The fuse map's and the list's repairs, and the spare rows left in each region. -/
def repairsApply (s : State) : State :=
  let (s, done) := softRepairs s s.mem.repairs []
  [0, 1, 2, 3, 4, 5, 10].foldl (fun s t =>
    let free := (List.range (macrosOf t)).foldl (fun a m => a + (4 - min 4 (Config.fuseRows t m).toNat)) 0
    setFld s (ECC_REPAIR_FREE t) (free - (done.filter (fun d => d.1 = t)).length)) s

end Sys2Proof.Machine
end

