-- ==== Sys2Proof/Machine/Power.lean ====
section
/-! DEFINITION. The power manager: mode requests, DOZE, SLEEP and wake, rails, reset, boot, PRIME, and the thermal policy
(R438 to R465, R499 to R503, R514). Log entries: 7, 10, 15, 44, 67, 68, 69, 70, 77, 80, 109, 110, 112. -/

namespace Sys2Proof.Machine

/-! ## Entry to RESET (R442, R443, R497) -/

/-- What a warm reset leaves in the register at `a` that holds `w` (R496): RWS and ROF fields, PWR_FAULT_SRC and
SYS_RST_CAUSE are kept. -/
def warmWord (a : Nat) (w : Word) : Word :=
  match regAt a with
  | some r => r.fields.foldl (fun v f =>
      let keeps := f.acc = .rws || f.acc = .rwsc || f.acc = .rof || (a = PWR_FAULT_SRC.addr && f.lo = PWR_FAULT_SRC.lo)
        || a = SYS_RST_CAUSE.addr
      if keeps && a ≠ SYS_SERIAL_HI.addr then setBits v f.hi f.lo (bitsOf w f.hi f.lo) else v) r.reset
  | none => 0

def warmRegs (t : Table Word) : Table Word :=
  t.foldl (fun u p => mset regReset u p.1 (warmWord p.1 p.2)) []

/-- What the Meash ports keep: MSH_WAKE_EN, in the AON domain. -/
def wakeEnables (s : State) : Table MshPort :=
  (s.msh.ports.filter (fun p => p.2.cfg.wake || p.2.live.wake)).map (fun p =>
    (p.1, { cfg := { wake := p.2.cfg.wake }, live := { wake := p.2.live.wake } }))

/-- The residency counters with the edges of CLK32K_IN in the BOOT or SLEEP that ends now (R459). -/
def residEnd (s : State) : Table Nat :=
  let m := mode s
  if m = 1 ∨ m = 7 then
    tset s.pwr.resid m (((tget s.pwr.resid m).getD 0 + Config.edges32k s.pwr.edgeAt s.clk.cyc) % 2 ^ 64)
  else s.pwr.resid

/-- Every domain but AON loses its power; what the AON domain holds stays. The device is in RESET, for `cause` (SYS_RST_CAUSE), and
`held` there until a pin or cold reset. A pin reset that ends a RESET the device held changes no cause. -/
def enterReset (s : State) (cause : Nat) (held : Bool) : State :=
  let old := mode s
  let was := fld s SYS_RST_CAUSE
  let prev := fld s SYS_MODE_PREV
  let t : State := {
    pending := s.pending, hostMem := s.hostMem, out := s.out
    clk := { cyc := s.clk.cyc }
    regs := warmRegs s.regs
    mem := { repairs := s.mem.repairs }
    cal := { store := s.cal.store }
    msh := { ports := wakeEnables s }
    pwr := { cold := s.pwr.cold, held := held, pins := s.pwr.pins, rails := s.pwr.rails, lower := s.pwr.lower
             good := s.pwr.good, alert := s.pwr.alert, resid := residEnd s } }
  let t := setFld t SYS_RST_CAUSE (if old = 0 ∧ s.pwr.held then was else cause)
  setFld t SYS_MODE_PREV (if old = 0 then prev else old)

/-- Rails still on are lowered one after another (R440). -/
def lowerTo (s : State) (left : Nat) : State :=
  setPwr s { s.pwr with lower := if s.pwr.rails = left then none else some left }

/-- The highest rail that is on and not in `left`. -/
def topRail (rails left : Nat) : Option Nat :=
  ((List.range 6).filter (fun i => rails.testBit i && !left.testBit i)).getLast?

/-- The lowest rail that is off. -/
def lowRail (rails : Nat) : Option Nat := (List.range 6).find? (fun i => !rails.testBit i)

/-- The host address of the boot image (R502). -/
def bootAddr (s : State) : Nat := fld s CTL_BOOT_ADDR_HI * 2 ^ 32 + fld s CTL_BOOT_ADDR_LO * 4096

/-- The boot loader reads the flash where CTL_BOOT_SRC names it (R502). -/
def bootRead (s : State) : State := if s.pwr.bootHost then s else emitOut s (.qspi (fld s CTL_BOOT_FLASH_OFS * 65536))

/-- Entry to BOOT (R20, R455, R502): HIF and CTL are powered, the boot loader runs, pad group MGMT is released. -/
def enterBoot (s : State) : State :=
  let s := setFld (setFld s PWR_DOM_ON 7) PAD_ST_MGMT 2
  let host := bit s CTL_BOOT_SRC
  let s := setFld (setPwr s { s.pwr with up := none, bootHost := host, edgeAt := s.clk.cyc }) CTL_BOOT_STATE (if host then 0 else 1)
  bootRead (setMode s 1 0)

/-- The power-up of the domains that a mode entry has just powered: `doms` were on before it (R451). -/
def domsUp (s : State) (doms : Nat) : State := setPwr s { s.pwr with up := some ⟨3, s.pwr.rails, doms, 0, false⟩ }

/-- The domains that BOOT or PRIME powers (R20). -/
def modeDoms (s : State) : Nat := if mode s = 1 then 7 else 1023

/-- The end of a reset (R442): the rails that are off are raised first, each once the one before it is good. A lowering in progress ends
first (R445). -/
def bringUp (s : State) : State :=
  if s.pwr.lower.isNone ∧ s.pwr.rails = 63 ∧ s.pwr.good = 63 then domsUp (enterBoot s) 1
  else
    let u : PowerUp := ⟨0, s.pwr.lower.getD s.pwr.rails, 1, 0, false⟩
    match s.pwr.lower, lowRail s.pwr.rails with
    | none, some i => setPwr s { s.pwr with up := some u, rails := s.pwr.rails + if s.pwr.good = s.pwr.rails then 2 ^ i else 0 }
    | _, _ => setPwr s { s.pwr with up := some u }

/-- COLD_RESET (R442, R443): VAON falls below its minimum. -/
def execColdReset (s : State) : Host.Outcome State Fault Refusal :=
  act (fun s => { State.reset with
    pending := s.pending, hostMem := s.hostMem, out := s.out, clk := { cyc := s.clk.cyc }
    pwr := { State.reset.pwr with pins := s.pwr.pins } }) s

/-- COLD_RESET_END (R442): VAON has been good for 1 ms; a reset pin still asserted keeps the device in RESET. -/
def execColdResetEnd (s : State) : Host.Outcome State Fault Refusal :=
  act (fun s =>
    let t := setPwr s { s.pwr with cold := false }
    if !s.pwr.cold then s else if s.pwr.pins = 0 then bringUp t else t) s

/-- A reset pin is asserted for `width` ns (R442): ignored below 100 ns, taken from 1 µs on, between them as `taken` says. In a cold
reset it only stays asserted. -/
def pinReset (s : State) (pin cause width : Nat) (taken : Bool) : State :=
  if width < 100 ∨ (width < 1000 ∧ !taken) then s
  else
    let s := setPwr s { s.pwr with pins := s.pwr.pins ||| 2 ^ pin }
    if s.pwr.cold then s
    else
      let up := s.pwr.up
      let s := if mode s = 0 ∧ !s.pwr.held then s else enterReset s cause s.pwr.held
      setPwr s { s.pwr with alert := 0, up := if s.pwr.held then none else up.filter (fun u => u.kind = 0) }

/-- PERST_N_ASSERT (R442). -/
def execPerstNAssert (width : BitVec 32) (taken : Bool) (s : State) : Host.Outcome State Fault Refusal :=
  act (fun s => pinReset s 0 1 width.toNat taken) s

/-- SYS_RESET_N_ASSERT (R442). -/
def execSysResetNAssert (width : BitVec 32) (taken : Bool) (s : State) : Host.Outcome State Fault Refusal :=
  act (fun s => pinReset s 1 2 width.toNat taken) s

/-- RESET_RELEASE (R442): every asserted reset pin is released. -/
def execResetRelease (s : State) : Host.Outcome State Fault Refusal :=
  act (fun s =>
    if s.pwr.pins = 0 then s
    else
      let up := s.pwr.up
      let t := setPwr s { s.pwr with pins := 0, held := false }
      if s.pwr.cold then setPwr s { s.pwr with pins := 0 } else if up.isSome then t else bringUp t) s

/-! ## Rails (R440, R441, R451) -/

/-- RAIL_RAISE (R440): PWRGD of the last raised rail has been high for PWR_SEQ_GAP, so that its up-sequence is complete. The next rail
of the sequence is raised; after the last one the sequence is complete, which from RESET enters BOOT, and the attempt goes on with its domains (R451). -/
def execRailRaise (s : State) : Host.Outcome State Fault Refusal :=
  act (fun s =>
    match s.pwr.up with
    | none => s
    | some u =>
      if u.waits || u.kind = 1 || (u.kind = 3 && s.pwr.good = 63) || s.pwr.lower.isSome then s
      else
        let s := setPwr s { s.pwr with good := s.pwr.rails }
        match lowRail s.pwr.rails with
        | some i => setPwr s { s.pwr with rails := s.pwr.rails + 2 ^ i }
        | none =>
          if u.kind = 0 then
            if s.pwr.pins = 0 then setPwr (enterBoot s) { (enterBoot s).pwr with up := some { u with kind := 3 } }
            else setPwr s { s.pwr with up := none }
          else if u.kind = 3 then setFld s PWR_DOM_ON (modeDoms s) else s) s

/-- A wake source is detected (R449): in SLEEP the wake starts; during the entry it is latched. -/
def wakeStart (s : State) (src port : Nat) : State :=
  let s := setFld s PWR_WAKE_LAST src
  setPwr s { s.pwr with
    wake := some (src, port), up := some ⟨2, s.pwr.rails, 1, 0, false⟩, rails := s.pwr.rails ||| 8 }

def wakeLatch (s : State) (src port : Nat) : State :=
  if mode s = 7 then (if s.pwr.up.isNone && !s.pwr.woken then wakeStart s src port else s)
  else if s.pwr.saved && s.pwr.wake.isNone then setPwr s { s.pwr with wake := some (src, port) }
  else s

/-- RAIL_LOWER (R440): the next rail of a lowering falls. With the last one of the SLEEP entry SYS_MODE becomes SLEEP, and
a wake latched meanwhile starts (R448, R449); a power-up asked for meanwhile starts (R445). -/
def execRailLower (s : State) : Host.Outcome State Fault Refusal :=
  act (fun s =>
    match s.pwr.lower with
    | none => s
    | some left =>
      match topRail s.pwr.rails left with
      | none => setPwr s { s.pwr with lower := none }
      | some i =>
        let rails := s.pwr.rails - 2 ^ i
        let s := setPwr s { s.pwr with rails := rails, good := s.pwr.good &&& rails, lower := if (topRail rails left).isNone then none else some left }
        if s.pwr.lower.isSome then s
        else if s.pwr.saved && !s.clk.running && mode s ≠ 7 then
          let s := setMode (setPwr s { s.pwr with fan := 100 }) 7 0
          match s.pwr.wake with
          | some (a, b) => wakeStart s a b
          | none => s
        else
          match s.pwr.up, lowRail s.pwr.rails with
          | some u, some j =>
            if u.kind = 0 && !u.waits then setPwr s { s.pwr with rails := s.pwr.rails + 2 ^ j } else s
          | _, _ => s) s

/-- RAIL_FAULT (R441): PWRGD of rail `i`, whose up-sequence is complete, low for more than 10 µs. -/
def execRailFault (i : BitVec 3) (s : State) : Host.Outcome State Fault Refusal :=
  act (fun s =>
    if !(s.pwr.good &&& s.pwr.rails).testBit i.toNat then s
    else
      let s := setFld (setBit (alertSet s 0 true) PWR_ST_RAIL_FAULT) PWR_FAULT_SRC i.toNat
      lowerTo (enterReset s 3 true) 0) s

/-- What is not ready may be: a rail that was raised and whose up-sequence is not complete; the clock (6) or a domain regulator (7) once
the rails are up; after DOZE only a regulator (R451). -/
def mayFail (s : State) (u : PowerUp) (src : Nat) : Bool :=
  if u.kind = 1 then src = 7
  else if src < 6 then s.pwr.rails.testBit src && !s.pwr.good.testBit src
  else s.pwr.good = 63

/-- Wake fault (R451): the rails the attempts raised fall one after another, pads latched stay held while VIO is on. -/
def wakeFault (s : State) (u : PowerUp) (src : Nat) : State :=
  let pad (f : Field) (t : State) : State := setFld t f (if u.before.testBit 0 && fld s f ≠ 0 then 1 else 0)
  let t := setFld (setBit (alertSet s 0 true) PWR_ST_WAKE_FAULT) PWR_FAULT_SRC src
  let t := lowerTo (enterReset t 6 true) u.before
  pad PAD_ST_MGMT (pad PAD_ST_TIME (pad PAD_ST_GPIO (setPwr t { t.pwr with fan := 100, gpioHeld := s.pwr.gpioHeld })))

/-- POWERUP_TIMEOUT (R451): rail 0 to 5, the clock (6) or a domain regulator (7) was not ready in time. What the attempt raised is
lowered in reverse order; after the third retry the device is in wake fault. -/
def execPowerupTimeout (src : BitVec 3) (s : State) : Host.Outcome State Fault Refusal :=
  act (fun s =>
    match s.pwr.up with
    | none => s
    | some u =>
      if u.waits || s.pwr.lower.isSome || !mayFail s u src.toNat then s
      else if 3 ≤ u.fails then wakeFault s u src.toNat
      else
        let s := setFld s PWR_DOM_ON u.doms
        lowerTo (setPwr s { s.pwr with up := some { u with fails := u.fails + 1, waits := true } }) u.before) s

/-- POWERUP_RETRY (R451): 10 ms after a failed attempt is undone, the next one. -/
def execPowerupRetry (s : State) : Host.Outcome State Fault Refusal :=
  act (fun s =>
    match s.pwr.up with
    | none => s
    | some u =>
      if !u.waits || s.pwr.lower.isSome then s
      else
        let s := setPwr s { s.pwr with up := some { u with waits := false } }
        if u.kind = 1 then s
        else
          match lowRail s.pwr.rails with
          | some i => setPwr s { s.pwr with rails := s.pwr.rails + 2 ^ i }
          | none => if u.kind = 3 then setFld s PWR_DOM_ON (modeDoms s) else s) s

/-! ## Boot and PRIME (R502, R503, R425, R499) -/

/-- The boot loader's failure (R503). -/
def bootFail (s : State) (err : Nat) : State :=
  alertSet (setBit (setFld (setFld s CTL_BOOT_STATE 4) CTL_BOOT_ERR err) PWR_ST_BOOT_FAIL) 1 true

/-- The Easel starts at the first boundary after now (R28); TIK_OVR_LAST keeps its value (R452). -/
def easelStart (s : State) : State :=
  let n := tickOf (ns s) + 1
  { s with easel := { running := true, now := s.easel.now, next := n, due := tickStartNs n, ovrLast := s.easel.ovrLast } }

/-- Entry to PRIME (R338, R425, R429): every domain is powered, the clock starts at 0 and opens epoch 1, the Easel starts, and
the Gesso vote and Glaze put the settings in force. -/
def enterPrime (s : State) (gesso : GessoImage) (flash : List Word) : State :=
  let s := setMode (setFld s PWR_DOM_ON 1023) 2 0
  let s := { s with clk := { t := 0, running := true, cyc := s.clk.cyc } }
  let s := domsUp (epochStart (setReg s PTP_RATE.addr 0)) 7
  stacksInit (glazeApply (gessoAll (easelStart s) gesso) flash)

/-- BOOT_IMAGE_CHECK (R502, R503): what the loader found: an image header in the flash, its length, the read's success, the
signature's, the identity, the security version, the firmware version; with it the rising edges of CLK32K_IN since entry to BOOT, and
what PRIME then reads from OTP and flash. -/
def execBootImageCheck (found : Bool) (len : BitVec 32) (readOk sigOk : Bool) (dev : BitVec 16) (svn : BitVec 8) (ver : BitVec 32)
    (edges : BitVec 32) (gesso : GessoImage) (flash : List (BitVec 32)) (s : State) : Host.Outcome State Fault Refusal :=
  act (fun s =>
    if mode s ≠ 1 ∨ fld s CTL_BOOT_STATE ≠ 1 ∨ !domOn s 2 then s
    else if !s.pwr.bootHost && !found then setFld (setPwr s { s.pwr with bootHost := true }) CTL_BOOT_STATE 0
    else
      let s := setPwr s { s.pwr with
        up := none, edgeAt := s.clk.cyc, resid := tset s.pwr.resid 1 (((tget s.pwr.resid 1).getD 0 + edges.toNat) % 2 ^ 64) }
      if len.toNat < 65536 ∨ 6291456 < len.toNat then bootFail s 1
      else if !readOk then bootFail s 2
      else if !sigOk then bootFail s 3
      else if dev ≠ 0x9416 then bootFail s 4
      else if svn.toNat < Config.svnFloor.toNat then bootFail s 5
      else
        let s := setFld (setFld s CTL_BOOT_STATE 3) CTL_BOOT_SVN svn.toNat
        enterPrime (setReg s SYS_FW_MAJOR.addr ver) gesso flash) s

/-- A write of 1 to CTL_BOOT_GO (R502): the image is read from host memory at CTL_BOOT_ADDR. -/
def bootGo (s : State) : State :=
  if mode s = 1 ∧ fld s CTL_BOOT_STATE = 0 then
    emitOut (setFld (setPwr s { s.pwr with bootHost := true, up := none }) CTL_BOOT_STATE 1) (.hostRead 0 (bootAddr s))
  else s

/-- CTL_BOOT_GO (R502). -/
def execCtlBootGo (s : State) : Host.Outcome State Fault Refusal := act bootGo s

/-- A write of 1 to SYS_SETUP_DONE (R500). -/
def setupDone (s : State) : State := if 1 ≤ mode s ∧ mode s ≤ 6 then setFld s SYS_ST_SETUP 1 else s

/-- SYS_SETUP_DONE (R500). -/
def execSysSetupDone (s : State) : Host.Outcome State Fault Refusal := act setupDone s

/-- Pseudo-channel `k` is trained (R399): the items set and the margins found, or free values for both where the surroundings bring
none. -/
def primeTrain (res : List (BitVec 7 × List (BitVec 8) × List (BitVec 16))) (s : State) (k : Nat) : State :=
  let found := res.find? (fun r => r.1.toNat = k)
  let v := (found.map (fun r => r.2.2.map (·.toInt))).getD (freeSetting s k false)
  let ms := (found.map (fun r => r.2.1.map (·.toNat))).getD (freeMargins s k 0)
  let s := if settingIn s k 3 v then setLive s 3 k v else s
  setPc s k { at' := curTick s, temp := (stackOf s (k / 32)).tempAt.map (fun _ => memTemp s (k / 32)), margins := ms
              fail := leastMargin ms < fld s MEM_MARGIN_MIN }

/-- PRIME_TRAINING (R399, R416): the repairs are applied and every pseudo-channel is trained. `res` brings, by 32 × stack + p, the
margins found by byte lane and side and the items set. -/
def execPrimeTraining (res : List (BitVec 7 × List (BitVec 8) × List (BitVec 16))) (s : State) : Host.Outcome State Fault Refusal :=
  act (fun s =>
    if mode s ≠ 2 ∨ s.pwr.trained ∨ !domOn s DOM_MEM then s
    else (List.range 128).foldl (primeTrain res) (repairsApply (setPwr s { s.pwr with trained := true, up := none }))) s

/-- Shares at the lock (R73): the sum of a resource's shares above 1,024 gives function 0 all of it. -/
def budgetsLock (s : State) : State :=
  (List.range 16).foldl (fun s r =>
    let want (f : Nat) : Nat := fld s (ADM_FN_BUDGET f r)
    if (List.range 64).foldl (fun a f => a + want f) 0 ≤ 1024 then
      (List.range 64).foldl (fun s f => setFld s (ADM_FN_BUDGET_CUR f r) (want f)) s
    else
      let s := (List.range 64).foldl (fun s f => setFld s (ADM_FN_BUDGET_CUR f r) (if f = 0 then 1024 else 0)) s
      raise s 0 EV_ADM_BUDGET_BAD 0 (BitVec.ofNat 32 r) 0 0 0) s

/-- The pools at the lock (R393): firmware's area of 4 GiB, the spill pool and the video pool from address 0, in units of 64 MiB of the
93 GiB. -/
def poolsLock (s : State) : State :=
  let sp := cdiv (fld s SPQ_POOL_UNITS) 16
  let left := 1488 - 64 - sp
  let want := fld s VID_POOL_UNITS
  let s := if left < want then setBit s VID_ST_POOL_CUT else s
  { s with
    vid := { s.vid with pool := min want left * 16384 }
    mem := { s.mem with areas := some ⟨(0, 64), (64, sp), (64 + sp, min want left)⟩ } }

/-- PRIME_COMPLETE (R499, R500): the RWL fields are sampled and locked, and the device enters RUN or DEGRADED. -/
def execPrimeComplete (s : State) : Host.Outcome State Fault Refusal :=
  act (fun s =>
    if mode s ≠ 2 ∨ !s.pwr.trained ∨ !bit s SYS_ST_SETUP then s
    else
      let s := setFld (setFld s SYS_LOCKED 1) SYS_COMPAT_CUR (fld s SYS_COMPAT_SEL)
      enterRun (masksApply (poolsLock (budgetsLock s))) 3) s

/-! ## Mode requests (R444 to R448) -/

/-- The modes in which the power commands are permitted (R463). -/
def reqModes : List Nat := [3, 4, 5, 6]
def pwrModes : List Nat := [2, 3, 4, 5, 6]

/-- A wake source is enabled (R448, R449). -/
def wakeEnabled (s : State) : Bool :=
  fld s PWR_WAKE_EN_ETH ≠ 0 || bit s PWR_WAKE_EN_PCIE || (bit s PWR_WAKE_EN_TIMER && fld s PWR_SLEEP_TIMER ≠ 0)
    || s.msh.ports.any (fun p => p.2.live.wake)

/-- Legs or layouts are admitted, those being released aside, as ADM_LEG_CNT counts (R446). -/
def notEmpty (s : State) : Bool := s.adm.legs.any (fun p => !p.2.item.releasing) || s.adm.layouts.any (fun p => !p.2.item.releasing)

/-- The result of a request: effect tick and mode reached (R463). -/
def reqOk (e m : Nat) : Option Res := some (ok (effArea e ++ [BitVec.ofNat 32 m]))

/-- Carry out a request from the mode the device is in (R445). -/
def modeReq (h : CmdHdr) (target : Nat) (s : State) : State × Option Res :=
  let m := mode s
  let e := effTick s
  let go (c : Option CmdHdr) : State := setPwr s { s.pwr with trans := some ⟨target, e, c⟩ }
  if m = target then (s, reqOk e m)
  else if target = 3 then
    if m = 5 then (stage (go (some h)) e (.pwrMode 3 0), none)
    else if m = 6 then
      let s := go (some h)
      (setPwr s { s.pwr with up := some ⟨1, s.pwr.rails, fld s PWR_DOM_ON, 0, false⟩ }, none)
    else (s, some (no PWR_ST_TARGET))
  else if target = 5 then
    if m = 3 ∨ m = 4 then (stage (go (some h)) e (.pwrMode 5 0), none) else (s, some (no PWR_ST_TARGET))
  else if m ≠ 5 ∧ ¬(target = 7 ∧ m = 6) then (s, some (no PWR_ST_TARGET))
  else if notEmpty s then (s, some (no PWR_ST_NOT_EMPTY))
  else if target = 6 then (stage (go (some h)) e (.pwrMode 6 0), none)
  else if !wakeEnabled s then (s, some (no PWR_ST_NO_WAKE))
  else
    let s := go none
    ({ s with easel := { s.easel with stopAt := some e } }, reqOk e 7)

/-- PWR_MODE_REQ: one at a time (R445). -/
def modeReqCmd (h : CmdHdr) (target : Nat) (s : State) : Host.Outcome State Fault Refusal :=
  act (commandLong h OP_PWR_MODE_REQ { fn0 := true, modes := reqModes } (fun s =>
    if s.pwr.trans.isSome then (setPwr s { s.pwr with waiting := s.pwr.waiting ++ [(h, target)] }, none)
    else modeReq h target s)) s

/-- PWR_MODE_REQ RUN (R446, R447). -/
def execPwrModeReqRun (h : CmdHdr) (s : State) : Host.Outcome State Fault Refusal := modeReqCmd h 3 s

/-- PWR_MODE_REQ DRAIN (R446). -/
def execPwrModeReqDrain (h : CmdHdr) (s : State) : Host.Outcome State Fault Refusal := modeReqCmd h 5 s

/-- PWR_MODE_REQ DOZE (R447). -/
def execPwrModeReqDoze (h : CmdHdr) (s : State) : Host.Outcome State Fault Refusal := modeReqCmd h 6 s

/-- PWR_MODE_REQ SLEEP (R448). -/
def execPwrModeReqSleep (h : CmdHdr) (s : State) : Host.Outcome State Fault Refusal := modeReqCmd h 7 s

/-- A transition has completed: the requests that waited run, until one starts another transition. -/
def pwrNext (s : State) (n : Nat) : State :=
  match n with
  | 0 => s
  | k + 1 =>
    match s.pwr.trans, s.pwr.waiting with
    | none, (h, t) :: r =>
      match modeReq h t (setPwr s { s.pwr with waiting := r }) with
      | (s, some x) => pwrNext (complete s h OP_PWR_MODE_REQ x.st x.area) k
      | (s, none) => s
    | _, _ => s

/-- The transition in progress is over. -/
def transDone (s : State) : State :=
  let t := s.pwr.trans
  let s := setPwr s { s.pwr with trans := none }
  let s := match t with
    | some ⟨_, e, some h⟩ => complete s h OP_PWR_MODE_REQ ST_OK (effArea e ++ [BitVec.ofNat 32 (mode s)])
    | _ => s
  pwrNext s s.pwr.waiting.length

/-- The DOZE domains' content is lost (R447): Brush cores and the program stores start afresh, Varnish plates are FREE. -/
def dozeLose (s : State) : State :=
  platesFree { s with
    brs := { s.brs with cores := [], store := [] }
    mem := { s.mem with poison := s.mem.poison.filter (fun q => ¬ [0, 2, 3, 10].contains q.1) } }

/-- A mode change at its effect tick; the mode stays once firmware has stopped (R512). -/
def pwrModeApply (s : State) (m cause : Nat) : State :=
  let old := mode s
  if s.pwr.fwStop then s
  else if m = 6 then
    if old ≠ 5 then s
    else setMode (setFld (dozeLose s) PWR_DOM_ON (fld s PWR_DOM_ON &&& 63 ||| 512)) 6 cause
  else if m = 5 then
    let s := if old = 3 ∨ old = 4 then setMode s 5 cause else s
    if cause = 0 ∨ s.pwr.trans.any (fun t => t.target = 5 && t.h.isNone) then transDone s else s
  else
    let s := if old = 5 ∨ old = 6 then enterRun s cause else s
    transDone s

/-- DOZE_DOMAINS_OFF (R447): the domains are off and the request completes. -/
def execDozeDomainsOff (s : State) : Host.Outcome State Fault Refusal :=
  act (fun s =>
    match s.pwr.trans with
    | some ⟨6, _, some _⟩ => if mode s = 6 ∧ !s.pwr.fwStop then transDone s else s
    | _ => s) s

/-- DOZE_EXIT_READY (R447): the domains are ready and rewritten; RUN starts at the next tick. -/
def execDozeExitReady (s : State) : Host.Outcome State Fault Refusal :=
  act (fun s =>
    match s.pwr.trans, s.pwr.up with
    | some t, some u =>
      if t.target = 3 ∧ mode s = 6 ∧ u.kind = 1 ∧ !u.waits ∧ t.tick ≤ curTick s ∧ !s.pwr.fwStop then
        let s := setFld (setPwr s { s.pwr with up := none }) PWR_DOM_ON 1023
        stage (storesWrite s) (curTick s + 1) (.pwrMode 3 0)
      else s
    | _, _ => s) s

/-! ## SLEEP and wake (R354, R448 to R450) -/

/-- The GPIO pads are latched at their last driven values (R455): outputs of a group that is DRIVEN; those already HELD stay so. -/
def gpioLatch (s : State) : State :=
  let d := fld s PAD_GPIO_DIR
  if fld s PAD_ST_GPIO = 1 then s
  else setPwr s { s.pwr with gpioHeld := if fld s PAD_ST_GPIO = 2 then (d, fld s PAD_GPIO_OUT &&& d) else (0, 0) }

/-- SLEEP_ENTRY (R448, steps 1 to 3): from the end of EMIT(E − 1) state is saved, the key store is zeroised, the plates are
FREE, and the pad groups are latched. -/
def execSleepEntry (s : State) : Host.Outcome State Fault Refusal :=
  act (fun s =>
    match s.easel.stopAt with
    | none => s
    | some _ =>
      if s.pwr.saved || s.easel.emit.isSome || (s.easel.issued && !outOfService s) then s
      else
        let s := platesFree (keyResetAll s)
        let s := gpioLatch s
        let s := setFld (setFld (setFld s PAD_ST_MGMT 1) PAD_ST_TIME 1) PAD_ST_GPIO 1
        let s := ppsLower (tickCut { s with easel := { s.easel with running := false } })
        setPwr s { s.pwr with saved := true }) s

/-- Link training of the Ethernet and Meash ports starts with the restart of the clock (R450 step 8): no link is up until it ends. What
the ports' registers record of the links before SLEEP stays (R452), but for what says that a lane or link is up. -/
def linksRetrain (s : State) : State :=
  let s := (List.range 16).foldl (fun s i => linkDrop s (i / 4) (i % 4)) s
  let s := [0, 1, 2, 3].foldl mshStop s
  let s := [0, 1, 2, 3].foldl (fun s m =>
    (List.range 9).foldl (fun s l => setFld s (MSH_AM_STATE m l) 0) (setFld s (MSH_LANES_OK m) 0)) s
  { s with msh := { s.msh with lanes := [], seen := [], relay := [], adopt := none, lastOk := none, okRun := 0, badRun := 0 } }

/-- CLOCK_STOP (R354, R448 steps 4 to 6): at an edge of CLK32K_IN the clock stops; the stacks refresh themselves, every domain but
AON is turned off, and rails 5 to 3 are lowered. -/
def execClockStop (s : State) : Host.Outcome State Fault Refusal :=
  act (fun s =>
    if !s.pwr.saved || !s.clk.running then s
    else
      let s := setPwr s { s.pwr with sleepT := s.clk.t, edgeAt := s.clk.cyc }
      let s := { s with clk := { s.clk with running := false } }
      let s := { s with
        hif := { s.hif with pcieUp := false, reads := [] }, brs := { s.brs with cores := [], store := [] }
        mem := { s.mem with poison := s.mem.poison.filter (fun q => decide (6 ≤ q.1) && decide (q.1 ≤ 9)) }
        easel := { s.easel with follow := false } }
      lowerTo (setFld s PWR_DOM_ON 1) 7) s

/-- ETH_SIGNAL_WAKE (R449): signal energy on port `p` for 10 µs. -/
def execEthSignalWake (p : BitVec 2) (s : State) : Host.Outcome State Fault Refusal :=
  act (fun s => if (fld s PWR_WAKE_EN_ETH).testBit p.toNat then wakeLatch s 1 p.toNat else s) s

/-- PCIE_WAKE (R449): the host leaves electrical idle. -/
def execPcieWake (s : State) : Host.Outcome State Fault Refusal :=
  act (fun s => if bit s PWR_WAKE_EN_PCIE then wakeLatch s 3 0 else s) s

/-- SLEEP_TIMER_WAKE (R449): the sleep count reaches PWR_SLEEP_TIMER. -/
def execSleepTimerWake (s : State) : Host.Outcome State Fault Refusal :=
  act (fun s =>
    if bit s PWR_WAKE_EN_TIMER && fld s PWR_SLEEP_TIMER ≠ 0 && !s.clk.running then wakeLatch s 4 0 else s) s

/-- WAKE_PATTERN_DETECT (R385): bursts and gaps, in µs, on lane 0 of Meash port `m`; six in a row from 48 to 80 µs wake. -/
def execWakePatternDetect (m : BitVec 2) (bursts : List (BitVec 16 × BitVec 16)) (s : State) : Host.Outcome State Fault Refusal :=
  act (fun s =>
    let good (b : BitVec 16 × BitVec 16) : Bool :=
      decide (48 ≤ b.1.toNat) && decide (b.1.toNat ≤ 80) && decide (48 ≤ b.2.toNat) && decide (b.2.toNat ≤ 80)
    let run := bursts.foldl (fun n b => if 6 ≤ n then n else if good b then n + 1 else 0) 0
    if 6 ≤ run && ((tget s.msh.ports m.toNat).map (·.live.wake)).getD false then wakeLatch s 2 m.toNat else s) s

/-- WAKE (R450, steps 2 to 7): with the rails raised (step 1), the clocks locked, the domains powered and the HBM retrained; firmware runs
and has restored what the entry saved. WAKE_N is asserted unless PCI Express caused the wake. -/
def execWake (s : State) : Host.Outcome State Fault Refusal :=
  act (fun s =>
    match s.pwr.up, s.pwr.wake with
    | some u, some (src, port) =>
      if mode s ≠ 7 ∨ u.kind ≠ 2 ∨ u.waits ∨ s.pwr.good ≠ 63 then s
      else
        let s := storesWrite (setFld (setFld s PWR_DOM_ON 1023) PAD_ST_MGMT 2)
        let held := fld s PAD_ST_TIME = 1 || fld s PAD_ST_GPIO = 1
        let s := (List.range 128).foldl wakeRetrain s
        setPwr s { s.pwr with
          up := none, wake := none, woken := true, saved := false, wakeN := decide (src ≠ 3)
          wakeRep := some ⟨src, port, held, 0, u.fails⟩ }
    | _, _ => s) s

/-- FAN_PWM's duty (R458). -/
def fanDuty (s : State) (t : Int) : Nat :=
  if bit s PAD_FAN_AUTO then
    (min 100 (max (fld s PAD_FAN_MIN : Int) ((t - fld s PAD_FAN_T0) * fld s PAD_FAN_SLOPE))).toNat
  else fld s PAD_FAN_MIN

/-- CLOCK_RESTART (R354, R450 step 8): the count stops at `c`; the clock goes on from the slept time in a new epoch, and the device is
in RUN or DEGRADED. -/
def execClockRestart (c : BitVec 64) (s : State) : Host.Outcome State Fault Refusal :=
  act (fun s =>
    if !s.pwr.woken || s.clk.running then s
    else
      let d := c.toNat * 1953125 / 64
      let s := { s with clk := { t := s.pwr.sleepT + d * 2 ^ 48, running := true, cyc := s.clk.cyc + d * 4 / 5 } }
      let s := epochStart s
      let s := setPtp s (ppsStepped s.ptp (ns s))
      let s := setPwr s { s.pwr with
        woken := false, sleepC := c.toNat, wakeRep := s.pwr.wakeRep.map (fun w => { w with count := c.toNat })
        resid := tset s.pwr.resid 7 (((tget s.pwr.resid 7).getD 0 + c.toNat) % 2 ^ 64) }
      let s := setPwr s { s.pwr with fan := fanDuty s (BitVec.ofNat 8 (fld s PWR_TEMP_MAX)).toInt }
      transDone (linksRetrain (easelStart (enterRun s 0)))) s

/-- PCIE_LINK_UP (R450): the PCI Express link comes up and WAKE_N is released. -/
def execPcieLinkUp (s : State) : Host.Outcome State Fault Refusal :=
  act (fun s =>
    if !domOn s 1 then s
    else setPwr { s with hif := { s.hif with pcieUp := true } } { s.pwr with wakeN := false }) s

/-- EV_PWR_WAKE, at the first poll after the link is up (R450, R465). -/
def wakeReport (s : State) : State :=
  match s.pwr.wakeRep with
  | none => s
  | some w =>
    if mode s = 7 then s
    else
      raise (setPwr s { s.pwr with wakeRep := none }) 0 EV_PWR_WAKE 0
        (BitVec.ofNat 32 (w.src + w.port * 16 + if w.held then 65536 else 0)) (lo32 w.count) (BitVec.ofNat 32 w.retries) 0

/-! ## Residency, silence hold, thermal state (R454, R459 to R463) -/

/-- PWR_RESIDENCY (R459). -/
def execPwrResidency (h : CmdHdr) (clr : Bool) (addr : BitVec 64) (s : State) : Host.Outcome State Fault Refusal :=
  act (command h OP_PWR_RESIDENCY { fn0 := true, modes := pwrModes, misaligned := addr.toNat % 64 ≠ 0 } (fun s =>
    let cnt (k : Nat) : Nat := (tget s.pwr.resid k).getD 0
    let ws := (List.range 24).map (fun i => let v := if i < 8 then cnt i else cnt (8 + i); [lo32 v, hi32 v])
    let s := hostWrites s addr.toNat ws.flatten
    (if clr then setPwr s { s.pwr with resid := [] } else s, ok))) s

/-- PWR_SIL_HOLD_SET (R454). -/
def execPwrSilHoldSet (h : CmdHdr) (v : BitVec 16) (s : State) : Host.Outcome State Fault Refusal :=
  act (command h OP_PWR_SIL_HOLD_SET { fn0 := true, modes := pwrModes } (fun s =>
    if v ≠ 0 ∧ v.toNat < 12 then (s, no PWR_ST_RANGE)
    else (stage s (effTick s) (.silHold v.toNat), ok (effArea (effTick s))))) s

/-- SIL_HOLD at its effect tick: 0 wakes every gated group. -/
def silHoldApply (s : State) (v : Nat) : State :=
  let s := setFld s PWR_SIL_HOLD v
  if v = 0 then (List.range 16).foldl groupWake s else s

/-- PWR_THERMAL (R463). -/
def execPwrThermal (h : CmdHdr) (s : State) : Host.Outcome State Fault Refusal :=
  act (command h OP_PWR_THERMAL { fn0 := true, modes := pwrModes } (fun s =>
    (s, ok [BitVec.ofNat 32 (fld s PWR_TEMP_MAX * 2 ^ 24 + fld s PWR_TEMP_SENSOR * 2 ^ 16 + fld s PWR_THERM_STATE),
      BitVec.ofNat 32 (fld s PWR_WARN_C * 2 ^ 24 + fld s PWR_CRIT_C * 2 ^ 16 + 115)]))) s

/-- Thermal shutdown (R461). -/
def thermalShutdown (s : State) (cause : Nat) : State :=
  lowerTo (enterReset (setBit (alertSet s 0 true) PWR_ST_THERM_SHUT) cause true) 0

/-- A change of thermal state (R461). -/
def thermTo (s : State) (st : Nat) (t : Int) : State :=
  let s := setFld s PWR_THERM_STATE st
  let s := if st = 1 then alertSet (setBit s PWR_ST_WARN) 3 (bit s PWR_ALERT_WARN)
    else if st = 0 then alertSet s 3 false else s
  let s := raise s 0 EV_PWR_THERMAL 0 (BitVec.ofNat 32 ((BitVec.ofInt 8 t).toNat * 2 ^ 24 + st)) 0 0 0
  admRefresh s

/-- The hottest of the sensors' offset readings in 1/16 °C: its value and number; none without a reading. -/
def hottest (xs : List Int) : Option (Int × Nat) :=
  (List.range xs.length).foldl (fun m i =>
    match m with
    | some (v, j) => if v < xs.getD i 0 then some (xs.getD i 0, i) else some (v, j)
    | none => some (xs.getD i 0, i)) none

/-- A reading of `t` °C, highest at sensor `i`, as it is taken (R458, R463): kept, the fan set by it, the run of readings at the critical
temperature counted. -/
def tempTaken (s : State) (t : Int) (i : Nat) : State :=
  let s := setFld (setFld s PWR_TEMP_MAX (BitVec.ofInt 8 t).toNat) PWR_TEMP_SENSOR i
  setPwr s { s.pwr with
    tempAt := if mode s = 1 then none else some (curTick s), fan := fanDuty s t
    hot := if (fld s PWR_CRIT_C : Int) ≤ t then s.pwr.hot + 1 else 0 }

/-- What follows a reading of `t` °C (R459 to R461): the thermal state, and at the second reading in a row at the critical temperature
the drain or the thermal shutdown. -/
def tempJudge (s : State) (t : Int) : State :=
  let st := fld s PWR_THERM_STATE
  let s := if st = 0 ∧ (fld s PWR_WARN_C : Int) ≤ t then thermTo s 1 t
    else if st = 1 ∧ t ≤ (fld s PWR_WARN_C : Int) - fld s PWR_HYST_C then thermTo s 0 t
    else s
  if fld s PWR_THERM_STATE = 2 ∨ s.pwr.hot < 2 then s
  else
    let s := thermTo s 2 t
    if mode s = 3 ∨ mode s = 4 then
      let e := effTick s
      stage (setPwr s { s.pwr with critAt := some e, trans := some (s.pwr.trans.getD ⟨5, e, none⟩) }) e (.pwrMode 5 2)
    else thermalShutdown s 4

/-- TEMP_READING (R458, R460, R461): the 24 sensors' raw readings in 1/16 °C, every 12 ticks, or every millisecond in BOOT. -/
def execTempReading (raw : List (BitVec 16)) (s : State) : Host.Outcome State Fault Refusal :=
  act (fun s =>
    let due := if mode s = 1 then true
      else s.easel.running && (s.pwr.tempAt.map (fun n => decide (n + 12 ≤ curTick s))).getD true
    match hottest ((List.range (min raw.length 24)).map (fun i => (raw.getD i 0).toInt + (liveOf s 5 0).getD i 0)) with
    | none => s
    | some (v, i) => if due then tempJudge (tempTaken s (v / 16) i) (v / 16) else s) s

/-- Release everything that function `f` holds, or every function, as the release commands would (R110, R461). -/
def releaseAll (s : State) (f : Option Nat) : State :=
  let e := effTick s
  let mine (o : Nat) : Bool := f.all (· = o)
  let s := (s.adm.legs.filter (fun p => mine p.2.item.owner && !p.2.item.releasing)).foldl (fun s p => legRelease s p.1 e) s
  let s := (s.adm.layouts.filter (fun p => mine p.2.item.owner && !p.2.item.releasing)).foldl (fun s p => layoutRelease s p.1 e) s
  (s.adm.confs.filter (fun p => mine p.2.owner)).foldl (fun s p => confClose s p.1) s

/-- CRIT_DRAIN_EXPIRY (R461): PWR_CRIT_DRAIN ticks after the DRAIN of CRITICAL everything is released; thermal shutdown follows when
the releases' charges have left. -/
def execCritDrainExpiry (s : State) : Host.Outcome State Fault Refusal :=
  act (fun s =>
    match s.pwr.critAt with
    | some e =>
      if curTick s < e + fld s PWR_CRIT_DRAIN then s
      else setPwr (releaseAll s none) { s.pwr with critAt := none, shutAt := some (effTick s - 1) }
    | none => s) s

/-- THERMAL_TRIP (R462): a sensor reads 115 °C or above while VIN_CORE is on. -/
def execThermalTrip (s : State) : Host.Outcome State Fault Refusal :=
  act (fun s => if s.pwr.rails.testBit 3 then thermalShutdown (setBit s PWR_ST_TRIP) 5 else s) s

/-- PMBUS_POLL (R482): once every 1,200 ticks READ_VOUT, READ_IOUT and STATUS_WORD are read from the regulator of every rail; no behaviour
depends on the readings. -/
def execPmbusPoll (s : State) : Host.Outcome State Fault Refusal :=
  act (fun s =>
    if !reqModes.contains (mode s) || s.pwr.fwStop || (s.pwr.pmbusAt.map (fun n => decide (curTick s < n + 1200))).getD false then s
    else
      (List.range 18).foldl (fun s i => emitOut s (.pmbus (0x40 + i / 3) ([0x8b, 0x8c, 0x79].getD (i % 3) 0)))
        (setPwr s { s.pwr with pmbusAt := some (curTick s) })) s

/-- FIRMWARE_STOP (R514): firmware stops and ALERT_N is asserted; hardware runs on. -/
def execFirmwareStop (s : State) : Host.Outcome State Fault Refusal :=
  act (fun s => if domOn s 2 then alertSet (setPwr s { s.pwr with fwStop := true }) 2 true else s) s

end Sys2Proof.Machine
end

