-- ==== Sys2Proof/Machine/Hif.lean ====
section
/-! DEFINITION. The host interface at work: enabling functions and rings, polling, fetching descriptors and carrying them out in
order, stalls, interrupts, function reset, and the generic commands (R82 to R117). Log entries: 8, 12, 13, 14, 90. -/

namespace Sys2Proof.Machine

/-! ## Rings (R84, R88, R109) -/

/-- The ring numbers that exist (R82). -/
def ringExists (q : Nat) : Bool := decide (q < 34) || (decide (64 ≤ q) && decide (q < 128))

/-- A ring stops on error (R88, R94): HIF_RING_STATE 3, HIF_RING_ERR, HIF_ST_RING_ERR, EV_GEN_RING_ERR. -/
def ringErr (s : State) (f q err : Nat) : State :=
  let s := setBit (setFld (setFld s (HIF_RING_STATE f q) 3) (HIF_RING_ERR f q) err) (HIF_ST_RING_ERR f)
  raise s f EV_GEN_RING_ERR (BitVec.ofNat 16 q) (BitVec.ofNat 32 err) (ringOf s f q).devIdx 0 0

/-- What a device-filled ring held back is written while it has space (R96, R99); a stall it caused ends with the last entry
(R106). -/
def ringServe (s : State) (f q : Nat) : State :=
  let s := if q = 32 then drainEvts s f 34 else drainCpls s f q ((fnOf s f).heldCpls.length)
  let r := ringOf s f q
  let waits := if q = 32 then !(fnOf s f).heldEvts.isEmpty || (fnOf s f).lostFirst.isSome
    else (fnOf s f).heldCpls.any (fun c => c.1 = q)
  if waits || !r.stalled then s
  else
    let s := setRing s f q { r with stalled := false, held := 0 }
    let s := if (fnOf s f).rings.any (fun x => x.2.stalled) then s else setFld s (HIF_ST_STALL f) 0
    if f = 0 then s else raise s 0 EV_GEN_HOST_STALL (BitVec.ofNat 16 f) (BitVec.ofNat 32 q) 0 0 0

/-- A 1 written to HIF_RING_EN (R84, R109): from 0, the ring starts at index 0; discarded while the ring drains. -/
def ringEnable (s : State) (f q : Nat) : State :=
  if bit s (HIF_RING_EN f q) || fld s (HIF_RING_STATE f q) = 2 then s
  else
    let s := setFld (setFld (setFld s (HIF_RING_EN f q) 1) (HIF_RING_STATE f q) 1) (HIF_RING_ERR f q) 0
    let s := setRing s f q { stalled := (ringOf s f q).stalled }
    let s := setFn s f { fnOf s f with fetch := (fnOf s f).fetch.filter (fun p => p.1 ≠ q) }
    if 64 ≤ q then setMedia s (mediaKey f (q - 64)) { mediaOf s (mediaKey f (q - 64)) with ents := [] }
    else if 16 ≤ q ∧ q < 33 then ringServe s f q
    else s

/-- A 0 written to HIF_RING_EN (R109): a command ring drains; a completion ring that an enabled command ring targets stays. -/
def ringDisable (s : State) (f q : Nat) : State :=
  if !bit s (HIF_RING_EN f q) then s
  else if q < 16 then setFld (setFld s (HIF_RING_EN f q) 0) (HIF_RING_STATE f q) 2
  else if q < 32 ∧ (List.range 16).any (fun c => bit s (HIF_RING_EN f c) && 16 + fld s (HIF_RING_CPL f c) = q) then s
  else
    let s := setFld (setFld s (HIF_RING_EN f q) 0) (HIF_RING_STATE f q) 0
    if 64 ≤ q then setMedia s (mediaKey f (q - 64)) { mediaOf s (mediaKey f (q - 64)) with ents := [] } else s

def ringWrite (s : State) (f q : Nat) (en : Bool) : State := if en then ringEnable s f q else ringDisable s f q

/-- HIF_RING_EN (R84, R109). -/
def execHifRingEn (f : BitVec 6) (q : BitVec 7) (en : Bool) (s : State) : Host.Outcome State Fault Refusal :=
  act (fun s => if ringExists q.toNat && answers s 0x110000 then ringWrite s f.toNat q.toNat en else s) s

/-- RING_DRAIN_DONE (R109): the commands fetched before the clear have completed. -/
def execRingDrainDone (f : BitVec 6) (q : BitVec 7) (s : State) : Host.Outcome State Fault Refusal :=
  act (fun s =>
    let mine (h : CmdHdr) : Bool := h.fn = f && h.ring.toNat = q.toNat
    if 16 ≤ q.toNat ∨ fld s (HIF_RING_STATE f.toNat q.toNat) ≠ 2 ∨ s.hif.waiting.any (fun w => mine w.h)
        ∨ s.hif.running.any mine ∨ (fnOf s f.toNat).heldCpls.any (fun c => mine c.2.h) then s
    else setFld s (HIF_RING_STATE f.toNat q.toNat) 0) s

/-! ## Function enable and reset (R109 to R111) -/

/-- A virtual function exists (R111); function 0 always does. -/
def fnExists (s : State) (f : Nat) : Bool := f = 0 || (s.hif.vfEn && decide (f ≤ s.hif.numVfs))

/-- A write to HIF_FN_EN (R109, R111): taken up at the next poll, or held while the function is being reset. -/
def fnEnWrite (s : State) (f : Nat) (en : Bool) : State :=
  let s := setFld s (HIF_FN_EN f) (if en then 1 else 0)
  if resetting s f then setFld s (HIF_FN_STATE f) (if en then 3 else 2) else s

/-- HIF_FN_EN (R109). -/
def execHifFnEn (f : BitVec 6) (en : Bool) (s : State) : Host.Outcome State Fault Refusal :=
  act (fun s => if answers s 0x110000 then fnEnWrite s f.toNat en else s) s

/-- A function reset starts, or joins the one in progress (R110): unstarted commands are discarded, nothing more is written to
the function's host memory, and what it owns is released with the effect tick of R35. -/
def fnReset (s : State) (f cause : Nat) : State :=
  if resetting s f then s
  else
    let e := effTick s
    let s := releaseAll s (some f)
    let s := (s.aud.media.filter (fun m => m.1 / 64 = f && m.2.point.isSome)).foldl (fun s m => stage s e (.mediaUnbind m.1)) s
    let s := { s with
      hif := { s.hif with
        waiting := s.hif.waiting.filter (fun w => w.h.fn.toNat ≠ f), reads := s.hif.reads.filter (fun r => r.1 ≠ f) }
      net := { s.net with egress := s.net.egress.filter (fun x => ¬(x.kind = 3 ∧ x.handle = f)), hpa := tdel s.net.hpa f } }
    let s := setFld (setFld s (NET_HPA_EN f) 0) (NET_HPA_STATE f) 0
    let s := setFn s f { reset := some cause, resetEnd := e }
    setFld s (HIF_FN_STATE f) 2

/-- FUNCTION_LEVEL_RESET (R110): of function 0, every function is reset. It leaves MSI-X off, as PCI Express defines. -/
def execFunctionLevelReset (f : BitVec 6) (s : State) : Host.Outcome State Fault Refusal :=
  act (fun s =>
    let flr (s : State) (g : Nat) : State :=
      fnReset { s with hif := { s.hif with msixCtl := tdel s.hif.msixCtl g } } g 0
    if !ctlOn s then s
    else if f = 0 then (List.range 64).foldl flr s
    else if fnExists s f.toNat then flr s f.toNat else s) s

/-- VF Enable is cleared (R110): every virtual function is reset. -/
def vfClear (s : State) : State :=
  if !s.hif.vfEn then s
  else
    let n := s.hif.numVfs
    let s := (List.range 63).foldl (fun s g => if g < n then fnReset s (g + 1) 3 else s) s
    { s with hif := { s.hif with vfEn := false } }

/-- VF_ENABLE_CLEAR (R110). -/
def execVfEnableClear (s : State) : Host.Outcome State Fault Refusal :=
  act (fun s => if ctlOn s then vfClear s else s) s

/-- HIF_FN_RESET (R110): a 1 is written. -/
def execHifFnReset (f : BitVec 6) (s : State) : Host.Outcome State Fault Refusal :=
  act (fun s => if answers s 0x110000 then fnReset s f.toNat 1 else s) s

/-- The registers of function `f`'s page at their reset values. -/
def pageReset (s : State) (f : Nat) : State :=
  { s with
    regs := s.regs.filter (fun r => ¬(0x110000 + 0x1000 * f ≤ r.1 ∧ r.1 < 0x111000 + 0x1000 * f))
    hif := { s.hif with msix := s.hif.msix.filter (fun r => r.1 / 0x1000 ≠ f) } }

/-- FN_RESET_COMPLETE (R110, R111): everything is released; the page and the MSI-X table are at their reset values and the
function is DISABLED, or ACTIVE when an enable was held. -/
def execFnResetComplete (f : BitVec 6) (s : State) : Host.Outcome State Fault Refusal :=
  act (fun s =>
    let g := f.toNat
    let x := fnOf s g
    if !resetting s g || s.pwr.fwStop || decide (curTick s < x.resetEnd) || s.hif.running.any (fun h => h.fn = f) then s
    else
      let held := fld s (HIF_FN_STATE g) = 3
      let s := keyResetFn s g
      let s := { s with
        brs := { s.brs with progs := s.brs.progs.filter (fun p => p.2.owner ≠ g) }
        cnv := { s.cnv with plates := s.cnv.plates.filter (fun p => p.2.owner ≠ g) }
        aud := { s.aud with media := s.aud.media.filter (fun m => m.1 / 64 ≠ g) } }
      let s := setFld (pageReset s g) (NET_HPA_DROP_CNT g) 0
      let s := setFn s g {}
      let s := if held then setFld (setFld s (HIF_FN_EN g) 1) (HIF_FN_STATE g) 1 else s
      let s := if g = 0 then s
        else raise s 0 EV_GEN_FN_RESET (BitVec.ofNat 16 g) (BitVec.ofNat 32 (x.reset.getD 0)) 0 0 0
      x.resetCmds.foldl (fun s h => complete s h OP_GEN_VF_RESET ST_OK []) s) s

/-! ## Generic commands (R100, R115) -/

/-- GEN_NOP (R115). -/
def execGenNop (h : CmdHdr) (s : State) : Host.Outcome State Fault Refusal :=
  act (command h OP_GEN_NOP {} (fun s => (s, ok))) s

/-- GEN_FN_INFO (R115). -/
def execGenFnInfo (h : CmdHdr) (s : State) : Host.Outcome State Fault Refusal :=
  act (command h OP_GEN_FN_INFO {} (fun s =>
    (s, ok [BitVec.ofNat 32 (h.fn.toNat * 65536 + fld s HIF_HOST_SERVICE_TICKS * 256 + fld s HIF_DB_POLL_RATE),
      BitVec.ofNat 32 (s.adm.legs.filter (fun p => p.2.item.owner = h.fn.toNat)).length]))) s

/-- GEN_EVENT_MASK (R100). -/
def execGenEventMask (h : CmdHdr) (enable : Bool) (code : BitVec 16) (s : State) : Host.Outcome State Fault Refusal :=
  act (command h OP_GEN_EVENT_MASK { reserved := !eventCodes.contains code } (fun s =>
    let f := h.fn.toNat
    let x := fnOf s f
    if unmaskable code then (s, if enable then ok else no GEN_ST_NOT_PERMITTED)
    else if enable then (setFn s f { x with masked := x.masked.filter (· ≠ code) }, ok)
    else if x.masked.contains code then (s, ok)
    else (setFn s f { x with masked := x.masked ++ [code] }, ok))) s

/-- GEN_VF_RESET (R111): completes when the reset has finished. -/
def execGenVfReset (h : CmdHdr) (f : BitVec 6) (s : State) : Host.Outcome State Fault Refusal :=
  act (commandLong h OP_GEN_VF_RESET { fn0 := true, reserved := f = 0 } (fun s =>
    let g := f.toNat
    if !fnExists s g then (s, some (no GEN_ST_FN_UNKNOWN))
    else
      let s := fnReset s g 2
      let x := fnOf s g
      (setFn s g { x with resetCmds := x.resetCmds ++ [h] }, none))) s

/-! ## Carrying out fetched commands (R94 to R97) -/

/-- The meaning of a command as a change of state, with what it sends out after what the step has already sent. -/
def meant (s : State) (o : Host.Outcome State Fault Refusal) : State :=
  match o with
  | .next t => { t with out := s.out ++ t.out }
  | _ => s

/-- The meaning of the command that a descriptor spells. -/
def runCmd (s : State) (i : Instr) : State :=
  meant s <| match i with
  | .genNop h => execGenNop h s
  | .genFnInfo h => execGenFnInfo h s
  | .genEventMask h enable code => execGenEventMask h enable code s
  | .genVfReset h f => execGenVfReset h f s
  | .admConfOpen h conf audPmax vidPmax hops => execAdmConfOpen h conf audPmax vidPmax hops s
  | .admConfClose h conf => execAdmConfClose h conf s
  | .admLegAdmit h conf leg addr dma => execAdmLegAdmit h conf leg addr dma s
  | .admLegModify h conf leg addr dma => execAdmLegModify h conf leg addr dma s
  | .admLegRelease h leg => execAdmLegRelease h leg s
  | .admLegStats h clr hd => execAdmLegStats h clr hd s
  | .admFnBudgetSet h f r v => execAdmFnBudgetSet h f r v s
  | .admLayoutAdmit h id conf w ht per codec cprof depth => execAdmLayoutAdmit h id conf w ht per codec cprof depth s
  | .admLayoutRelease h id => execAdmLayoutRelease h id s
  | .netStreamBind h hd addr dma => execNetStreamBind h hd addr dma s
  | .netStreamUnbind h hd => execNetStreamUnbind h hd s
  | .netPortStats h clr p u addr => execNetPortStats h clr p u addr s
  | .netJbSet h reanchor hd run => execNetJbSet h reanchor hd run s
  | .netQueueFlush h hd => execNetQueueFlush h hd s
  | .fwdSubSet h id src dst ssrc tsOfs seqStart ptEn ptOut ddIn ddOut fmIn fmOut pause kpFir prio capS capT => execFwdSubSet h id src dst ssrc tsOfs seqStart ptEn ptOut ddIn ddOut fmIn fmOut pause kpFir prio capS capT s
  | .fwdSubClear h id => execFwdSubClear h id s
  | .fwdSubCap h id pause kpFir prio capS capT => execFwdSubCap h id pause kpFir prio capS capT s
  | .fwdEstRead h leg => execFwdEstRead h leg s
  | .fwdKeyPicReq h i hd => execFwdKeyPicReq h i hd s
  | .fwdPaceSet h emode leg line init max => execFwdPaceSet h emode leg line init max s
  | .keyKekInfo h addr => execKeyKekInfo h addr s
  | .kekAgree h addr dma => execKekAgree h addr dma s
  | .keyImport h suite slot addr dma => execKeyImport h suite slot addr dma s
  | .keyDerive h master sess => execKeyDerive h master sess s
  | .keyErase h slot => execKeyErase h slot s
  | .cipBind h keep clear rplW dir hd slot txRoc txSeq roc0 roc1 roc2 roc3 tcpIdx => execCipBind h keep clear rplW dir hd slot txRoc txSeq roc0 roc1 roc2 roc3 tcpIdx s
  | .cipUnbind h dir hd => execCipUnbind h dir hd s
  | .cipStats h clr i dir hd addr => execCipStats h clr i dir hd addr s
  | .audRouteSet h leg contrib listen minus force dtx xf c0 c1 c2 c3 l0 l1 l2 l3 => execAudRouteSet h leg contrib listen minus force dtx xf c0 c1 c2 c3 l0 l1 l2 l3 s
  | .audBusSetting h bus conf n => execAudBusSetting h bus conf n s
  | .audRouteClear h leg xf => execAudRouteClear h leg xf s
  | .audSinkDyn h compEn limEn leg thr ratio att rel makeup ceil limRel => execAudSinkDyn h compEn limEn leg thr ratio att rel makeup ceil limRel s
  | .audTonePlay h onBus replace bus id tone rep onT offT f1 f2 l1 l2 => execAudTonePlay h onBus replace bus id tone rep onT offT f1 f2 l1 l2 s
  | .audToneStop h onBus bus id => execAudToneStop h onBus bus id s
  | .audLevels h clr leg => execAudLevels h clr leg s
  | .audMediaBind h m point id bus gain => execAudMediaBind h m point id bus gain s
  | .audMediaUnbind h m => execAudMediaUnbind h m s
  | .brsProgLoad h prog addr dma bad => execBrsProgLoad h prog addr dma bad s
  | .brsProgUnload h prog => execBrsProgUnload h prog s
  | .brsTaskBind h prog pt leg p0 p1 p2 p3 => execBrsTaskBind h prog pt leg p0 p1 p2 p3 s
  | .brsTaskUnbind h pt leg => execBrsTaskUnbind h pt leg s
  | .brsStats h clr pt leg => execBrsStats h clr pt leg s
  | .vidDecOpen h kpFir opS opT holds dpb hd => execVidDecOpen h kpFir opS opT holds dpb hd s
  | .vidDecClose h ctx => execVidDecClose h ctx s
  | .vidEncOpen h own id topW topH sl tl ext pt keyInt tsOfs => execVidEncOpen h own id topW topH sl tl ext pt keyInt tsOfs s
  | .vidEncClose h ctx => execVidEncClose h ctx s
  | .vidEncRate h ctx kbps cap pct mult => execVidEncRate h ctx kbps cap pct mult s
  | .vidKeyPic h ctx => execVidKeyPic h ctx s
  | .vidMediaBind h point m ctx w ht => execVidMediaBind h point m ctx w ht s
  | .vidMediaUnbind h m => execVidMediaUnbind h m s
  | .vidStats h clr enc ctx addr => execVidStats h clr enc ctx addr s
  | .cnvLayoutSet h layout mtx full bgY bgCb bgCr => execCnvLayoutSet h layout mtx full bgY bgCb bgCr s
  | .cnvLayerSet h kind hideDmg selfHide group layer layout src x y w ht cx cy cw ch alpha fence => execCnvLayerSet h kind hideDmg selfHide group layer layout src x y w ht cx cy cw ch alpha fence s
  | .cnvLayerClear h group layer layout => execCnvLayerClear h group layer layout s
  | .cnvGroupFlip h group layout => execCnvGroupFlip h group layout s
  | .cnvVarnishLoad h plate w ht mtx full count addr dma imgs => execCnvVarnishLoad h plate w ht mtx full count addr dma imgs s
  | .cnvVarnishDrop h plate => execCnvVarnishDrop h plate s
  | .ptpStep h newEpoch set v n => execPtpStep h newEpoch set v n s
  | .ptpRate h synced r => execPtpRate h synced r s
  | .ptpServoCfg h en src ports domain dest prio stepNs lockCnt lockNs => execPtpServoCfg h en src ports domain dest prio stepNs lockCnt lockNs s
  | .ptpStatus h => execPtpStatus h s
  | .mshPortCfg h m en width tree exp wake node => execMshPortCfg h m en width tree exp wake node s
  | .mshRouteSet h node m => execMshRouteSet h node m s
  | .mshStreamExport h hd relay dst remove => execMshStreamExport h hd relay dst remove s
  | .mshStreamImport h hd relay valid s0 s1 s2 s3 remove => execMshStreamImport h hd relay valid s0 s1 s2 s3 remove s
  | .mshTraceSet h id => execMshTraceSet h id s
  | .mshApsCmd h m req lane => execMshApsCmd h m req lane s
  | .mshPeerStatus h m => execMshPeerStatus h m s
  | .mshWakeSend h mask => execMshWakeSend h mask s
  | .memSweep h repair t => execMemSweep h repair t s
  | .memSoftRepair h t m row => execMemSoftRepair h t m row s
  | .softRepairClearAll h t m row => execSoftRepairClearAll h t m row s
  | .memSpareStatus h => execMemSpareStatus h s
  | .memErrLog h clr addr => execMemErrLog h clr addr s
  | .calGlazeLoad h clear addr dma => execCalGlazeLoad h clear addr dma s
  | .calGlazeRead h sel addr => execCalGlazeRead h sel addr s
  | .calLiveRead h cls first count addr => execCalLiveRead h cls first count addr s
  | .calGessoRead h cls idx addr => execCalGessoRead h cls idx addr s
  | .pwrModeReqRun h => execPwrModeReqRun h s
  | .pwrModeReqDrain h => execPwrModeReqDrain h s
  | .pwrModeReqDoze h => execPwrModeReqDoze h s
  | .pwrModeReqSleep h => execPwrModeReqSleep h s
  | .pwrResidency h clr addr => execPwrResidency h clr addr s
  | .pwrSilHoldSet h v => execPwrSilHoldSet h v s
  | .pwrThermal h => execPwrThermal h s
  | _ => .next s

/-- A command of the admission range (R47). -/
def Waiting.admits (w : Waiting) : Bool := decide (w.opcode.toNat / 256 = 2)

/-- A fetched command may start (R95, R96): no earlier command of its ring is unfinished, no completion of its ring is held
back, and with FENCE no earlier command of its function is unfinished; one of the admission range follows every one fetched before it, of
whichever function (R47). `before` are the commands fetched before it that still wait. -/
def mayStart (s : State) (before : List Waiting) (w : Waiting) : Bool :=
  let sameRing (h : CmdHdr) : Bool := h.fn = w.h.fn && h.ring = w.h.ring
  let held := (fnOf s w.h.fn.toNat).heldCpls
  !before.any (fun b => sameRing b.h || (b.admits && w.admits)) && !s.hif.running.any sameRing
    && !held.any (fun c => c.1 = cplRing s w.h)
    && (!w.fence || (!before.any (fun b => b.h.fn = w.h.fn) && !s.hif.running.any (fun h => h.fn = w.h.fn) && held.isEmpty))

/-- The first fetched command that may start, with those before and after it. -/
def nextCmd (s : State) (before : List Waiting) : List Waiting → Option (List Waiting × Waiting)
  | [] => none
  | w :: r => if mayStart s before w then some (before ++ r, w) else nextCmd s (before ++ [w]) r

/-- Carry out fetched commands in the order they were fetched, as far as they may start (R95, R96); none while firmware has
stopped (R514). `n` bounds the count. -/
def pump (s : State) (n : Nat) : State :=
  match n with
  | 0 => s
  | k + 1 =>
    if s.pwr.fwStop then s
    else
      match nextCmd s [] s.hif.waiting with
      | none => s
      | some (rest, w) =>
        let s := { s with hif := { s.hif with waiting := rest } }
        match w.early, w.cmd with
        | some st, _ => pump (complete s w.h w.opcode st []) k
        | none, some i => pump (runCmd s i) k
        | none, none => pump s k

def pumpAll (s : State) : State := pump s s.hif.waiting.length

/-- Whether descriptors and doorbell lines are read in this mode: the Easel issues ticks (R90, R112), and firmware runs. -/
def fetches (s : State) : Bool := s.easel.running && !s.pwr.fwStop

/-- The command ring of function `f` that is fetched from next (R95): what an earlier poll told of comes first, and within a poll the lower
ring. -/
def fetchNext (s : State) (f : Nat) : Option Nat :=
  ((fnOf s f).fetch.find? (fun p => fld s (HIF_RING_STATE f p.1) = 1)).map (·.1)

/-- Ring `q` has been fetched from, up to index `i`. -/
def fetched (s : State) (f q : Nat) (i : BitVec 32) : State :=
  setFn s f { fnOf s f with fetch := (fnOf s f).fetch.erase (q, i) }

/-- DESCRIPTOR_FETCH (R94, R95): the next descriptor of command ring `q` of function `f` reaches the device, or its read failed. -/
def execDescriptorFetch (f : BitVec 6) (q : BitVec 4) (words : Option (List Word)) (dma : Dma) (bad : Option (BitVec 16))
    (imgs : Option (List ImgData)) (s : State) : Host.Outcome State Fault Refusal :=
  act (fun s =>
    let g := f.toNat
    let k := q.toNat
    let r := ringOf s g k
    if !fetches s || resetting s g || fetchNext s g ≠ some k then pumpAll s
    else
      match words with
      | none => ringErr (dmaErr s g) g k 2
      | some ws =>
        let h : CmdHdr := ⟨f, q, r.devIdx, BitVec.ofNat 16 (bitsOf (ws.getD 0 0) 15 0), bitsOf (ws.getD 1 0) 30 30 = 1⟩
        let s := fetched (setRing s g k { r with devIdx := r.devIdx + 1 }) g k (r.devIdx + 1)
        pumpAll { s with hif := { s.hif with waiting := s.hif.waiting ++ [descWaiting h ws ⟨dma, bad, imgs⟩] } }) s

/-! ## Polling (R88 to R91) -/

/-- The rings of doorbell line `l`, by word (R89). -/
def lineRings (l : Nat) : List Nat :=
  match l with
  | 0 => List.range 16
  | 1 => (List.range 16).map (16 + ·)
  | 2 => [32, 33]
  | _ => if l < 7 then (List.range 16).map (fun w => 64 + 16 * (l - 3) + w) else []

/-- The instant of poll `j`, in ns after the tick's start (R90). -/
def pollOfs (s : State) (j : Nat) : Nat := j * 833333 / 2 ^ fld s HIF_DB_POLL_RATE

/-- HIF_FN_EN is taken up at a poll (R109). -/
def fnPoll (s : State) (f : Nat) : State :=
  let st := fld s (HIF_FN_STATE f)
  if st = 0 ∧ bit s (HIF_FN_EN f) then setFld s (HIF_FN_STATE f) 1
  else if st = 1 ∧ !bit s (HIF_FN_EN f) then setFld s (HIF_FN_STATE f) 0
  else s

/-- The lines a poll reads for function `f`: those with the index of an enabled ring. -/
def pollLines (s : State) (f : Nat) : List (Nat × Nat) :=
  if fld s (HIF_FN_STATE f) = 1 then
    ((List.range 7).filter (fun l => (lineRings l).any (fun q => bit s (HIF_RING_EN f q)))).map (fun l => (f, l))
  else []

/-- DOORBELL_POLL (R90): the tick's next poll instant. EV_PWR_WAKE follows the first poll after the link is up (R450). -/
def execDoorbellPoll (s : State) : Host.Outcome State Fault Refusal :=
  act (fun s =>
    let j := s.hif.poll
    if !fetches s || !s.easel.issued || 2 ^ fld s HIF_DB_POLL_RATE ≤ j then s
    else
      let s := advanceTo s (s.easel.start + pollOfs s j)
      let s := if s.hif.pcieUp then wakeReport s else s
      let s := (List.range 64).foldl fnPoll s
      let s := { s with hif := { s.hif with
        poll := j + 1, reads := s.hif.reads ++ ((List.range 64).map (pollLines s)).flatten } }
      pumpAll s) s

/-- A new host index of ring `q` is checked and taken (R88); `media` are the entries posted on a media ring. -/
def takeIndex (s : State) (f q : Nat) (v : BitVec 32) (media : List (List Word × List Word)) : State :=
  let r := ringOf s f q
  if fld s (HIF_RING_STATE f q) ≠ 1 then s
  else
    let hostFilled := q < 16 || 64 ≤ q
    let c := if q < 16 then r.done else r.devIdx
    if !hostIdxValid hostFilled v r.hostIdx c (ringSize s f q) then ringErr s f q 1
    else
      let s := setRing s f q { r with hostIdx := v }
      if q < 16 then (if v = r.hostIdx then s else setFn s f { fnOf s f with fetch := (fnOf s f).fetch ++ [(q, v)] })
      else if 64 ≤ q then
        mediaPost s (mediaKey f (q - 64)) r.hostIdx
          ((List.range (v - r.hostIdx).toNat).map (fun i => media.getD i ([], [])))
      else if 16 ≤ q ∧ q < 33 then ringServe s f q
      else s

/-- DOORBELL_LINE_READ (R88, R90): a read that a poll issued returns the line's 16 words, or fails. `media` are the entries, with
their buffers, that new indices of the line's media rings cover. -/
def execDoorbellLineRead (f : BitVec 6) (line : BitVec 3) (words : Option (List Word))
    (media : List (BitVec 6 × List (List Word × List Word))) (s : State) : Host.Outcome State Fault Refusal :=
  act (fun s =>
    let g := f.toNat
    let l := line.toNat
    if !s.hif.reads.contains (g, l) || resetting s g || !fetches s then s
    else
      let s := { s with hif := { s.hif with reads := s.hif.reads.erase (g, l) } }
      match words with
      | none => dmaErr s g
      | some ws =>
        let qs := lineRings l
        pumpAll ((List.range qs.length).foldl (fun s i =>
          let q := qs.getD i 0
          takeIndex s g q (ws.getD i 0) (((media.find? (fun m => m.1.toNat + 64 = q)).map (·.2)).getD [])) s)) s

/-! ## Stalls and interrupts (R106 to R108) -/

/-- Whether ring `q` holds an entry back. -/
def holdsBack (s : State) (f q : Nat) : Bool :=
  if q = 32 then !(fnOf s f).heldEvts.isEmpty || (fnOf s f).lostFirst.isSome else (fnOf s f).heldCpls.any (fun c => c.1 = q)

/-- At a tick start, the completion and event rings that hold an entry back while enabled count one more (R106). -/
def stallCount (s : State) : State :=
  s.hif.fns.foldl (fun s p =>
    (List.range 17).foldl (fun s i =>
      let q := 16 + i
      let r := ringOf s p.1 q
      let n := if holdsBack s p.1 q && bit s (HIF_RING_EN p.1 q) then r.held + 1 else 0
      if n = r.held then s else setRing s p.1 q { r with held := n }) s) s

/-- HOST_STALL (R106): ring `q` has held an entry back for more than HIF_HOST_SERVICE_TICKS tick starts. -/
def execHostStall (f : BitVec 6) (q : BitVec 7) (s : State) : Host.Outcome State Fault Refusal :=
  act (fun s =>
    let g := f.toNat
    let k := q.toNat
    let r := ringOf s g k
    if k < 16 ∨ 32 < k ∨ r.stalled ∨ r.held ≤ fld s HIF_HOST_SERVICE_TICKS ∨ resetting s g then s
    else
      let s := setRing s g k { r with stalled := true }
      let s := sendErrVec (setBit (setFld s (HIF_ST_STALL g) 1) (HIF_ST_STALLED g)) g
      if g = 0 then s else raise s 0 EV_GEN_HOST_STALL (BitVec.ofNat 16 g) (BitVec.ofNat 32 (2 ^ 31 + k)) 0 0 0) s

/-- MODERATION_POINT (R108): HIF_FN_IRQ_OFS after the tick's start, pending vectors whose MOD_TICKS divide the tick number send. -/
def execModerationPoint (f : BitVec 6) (s : State) : Host.Outcome State Fault Refusal :=
  act (fun s =>
    let g := f.toNat
    let n := curTick s
    if !s.easel.running || !s.easel.issued || (fnOf s g).modAt = some n then s
    else
      let s := advanceTo s (s.easel.start + fld s (HIF_FN_IRQ_OFS g))
      let s := setFn s g { fnOf s g with modAt := some n }
      (List.range 32).foldl (fun s v =>
        let m := fld s (HIF_VEC_MOD_TICKS g v)
        if m ≠ 0 ∧ n % m = 0 ∧ (vecOf s g v).pending then sendMsi s g v else s) s) s

end Sys2Proof.Machine
end

