-- ==== Sys2Proof/Machine/Agenda.lean ====
section
/-! DEFINITION. Staged changes take effect: at the start of their tick (R35) or at the end of their EMIT (R65).
Log entries: 16, 36. -/

namespace Sys2Proof.Machine

/-! ## What a change belongs to -/

/-- The leg a staged change is about: its LEG_ID does not outlive it (R65). -/
def Change.legOf : Change → Option Nat
  | .legApply l _ _ _ => some l
  | .pace l _ _ _ _ => some l
  | .sinkDyn l _ => some l
  | .netBind hd => some (hd / 4)
  | .netUnbind hd => some (hd / 4)
  | .netGone hd => some (hd / 4)
  | .jbReanchor hd => some (hd / 4)
  | .jbLate hd _ => some (hd / 4)
  | .cipRx hd _ _ _ _ => some (hd / 4)
  | .cipTx hd _ _ _ _ _ => some (hd / 4)
  | .cipUnbind hd _ => some (hd / 4)
  | .brsStart k => some (k / 4)
  | .brsStop k => some (k / 4)
  | .brsGone k => some (k / 4)
  | .tonePlay t _ => if t < 65536 then some t else none
  | .toneStop t => if t < 65536 then some t else none
  | _ => none

/-- The subscription a staged change is about. -/
def Change.subOf : Change → Option Nat
  | .subStart i => some i
  | .subStop i => some i
  | .subGone i => some i
  | .subCap i _ _ _ _ _ => some i
  | .subTarget i _ => some i
  | _ => none

/-- The context a staged change is about. -/
def Change.ctxOf : Change → Option (Bool × Nat)
  | .vidStart e k => some (e, k)
  | .vidStop e k => some (e, k)
  | .vidGone e k => some (e, k)
  | .encRate k _ => some (true, k)
  | _ => none

/-- Drop the staged changes that satisfy `p`: what they are about is gone. -/
def agendaDrop (s : State) (p : Change → Bool) : State := { s with agenda := s.agenda.filter (fun a => !p a.ch) }

/-! ## Items that end -/

/-- A subscription's SUB_ID is free, and nothing staged for it stays (R153). -/
def subFree (s : State) (id : Nat) : State := agendaDrop (subGoneApply s id) (fun c => c.subOf = some id)

/-- A context's memory and engine room return. -/
def ctxFree (s : State) (enc : Bool) (k : Nat) : State := agendaDrop (vidGoneApply s enc k) (fun c => c.ctxOf = some (enc, k))

/-- A stream is no longer exported to the cascade (R378). -/
def exportsEnd (s : State) (hd : Nat) : State :=
  { s with msh := { s.msh with exports := s.msh.exports.filter (fun p => p.2.hd ≠ hd) } }

/-- A stream is no longer imported from the cascade. -/
def importsEnd (s : State) (hd : Nat) : State :=
  { s with msh := { s.msh with imports := s.msh.imports.filter (fun p => p.2 ≠ hd) } }

/-- The effect tick of a stream's unbinding (R134, R193, R378). -/
def streamStop (s : State) (hd : Nat) : State := exportsEnd (netUnbindApply s hd) hd

/-- The end of EMIT(E − 1) of a stream's unbinding. -/
def streamGone (s : State) (hd : Nat) : State := importsEnd (netGoneApply (vidFlush s hd) hd) hd

/-- A subscription of a released leg or of an unbound stream stops (R153). -/
def subEnd (s : State) (id : Nat) : State :=
  let s := { s with fwd := { s.fwd with subs := tmod s.fwd.subs id (fun x => { x with gone := true, byRel := true }) } }
  let s := agendaDrop (subStopApply s id) (fun c => c.subOf = some id)
  stageEnd s (curTick s - 1) (.subGone id)

/-- The contexts of a leg whose profile changes to `prof`: a decode context's charge, an own encode's charge and period (R281, R283, R293),
and the limits of every encode that the leg starts or stops receiving (R295, R303). `old`: its profile until now. -/
def ctxsInForce (s : State) (leg : Nat) (old : Option Profile) (prof : Profile) : State :=
  let dec (p : Nat × DecCtx) : Nat × DecCtx :=
    let r := prof.rec' (p.2.hd % 4)
    if p.2.hd / 4 = leg then (p.1, { p.2 with px := cdiv (r.rxW * r.rxH) r.pRx }) else p
  let r := prof.rec' 1
  let enc (p : Nat × EncCtx) : Nat × EncCtx :=
    if p.2.own ∧ p.2.item = leg then (p.1, { p.2 with px := cdiv (r.txW * r.txH) r.pTx, period := r.pTx }) else p
  let s := { s with vid := { s.vid with dec := s.vid.dec.map dec, enc := s.vid.enc.map enc } }
  s.vid.enc.foldl (fun s p =>
    if old.any (receives p.2 leg) = receives p.2 leg prof then s else encLimits s p.1) s

/-- A leg's profile comes into force (R63, R64): its jobs, its policing with full buckets (R69), its queues' limits (R134), what its
contexts and the encodes it receives take from it, and on admission its estimate (R163). -/
def legInForce (s : State) (leg : Nat) (prof : Profile) (jobs : List Job) (first : Bool) : State :=
  let old := (tget s.adm.legs leg).bind (·.live)
  let s := { s with adm := { s.adm with
    legs := tmod s.adm.legs leg (fun l => { l with live := some prof, liveJobs := jobs }) } }
  let s := ctxsInForce s leg old prof
  let s := [0, 1, 2].foldl (fun s i =>
    let hd := 4 * leg + i
    let r := prof.rec' i
    let s := if r.rxEn then policeFill s hd else s
    { s with net := { s.net with bound := tmod s.net.bound hd (fun b =>
      { b with limit := rxLimit r }) } }) s
  if first then estStart s leg else s

/-- A released leg's work stops (R65): its streams, its subscriptions in both directions, its audio, its contexts and its program
instances. -/
def legEnd (s : State) (leg : Nat) : State :=
  let s := [0, 1, 2].foldl (fun s i => streamStop s (4 * leg + i)) s
  let s := s.fwd.subs.foldl (fun s p => if p.2.src / 4 = leg ∨ p.2.dst / 4 = leg then subEnd s p.1 else s) s
  let s := audStop s leg
  let s := (legCtxs s leg).foldl (fun s p => vidStopApply s p.1 p.2) s
  let s := [0, 1, 2, 3].foldl (fun s i => brsStopApply s (4 * leg + i)) s
  let old := (tget s.adm.legs leg).bind (·.live)
  let s := { s with adm := { s.adm with legs := tmod s.adm.legs leg (fun l => { l with live := none, liveJobs := [] }) } }
  s.vid.enc.foldl (fun s p => if old.any (receives p.2 leg) then encLimits s p.1 else s) s

/-- A released leg's charges leave the map and its LEG_ID is free (R65). -/
def legFree (s : State) (leg : Nat) : State :=
  let s := [0, 1, 2].foldl (fun s i => streamGone s (4 * leg + i)) s
  let s := (legCtxs s leg).foldl (fun s p => ctxFree s p.1 p.2) s
  let s := [0, 1, 2, 3].foldl (fun s i => brsGoneApply s (4 * leg + i)) s
  let s := { s with
    adm := { s.adm with
      legs := tdel s.adm.legs leg, police := s.adm.police.filter (fun p => p.1 / 4 ≠ leg) }
    fwd := { s.fwd with ests := tdel s.fwd.ests leg }
    cip := { s.cip with cnt := s.cip.cnt.filter (fun p => p.1 / 8 ≠ leg) }
    vid := { s.vid with drops := tdel s.vid.drops leg } }
  agendaDrop s (fun c => c.legOf = some leg)

/-- A released layout's work stops. -/
def layoutEnd (s : State) (id : Nat) : State :=
  let s := { s with adm := { s.adm with layouts := tmod s.adm.layouts id (fun l => { l with live := false }) } }
  (layoutCtxs s id).foldl (fun s p => vidStopApply s p.1 p.2) s

/-- A released layout's charges leave the map (R65). -/
def layoutFree (s : State) (id : Nat) : State :=
  let s := (layoutCtxs s id).foldl (fun s p => ctxFree s p.1 p.2) s
  cnvLayoutGone { s with adm := { s.adm with layouts := tdel s.adm.layouts id } } id

/-- What plays and is bound on the buses of a closed conference ends with it: tones, ramped out (R229), and media (log entry 36). -/
def busesEnd (s : State) (c : Nat) : State :=
  let s := [0, 1, 2, 3].foldl (fun s b => endingDrop (toneEnd s (busTgt c b) 0) (busTgt c b)) s
  (mediaAt s (fun p => match p with
    | .audio 0 i _ _ => i = c
    | _ => false)).foldl mediaUnbindApply s

/-- A closed conference's audio state ends, unless the CONF_ID was opened again (R48, R376). -/
def confFree (s : State) (c : Nat) : State :=
  let s := busesEnd s c
  match (tget s.aud.confs c).bind (·.closeAt) with
  | some e =>
    if e ≤ curTick s then
      agendaDrop { s with aud := { s.aud with confs := tdel s.aud.confs c } } (fun ch => match ch with
        | .mixN d _ _ => d = c
        | _ => false)
    else s
  | none => s

/-- A share comes into force; what a later command staged for it stays the one that sums count (R74). -/
def shareApply (s : State) (f r v : Nat) : State :=
  let later := s.agenda.any (fun a => match a.ch with
    | .share g q _ => g = f && q = r
    | _ => false)
  setFld (if later then s else { s with adm := { s.adm with shareNext := tdel s.adm.shareNext (16 * f + r) } })
    (ADM_FN_BUDGET_CUR f r) v

/-! ## One change -/

/-- A staged change takes effect. -/
def applyChange (s : State) : Change → State
  | .legApply leg prof jobs first => legInForce s leg prof jobs first
  | .legStop leg => legEnd s leg
  | .legGone leg => legFree s leg
  | .layoutApply id =>
    { s with adm := { s.adm with layouts := tmod s.adm.layouts id (fun l => { l with live := true }) } }
  | .layoutStop id => layoutEnd s id
  | .layoutGone id => layoutFree s id
  | .share f r v => shareApply s f r v
  | .netBind hd => audBound (netBindApply s hd) hd
  | .netUnbind hd => streamStop s hd
  | .netGone hd => streamGone s hd
  | .jbReanchor hd => jbReanchorApply s hd
  | .jbLate hd n => jbLateApply s hd n
  | .subStart id => subStartApply s id
  | .subStop id => subStopApply s id
  | .subGone id => subFree s id
  | .subCap id pause kpFir prio capS capT => subCapApply s id pause kpFir prio capS capT
  | .subTarget id tgt => subTargetApply s id tgt 0
  | .pace leg emode line init max => paceApply s leg emode line init max
  | .keyErase slot => keyEraseApply s slot
  | .keyUnit slot => keyUnitApply s slot
  | .cipRx hd slot w keep rocs => cipRxApply s hd slot w keep rocs
  | .cipTx hd slot keep roc seq tcp => cipTxApply s hd slot keep roc seq tcp
  | .cipUnbind hd send => cipUnbindApply s hd send
  | .confGone c => confFree s c
  | .mixN c b n => setAudConf s c { audConf s c with mixN := (audConf s c).mixN.set b n }
  | .sinkDyn leg d => if thas s.aud.legs leg then setAudLeg s leg { audLeg s leg with dyn := d } else s
  | .tonePlay tgt t => tonePlayApply s tgt t
  | .toneStop tgt => toneEnd s tgt 1
  | .mediaBind k => mediaBindApply s k
  | .mediaUnbind k => mediaUnbindApply s k
  | .brsStart k => brsStartApply s k
  | .brsStop k => brsStopApply s k
  | .brsGone k => brsGoneApply s k
  | .vidStart enc k => vidStartApply s enc k
  | .vidStop enc k => vidStopApply s enc k
  | .vidGone enc k => ctxFree s enc k
  | .encRate k r => encRateApply s k r
  | .plateDrop k => plateDropApply s k
  | .mshPort m c => mshPortApply s m c
  | .mshRoute node m => { s with msh := { s.msh with routes := tset s.msh.routes node m } }
  | .mshExport r =>
    { s with msh := { s.msh with exports := tmod s.msh.exports r (fun x => { x with live := true }) } }
  | .mshExportEnd r => { s with msh := { s.msh with exports := tdel s.msh.exports r } }
  | .mshTrace id => mshTraceApply s id
  | .mshAps m req lane => mshApsApply s m req lane
  | .pwrMode m cause => pwrModeApply s m cause
  | .silHold v => silHoldApply s v

/-- A profile that comes into force: it precedes what else takes effect in its tick. -/
def Change.starts : Change → Bool
  | .legApply .. => true
  | _ => false

/-- The changes due at the start of tick `n` take effect, in the order they were staged, profiles first (R35). -/
def agendaStart (s : State) (n : Nat) : State :=
  let due := s.agenda.filter (fun a => !a.emitEnd && decide (a.tick ≤ n))
  let s := { s with agenda := s.agenda.filter (fun a => a.emitEnd || decide (n < a.tick)) }
  let go (s : State) (a : Staged) : State := applyChange s a.ch
  (due.filter (fun a => !a.ch.starts)).foldl go ((due.filter (fun a => a.ch.starts)).foldl go s)

/-- The changes due when EMIT(`n`) ends take effect (R65). -/
def agendaEnd (s : State) (n : Nat) : State :=
  let due := s.agenda.filter (fun a => a.emitEnd && decide (a.tick ≤ n))
  let s := { s with agenda := s.agenda.filter (fun a => !a.emitEnd || decide (n < a.tick)) }
  due.foldl (fun s a => applyChange s a.ch) s

end Sys2Proof.Machine
end

