-- ==== Sys2Proof/Machine/Easel.lean ====
section
/-! DEFINITION. The Easel's tick (R21 to R43): GATHER with the release of the jitter buffers (R138, R143), WORK, EMIT with the frames
of host software (R131), the latch point, and TICK_OUT. A phase whose own command has not come is carried out by the next one of
the tick sequence. Log entries: 4, 17, 18, 24, 28, 105. -/

namespace Sys2Proof.Machine

/-! ## Ticks that a forward step skipped (R26) -/

/-- Whether tick `t` lies in the skipped ranges. -/
def inSkipped (rs : List (Nat × Nat)) (t : Nat) : Bool := rs.any (fun r => decide (r.1 ≤ t) && decide (t < r.1 + r.2))

/-- A leg's audio across `k` skipped ticks: decoded samples of those ticks are gone, and its sink gave the replacement of an abandoned
mix (R40). -/
def audSkip (s : State) (k leg : Nat) : State :=
  let l := audLeg s leg
  let r := audRec s leg
  let keep := max 1 r.pTx
  let gap := (List.range (min k keep)).map (fun i => if i = 0 ∧ l.lastOut ≠ 0 then fadeOut l.lastOut else silence)
  let outs := l.outs ++ gap
  let l := { l with pcm := l.pcm.drop (40 * k) }
  setAudLeg s leg (if r.txEn then { l with outs := outs.drop (outs.length - keep), lastOut := 0 } else l)

/-- What skipped ticks leave undone is replaced, without a count as overrun (R26). -/
def skipWork (s : State) : State :=
  let rs := s.easel.skipped
  if rs = [] then s
  else
    let k := rs.foldl (fun a r => a + r.2) 0
    let s := s.aud.legs.foldl (fun s p => audSkip s k p.1) s
    let s := s.vid.dec.foldl (fun s p => decSkip k s p.1 p.2) s
    s.vid.enc.foldl (fun s p => ctxSkip (inSkipped rs) (curTick s) s p.1 p.2) s

/-! ## Release from the jitter buffers (R138, R143) -/

/-- A popped item with a corrected word, or with an uncorrectable one, which is lost (R143). -/
def spillErr (s : State) (hd : Nat) (ue : Bool) : State :=
  if !ue then setBit (bump s SPQ_CE_CNT 1) SPQ_ST_CE
  else
    let q := Config.queueId hd (((tget s.net.bound hd).map (·.order)).getD 0)
    let s := setFld (setBit (bump s SPQ_UE_CNT 1) SPQ_ST_UE) SPQ_UE_QUEUE q.toNat
    match tget s.net.bound hd with
    | some b =>
      let n := b.ueSince + 1
      if (b.ueLast.map (fun t => decide (curTick s < t + 1200))).getD false then setBound s hd { b with ueSince := n }
      else
        raise (setBound s hd { b with ueSince := 0, ueLast := some (curTick s) }) 0 EV_SPQ_UE q (sat32 n) 0 0 0
    | none => s

/-- A released packet reaches the forwarding engine and, as audio to decode, the leg's decoder. -/
def releaseItem (s : State) (hd : Nat) (p : Pkt) : State :=
  let s := fwdRelease s hd p
  if hd % 4 = 0 ∧ (liveRec s hd).rxDec ∧ thas s.aud.legs (hd / 4) then
    let l := audLeg s (hd / 4)
    setAudLeg s (hd / 4) { l with pend := l.pend ++ [p.pay] }
  else s

/-- GATHER of tick N for one stream: items of skipped ticks are discarded, every item of tick N is popped. `errs` names items by
their place among those of tick N, with whether the error was uncorrectable; a `slow` stream's release does not finish, and its
packets are lost. A stream unbound from this tick on still releases its items of this tick: its queue is flushed at the end of EMIT of the
tick before (R134). -/
def releaseStream (errs : List (BitVec 16 × BitVec 16 × Bool)) (slow : List (BitVec 16)) (s : State) (q : Nat × Bound) : State :=
  let hd := q.1
  let b := q.2
  if !b.live && b.q.isEmpty then s
  else
    let n := curTick s
    let rest := b.q.dropWhile (fun p => decide (p.tick < n))
    let items := rest.takeWhile (fun p => p.tick = n)
    let mine := errs.filter (fun e => e.1.toNat = hd && decide (e.2.1.toNat < items.length))
    let lost := hd % 4 = 0 && (liveRec s hd).rxDec && decide (rest.length < b.q.length)
    let s := setBound s hd { b with q := rest.drop items.length }
    let s := if lost ∧ thas s.aud.legs (hd / 4) then setAudLeg s (hd / 4) { audLeg s (hd / 4) with decLost := true } else s
    let s := mine.foldl (fun s e => spillErr s hd e.2.2) (countAccepted s hd items.length)
    if slow.any (fun x => x.toNat = hd) && !items.isEmpty then
      { s with easel := { s.easel with slow := s.easel.slow ++ [hd] } }
    else
      let s := (List.range items.length).foldl (fun s i =>
        match items[i]? with
        | some p => if itemPop p (mine.any (fun e => e.2.1.toNat = i && e.2.2)) = .uncorrectable then s else releaseItem s hd p
        | none => s) s
      if hd % 4 = 0 then s else vidRelease s hd (srcOf s hd).rel

/-! ## Phases -/

/-- GATHER ends: a release not finished is an overrun (R39, R138). -/
def gatherEnd (s : State) : State :=
  if !s.easel.gather then s
  else
    let s := advanceTo s (s.easel.start + 83333)
    let sl := s.easel.slow
    let s := { s with easel := { s.easel with gather := false, slow := [] } }
    sl.foldl (fun s hd =>
      let s := overrun s hd 0 9
      if hd % 4 = 0 ∧ thas s.aud.legs (hd / 4) then setAudLeg s (hd / 4) { audLeg s (hd / 4) with decLost := true } else s) s

/-- WORK(N) opens (R29): contributors are selected (R219), partials that have not come are missing (R239), and gated groups count
their residency (R453). -/
def workOpen (s : State) : State :=
  if !s.easel.issued || s.easel.worked then s
  else
    let s := advanceTo (gatherEnd s) (s.easel.start + 83333)
    let s := { s with easel := { s.easel with work := true, worked := true } }
    let s := peersOpen (selectAll s) (curTick s)
    let gated := (List.range 16).filter (groupGated s)
    setPwr s { s.pwr with resid := gated.foldl (fun t g => tset t (16 + g) ((tget t (16 + g)).getD 0 + 1)) s.pwr.resid }

/-- WORK ends: unfinished work is abandoned and replaced (R39, R40), and groups may be gated (R234). -/
def workEnd (s : State) : State :=
  if !s.easel.work then s
  else
    let s := advanceTo s (s.easel.start + 708333)
    let s := cnvEnd (encEnd (decEnd (audioEnd (brushEnd s))))
    groupsGate { s with easel := { s.easel with work := false } }

/-- EMIT ends: admitted packets not launched are overruns, RTCP the device meant to send is not sent, host frames wait (R39, R131,
R162); charges of released items leave (R65); a thermal shutdown that waited for them follows (R461). -/
def emitEnd (s : State) : State :=
  match s.easel.emit with
  | none => s
  | some n =>
    let s := toEmitEnd s
    let late := s.net.egress.filter (fun e => e.kind ≤ 1)
    let s := { s with
      net := { s.net with egress := s.net.egress.filter (fun e => 3 ≤ e.kind) }
      easel := { s.easel with emit := none, emitEndCyc := none } }
    let s := late.foldl (fun s e => overrun s e.handle 2 8) s
    let s := agendaEnd (partialEnd s n) n
    if (s.pwr.shutAt.map (fun m => decide (m ≤ n))).getD false then thermalShutdown s 4 else s

/-! ## Frames of host software (R131, R132) -/

/-- Transmit slot `i` of function `f`, whose bytes are `b`: the frame waits for an opportunity, or is discarded with its PHASE written
(R131). -/
def hostFrame (s : State) (f i : Nat) (b : List Byte) : State :=
  let ws := bytesWords b
  let w (k : Nat) : Word := ws.getD k 0
  let len := bitsOf (w 0) 31 16
  let p := bitsOf (w 0) 15 14
  let u := bitsOf (w 0) 13 12
  let reserved := bitsOf (w 0) 11 0 ≠ 0 || bitsOf (w 1) 31 1 ≠ 0 || w 2 ≠ 0 || bitsOf (w 3) 30 16 ≠ 0
    || [4, 5, 6, 7].any (fun k => w k ≠ 0)
  if reserved || decide (len < 60) || decide (2016 < len) || !subportOk s p u then hpaSent s f i (w 3).toNat
  else if !linkUp s p u then hpaSent (stat s p u TX_LINK_DOWN 1) f i (w 3).toNat
  else
    let frame := (b.drop 32 ++ zeros len).take len
    schedule' s { port := p, sub := u, launch := ns s, leg := 16384, ord := i, kind := 3, handle := f, bytes := frame
                  seq := (w 3).toNat, prot := if bitsOf (w 1) 0 0 = 1 then some (bitsOf (w 3) 15 0) else none }

/-- The frames of function `f` that this EMIT takes: at most NET_HPA_TICK_MAX with those still waiting (R132). -/
def hostFrames (s : State) (f : Nat) : State :=
  let x := hpaOf s f
  let waits := (s.net.egress.filter (fun e => e.kind = 3 && e.handle = f)).length
  let n := min x.slots.length (fld s (NET_HPA_TICK_MAX f) - waits)
  let i0 := x.txHost - BitVec.ofNat 32 x.slots.length
  let s := setHpa s f { x with slots := x.slots.drop n }
  (List.range n).foldl (fun s i => hostFrame s f (i0 + BitVec.ofNat 32 i).toNat (x.slots.getD i [])) s

/-! ## EMIT opens -/

/-- The packets of one leg in this EMIT, paced from `t` (R171, R172). -/
def emitLeg (s : State) (t leg : Nat) : State :=
  let (s, a) := ownAudio s leg
  let (s, v) := ownVideo s leg
  let (s, w) := forwardLeg s leg ((v.getLast?.map (fun e => e.ord + 1)).getD 1)
  (paceLeg s leg t (a ++ v ++ w)).foldl schedule' s

/-- EMIT(N) opens (R29): the packets of every leg with their launch times, key-picture requests (R169), sender reports (R162),
partials of cascade conferences (R376), and host frames. -/
def emitOpen (s : State) : State :=
  if !s.easel.issued || s.easel.emitted then s
  else
    let s := workEnd (emitEnd (workOpen s))
    let t := s.easel.start + 708333
    let s := advanceTo s t
    let n := curTick s
    let s := { s with easel := { s.easel with
      emit := some n, emitted := true, emitEndCyc := none } }
    let s := s.adm.legs.foldl (fun s p => emitLeg s t p.1) s
    let s := kpSendAll s s.fwd.kps
    let s := relaySr s s.fwd.srs
    let s := partialSend s n
    s.net.hpa.foldl (fun s p =>
      if bit s (NET_HPA_EN p.1) && fld s (NET_HPA_STATE p.1) ≠ 3 then hostFrames s p.1 else s) s

/-! ## A tick starts -/

/-- The Easel's time line for tick N, and where the next tick starts: by R22 on the hardware clock, or N's length after it while the
line follows the markers (R24). -/
def nextTick (s : State) : State :=
  let e := s.easel
  let n := e.next
  let d : Nat := if e.follow then 8 * (e.due + tickLen n) + e.dueFrac else 8 * tickStartNs (n + 1)
  { s with
    easel := { e with
      issued := true, now := n, start := e.due, startFrac := e.dueFrac, startCyc := s.clk.cyc, next := n + 1, due := d / 8
      dueFrac := d % 8, gather := true, work := false, worked := false, emitted := false, slow := [], latched := false
      holding := false, ovrSeen := [] }
    net := { s.net with rxFrames := 0, hpa := s.net.hpa.map (fun p => (p.1, { p.2 with rxTick := 0 })) }
    fwd := { s.fwd with srcs := s.fwd.srcs.map (fun p => (p.1, { p.2 with rel := [] })) }
    cip := { s.cip with retries := 0 }
    hif := { s.hif with poll := 0 } }

/-- Pad groups whose release was written become DRIVEN (R456). -/
def padsRelease (s : State) : State :=
  let r := s.pwr.rel
  let s := if r.testBit 0 then setFld s PAD_ST_TIME 2 else s
  let s := if r.testBit 1 then setFld s PAD_ST_GPIO 2 else s
  setPwr s { s.pwr with rel := 0 }

/-- The tick counts in its mode (R459). -/
def modeCount (s : State) : State :=
  let m := mode s
  setPwr s { s.pwr with resid := tset s.pwr.resid m ((tget s.pwr.resid m).getD 0 + 1) }

/-- An uncorrectable word of firmware's own data (R513); firmware that has stopped does nothing about one (R514). -/
def fwData (s : State) (d : FwData) : State :=
  let e := effTick s
  if s.pwr.fwStop then s
  else match d with
  | .copyOk => s
  | .leg id =>
    match tget s.adm.legs id.toNat with
    | some l => if l.item.releasing then s else legRelease s id.toNat e
    | none => s
  | .layout id =>
    match tget s.adm.layouts id.toNat with
    | some l => if l.item.releasing then s else layoutRelease s id.toNat e
    | none => s
  | .dec ctx =>
    match tget s.vid.dec ctx.toNat with
    | some x => if x.gone then s else vidClose s false ctx.toNat e
    | none => s
  | .enc ctx =>
    match tget s.vid.enc ctx.toNat with
    | some x => if x.gone then s else vidClose s true ctx.toNat e
    | none => s
  | .other => degrade s true

/-- TICK_START's whole effect. A step or a new time line that is due takes effect first (R26); no tick starts from a SLEEP request's
effect tick on (R28). -/
def tickStart (errs : List (BitVec 16 × BitVec 16 × Bool)) (slow : List (BitVec 16)) (hits : List EccHit) (fw : List FwData)
    (s : State) : State :=
  if !s.easel.running || tickStopped s.easel then s
  else
    let s := boundaryMoves (emitOpen s)
    if tickStopped s.easel then s
    else
      let s := nextTick (tsDrain (advanceTo s s.easel.due))
      let s := padsRelease (stallCount s)
      let s := modeCount (agendaStart s (curTick s))
      let s := skipWork s
      let s := s.net.bound.foldl (releaseStream errs slow) s
      let s := { s with easel := { s.easel with skipped := [] } }
      let s := vidInject (quietAll (routesApply s))
      let s := groupsWake (if s.pwr.fwStop then s else encStartAll s)
      fw.foldl fwData (eccHits s hits)

/-! ## TICK_OUT (R42, R43) -/

/-- Whether TIK_OUT_MODE selects tick `n`. -/
def outSelects (s : State) (n : Nat) : Bool := fld s TIK_OUT_MODE ≠ 2 || n % 1200 = 0

/-- The width in ns of the pulse of tick `n`. -/
def outWidth (s : State) (n : Nat) : Nat :=
  fld s TIK_OUT_WIDTH * 8 * (if fld s TIK_OUT_MODE = 1 ∧ n % 1200 = 0 then 2 else 1)

/-- The pulse of tick `n`, which starts at `start`, rises at clock time `t`; at the ball only while pad group TIME is DRIVEN (R456). -/
def outPulse (s : State) (n start t : Nat) : State :=
  if n < s.easel.outDone || decide (start < s.easel.outFirst) || !outSelects s n then s
  else
    let s := advanceTo s t
    let s := { s with easel := { s.easel with outDone := n + 1 } }
    let w := outWidth s n
    if fld s PAD_ST_TIME = 2 then
      emitOut { s with easel := { s.easel with outFall := some (localNs s + w) } } (.tickOut n w)
    else s

/-- TICK_OUT_PULSE's effect: the pulse of the tick in progress where it rises at its start and has not come yet, else that of the next
tick. A staged step or a new time line decides which tick is next, and none rises before B of one that leads into a hold. -/
def tickOutPulse (s : State) : State :=
  let e := s.easel
  let adv := fld s TIK_OUT_ADV
  if !bit s TIK_OUT_EN || !e.running || (e.holding && adv ≠ 0) then s
  else if e.issued && decide (e.outDone ≤ e.now) && decide (ns s + adv ≤ e.start + 4) && outSelects s e.now
      && decide (e.outFirst ≤ e.start) then outPulse s e.now e.start (e.start - adv)
  else
    let (x, t) := nextStart s
    let moved := (stepDue s).isSome || decide (x.next ≠ e.next) || decide (t ≠ e.due)
    if tickStopped x || (moved && (x.holding || decide (adv < t - boundaryAt s))) then s else outPulse s x.next t (t - adv)

/-! ## Meanings -/

/-- TICK_START (R22, R26, R35, R138). -/
def execTickStart (errs : List (BitVec 16 × BitVec 16 × Bool)) (slow : List (BitVec 16)) (hits : List EccHit) (fw : List FwData)
    (s : State) : Host.Outcome State Fault Refusal := act (tickStart errs slow hits fw) s

/-- WORK_OPEN (R29). -/
def execWorkOpen (s : State) : Host.Outcome State Fault Refusal := act workOpen s

/-- EMIT_OPEN (R29). -/
def execEmitOpen (s : State) : Host.Outcome State Fault Refusal := act emitOpen s

/-- PHASE_END (R39): of GATHER (0), WORK (1) or EMIT (2). -/
def execPhaseEnd (phase : BitVec 2) (s : State) : Host.Outcome State Fault Refusal :=
  act (fun s =>
    match phase.toNat with
    | 0 => gatherEnd s
    | 1 => workEnd s
    | 2 => emitEnd s
    | _ => s) s

/-- LATCH_POINT (R35): 750,000 ns into the tick, what is staged later takes effect one tick later. -/
def execLatchPoint (s : State) : Host.Outcome State Fault Refusal :=
  act (fun s =>
    if !s.easel.running || !s.easel.issued || s.easel.latched then s
    else
      let s := advanceTo s (s.easel.start + 750000)
      { s with easel := { s.easel with latched := true } }) s

/-- TICK_OUT_PULSE (R42, R43). -/
def execTickOutPulse (s : State) : Host.Outcome State Fault Refusal := act tickOutPulse s

end Sys2Proof.Machine
end

