-- ==== Sys2Proof/Machine/Jtag.lean ====
section
/-! DEFINITION. The JTAG port (R483): the controller of IEEE 1149.1, the device's instructions, and what its balls are driven to.
Log entries: 74, 92, 93. -/

namespace Sys2Proof.Machine

/-- IDCODE: version, part, manufacturer identity, and 1. -/
def idCode : BitVec 32 := 0x19416dcb

/-- The controller's next state, by TMS at a rising edge of TCK. -/
def TapState.next (t : TapState) (tms : Bool) : TapState :=
  match t, tms with
  | .reset, true => .reset
  | .reset, false => .idle
  | .idle, true => .selDr
  | .idle, false => .idle
  | .selDr, true => .selIr
  | .selDr, false => .capDr
  | .capDr, true => .ex1Dr
  | .capDr, false => .shDr
  | .shDr, true => .ex1Dr
  | .shDr, false => .shDr
  | .ex1Dr, true => .updDr
  | .ex1Dr, false => .pauseDr
  | .pauseDr, true => .ex2Dr
  | .pauseDr, false => .pauseDr
  | .ex2Dr, true => .updDr
  | .ex2Dr, false => .shDr
  | .updDr, true => .selDr
  | .updDr, false => .idle
  | .selIr, true => .reset
  | .selIr, false => .capIr
  | .capIr, true => .ex1Ir
  | .capIr, false => .shIr
  | .shIr, true => .ex1Ir
  | .shIr, false => .shIr
  | .ex1Ir, true => .updIr
  | .ex1Ir, false => .pauseIr
  | .pauseIr, true => .ex2Ir
  | .pauseIr, false => .pauseIr
  | .ex2Ir, true => .updIr
  | .ex2Ir, false => .shIr
  | .updIr, true => .selDr
  | .updIr, false => .idle

/-- The instruction a code selects: all ones are BYPASS (IEEE 1149.1); the other codes are not in the spec. -/
def tapDecode (code : List Bool) : TapInstr :=
  if code.all id then .bypass
  else
    match Config.tapCode code with
    | 1 => .idcode
    | 2 => .sample
    | 3 => .extest
    | 4 => .clamp
    | 5 => .highz
    | 6 => .pulse
    | 7 => .train
    | _ => .bypass

/-- The instruction connects the boundary register. -/
def TapInstr.onBoundary : TapInstr → Bool
  | .sample => true
  | .extest => true
  | .pulse => true
  | .train => true
  | _ => false

/-- The levels at the GPIO pads: what the device drives where group GPIO is DRIVEN and a pad is an output, what is latched where it is
HELD (R455), else the board's. -/
def gpioLevels (s : State) : Nat :=
  (List.range 16).foldl (fun a i =>
    let level :=
      if fld s PAD_ST_GPIO = 2 && (fld s PAD_GPIO_DIR).testBit i then (fld s PAD_GPIO_OUT).testBit i
      else if fld s PAD_ST_GPIO = 1 && s.pwr.gpioHeld.1.testBit i then s.pwr.gpioHeld.2.testBit i
      else Config.gpioIn i s.clk.cyc
    a + (if level then 2 ^ i else 0)) 0

/-- The level of the ball that cell `j` of the boundary register observes: what the device drives there, as far as a rule says it (R42,
R348, R440, R449, R455, R461), else the board's. -/
def ballLevel (s : State) (j : Nat) : Bool :=
  let b := Config.ballName j
  let pulse (fall : Option Nat) : Bool :=
    if fld s PAD_ST_TIME = 0 then Config.ballIn j s.clk.cyc
    else fld s PAD_ST_TIME = 2 && fall.any (fun t => decide (localNs s < t))
  if b < 6 then s.pwr.rails.testBit b
  else if b = 6 then s.pwr.alert = 0
  else if b = 7 then !s.pwr.wakeN
  else if b < 24 then (gpioLevels s).testBit (b - 8)
  else if b = 24 then pulse s.easel.outFall
  else if b = 25 then pulse s.ptp.ppsFall
  else Config.ballIn j s.clk.cyc

/-- What the data register captures: IDCODE, the balls, or the one bit of the bypass register, a 0. -/
def tapCapture (s : State) : List Bool :=
  match s.jtag.ir with
  | .idcode => (List.range 32).map (fun i => idCode.getLsbD i)
  | i => if i.onBoundary then (List.range Config.boundaryLen).map (ballLevel s) else [false]

/-- The cell of the boundary register drives no ball: its ball is of the AON class (R483), or an input. -/
def observeOnly (j : Nat) : Bool := Config.ballAon j || Config.ballInput j

/-- What the balls are driven to by the port: none, all high-impedance, or each from its cell; none for a cell that only observes. On a
lane, EXTEST_PULSE and EXTEST_TRAIN may invert it. -/
def ballsDriven (s : State) : Option (List (Option Bool)) :=
  let cells (inv : Bool) := (List.range Config.boundaryLen).map (fun j =>
    if observeOnly j then none else some ((s.jtag.bound.getD j (Config.boundary0 j)) ^^ (inv && Config.ballLane j)))
  match s.jtag.ir with
  | .highz => some ((List.range Config.boundaryLen).map (fun _ => none))
  | .clamp => some (cells false)
  | .extest => some (cells false)
  | .pulse => some (cells s.jtag.inv)
  | .train => some (cells s.jtag.inv)
  | _ => none

def setJtag (s : State) (j : Jtag) : State := { s with jtag := j }

/-- What the controller does at a rising edge of TCK in the state it is in: it captures or shifts. -/
def tapAct (s : State) (tdi : Bool) : State :=
  let j := s.jtag
  match j.st with
  | .capIr => setJtag s { j with sh := [true, false] ++ List.replicate (Config.tapIrLen - 2) false }
  | .capDr => setJtag s { j with sh := tapCapture s }
  | .shIr => emitOut (setJtag s { j with sh := j.sh.tail ++ [tdi] }) (.tdo (j.sh.headD false))
  | .shDr => emitOut (setJtag s { j with sh := j.sh.tail ++ [tdi] }) (.tdo (j.sh.headD false))
  | _ => s

/-- What the controller does at the falling edge of TCK in the state it has come to: it updates, and it inverts the lanes in
Run-Test/Idle, with EXTEST_PULSE as long as it stays there and with EXTEST_TRAIN at each TCK (IEEE 1149.6). -/
def tapFall (j : Jtag) : Jtag :=
  match j.st with
  | .reset => { j with ir := .idcode, inv := false }
  | .updIr => { j with ir := tapDecode j.sh, inv := false }
  | .updDr => if j.ir.onBoundary then { j with bound := j.sh, inv := false } else { j with inv := false }
  | .idle =>
    { j with inv := match j.ir with
                    | .pulse => true
                    | .train => !j.inv
                    | _ => false }
  | _ => { j with inv := false }

/-- One cycle of JTAG_TCK, its rising and its falling edge, with JTAG_TMS and JTAG_TDI, or JTAG_TRST_N low (R483). The port lies in the CTL
domain (R469). -/
def jtagEdge (s : State) (tms tdi trst : Bool) : State :=
  if !ctlOn s then s
  else
    let t :=
      if trst then setJtag s { s.jtag with st := .reset, ir := .idcode, inv := false }
      else
        let t := tapAct s tdi
        setJtag t (tapFall { t.jtag with st := t.jtag.st.next tms })
    if ballsDriven t = ballsDriven s then t else emitOut t (.balls (ballsDriven t))

end Sys2Proof.Machine
end

