-- ==== Sys2Proof/Machine/Registers.lean ====
section
/-! DEFINITION. Accesses to the registers (R79, R80, R492 to R501, R522): what a write does beside the word it leaves, what a read returns,
the latching reads, and the writes that clear counters. Log entries: 6, 7, 8, 9, 10, 58, 82, 89, 91, 92. -/

namespace Sys2Proof.Machine

/-! ## What a read returns -/

/-- The tick in progress, with its length, as TIK_POS tells it: segment (R30) and ns since its start; 0 while none is. -/
def tikPos (s : State) : Nat :=
  let n := s.easel.now
  let d := ns s - s.easel.start
  if !s.easel.issued || !s.easel.running || s.easel.holding || !s.clk.running || decide (tickLen n ≤ d) then 0
  else (if d < 83333 then 1 else if d < 375000 then 2 else if d < 708333 then 3 else 4) * 2 ^ 20 + d

/-- The register at `a` when its value is not stored but follows from the rest of the state: counts of what is open, peak uses
(R78), the time and the tick (R336, R44), and what the factory or the board gives. -/
def liveReg (s : State) (a : Nat) : Option Word :=
  let n32 (x : Nat) : Option Word := some (BitVec.ofNat 32 x)
  if a = SYS_GRADE.addr then some (setBits (reg s a) 7 4 (if Config.gradeE then 1 else 0))
  else if a = SYS_SERIAL_LO.addr then some (Config.serial.setWidth 32)
  else if a = TIK_NOW_LO.addr then n32 (curTick s)
  else if a = TIK_OVR_LAST_LO.addr then some (s.easel.ovrLast.setWidth 32)
  else if a = PTP_TIME_NS.addr then n32 (ns s % 1000000000)
  else if a = PTP_SLEEP_CNT_LO.addr then n32 s.pwr.sleepC
  else if a = ADM_LEG_CNT.addr then n32 (s.adm.legs.filter (fun l => !l.2.item.releasing)).length
  else if a = ADM_CONF_CNT.addr then n32 s.adm.confs.length
  else if a = FWD_SUB_CNT.addr then n32 s.fwd.subs.length
  else if a = KEY_SLOT_CNT.addr then n32 s.key.slots.length
  else if a = BRS_STORE_FREE.addr then n32 (storeFree s)
  else if a = BRS_STUDIO_FREE.addr then n32 (studioFree s)
  else if a = BRS_PROG_CNT.addr then n32 s.brs.progs.length
  else if a = BRS_TASK_CNT.addr then n32 s.brs.insts.length
  else if a = VID_POOL_FREE.addr then n32 (poolLeft s)
  else if a = VID_DEC_OPEN_CNT.addr then n32 (s.vid.enc.length * 2 ^ 16 + s.vid.dec.length)
  else if a = CNV_VARNISH_FREE.addr then n32 (varnishFree s)
  else if a = CNV_PLATE_CNT.addr then n32 s.cnv.plates.length
  else if a = SPQ_POOL_FREE.addr then n32 (if bit s SYS_LOCKED then poolFree s else 0)
  else if a = PAD_GPIO_IN.addr then n32 (gpioLevels s)
  else if 0x302400 ≤ a ∧ a < 0x303400 ∧ a % 4 = 0 then n32 (fnPeak s ((a - 0x302400) / 64) ((a - 0x302400) / 4 % 16))
  else if 0x303400 ≤ a ∧ a < 0x303440 ∧ a % 4 = 0 then n32 (devPeak s ((a - 0x303400) / 4))
  else none

/-- HIF_RING_STAT shows the ring's device index and its pass phase beside the fields stored (R85). -/
def ringStat (s : State) (f q : Nat) (w : Word) : Word :=
  let i := (ringOf s f q).devIdx
  setBits (setBits w 16 16 (passPhase i (ringSize s f q))) 15 0 i.toNat

/-- The ring whose registers hold offset `a` of the function pages, with the register's place among them. -/
def ringReg (a : Nat) : Option (Nat × Nat × Nat) :=
  let o := (a - 0x110000) % 0x1000
  if 0x110000 ≤ a ∧ a < 0x150000 ∧ 0x100 ≤ o ∧ o < 0x900 then
    some ((a - 0x110000) / 0x1000, (o - 0x100) / 16, o % 16)
  else none

/-- What a 4-byte read at BAR0 offset `a` returns (R493, R495, R496): 0 where nothing answers. -/
def regRead (s : State) (a : Nat) : Word :=
  if !answers s a then 0
  else
    match regAt a, liveReg s a, ringReg a with
    | none, _, _ => 0
    | some _, some w, _ => w
    | some r, none, some (f, q, 12) => ringStat s f q (r.readMask (reg s a))
    | some r, none, _ => r.readMask (reg s a)

/-! ## Latching reads (R522) -/

/-- The registers that a read of the LO register at `a` latches, with the copies it takes. -/
def latched (s : State) (a : Nat) : List (Nat × Nat) :=
  if a = TIK_NOW_LO.addr then [(TIK_NOW_HI.addr, curTick s / 2 ^ 32), (TIK_SEG.addr, tikPos s)]
  else if a = TIK_OVR_LAST_LO.addr then [(TIK_OVR_LAST_HI.addr, s.easel.ovrLast.toNat / 2 ^ 32)]
  else if a = PTP_TIME_NS.addr then
    [(PTP_TIME_SL.addr, ns s / 1000000000), (PTP_TIME_SH.addr, ns s / 1000000000 / 2 ^ 32 % 2 ^ 16)]
  else if a = PTP_SLEEP_CNT_LO.addr then [(PTP_SLEEP_CNT_HI.addr, s.pwr.sleepC / 2 ^ 32)]
  else if a = SYS_SERIAL_LO.addr then [(SYS_SERIAL_HI.addr, Config.serial.toNat / 2 ^ 32)]
  else []

/-- A 4-byte read at BAR0 offset `a` (R493): what it latches, the status it sets at an unmapped offset, and what it returns. -/
def readAt (s : State) (a : Nat) : State × Word :=
  if answers s a && (regAt a).isNone then (setBit s SYS_ST_UNMAPPED, 0)
  else if answers s a then ((latched s a).foldl (fun s p => setReg s p.1 (BitVec.ofNat 32 p.2)) s, regRead s a)
  else (s, 0)

/-- What a read returned stands in `rdata`. -/
def setRdata (s : State) (d : BitVec 64) : State := { s with hif := { s.hif with rdata := d } }

/-- A read of the LO register at `a`, of 4 bytes, or of 8 bytes with the register after it (R493). -/
def latchRead (s : State) (a : Nat) (wide : Bool) : State :=
  let lo := readAt s a
  let hi := if wide then readAt lo.1 (a + 4) else (lo.1, 0)
  setRdata hi.1 (hi.2 ++ lo.2)

/-! ## Clearing counters (R498) -/

/-- The clear bits that stand for one counter each. -/
def clears : List (Field × Field) := [
  (TIK_CLR_HOLD, TIK_HOLD_CNT), (TIK_CLR_SKIP, TIK_SKIP_CNT), (TIK_CLR_EMIT, TIK_OVR_EMIT_CNT),
  (TIK_CLR_WORK, TIK_OVR_WORK_CNT), (TIK_CLR_GATHER, TIK_OVR_GATHER_CNT), (SPQ_CLR_UE, SPQ_UE_CNT),
  (SPQ_CLR_CE, SPQ_CE_CNT), (FWD_CLR_KP, FWD_KP_SENT_CNT), (FWD_CLR_STALE, FWD_DROP_STALE_CNT),
  (FWD_CLR_LIMIT, FWD_DROP_LIMIT_CNT), (CIP_CLR_RETRY, CIP_RETRY_DROP_CNT), (CIP_CLR_REFUSE, CIP_REFUSE_CNT),
  (CIP_CLR_REPLAY, CIP_REPLAY_CNT), (CIP_CLR_AUTH, CIP_AUTH_FAIL_CNT), (KEY_CLR_UNWRAP, KEY_UNWRAP_FAIL_CNT),
  (AUD_CLR_PART, AUD_PART_MISS_CNT), (AUD_CLR_SAT, AUD_BUS_SAT_CNT), (AUD_CLR_CLIP, AUD_CLIP_CNT),
  (BRS_CLR_FAULT, BRS_FAULT_CNT), (VID_CLR_BOUND, VID_BOUND_CNT), (VID_CLR_DROP, VID_TX_DROP_CNT),
  (VID_CLR_MIN, VID_ENC_MIN_CNT), (VID_CLR_DMG, VID_DEC_DMG_CNT), (CNV_CLR_UE, CNV_PLATE_UE_CNT),
  (CNV_CLR_OMIT, CNV_OMIT_CNT), (CNV_CLR_FLIP, CNV_FLIP_TO_CNT), (PTP_CLR_RXDROP, PTP_RX_DROP_CNT),
  (PTP_CLR_LAUNCH, PTP_LAUNCH_MISS_CNT), (PTP_CLR_TSLOST, PTP_TS_LOST_CNT), (MSH_CLR_CREDIT, MSH_CREDIT_ERR_CNT),
  (MSH_CLR_MEDIA, MSH_MEDIA_DROP_CNT), (MSH_CLR_LATE, MSH_PART_LATE_CNT), (MSH_CLR_DROP, MSH_PART_DROP_CNT),
  (MSH_CLR_UNIT, MSH_UNIT_ERR_CNT), (MEM_CLR_POISON, MEM_POISON_CNT), (CAL_CLR_WIDE, CAL_RETRAIN_WIDE_CNT),
  (CAL_CLR_HELD, CAL_RETRAIN_HELD_CNT)]

/-- The three counters and the bucket of memory target `t` are cleared (R413, R422). -/
def eccClear (s : State) (t : Nat) : State :=
  if t ≤ 10 then setFld (setFld (setFld (setFld s (ECC_CE_CNT t) 0) (ECC_UE_CNT t) 0) (ECC_ADDR_CNT t) 0) (ECC_BUCKET t) 0 else s

/-- TIK_OVR_LAST is cleared (R44). -/
def ovrLastClear (s : State) : State := { s with easel := { s.easel with ovrLast := 0 } }

/-- Word `d` is written to the clear register at `a`: each bit that is 1 clears its counter. -/
def clearBits (s : State) (a : Nat) (d : Word) : State :=
  let s := clears.foldl (fun s c =>
    if c.1.addr = a ∧ bitsOf d c.1.hi c.1.lo = 1 then setFld s c.2 0 else s) s
  let s := if a = TIK_CLR_LAST.addr ∧ bitsOf d TIK_CLR_LAST.hi TIK_CLR_LAST.lo = 1 then ovrLastClear s else s
  if a = ECC_CLR.addr then
    (List.range 11).foldl (fun s t => if d.getLsbD t then eccClear s t else s) s
  else s

/-! ## Writes -/

/-- The bits of the register at `a` that keep their value although their access type takes the write: both thresholds of a pair
that would end in the wrong order (R163, R466), a hash mask R392 does not allow, what is fixed while a ring, a function or a host
packet area is enabled (R109, R149), and the enables, which `regActs` carries out. -/
def keptBits (s : State) (a : Nat) (new : Word) : List (Nat × Nat) :=
  let pair (f g : Field) : List (Nat × Nat) :=
    if bitsOf new f.hi f.lo < bitsOf new g.hi g.lo then [] else [(f.hi, f.lo), (g.hi, g.lo)]
  let mask (p : Nat) : List (Nat × Nat) :=
    if bitsOf new 14 0 = 2 ^ p then [] else [(29, 0)]
  if a = FWD_EST_Q_HI.addr then pair FWD_EST_Q_LO FWD_EST_Q_HI ++ pair FWD_EST_LOSS_LO FWD_EST_LOSS_HI
  else if a = PWR_CRIT_C.addr then
    if bitsOf new 31 24 + 2 ≤ bitsOf new 23 16 then [] else [(31, 24), (23, 16)]
  else if a = MEM_HASH_BA0.addr then mask 10
  else if a = MEM_HASH_BA1.addr then mask 11
  else if a = MEM_HASH_BG0.addr then mask 12
  else if a = MEM_HASH_BG1.addr then mask 13
  else if 0x401000 ≤ a ∧ a < 0x401800 then
    let f := (a - 0x401000) / 0x20
    if a % 0x20 < 8 then (if bit s (NET_HPA_EN f) then [(31, 0)] else []) else []
  else
    match ringReg a with
    | some (f, q, o) =>
      let en := bit s (HIF_RING_EN f q)
      if o = 8 then (31, 31) :: (if en then [(19, 16), (8, 8), (4, 0)] else [])
      else if en ∧ o < 8 then [(31, 0)] else []
    | none =>
      if 0x110000 ≤ a ∧ a < 0x150000 then
        let f := (a - 0x110000) / 0x1000
        if a % 0x1000 = 0 then [(16, 16)]
        else if (a % 0x1000 = 8 ∨ a % 0x1000 = 12) ∧ bit s (HIF_FN_EN f) then [(31, 0)] else []
      else []

/-- A write of PAD_RELEASE (R456): groups TIME (bit 0) and GPIO (bit 1) become DRIVEN at the next tick start. -/
def padRelease (s : State) (bits : Nat) : State :=
  if 3 ≤ mode s ∧ mode s ≤ 6 then setPwr s { s.pwr with rel := s.pwr.rel ||| bits } else s

/-- A host packet area is enabled or disabled (R129): enabled from 0 it starts at index 0; disabled, frames still waiting in its
transmit slots are not sent. -/
def hpaEnable (s : State) (f : Nat) (en : Bool) : State :=
  let x := hpaOf s f
  let kept : Hpa := { rxTick := x.rxTick, dropSince := x.dropSince, dropLast := x.dropLast }
  if en then setFld (setHpa s f kept) (NET_HPA_STATE f) 1
  else
    let s := { s with net := { s.net with egress := s.net.egress.filter (fun x => ¬(x.kind = 3 ∧ x.handle = f)) } }
    setFld (setHpa s f kept) (NET_HPA_STATE f) 0

/-- TIK_SRC changes (R380, R389): the root follows nobody, and a follower has no lock yet. -/
def tickSource (s : State) (old : Word) : State :=
  let m := fld s MSH_TICK_PORT
  if fld s TIK_SRC = bitsOf old TIK_SRC.hi TIK_SRC.lo then s
  else if fld s TIK_SRC = 0 then
    let s := { s with msh := { s.msh with adopt := none, lost := false } }
    setFld (setReg (setReg s MSH_TICK_PHASE.addr 0) MSH_TICK_DELAY.addr 0) (MSH_TICK_LOCK m) (if mshUp s m then 3 else 0)
  else setFld { s with msh := { s.msh with okRun := 0, badRun := 0, lastOk := none, lost := false } } (MSH_TICK_LOCK m) 0

/-- HIF_VEC_MOD of vector `v` is written (R108): a pending vector that it moderates no more, or whose count is reached, sends at once. -/
def vecModWritten (s : State) (f v : Nat) : State :=
  let x := vecOf s f v
  let c := fld s (HIF_VEC_MOD_CNT f v)
  if x.pending && (fld s (HIF_VEC_MOD_TICKS f v) = 0 || (c ≠ 0 && decide (c ≤ x.count))) then sendMsi s f v else s

/-- What a write does beside the register's new word: `d` the word written, `old` the word before. -/
def regActs (s : State) (a : Nat) (d old : Word) : State :=
  let b (i : Nat) : Bool := d.getLsbD i
  if a = SYS_SETUP_DONE.addr then if b 0 then setupDone s else s
  else if a = CTL_BOOT_GO.addr then if b 0 then bootGo s else s
  else if a = ADM_HOST_CLOSE.addr then hostClose (b 0) s
  else if a = TIK_SRC.addr then tickSource s old
  else if a = TIK_OUT_EN.addr then
    if bit s TIK_OUT_EN && !old.getLsbD 31 then { s with easel := { s.easel with outFirst := ns s + 1000 } } else tickCut s
  else if a = PPS_IN_EN.addr then
    ppsCut (if bit s PPS_IN_EN && !old.getLsbD 29 then
      setPtp s { s.ptp with ppsN := 0, ppsEdge := false, ppsAt := localNs s, ppsLost := false }
    else s)
  else if a = PAD_REL_TIME.addr then padRelease s (d.toNat % 4)
  else if a = PAD_FAN_AUTO.addr then
    setPwr s { s.pwr with fan := fanDuty s (BitVec.ofNat 8 (fld s PWR_TEMP_MAX)).toInt }
  else if a = PWR_ALERT_WARN.addr then (if fld s PWR_THERM_STATE = 1 then alertSet s 3 (bit s PWR_ALERT_WARN) else s)
  else if 0x401000 ≤ a ∧ a < 0x401800 ∧ a % 0x20 = 8 then
    let f := (a - 0x401000) / 0x20
    if bit s (NET_HPA_EN f) = old.getLsbD 31 then s else hpaEnable s f (bit s (NET_HPA_EN f))
  else
    match ringReg a with
    | some (f, q, o) => if o = 8 then ringWrite s f q (b 31) else s
    | none =>
      if 0x110000 ≤ a ∧ a < 0x150000 ∧ 0xa00 ≤ a % 0x1000 ∧ a % 0x1000 < 0xa80 then
        vecModWritten s ((a - 0x110000) / 0x1000) ((a % 0x1000 - 0xa00) / 4)
      else if 0x110000 ≤ a ∧ a < 0x150000 ∧ a % 0x1000 = 0 then
        let f := (a - 0x110000) / 0x1000
        fnEnWrite (if b 31 then fnReset s f 1 else s) f (b 16)
      else clearBits s a d

/-- A 4-byte write of `d` at BAR0 offset `a` (R492 to R501). -/
def regWrite (s : State) (a : Nat) (d : Word) : State :=
  if !answers s a then s
  else
    match regAt a with
    | none => setBit s SYS_ST_UNMAPPED
    | some r =>
      let locked := bit s SYS_LOCKED
      let s := if locked && r.hasRwl then setFld (setBit s SYS_ST_LOCK_WR) SYS_LOCK_OFS a else s
      let old := reg s a
      let new := r.write locked old d
      let new := (keptBits s a new).foldl (fun w k => setBits w k.1 k.2 (bitsOf old k.1 k.2)) new
      regActs (setReg s a new) a d old

/-! ## The function window and SR-IOV (R80, R107, R111) -/

/-- What a word of an MSI-X table reads as after reset: the vector is masked (PCI Express). -/
def msixReset (k : Nat) : Word := if k % 16 = 12 then 1 else 0

/-- A write to word `o` of function `f`'s MSI-X table; unmasking a vector whose Pending Bit Array bit is set sends it. -/
def msixWrite (s : State) (f o : Nat) (d : Word) : State :=
  let w : Word := if o % 16 = 12 then d &&& 1 else if o % 16 = 0 then d &&& 0xfffffffc else d
  let s := { s with hif := { s.hif with msix := mset msixReset s.hif.msix (f * 0x1000 + o) w } }
  if (vecOf s f (o / 16)).pba && !vecMasked s f (o / 16) then sendMsi s f (o / 16) else s

/-- A 4-byte write at offset `o` of the window of function `f`. -/
def windowWrite (s : State) (f o : Nat) (d : Word) : State :=
  if !answers s 0x110000 || !fnExists s f || decide (0x4000 ≤ o) then s
  else if o < 0x1000 then regWrite s (0x110000 + 0x1000 * f + o) d
  else if 0x2000 ≤ o ∧ o < 0x2200 then msixWrite s f (o - 0x2000) d
  else if 0x3000 ≤ o ∧ o < 0x3008 then s
  else setBit s SYS_ST_UNMAPPED

/-- A write to the SR-IOV control: bit 0 VF Enable, bits 31:16 NumVFs, which is taken only while VF Enable is 0. -/
def sriovWrite (s : State) (d : Word) : State :=
  if !answers s 0x100000 then s
  else
    let n := min 63 (d.toNat / 2 ^ 16)
    if s.hif.vfEn then (if d.getLsbD 0 then s else vfClear s)
    else { s with hif := { s.hif with numVfs := n, vfEn := d.getLsbD 0 } }

/-- A write to the MSI-X capability of function `f`: bits 31 and 30 are MSI-X Enable and Function Mask. A vector it unmasks whose Pending
Bit Array bit is set sends. -/
def msixCapWrite (s : State) (f : Nat) (d : Word) : State :=
  if !answers s 0x100000 || !fnExists s f then s
  else
    let s := { s with hif := { s.hif with msixCtl := tset s.hif.msixCtl f (d &&& 0xc0000000) } }
    (List.range 32).foldl (fun s v => if (vecOf s f v).pba && !vecMasked s f v then sendMsi s f v else s) s

/-- A write to Advanced Error Reporting of function `f` (PCI Express): a 1 clears a status bit. -/
def aerWrite (s : State) (f o : Nat) (d : Word) : State :=
  if !answers s 0x100000 || !fnExists s f then s
  else
    match o with
    | 4 => setAer s f 4 (aerReg s f 4 &&& ~~~d)
    | 16 => setAer s f 16 (aerReg s f 16 &&& ~~~d)
    | 8 => setAer s f 8 d
    | 12 => setAer s f 12 d
    | 20 => setAer s f 20 d
    | _ => s

/-- The Pending Bit Array of function `f` (R80): bit `v` of its first word. -/
def pbaWord (s : State) (f k : Nat) : Word :=
  BitVec.ofNat 32 ((List.range 32).foldl (fun a v => if k = 0 ∧ (vecOf s f v).pba then a + 2 ^ v else a) 0)

/-- A 4-byte read at offset `o` of the window of function `f`: its page, its MSI-X table, its Pending Bit Array (R80). -/
def windowRead (s : State) (f o : Nat) : State × Word :=
  if !answers s 0x110000 || !fnExists s f || decide (0x4000 ≤ o) then (s, 0)
  else if o < 0x1000 then readAt s (0x110000 + 0x1000 * f + o)
  else if 0x2000 ≤ o ∧ o < 0x2200 then (s, mget msixReset s.hif.msix (f * 0x1000 + (o - 0x2000)))
  else if 0x3000 ≤ o ∧ o < 0x3008 then (s, pbaWord s f ((o - 0x3000) / 4))
  else (setBit s SYS_ST_UNMAPPED, 0)

/-- A 4-byte read of configuration space as the model keeps it: 0 while nothing answers. -/
def cfgRead (s : State) (w : Word) : State × Word := (s, if answers s 0x100000 then w else 0)

/-- A 4-byte access by a path: the state, and the data of a read. -/
def busOne (s : State) (p : BusPath) (rd : Bool) (o : Nat) (d : Word) : State × Word :=
  match p with
  | .bar0 => if rd then readAt s o else (regWrite s o d, 0)
  | .window f => if rd then windowRead s f.toNat o else (windowWrite s f.toNat o d, 0)
  | .sriov =>
    if rd then cfgRead s (BitVec.ofNat 32 (s.hif.numVfs * 2 ^ 16 + if s.hif.vfEn then 1 else 0)) else (sriovWrite s d, 0)
  | .msixCap f =>
    if rd then cfgRead s (((tget s.hif.msixCtl f.toNat).getD 0) ||| 0x001f0000) else (msixCapWrite s f.toNat d, 0)
  | .aer f => if rd then cfgRead s (aerReg s f.toNat o) else (aerWrite s f.toNat o d, 0)
  | .jtag => (jtagEdge s (d.getLsbD 0) (d.getLsbD 1) (d.getLsbD 2), 0)

/-- An access of 4 or 8 bytes, aligned; 8 as two of 4, the lower first; any other is refused, and a read of it returns 0 (R493). What a
read returns stands in `rdata`. -/
def busAccess (s : State) (acc : BusAcc) : State :=
  let o := acc.offset.toNat
  let at' : Nat := match acc.path with
    | .bar0 => o
    | _ => 0x110000
  let keep (s : State) (d : BitVec 64) : State := if acc.rd then setRdata s d else s
  if acc.size = 4 ∧ o % 4 = 0 then
    let r := busOne s acc.path acc.rd o (acc.data.setWidth 32)
    keep r.1 (r.2.setWidth 64)
  else if acc.size = 8 ∧ o % 8 = 0 then
    let r := busOne s acc.path acc.rd o (acc.data.setWidth 32)
    let q := busOne r.1 acc.path acc.rd (o + 4) ((acc.data >>> 32).setWidth 32)
    keep q.1 (q.2 ++ r.2)
  else keep (if answers s at' then setBit s SYS_ST_ACCESS else s) 0

/-- A write of 1 to the clear bit at `c`, alone. -/
def clearWrite (s : State) (c : Field) : State := regWrite s c.addr (BitVec.ofNat 32 (2 ^ c.lo))

/-! ## Meanings -/

/-- TIK_OUT_EN (R43): the other fields of its register are written as they stand. -/
def execTikOutEn (en : Bool) (s : State) : Host.Outcome State Fault Refusal :=
  act (fun s => regWrite s TIK_OUT_EN.addr (setBits (reg s TIK_OUT_EN.addr) 31 31 (if en then 1 else 0))) s

/-- PAD_REL_TIME (R456). -/
def execPadRelTime (s : State) : Host.Outcome State Fault Refusal := act (fun s => regWrite s PAD_REL_TIME.addr 1) s

/-- PAD_REL_GPIO (R456). -/
def execPadRelGpio (s : State) : Host.Outcome State Fault Refusal := act (fun s => regWrite s PAD_REL_GPIO.addr 2) s

/-- TIK_NOW_LO (R522). -/
def execTikNowLo (wide : Bool) (s : State) : Host.Outcome State Fault Refusal := act (fun s => latchRead s TIK_NOW_LO.addr wide) s

/-- TIK_OVR_LAST_LO (R522). -/
def execTikOvrLastLo (wide : Bool) (s : State) : Host.Outcome State Fault Refusal :=
  act (fun s => latchRead s TIK_OVR_LAST_LO.addr wide) s

/-- PTP_TIME_NS (R337, R522). -/
def execPtpTimeNs (wide : Bool) (s : State) : Host.Outcome State Fault Refusal := act (fun s => latchRead s PTP_TIME_NS.addr wide) s

/-- PTP_SLEEP_CNT_LO (R354, R522). -/
def execPtpSleepCntLo (wide : Bool) (s : State) : Host.Outcome State Fault Refusal :=
  act (fun s => latchRead s PTP_SLEEP_CNT_LO.addr wide) s

/-- SYS_SERIAL_LO (R504, R522). -/
def execSysSerialLo (wide : Bool) (s : State) : Host.Outcome State Fault Refusal :=
  act (fun s => latchRead s SYS_SERIAL_LO.addr wide) s

/-- REGISTER_WRITE (R493, R496): any write, by any path; the table has no row for a read of a register that latches nothing, nor for the
JTAG port, and both come here. -/
def execRegisterWrite (acc : BusAcc) (s : State) : Host.Outcome State Fault Refusal := act (fun s => busAccess s acc) s

/-- TIK_CLR_LAST (R44). -/
def execTikClrLast (s : State) : Host.Outcome State Fault Refusal := act (fun s => clearWrite s TIK_CLR_LAST) s

/-- TIK_CLR_HOLD (R44). -/
def execTikClrHold (s : State) : Host.Outcome State Fault Refusal := act (fun s => clearWrite s TIK_CLR_HOLD) s

/-- TIK_CLR_SKIP (R44). -/
def execTikClrSkip (s : State) : Host.Outcome State Fault Refusal := act (fun s => clearWrite s TIK_CLR_SKIP) s

/-- TIK_CLR_EMIT (R44). -/
def execTikClrEmit (s : State) : Host.Outcome State Fault Refusal := act (fun s => clearWrite s TIK_CLR_EMIT) s

/-- TIK_CLR_WORK (R44). -/
def execTikClrWork (s : State) : Host.Outcome State Fault Refusal := act (fun s => clearWrite s TIK_CLR_WORK) s

/-- TIK_CLR_GATHER (R44). -/
def execTikClrGather (s : State) : Host.Outcome State Fault Refusal := act (fun s => clearWrite s TIK_CLR_GATHER) s

/-- SPQ_CLR_UE (R150). -/
def execSpqClrUe (s : State) : Host.Outcome State Fault Refusal := act (fun s => clearWrite s SPQ_CLR_UE) s

/-- SPQ_CLR_CE (R150). -/
def execSpqClrCe (s : State) : Host.Outcome State Fault Refusal := act (fun s => clearWrite s SPQ_CLR_CE) s

/-- FWD_CLR_KP (R177). -/
def execFwdClrKp (s : State) : Host.Outcome State Fault Refusal := act (fun s => clearWrite s FWD_CLR_KP) s

/-- FWD_CLR_STALE (R177). -/
def execFwdClrStale (s : State) : Host.Outcome State Fault Refusal := act (fun s => clearWrite s FWD_CLR_STALE) s

/-- FWD_CLR_LIMIT (R177). -/
def execFwdClrLimit (s : State) : Host.Outcome State Fault Refusal := act (fun s => clearWrite s FWD_CLR_LIMIT) s

/-- CIP_CLR_RETRY (R206). -/
def execCipClrRetry (s : State) : Host.Outcome State Fault Refusal := act (fun s => clearWrite s CIP_CLR_RETRY) s

/-- CIP_CLR_REFUSE (R206). -/
def execCipClrRefuse (s : State) : Host.Outcome State Fault Refusal := act (fun s => clearWrite s CIP_CLR_REFUSE) s

/-- CIP_CLR_REPLAY (R206). -/
def execCipClrReplay (s : State) : Host.Outcome State Fault Refusal := act (fun s => clearWrite s CIP_CLR_REPLAY) s

/-- CIP_CLR_AUTH (R206). -/
def execCipClrAuth (s : State) : Host.Outcome State Fault Refusal := act (fun s => clearWrite s CIP_CLR_AUTH) s

/-- KEY_CLR_UNWRAP (R207). -/
def execKeyClrUnwrap (s : State) : Host.Outcome State Fault Refusal := act (fun s => clearWrite s KEY_CLR_UNWRAP) s

/-- AUD_CLR_PART (R240). -/
def execAudClrPart (s : State) : Host.Outcome State Fault Refusal := act (fun s => clearWrite s AUD_CLR_PART) s

/-- AUD_CLR_SAT (R240). -/
def execAudClrSat (s : State) : Host.Outcome State Fault Refusal := act (fun s => clearWrite s AUD_CLR_SAT) s

/-- AUD_CLR_CLIP (R240). -/
def execAudClrClip (s : State) : Host.Outcome State Fault Refusal := act (fun s => clearWrite s AUD_CLR_CLIP) s

/-- BRS_CLR_FAULT (R274). -/
def execBrsClrFault (s : State) : Host.Outcome State Fault Refusal := act (fun s => clearWrite s BRS_CLR_FAULT) s

/-- VID_CLR_BOUND (R312). -/
def execVidClrBound (s : State) : Host.Outcome State Fault Refusal := act (fun s => clearWrite s VID_CLR_BOUND) s

/-- VID_CLR_DROP (R312). -/
def execVidClrDrop (s : State) : Host.Outcome State Fault Refusal := act (fun s => clearWrite s VID_CLR_DROP) s

/-- VID_CLR_MIN (R312). -/
def execVidClrMin (s : State) : Host.Outcome State Fault Refusal := act (fun s => clearWrite s VID_CLR_MIN) s

/-- VID_CLR_DMG (R312). -/
def execVidClrDmg (s : State) : Host.Outcome State Fault Refusal := act (fun s => clearWrite s VID_CLR_DMG) s

/-- CNV_CLR_UE (R335). -/
def execCnvClrUe (s : State) : Host.Outcome State Fault Refusal := act (fun s => clearWrite s CNV_CLR_UE) s

/-- CNV_CLR_OMIT (R335). -/
def execCnvClrOmit (s : State) : Host.Outcome State Fault Refusal := act (fun s => clearWrite s CNV_CLR_OMIT) s

/-- CNV_CLR_FLIP (R335). -/
def execCnvClrFlip (s : State) : Host.Outcome State Fault Refusal := act (fun s => clearWrite s CNV_CLR_FLIP) s

/-- PTP_CLR_RXDROP (R359). -/
def execPtpClrRxdrop (s : State) : Host.Outcome State Fault Refusal := act (fun s => clearWrite s PTP_CLR_RXDROP) s

/-- PTP_CLR_LAUNCH (R359). -/
def execPtpClrLaunch (s : State) : Host.Outcome State Fault Refusal := act (fun s => clearWrite s PTP_CLR_LAUNCH) s

/-- PTP_CLR_TSLOST (R359). -/
def execPtpClrTslost (s : State) : Host.Outcome State Fault Refusal := act (fun s => clearWrite s PTP_CLR_TSLOST) s

/-- MSH_CLR_CREDIT (R389). -/
def execMshClrCredit (s : State) : Host.Outcome State Fault Refusal := act (fun s => clearWrite s MSH_CLR_CREDIT) s

/-- MSH_CLR_MEDIA (R389). -/
def execMshClrMedia (s : State) : Host.Outcome State Fault Refusal := act (fun s => clearWrite s MSH_CLR_MEDIA) s

/-- MSH_CLR_LATE (R389). -/
def execMshClrLate (s : State) : Host.Outcome State Fault Refusal := act (fun s => clearWrite s MSH_CLR_LATE) s

/-- MSH_CLR_DROP (R389). -/
def execMshClrDrop (s : State) : Host.Outcome State Fault Refusal := act (fun s => clearWrite s MSH_CLR_DROP) s

/-- MSH_CLR_UNIT (R389). -/
def execMshClrUnit (s : State) : Host.Outcome State Fault Refusal := act (fun s => clearWrite s MSH_CLR_UNIT) s

/-- MEM_CLR_POISON (R421). -/
def execMemClrPoison (s : State) : Host.Outcome State Fault Refusal := act (fun s => clearWrite s MEM_CLR_POISON) s

/-- ECC_CLR (R422): bit `t`. -/
def execEccClr (t : BitVec 4) (s : State) : Host.Outcome State Fault Refusal :=
  act (fun s => regWrite s ECC_CLR.addr (BitVec.ofNat 32 (2 ^ t.toNat))) s

/-- CAL_CLR_WIDE (R437). -/
def execCalClrWide (s : State) : Host.Outcome State Fault Refusal := act (fun s => clearWrite s CAL_CLR_WIDE) s

/-- CAL_CLR_HELD (R437). -/
def execCalClrHeld (s : State) : Host.Outcome State Fault Refusal := act (fun s => clearWrite s CAL_CLR_HELD) s

end Sys2Proof.Machine
end

