-- ==== Sys2Proof/Machine/Dispatch.lean ====
section
/-! DEFINITION. The meaning of every command: one arm per constructor, each a direct call of its meaning.
Log entries: 3. -/

namespace Sys2Proof.Machine

def exec (i : Instr) (s : State) : Host.Outcome State Fault Refusal :=
  match i with
  | .tickStart errs slow hits fw => Sys2Proof.Machine.execTickStart errs slow hits fw s
  | .workOpen => Sys2Proof.Machine.execWorkOpen s
  | .emitOpen => Sys2Proof.Machine.execEmitOpen s
  | .packetLaunch p u => Sys2Proof.Machine.execPacketLaunch p u s
  | .phaseEnd phase => Sys2Proof.Machine.execPhaseEnd phase s
  | .latchPoint => Sys2Proof.Machine.execLatchPoint s
  | .tickOutPulse => Sys2Proof.Machine.execTickOutPulse s
  | .stepApply => Sys2Proof.Machine.execStepApply s
  | .tickLockLost => Sys2Proof.Machine.execTickLockLost s
  | .audioDecode hd pcm ns hits => Sys2Proof.Machine.execAudioDecode hd pcm ns hits s
  | .mix late => Sys2Proof.Machine.execMix late s
  | .activeSpeakerSwap conf bus => Sys2Proof.Machine.execActiveSpeakerSwap conf bus s
  | .dominantSpeakerChange conf => Sys2Proof.Machine.execDominantSpeakerChange conf s
  | .audioEncode hd pay sid hits => Sys2Proof.Machine.execAudioEncode hd pay sid hits s
  | .groupWake g => Sys2Proof.Machine.execGroupWake g s
  | .silHoldReached leg => Sys2Proof.Machine.execSilHoldReached leg s
  | .taskArrival leg pt => Sys2Proof.Machine.execTaskArrival leg pt s
  | .move b dst src => Sys2Proof.Machine.execMove b dst src s
  | .ldi b dst imm => Sys2Proof.Machine.execLdi b dst imm s
  | .ldH b d e => Sys2Proof.Machine.execLdH b d e s
  | .ldL b d e => Sys2Proof.Machine.execLdL b d e s
  | .stH b d e => Sys2Proof.Machine.execStH b d e s
  | .stL b d e => Sys2Proof.Machine.execStL b d e s
  | .ldbus b n e => Sys2Proof.Machine.execLdbus b n e s
  | .stbus b n e => Sys2Proof.Machine.execStbus b n e s
  | .movd b d n => Sys2Proof.Machine.execMovd b d n s
  | .movdR b d n => Sys2Proof.Machine.execMovdR b d n s
  | .mul b n x y => Sys2Proof.Machine.execMul b n x y s
  | .mla b n x y => Sys2Proof.Machine.execMla b n x y s
  | .mls b n x y => Sys2Proof.Machine.execMls b n x y s
  | .mulR b n x y => Sys2Proof.Machine.execMulR b n x y s
  | .mlaR b n x y => Sys2Proof.Machine.execMlaR b n x y s
  | .mlaM b n x y => Sys2Proof.Machine.execMlaM b n x y s
  | .mlsM b n x y => Sys2Proof.Machine.execMlsM b n x y s
  | .mla2 b n u x m v y => Sys2Proof.Machine.execMla2 b n u x m v y s
  | .add b n m => Sys2Proof.Machine.execAdd b n m s
  | .sub b n m => Sys2Proof.Machine.execSub b n m s
  | .neg b n => Sys2Proof.Machine.execNeg b n s
  | .abs b n => Sys2Proof.Machine.execAbs b n s
  | .clr b n => Sys2Proof.Machine.execClr b n s
  | .cmp b n m => Sys2Proof.Machine.execCmp b n m s
  | .shl b n k => Sys2Proof.Machine.execShl b n k s
  | .shr b n k => Sys2Proof.Machine.execShr b n k s
  | .rndc b n => Sys2Proof.Machine.execRndc b n s
  | .sat b n => Sys2Proof.Machine.execSat b n s
  | .cls b d n => Sys2Proof.Machine.execCls b d n s
  | .addd b d x y => Sys2Proof.Machine.execAddd b d x y s
  | .subd b d x y => Sys2Proof.Machine.execSubd b d x y s
  | .and b d x y => Sys2Proof.Machine.execAnd b d x y s
  | .or b d x y => Sys2Proof.Machine.execOr b d x y s
  | .xor b d x y => Sys2Proof.Machine.execXor b d x y s
  | .not b d x => Sys2Proof.Machine.execNot b d x s
  | .lsl b d x k => Sys2Proof.Machine.execLsl b d x k s
  | .lsr b d x k => Sys2Proof.Machine.execLsr b d x k s
  | .asrd b d x k => Sys2Proof.Machine.execAsrd b d x k s
  | .cmpd b x y => Sys2Proof.Machine.execCmpd b x y s
  | .lea b p m => Sys2Proof.Machine.execLea b p m s
  | .br b t => Sys2Proof.Machine.execBr b t s
  | .brCond b c t => Sys2Proof.Machine.execBrCond b c t s
  | .call b t => Sys2Proof.Machine.execCall b t s
  | .ret b => Sys2Proof.Machine.execRet b s
  | .loop b n e => Sys2Proof.Machine.execLoop b n e s
  | .leave b => Sys2Proof.Machine.execLeave b s
  | .clrf b => Sys2Proof.Machine.execClrf b s
  | .nop b => Sys2Proof.Machine.execNop b s
  | .xferR b d p y len => Sys2Proof.Machine.execXferR b d p y len s
  | .xferW b d p y len => Sys2Proof.Machine.execXferW b d p y len s
  | .xferComplete core bad hits => Sys2Proof.Machine.execXferComplete core bad hits s
  | .wait b => Sys2Proof.Machine.execWait b s
  | .sig b => Sys2Proof.Machine.execSig b s
  | .halt b => Sys2Proof.Machine.execHalt b s
  | .waitTimeout core => Sys2Proof.Machine.execWaitTimeout core s
  | .instanceSuspend leg pt => Sys2Proof.Machine.execInstanceSuspend leg pt s
  | .videoDecodeSlice ctx facts hits => Sys2Proof.Machine.execVideoDecodeSlice ctx facts hits s
  | .videoEncodeSlice ctx blocks units params hits => Sys2Proof.Machine.execVideoEncodeSlice ctx blocks units params hits s
  | .keyIntExpiry ctx => Sys2Proof.Machine.execKeyIntExpiry ctx s
  | .canvasSlice ctx hits skip lost => Sys2Proof.Machine.execCanvasSlice ctx hits skip lost s
  | .frameBoundary ctx => Sys2Proof.Machine.execFrameBoundary ctx s
  | .flipTimeout layout => Sys2Proof.Machine.execFlipTimeout layout s
  | .layerStale layout layer => Sys2Proof.Machine.execLayerStale layout layer s
  | .plateValid plate => Sys2Proof.Machine.execPlateValid plate s
  | .doorbellPoll => Sys2Proof.Machine.execDoorbellPoll s
  | .doorbellLineRead f line words media => Sys2Proof.Machine.execDoorbellLineRead f line words media s
  | .hpaControlRead f line slots => Sys2Proof.Machine.execHpaControlRead f line slots s
  | .descriptorFetch f q words dma bad imgs => Sys2Proof.Machine.execDescriptorFetch f q words dma bad imgs s
  | .hostStall f q => Sys2Proof.Machine.execHostStall f q s
  | .moderationPoint f => Sys2Proof.Machine.execModerationPoint f s
  | .mediaEntryFinish f m => Sys2Proof.Machine.execMediaEntryFinish f m s
  | .ringDrainDone f q => Sys2Proof.Machine.execRingDrainDone f q s
  | .functionLevelReset f => Sys2Proof.Machine.execFunctionLevelReset f s
  | .vfEnableClear => Sys2Proof.Machine.execVfEnableClear s
  | .hifFnReset f => Sys2Proof.Machine.execHifFnReset f s
  | .fnResetComplete f => Sys2Proof.Machine.execFnResetComplete f s
  | .hifFnEn f en => Sys2Proof.Machine.execHifFnEn f en s
  | .hifRingEn f q en => Sys2Proof.Machine.execHifRingEn f q en s
  | .genNop h => Sys2Proof.Machine.execGenNop h s
  | .genFnInfo h => Sys2Proof.Machine.execGenFnInfo h s
  | .genEventMask h enable code => Sys2Proof.Machine.execGenEventMask h enable code s
  | .genVfReset h f => Sys2Proof.Machine.execGenVfReset h f s
  | .admConfOpen h conf audPmax vidPmax hops => Sys2Proof.Machine.execAdmConfOpen h conf audPmax vidPmax hops s
  | .admConfClose h conf => Sys2Proof.Machine.execAdmConfClose h conf s
  | .admLegAdmit h conf leg addr dma => Sys2Proof.Machine.execAdmLegAdmit h conf leg addr dma s
  | .admLegModify h conf leg addr dma => Sys2Proof.Machine.execAdmLegModify h conf leg addr dma s
  | .admLegRelease h leg => Sys2Proof.Machine.execAdmLegRelease h leg s
  | .admLegStats h clr hd => Sys2Proof.Machine.execAdmLegStats h clr hd s
  | .admFnBudgetSet h f r v => Sys2Proof.Machine.execAdmFnBudgetSet h f r v s
  | .admLayoutAdmit h id conf w ht per codec cprof depth => Sys2Proof.Machine.execAdmLayoutAdmit h id conf w ht per codec cprof depth s
  | .admLayoutRelease h id => Sys2Proof.Machine.execAdmLayoutRelease h id s
  | .admHostClose v => Sys2Proof.Machine.execAdmHostClose v s
  | .netStreamBind h hd addr dma => Sys2Proof.Machine.execNetStreamBind h hd addr dma s
  | .netStreamUnbind h hd => Sys2Proof.Machine.execNetStreamUnbind h hd s
  | .netPortStats h clr p u addr => Sys2Proof.Machine.execNetPortStats h clr p u addr s
  | .netJbSet h reanchor hd run => Sys2Proof.Machine.execNetJbSet h reanchor hd run s
  | .netQueueFlush h hd => Sys2Proof.Machine.execNetQueueFlush h hd s
  | .frameReceive p u fcsOk frame => Sys2Proof.Machine.execFrameReceive p u fcsOk frame s
  | .lateRunReached hd ix => Sys2Proof.Machine.execLateRunReached hd ix s
  | .linkDown p u => Sys2Proof.Machine.execLinkDown p u s
  | .linkUp p u => Sys2Proof.Machine.execLinkUp p u s
  | .fwdSubSet h id src dst ssrc tsOfs seqStart ptEn ptOut ddIn ddOut fmIn fmOut pause kpFir prio capS capT => Sys2Proof.Machine.execFwdSubSet h id src dst ssrc tsOfs seqStart ptEn ptOut ddIn ddOut fmIn fmOut pause kpFir prio capS capT s
  | .fwdSubClear h id => Sys2Proof.Machine.execFwdSubClear h id s
  | .fwdSubCap h id pause kpFir prio capS capT => Sys2Proof.Machine.execFwdSubCap h id pause kpFir prio capS capT s
  | .fwdEstRead h leg => Sys2Proof.Machine.execFwdEstRead h leg s
  | .fwdKeyPicReq h ix hd => Sys2Proof.Machine.execFwdKeyPicReq h ix hd s
  | .fwdPaceSet h emode leg line init max => Sys2Proof.Machine.execFwdPaceSet h emode leg line init max s
  | .estUpdate leg => Sys2Proof.Machine.execEstUpdate leg s
  | .upHoldReached id => Sys2Proof.Machine.execUpHoldReached id s
  | .kpGapEnd hd ix => Sys2Proof.Machine.execKpGapEnd hd ix s
  | .kpWaitExpiry id => Sys2Proof.Machine.execKpWaitExpiry id s
  | .keyKekInfo h addr => Sys2Proof.Machine.execKeyKekInfo h addr s
  | .kekAgree h addr dma => Sys2Proof.Machine.execKekAgree h addr dma s
  | .keyImport h suite slot addr dma => Sys2Proof.Machine.execKeyImport h suite slot addr dma s
  | .keyDerive h master sess => Sys2Proof.Machine.execKeyDerive h master sess s
  | .keyErase h slot => Sys2Proof.Machine.execKeyErase h slot s
  | .cipBind h keep clear rplW dir hd slot txRoc txSeq roc0 roc1 roc2 roc3 tcpIdx => Sys2Proof.Machine.execCipBind h keep clear rplW dir hd slot txRoc txSeq roc0 roc1 roc2 roc3 tcpIdx s
  | .cipUnbind h dir hd => Sys2Proof.Machine.execCipUnbind h dir hd s
  | .cipStats h clr ix dir hd addr => Sys2Proof.Machine.execCipStats h clr ix dir hd addr s
  | .rxOverlapEnd hd => Sys2Proof.Machine.execRxOverlapEnd hd s
  | .reseed pass => Sys2Proof.Machine.execReseed pass s
  | .entropyHealthFail => Sys2Proof.Machine.execEntropyHealthFail s
  | .audRouteSet h leg contrib listen minus force dtx xf c0 c1 c2 c3 l0 l1 l2 l3 => Sys2Proof.Machine.execAudRouteSet h leg contrib listen minus force dtx xf c0 c1 c2 c3 l0 l1 l2 l3 s
  | .audBusSetting h bus conf n => Sys2Proof.Machine.execAudBusSetting h bus conf n s
  | .audRouteClear h leg xf => Sys2Proof.Machine.execAudRouteClear h leg xf s
  | .audSinkDyn h compEn limEn leg thr ratio att rel makeup ceil limRel => Sys2Proof.Machine.execAudSinkDyn h compEn limEn leg thr ratio att rel makeup ceil limRel s
  | .audTonePlay h onBus replace bus id tone rep onT offT f1 f2 l1 l2 => Sys2Proof.Machine.execAudTonePlay h onBus replace bus id tone rep onT offT f1 f2 l1 l2 s
  | .audToneStop h onBus bus id => Sys2Proof.Machine.execAudToneStop h onBus bus id s
  | .audLevels h clr leg => Sys2Proof.Machine.execAudLevels h clr leg s
  | .audMediaBind h m point id bus gain => Sys2Proof.Machine.execAudMediaBind h m point id bus gain s
  | .audMediaUnbind h m => Sys2Proof.Machine.execAudMediaUnbind h m s
  | .brsProgLoad h prog addr dma bad => Sys2Proof.Machine.execBrsProgLoad h prog addr dma bad s
  | .brsProgUnload h prog => Sys2Proof.Machine.execBrsProgUnload h prog s
  | .brsTaskBind h prog pt leg p0 p1 p2 p3 => Sys2Proof.Machine.execBrsTaskBind h prog pt leg p0 p1 p2 p3 s
  | .brsTaskUnbind h pt leg => Sys2Proof.Machine.execBrsTaskUnbind h pt leg s
  | .brsStats h clr pt leg => Sys2Proof.Machine.execBrsStats h clr pt leg s
  | .vidDecOpen h kpFir opS opT holds dpb hd => Sys2Proof.Machine.execVidDecOpen h kpFir opS opT holds dpb hd s
  | .vidDecClose h ctx => Sys2Proof.Machine.execVidDecClose h ctx s
  | .vidEncOpen h own id topW topH sl tl ext pt keyInt tsOfs => Sys2Proof.Machine.execVidEncOpen h own id topW topH sl tl ext pt keyInt tsOfs s
  | .vidEncClose h ctx => Sys2Proof.Machine.execVidEncClose h ctx s
  | .vidEncRate h ctx kbps cap pct mult => Sys2Proof.Machine.execVidEncRate h ctx kbps cap pct mult s
  | .vidKeyPic h ctx => Sys2Proof.Machine.execVidKeyPic h ctx s
  | .vidMediaBind h point m ctx w ht => Sys2Proof.Machine.execVidMediaBind h point m ctx w ht s
  | .vidMediaUnbind h m => Sys2Proof.Machine.execVidMediaUnbind h m s
  | .vidStats h clr enc ctx addr => Sys2Proof.Machine.execVidStats h clr enc ctx addr s
  | .cnvLayoutSet h layout mtx full bgY bgCb bgCr => Sys2Proof.Machine.execCnvLayoutSet h layout mtx full bgY bgCb bgCr s
  | .cnvLayerSet h kind hideDmg selfHide group layer layout src x y w ht cx cy cw ch alpha fence => Sys2Proof.Machine.execCnvLayerSet h kind hideDmg selfHide group layer layout src x y w ht cx cy cw ch alpha fence s
  | .cnvLayerClear h group layer layout => Sys2Proof.Machine.execCnvLayerClear h group layer layout s
  | .cnvGroupFlip h group layout => Sys2Proof.Machine.execCnvGroupFlip h group layout s
  | .cnvVarnishLoad h plate w ht mtx full count addr dma imgs => Sys2Proof.Machine.execCnvVarnishLoad h plate w ht mtx full count addr dma imgs s
  | .cnvVarnishDrop h plate => Sys2Proof.Machine.execCnvVarnishDrop h plate s
  | .ptpStep h newEpoch set v n => Sys2Proof.Machine.execPtpStep h newEpoch set v n s
  | .ptpRate h synced r => Sys2Proof.Machine.execPtpRate h synced r s
  | .ptpServoCfg h en src ports domain dest prio stepNs lockCnt lockNs => Sys2Proof.Machine.execPtpServoCfg h en src ports domain dest prio stepNs lockCnt lockNs s
  | .ptpStatus h => Sys2Proof.Machine.execPtpStatus h s
  | .delayReqSend ofs => Sys2Proof.Machine.execDelayReqSend ofs s
  | .announceTimeout => Sys2Proof.Machine.execAnnounceTimeout s
  | .measurementTimeout => Sys2Proof.Machine.execMeasurementTimeout s
  | .holdoverLimit => Sys2Proof.Machine.execHoldoverLimit s
  | .ppsOutPulse => Sys2Proof.Machine.execPpsOutPulse s
  | .ppsInEdge falling => Sys2Proof.Machine.execPpsInEdge falling s
  | .ppsInLoss => Sys2Proof.Machine.execPpsInLoss s
  | .ptpLaunchMiss => Sys2Proof.Machine.execPtpLaunchMiss s
  | .mshPortCfg h m en width tree exp wake node => Sys2Proof.Machine.execMshPortCfg h m en width tree exp wake node s
  | .mshRouteSet h node m => Sys2Proof.Machine.execMshRouteSet h node m s
  | .mshStreamExport h hd relay dst remove => Sys2Proof.Machine.execMshStreamExport h hd relay dst remove s
  | .mshStreamImport h hd relay valid s0 s1 s2 s3 remove => Sys2Proof.Machine.execMshStreamImport h hd relay valid s0 s1 s2 s3 remove s
  | .mshTraceSet h id => Sys2Proof.Machine.execMshTraceSet h id s
  | .mshApsCmd h m req lane => Sys2Proof.Machine.execMshApsCmd h m req lane s
  | .mshPeerStatus h m => Sys2Proof.Machine.execMshPeerStatus h m s
  | .mshWakeSend h mask => Sys2Proof.Machine.execMshWakeSend h mask s
  | .laneFrameReceive m l b delay unc sym => Sys2Proof.Machine.execLaneFrameReceive m l b delay unc sym s
  | .amLock m l => Sys2Proof.Machine.execAmLock m l s
  | .amLoss m l => Sys2Proof.Machine.execAmLoss m l s
  | .traceAccept m l => Sys2Proof.Machine.execTraceAccept m l s
  | .sfHoldoffExpiry m l => Sys2Proof.Machine.execSfHoldoffExpiry m l s
  | .apsSelect m => Sys2Proof.Machine.execApsSelect m s
  | .wtrExpiry m => Sys2Proof.Machine.execWtrExpiry m s
  | .partialUnitReceive m body cut => Sys2Proof.Machine.execPartialUnitReceive m body cut s
  | .mediaUnitReceive m body cut => Sys2Proof.Machine.execMediaUnitReceive m body cut s
  | .tickMarkerReceive m body => Sys2Proof.Machine.execTickMarkerReceive m body s
  | .creditUnitReceive m body => Sys2Proof.Machine.execCreditUnitReceive m body s
  | .controlUnitReceive m type vc body cut => Sys2Proof.Machine.execControlUnitReceive m type vc body cut s
  | .creditUnitSend m => Sys2Proof.Machine.execCreditUnitSend m s
  | .tickMarkerSend ofs => Sys2Proof.Machine.execTickMarkerSend ofs s
  | .mediaUnitTimeout m => Sys2Proof.Machine.execMediaUnitTimeout m s
  | .partForget conf node => Sys2Proof.Machine.execPartForget conf node s
  | .tickLockAcquire => Sys2Proof.Machine.execTickLockAcquire s
  | .wakePatternDetect m bursts => Sys2Proof.Machine.execWakePatternDetect m bursts s
  | .memSweep h repair t => Sys2Proof.Machine.execMemSweep h repair t s
  | .sweepComplete read skipped hits => Sys2Proof.Machine.execSweepComplete read skipped hits s
  | .memSoftRepair h t m row => Sys2Proof.Machine.execMemSoftRepair h t m row s
  | .softRepairClearAll h t m row => Sys2Proof.Machine.execSoftRepairClearAll h t m row s
  | .memSpareStatus h => Sys2Proof.Machine.execMemSpareStatus h s
  | .memErrLog h clr addr => Sys2Proof.Machine.execMemErrLog h clr addr s
  | .hbmRefresh st p => Sys2Proof.Machine.execHbmRefresh st p s
  | .hbmTempRead st temp => Sys2Proof.Machine.execHbmTempRead st temp s
  | .retrainInterval st p => Sys2Proof.Machine.execRetrainInterval st p s
  | .retrainPiece st p cand margin good => Sys2Proof.Machine.execRetrainPiece st p cand margin good s
  | .pcFail st p => Sys2Proof.Machine.execPcFail st p s
  | .migrationChunk st hits => Sys2Proof.Machine.execMigrationChunk st hits s
  | .migrationEnd st => Sys2Proof.Machine.execMigrationEnd st s
  | .bucketLeak => Sys2Proof.Machine.execBucketLeak s
  | .bucketOverflow t synd addr => Sys2Proof.Machine.execBucketOverflow t synd addr s
  | .calGlazeLoad h clear addr dma => Sys2Proof.Machine.execCalGlazeLoad h clear addr dma s
  | .calGlazeRead h sel addr => Sys2Proof.Machine.execCalGlazeRead h sel addr s
  | .calLiveRead h cls first count addr => Sys2Proof.Machine.execCalLiveRead h cls first count addr s
  | .calGessoRead h cls idx addr => Sys2Proof.Machine.execCalGessoRead h cls idx addr s
  | .serdesTrimSlot msh lane cand v h v0 h0 => Sys2Proof.Machine.execSerdesTrimSlot msh lane cand v h v0 h0 s
  | .sensorTrimSlot temps volts osc => Sys2Proof.Machine.execSensorTrimSlot temps volts osc s
  | .pwrModeReqRun h => Sys2Proof.Machine.execPwrModeReqRun h s
  | .pwrModeReqDrain h => Sys2Proof.Machine.execPwrModeReqDrain h s
  | .pwrModeReqDoze h => Sys2Proof.Machine.execPwrModeReqDoze h s
  | .pwrModeReqSleep h => Sys2Proof.Machine.execPwrModeReqSleep h s
  | .pwrResidency h clr addr => Sys2Proof.Machine.execPwrResidency h clr addr s
  | .pwrSilHoldSet h v => Sys2Proof.Machine.execPwrSilHoldSet h v s
  | .pwrThermal h => Sys2Proof.Machine.execPwrThermal h s
  | .dozeDomainsOff => Sys2Proof.Machine.execDozeDomainsOff s
  | .dozeExitReady => Sys2Proof.Machine.execDozeExitReady s
  | .sleepEntry => Sys2Proof.Machine.execSleepEntry s
  | .clockStop => Sys2Proof.Machine.execClockStop s
  | .ethSignalWake p => Sys2Proof.Machine.execEthSignalWake p s
  | .pcieWake => Sys2Proof.Machine.execPcieWake s
  | .sleepTimerWake => Sys2Proof.Machine.execSleepTimerWake s
  | .wake => Sys2Proof.Machine.execWake s
  | .clockRestart c => Sys2Proof.Machine.execClockRestart c s
  | .powerupTimeout src => Sys2Proof.Machine.execPowerupTimeout src s
  | .powerupRetry => Sys2Proof.Machine.execPowerupRetry s
  | .railRaise => Sys2Proof.Machine.execRailRaise s
  | .railLower => Sys2Proof.Machine.execRailLower s
  | .railFault ix => Sys2Proof.Machine.execRailFault ix s
  | .coldReset => Sys2Proof.Machine.execColdReset s
  | .coldResetEnd => Sys2Proof.Machine.execColdResetEnd s
  | .perstNAssert width taken => Sys2Proof.Machine.execPerstNAssert width taken s
  | .sysResetNAssert width taken => Sys2Proof.Machine.execSysResetNAssert width taken s
  | .resetRelease => Sys2Proof.Machine.execResetRelease s
  | .bootImageCheck found len readOk sigOk dev svn ver edges gesso flash => Sys2Proof.Machine.execBootImageCheck found len readOk sigOk dev svn ver edges gesso flash s
  | .primeTraining res => Sys2Proof.Machine.execPrimeTraining res s
  | .primeComplete => Sys2Proof.Machine.execPrimeComplete s
  | .tempReading raw => Sys2Proof.Machine.execTempReading raw s
  | .critDrainExpiry => Sys2Proof.Machine.execCritDrainExpiry s
  | .thermalTrip => Sys2Proof.Machine.execThermalTrip s
  | .pmbusPoll => Sys2Proof.Machine.execPmbusPoll s
  | .firmwareStop => Sys2Proof.Machine.execFirmwareStop s
  | .sysSetupDone => Sys2Proof.Machine.execSysSetupDone s
  | .ctlBootGo => Sys2Proof.Machine.execCtlBootGo s
  | .tikOutEn en => Sys2Proof.Machine.execTikOutEn en s
  | .padRelTime => Sys2Proof.Machine.execPadRelTime s
  | .padRelGpio => Sys2Proof.Machine.execPadRelGpio s
  | .tikNowLo wide => Sys2Proof.Machine.execTikNowLo wide s
  | .tikOvrLastLo wide => Sys2Proof.Machine.execTikOvrLastLo wide s
  | .ptpTimeNs wide => Sys2Proof.Machine.execPtpTimeNs wide s
  | .ptpSleepCntLo wide => Sys2Proof.Machine.execPtpSleepCntLo wide s
  | .sysSerialLo wide => Sys2Proof.Machine.execSysSerialLo wide s
  | .registerWrite acc => Sys2Proof.Machine.execRegisterWrite acc s
  | .tikClrLast => Sys2Proof.Machine.execTikClrLast s
  | .tikClrHold => Sys2Proof.Machine.execTikClrHold s
  | .tikClrSkip => Sys2Proof.Machine.execTikClrSkip s
  | .tikClrEmit => Sys2Proof.Machine.execTikClrEmit s
  | .tikClrWork => Sys2Proof.Machine.execTikClrWork s
  | .tikClrGather => Sys2Proof.Machine.execTikClrGather s
  | .spqClrUe => Sys2Proof.Machine.execSpqClrUe s
  | .spqClrCe => Sys2Proof.Machine.execSpqClrCe s
  | .fwdClrKp => Sys2Proof.Machine.execFwdClrKp s
  | .fwdClrStale => Sys2Proof.Machine.execFwdClrStale s
  | .fwdClrLimit => Sys2Proof.Machine.execFwdClrLimit s
  | .cipClrRetry => Sys2Proof.Machine.execCipClrRetry s
  | .cipClrRefuse => Sys2Proof.Machine.execCipClrRefuse s
  | .cipClrReplay => Sys2Proof.Machine.execCipClrReplay s
  | .cipClrAuth => Sys2Proof.Machine.execCipClrAuth s
  | .keyClrUnwrap => Sys2Proof.Machine.execKeyClrUnwrap s
  | .audClrPart => Sys2Proof.Machine.execAudClrPart s
  | .audClrSat => Sys2Proof.Machine.execAudClrSat s
  | .audClrClip => Sys2Proof.Machine.execAudClrClip s
  | .brsClrFault => Sys2Proof.Machine.execBrsClrFault s
  | .vidClrBound => Sys2Proof.Machine.execVidClrBound s
  | .vidClrDrop => Sys2Proof.Machine.execVidClrDrop s
  | .vidClrMin => Sys2Proof.Machine.execVidClrMin s
  | .vidClrDmg => Sys2Proof.Machine.execVidClrDmg s
  | .cnvClrUe => Sys2Proof.Machine.execCnvClrUe s
  | .cnvClrOmit => Sys2Proof.Machine.execCnvClrOmit s
  | .cnvClrFlip => Sys2Proof.Machine.execCnvClrFlip s
  | .ptpClrRxdrop => Sys2Proof.Machine.execPtpClrRxdrop s
  | .ptpClrLaunch => Sys2Proof.Machine.execPtpClrLaunch s
  | .ptpClrTslost => Sys2Proof.Machine.execPtpClrTslost s
  | .mshClrCredit => Sys2Proof.Machine.execMshClrCredit s
  | .mshClrMedia => Sys2Proof.Machine.execMshClrMedia s
  | .mshClrLate => Sys2Proof.Machine.execMshClrLate s
  | .mshClrDrop => Sys2Proof.Machine.execMshClrDrop s
  | .mshClrUnit => Sys2Proof.Machine.execMshClrUnit s
  | .memClrPoison => Sys2Proof.Machine.execMemClrPoison s
  | .eccClr t => Sys2Proof.Machine.execEccClr t s
  | .calClrWide => Sys2Proof.Machine.execCalClrWide s
  | .calClrHeld => Sys2Proof.Machine.execCalClrHeld s
  | .pcieLinkUp => Sys2Proof.Machine.execPcieLinkUp s
  | .cycleBudgetReached core => Sys2Proof.Machine.execCycleBudgetReached core s
  | .wakePatternSendEnd m => Sys2Proof.Machine.execWakePatternSendEnd m s

end Sys2Proof.Machine
end

