-- ==== Sys2Proof/WellFormed.lean ====
section
/-! DEFINITION. Which commands the surroundings can bring: the checks on operands whose type admits more values than the spec gives
them. -/

namespace Sys2Proof

/-- Memory errors are of a target's words, each with a syndrome of its class (R407, R408). -/
def hitsWf (hits : List EccHit) : Bool := hits.all (·.ok)

/-- A Brush instruction's memory errors. -/
def BrushRef.wf (b : BrushRef) : Bool := hitsWf b.hits

/-- The ring numbers of R82: command 0 to 15, completion 16 to 31, event 32, timestamp 33, media 64 to 127. -/
def ringWf (q : BitVec 7) : Bool := decide (q.toNat < 34) || decide (64 ≤ q.toNat)

/-- A read of host memory that did not fail returned `n` words. -/
def wordsWf (n : Nat) (ws : Option (List Word)) : Bool := (ws.map (fun w => decide (w.length = n))).getD true

/-- The lanes of a Meash port: 0 to 7 and the protection lane 8 (R360). -/
def laneWf (l : BitVec 4) : Bool := decide (l.toNat ≤ 8)

/-- The commands the surroundings can bring. -/
def Instr.wf : Instr → Bool
  | .tickStart _ _ hits _ => hitsWf hits
  | .workOpen => true
  | .emitOpen => true
  | .packetLaunch _ u => hitsWf u.hits
  | .phaseEnd phase => decide (phase.toNat < 3)
  | .latchPoint => true
  | .tickOutPulse => true
  | .stepApply => true
  | .tickLockLost => true
  | .audioDecode _ _ _ hits => hitsWf hits
  | .mix late => hitsWf late.hits
  | .activeSpeakerSwap _ _ => true
  | .dominantSpeakerChange _ => true
  | .audioEncode _ _ _ hits => hitsWf hits
  | .groupWake _ => true
  | .silHoldReached _ => true
  | .taskArrival _ _ => true
  | .move b _ _ => b.wf
  | .ldi b _ _ => b.wf
  | .ldH b _ _ => b.wf
  | .ldL b _ _ => b.wf
  | .stH b _ _ => b.wf
  | .stL b _ _ => b.wf
  | .ldbus b _ _ => b.wf
  | .stbus b _ _ => b.wf
  | .movd b _ _ => b.wf
  | .movdR b _ _ => b.wf
  | .mul b _ _ _ => b.wf
  | .mla b _ _ _ => b.wf
  | .mls b _ _ _ => b.wf
  | .mulR b _ _ _ => b.wf
  | .mlaR b _ _ _ => b.wf
  | .mlaM b _ _ _ => b.wf
  | .mlsM b _ _ _ => b.wf
  | .mla2 b _ _ _ _ _ _ => b.wf
  | .add b _ _ => b.wf
  | .sub b _ _ => b.wf
  | .neg b _ => b.wf
  | .abs b _ => b.wf
  | .clr b _ => b.wf
  | .cmp b _ _ => b.wf
  | .shl b _ _ => b.wf
  | .shr b _ _ => b.wf
  | .rndc b _ => b.wf
  | .sat b _ => b.wf
  | .cls b _ _ => b.wf
  | .addd b _ _ _ => b.wf
  | .subd b _ _ _ => b.wf
  | .and b _ _ _ => b.wf
  | .or b _ _ _ => b.wf
  | .xor b _ _ _ => b.wf
  | .not b _ _ => b.wf
  | .lsl b _ _ _ => b.wf
  | .lsr b _ _ _ => b.wf
  | .asrd b _ _ _ => b.wf
  | .cmpd b _ _ => b.wf
  | .lea b _ _ => b.wf
  | .br b _ => b.wf
  | .brCond b _ _ => b.wf
  | .call b _ => b.wf
  | .ret b => b.wf
  | .loop b _ _ => b.wf
  | .leave b => b.wf
  | .clrf b => b.wf
  | .nop b => b.wf
  | .xferR b _ _ _ _ => b.wf
  | .xferW b _ _ _ _ => b.wf
  | .xferComplete _ _ hits => hitsWf hits
  | .wait b => b.wf
  | .sig b => b.wf
  | .halt b => b.wf
  | .waitTimeout _ => true
  | .instanceSuspend _ _ => true
  | .videoDecodeSlice _ _ hits => hitsWf hits
  | .videoEncodeSlice _ _ _ _ hits => hitsWf hits
  | .keyIntExpiry _ => true
  | .canvasSlice _ hits _ _ => hitsWf hits
  | .frameBoundary _ => true
  | .flipTimeout _ => true
  | .layerStale _ _ => true
  | .plateValid _ => true
  | .doorbellPoll => true
  | .doorbellLineRead _ line words _ => decide (line.toNat < 7) && wordsWf 16 words
  | .hpaControlRead _ _ _ => true
  | .descriptorFetch _ _ words _ _ _ => wordsWf 16 words
  | .hostStall _ q => ringWf q
  | .moderationPoint _ => true
  | .mediaEntryFinish _ _ => true
  | .ringDrainDone _ q => ringWf q
  | .functionLevelReset _ => true
  | .vfEnableClear => true
  | .hifFnReset _ => true
  | .fnResetComplete _ => true
  | .hifFnEn _ _ => true
  | .hifRingEn _ q _ => ringWf q
  | .genNop _ => true
  | .genFnInfo _ => true
  | .genEventMask _ _ _ => true
  | .genVfReset _ _ => true
  | .admConfOpen _ _ _ _ _ => true
  | .admConfClose _ _ => true
  | .admLegAdmit _ _ _ _ _ => true
  | .admLegModify _ _ _ _ _ => true
  | .admLegRelease _ _ => true
  | .admLegStats _ _ _ => true
  | .admFnBudgetSet _ _ _ _ => true
  | .admLayoutAdmit _ _ _ _ _ _ _ _ _ => true
  | .admLayoutRelease _ _ => true
  | .admHostClose _ => true
  | .netStreamBind _ _ _ _ => true
  | .netStreamUnbind _ _ => true
  | .netPortStats _ _ _ _ _ => true
  | .netJbSet _ _ _ _ => true
  | .netQueueFlush _ _ => true
  | .frameReceive _ _ _ f => hitsWf f.hits
  | .lateRunReached _ _ => true
  | .linkDown _ _ => true
  | .linkUp _ _ => true
  | .fwdSubSet _ _ _ _ _ _ _ _ _ _ _ _ _ _ _ _ _ _ => true
  | .fwdSubClear _ _ => true
  | .fwdSubCap _ _ _ _ _ _ _ => true
  | .fwdEstRead _ _ => true
  | .fwdKeyPicReq _ _ _ => true
  | .fwdPaceSet _ _ _ _ _ _ => true
  | .estUpdate _ => true
  | .upHoldReached _ => true
  | .kpGapEnd _ _ => true
  | .kpWaitExpiry _ => true
  | .keyKekInfo _ _ => true
  | .kekAgree _ _ _ => true
  | .keyImport _ _ _ _ _ => true
  | .keyDerive _ _ _ => true
  | .keyErase _ _ => true
  | .cipBind _ _ _ _ _ _ _ _ _ _ _ _ _ _ => true
  | .cipUnbind _ _ _ => true
  | .cipStats _ _ _ _ _ _ => true
  | .rxOverlapEnd _ => true
  | .reseed _ => true
  | .entropyHealthFail => true
  | .audRouteSet _ _ _ _ _ _ _ _ _ _ _ _ _ _ _ _ => true
  | .audBusSetting _ _ _ _ => true
  | .audRouteClear _ _ _ => true
  | .audSinkDyn _ _ _ _ _ _ _ _ _ _ _ => true
  | .audTonePlay _ _ _ _ _ _ _ _ _ _ _ _ _ => true
  | .audToneStop _ _ _ _ => true
  | .audLevels _ _ _ => true
  | .audMediaBind _ _ _ _ _ _ => true
  | .audMediaUnbind _ _ => true
  | .brsProgLoad _ _ _ _ _ => true
  | .brsProgUnload _ _ => true
  | .brsTaskBind _ _ _ _ _ _ _ _ => true
  | .brsTaskUnbind _ _ _ => true
  | .brsStats _ _ _ _ => true
  | .vidDecOpen _ _ _ _ _ _ _ => true
  | .vidDecClose _ _ => true
  | .vidEncOpen _ _ _ _ _ _ _ _ _ _ _ => true
  | .vidEncClose _ _ => true
  | .vidEncRate _ _ _ _ _ _ => true
  | .vidKeyPic _ _ => true
  | .vidMediaBind _ _ _ _ _ _ => true
  | .vidMediaUnbind _ _ => true
  | .vidStats _ _ _ _ _ => true
  | .cnvLayoutSet _ _ _ _ _ _ _ => true
  | .cnvLayerSet _ _ _ _ _ _ _ _ _ _ _ _ _ _ _ _ _ _ => true
  | .cnvLayerClear _ _ _ _ => true
  | .cnvGroupFlip _ _ _ => true
  | .cnvVarnishLoad _ _ _ _ _ _ _ _ _ _ => true
  | .cnvVarnishDrop _ _ => true
  | .ptpStep _ _ _ _ _ => true
  | .ptpRate _ _ _ => true
  | .ptpServoCfg _ _ _ _ _ _ _ _ _ _ => true
  | .ptpStatus _ => true
  | .delayReqSend ofs => decide (ofs.toNat < 500000)
  | .announceTimeout => true
  | .measurementTimeout => true
  | .holdoverLimit => true
  | .ppsOutPulse => true
  | .ppsInEdge _ => true
  | .ppsInLoss => true
  | .ptpLaunchMiss => true
  | .mshPortCfg _ _ _ _ _ _ _ _ => true
  | .mshRouteSet _ _ _ => true
  | .mshStreamExport _ _ _ _ _ => true
  | .mshStreamImport _ _ _ _ _ _ _ _ _ => true
  | .mshTraceSet _ _ => true
  | .mshApsCmd _ _ _ _ => true
  | .mshPeerStatus _ _ => true
  | .mshWakeSend _ _ => true
  | .laneFrameReceive _ l _ _ _ _ => laneWf l
  | .amLock _ l => laneWf l
  | .amLoss _ l => laneWf l
  | .traceAccept _ l => laneWf l
  | .sfHoldoffExpiry _ _ => true
  | .apsSelect _ => true
  | .wtrExpiry _ => true
  | .partialUnitReceive _ _ _ => true
  | .mediaUnitReceive _ _ _ => true
  | .tickMarkerReceive _ _ => true
  | .creditUnitReceive _ _ => true
  | .controlUnitReceive _ _ _ _ _ => true
  | .creditUnitSend _ => true
  | .tickMarkerSend _ => true
  | .mediaUnitTimeout _ => true
  | .partForget _ _ => true
  | .tickLockAcquire => true
  | .wakePatternDetect _ _ => true
  | .memSweep _ _ _ => true
  | .sweepComplete _ _ hits => hitsWf hits
  | .memSoftRepair _ _ _ _ => true
  | .softRepairClearAll _ _ _ _ => true
  | .memSpareStatus _ => true
  | .memErrLog _ _ _ => true
  | .hbmRefresh _ _ => true
  | .hbmTempRead _ _ => true
  | .retrainInterval _ _ => true
  | .retrainPiece _ _ _ _ _ => true
  | .pcFail _ _ => true
  | .migrationChunk _ hits => hitsWf hits
  | .migrationEnd _ => true
  | .bucketLeak => true
  | .bucketOverflow t synd addr => (EccHit.mk t 0 0 synd addr).ok
  | .calGlazeLoad _ _ _ _ => true
  | .calGlazeRead _ _ _ => true
  | .calLiveRead _ _ _ _ _ => true
  | .calGessoRead _ _ _ _ => true
  | .serdesTrimSlot _ _ _ _ _ _ _ => true
  | .sensorTrimSlot _ _ _ => true
  | .pwrModeReqRun _ => true
  | .pwrModeReqDrain _ => true
  | .pwrModeReqDoze _ => true
  | .pwrModeReqSleep _ => true
  | .pwrResidency _ _ _ => true
  | .pwrSilHoldSet _ _ => true
  | .pwrThermal _ => true
  | .dozeDomainsOff => true
  | .dozeExitReady => true
  | .sleepEntry => true
  | .clockStop => true
  | .ethSignalWake _ => true
  | .pcieWake => true
  | .sleepTimerWake => true
  | .wake => true
  | .clockRestart _ => true
  | .powerupTimeout _ => true
  | .powerupRetry => true
  | .railRaise => true
  | .railLower => true
  | .railFault i => decide (i.toNat < 6)
  | .coldReset => true
  | .coldResetEnd => true
  | .perstNAssert _ _ => true
  | .sysResetNAssert _ _ => true
  | .resetRelease => true
  | .bootImageCheck _ _ _ _ _ _ _ _ _ _ => true
  | .primeTraining _ => true
  | .primeComplete => true
  | .tempReading raw => decide (raw.length = 24)
  | .critDrainExpiry => true
  | .thermalTrip => true
  | .pmbusPoll => true
  | .firmwareStop => true
  | .sysSetupDone => true
  | .ctlBootGo => true
  | .tikOutEn _ => true
  | .padRelTime => true
  | .padRelGpio => true
  | .tikNowLo _ => true
  | .tikOvrLastLo _ => true
  | .ptpTimeNs _ => true
  | .ptpSleepCntLo _ => true
  | .sysSerialLo _ => true
  | .registerWrite acc => decide (1 ≤ acc.size.toNat ∧ acc.size.toNat ≤ 8)
  | .tikClrLast => true
  | .tikClrHold => true
  | .tikClrSkip => true
  | .tikClrEmit => true
  | .tikClrWork => true
  | .tikClrGather => true
  | .spqClrUe => true
  | .spqClrCe => true
  | .fwdClrKp => true
  | .fwdClrStale => true
  | .fwdClrLimit => true
  | .cipClrRetry => true
  | .cipClrRefuse => true
  | .cipClrReplay => true
  | .cipClrAuth => true
  | .keyClrUnwrap => true
  | .audClrPart => true
  | .audClrSat => true
  | .audClrClip => true
  | .brsClrFault => true
  | .vidClrBound => true
  | .vidClrDrop => true
  | .vidClrMin => true
  | .vidClrDmg => true
  | .cnvClrUe => true
  | .cnvClrOmit => true
  | .cnvClrFlip => true
  | .ptpClrRxdrop => true
  | .ptpClrLaunch => true
  | .ptpClrTslost => true
  | .mshClrCredit => true
  | .mshClrMedia => true
  | .mshClrLate => true
  | .mshClrDrop => true
  | .mshClrUnit => true
  | .memClrPoison => true
  | .eccClr t => decide (t.toNat ≤ 10)
  | .calClrWide => true
  | .calClrHeld => true
  | .pcieLinkUp => true
  | .cycleBudgetReached _ => true
  | .wakePatternSendEnd _ => true

end Sys2Proof
end

