-- ==== Sys2Proof/Safety.lean ====
section
/-! DEFINITION. The terms claims are made in: what a command answers, which part of the state a change may touch, and the invariant
of the waiting commands. -/

namespace Sys2Proof.Machine

/-- Every command waiting in the queue is one the surroundings can bring. -/
abbrev QueueWf (s : State) : Prop := ∀ c ∈ s.pending, c.wf = true

/-- The registers and the host memory are in canonical form: addresses strictly rising, no entry equal to what an unlisted address
reads as. -/
abbrev StoresCanon (s : State) : Prop := mcanon regReset s.regs = true ∧ mcanon (fun _ => 0) s.hostMem = true

/-- The state a command starts from: what the command before it sent out is gone. -/
def fresh (s : State) : State := { s with out := [] }

/-- R94's checks that come before a chapter's own let a host command through, and its function is not being reset (R110). -/
abbrev Passes (s : State) (h : CmdHdr) (p : Pre) : Prop := unserved s h.fn.toNat = false ∧ p.status s h = none

/-- The state `t` with the queue of waiting commands as it was in `s`. -/
def keepQueue (s t : State) : State := { t with pending := s.pending }

/-- Command `c` of header `h` and opcode `op` is refused with status `st`: nothing changes but what its completion changes. -/
abbrev Refused (s : State) (c : Instr) (h : CmdHdr) (op st : BitVec 16) : Prop :=
  exec c s = .next (keepQueue s (complete (fresh s) h op st []))

/-- The state without what writing completions, events and interrupts may change: registers, host memory, the host interface, what
is sent out. -/
def hostRest (s : State) : State := { s with regs := [], hostMem := [], hif := {}, out := [] }

/-- What the host does not see is the same in both states. -/
def HostSide (s t : State) : Prop := hostRest t = hostRest s

/-! ## Brush instructions -/

/-- The active bank of the core that `b` names. -/
def brushBank (b : BrushRef) (s : State) : BBank := (coreOf s b.core.toNat).act

/-- The address of the instruction after the one that `b` issues. -/
def brushAfter (b : BrushRef) (s : State) : Nat := (brushBank b s).pc.toNat + (if b.two then 2 else 1)

/-- Instruction `op`, of an encoding R258 admits, issues on the core that `b` names: invocation `r` of instance `i` of program `p` runs
there, waits for nothing and has cycles left, its code word is clean, and the instruction neither faults nor waits. -/
abbrev Issues (s : State) (b : BrushRef) (op : BOp) (r : BRun) (i : BInst) (p : BProg) : Prop :=
  (coreOf s b.core.toNat).run = some r ∧ r.stall = none ∧ tget s.brs.insts r.key = some i ∧ tget s.brs.progs i.prog = some p ∧
  op.valid = true ∧ op.inCode (brushBank b s).pc.toNat p.code.length b.two = true ∧ r.cyc < p.cycMax + 200 ∧
  eccBad s b.hits [10] = false ∧ op.fault (brushBank b s) r p = none ∧
  op.waits (brushBank b s) r = false

/-- The invocation after `op` of `n` cycles: one more when it reads a register the instruction before it loaded (R255); the transfers it
issued; marked when it met an uncorrectable word (R412). -/
def brushRun (s : State) (b : BrushRef) (op : BOp) (r : BRun) (n : Nat) : BRun :=
  { op.issue (brushBank b s) r with
    cyc := r.cyc + n + (if r.loaded.any (fun g => op.reads.contains g) then 1 else 0), loaded := op.loads
    dirty := r.dirty || b.bad ≠ 0 || eccBad s b.hits [0] }

/-- The whole state after `op` of `n` cycles that left the bank `k` and the instance `i`: only the core and the instance change, beside
what the memory errors it met leave (R408). -/
def brushNext (s : State) (b : BrushRef) (op : BOp) (r : BRun) (k : BBank) (i : BInst) (n : Nat) : State :=
  setInst (setCore (eccHits (fresh s) b.hits) b.core.toNat
    { coreOf s b.core.toNat with act := k, run := some (brushRun s b op r n) }) r.key i

/-- A register bank as R243 gives it: eight registers of each kind, four accumulators, at most four loops and eight calls. -/
abbrev BankWf (k : BBank) : Prop :=
  k.d.length = 8 ∧ k.a.length = 4 ∧ k.p.length = 8 ∧ k.o.length = 8 ∧ k.el.length = 8 ∧ k.pl.length = 8 ∧ k.b.length = 8 ∧
  k.loops.length ≤ 4 ∧ k.calls.length ≤ 8

/-- Both banks of every core are as R243 gives them, and the windows and the studio region of every instance are in canonical form. -/
abbrev BrushWf (s : State) : Prop :=
  (∀ p ∈ s.brs.cores, BankWf p.2.act ∧ BankWf p.2.idle) ∧
  (∀ p ∈ s.brs.insts, mcanon zeroWord p.2.x = true ∧ mcanon zeroWord p.2.y = true ∧ mcanon zeroWord p.2.studio = true)

end Sys2Proof.Machine
end

