-- ==== Sys2Proof/Certificates/Slice0/Obligations.lean ====
section
/-! DEFINITION. The statements for the provers. Where a statement gives the next state, it gives it whole: what it does not name is as
before. `fresh s` is `s` with what the last command sent out gone, `keepQueue s t` is `t` with the queue of `s`, and `complete` writes the
completion of a host command. -/

open Sys2Proof Sys2Proof.Machine

/-! ## The block as a whole -/

/-- A step with a command at the front of the queue is that command's effect on the state with the queue's rest. -/
def Obligations.StepRunsFrontCommand : Prop :=
  ∀ (s : State) (c : Instr) (r : List Instr), s.pending = c :: r → step s = exec c { s with pending := r }

/-- On an empty queue one cycle of the 800 MHz time base passes: of the whole state only the clock changes, its cycle count by one and its
time by INC of R336 while it runs, but for the frames that enabled Meash ports send (R360, R361). A port that is not enabled, whose clock
stands or whose next frame is not due sends none; else it sends one frame on each working lane and one on lane 8, and starts its frames at
the first cycle. That a step on an empty queue is such a cycle, and that frames go out in it, is the model's choice (log entries 1 and
56). -/
def Obligations.StepIdlesOneCycle : Prop :=
  (∀ s : State, s.pending = [] → step s = .next (idle s)) ∧
  (∀ s : State, (∀ m, m < 4 → (mshPort s m).live.en = false) ∨ s.clk.running = false → idle s = cycles s 1) ∧
  (∀ (s : State) (k : Nat), s.clk.running = true →
    cycles s k = { s with clk := { s.clk with cyc := s.clk.cyc + k, t := s.clk.t + k * incOf (rate s) } }) ∧
  (∀ (s : State) (k : Nat), s.clk.running = false → cycles s k = { s with clk := { s.clk with cyc := s.clk.cyc + k } }) ∧
  (∀ s : State, ∃ f0 f1 f2 f3 : List OutMsg, (idle s).out = s.out ++ f0 ++ f1 ++ f2 ++ f3 ∧
    { idle s with out := s.out, msh := s.msh } = cycles s 1 ∧
    (∀ p ∈ [(0, f0), (1, f1), (2, f2), (3, f3)], ∀ x ∈ p.2, ∃ l bs, l ≤ 8 ∧ x = .mshFrame p.1 l bs)) ∧
  (∀ (s : State) (m : Nat), (mshPort s m).live.en = false ∨ s.clk.running = false → portSend s m = s) ∧
  (∀ (s : State) (m c : Nat), (mshPort s m).txFrom = some c → 32125 * (s.clk.cyc - c) < 4227072 * (mshPort s m).txN →
    portSend s m = s) ∧
  (∀ (s : State) (m c : Nat), (mshPort s m).live.en = true → s.clk.running = true → (mshPort s m).txFrom = some c →
    4227072 * (mshPort s m).txN ≤ 32125 * (s.clk.cyc - c) → portSend s m = portFrames s m) ∧
  (∀ (s : State) (m : Nat), (mshPort s m).live.en = true → s.clk.running = true → (mshPort s m).txFrom = none →
    portSend s m = portFrames (setMshPort s m { mshPort s m with txFrom := some s.clk.cyc, txN := 0 }) m) ∧
  (∀ (s : State) (m w : Nat) (p x : MshPort) (bs : List (List Byte)) (pay : Nat → List Byte), p = mshPort s m → w = p.live.w →
    p.waking = none → nextBlocks s p (32 * w) = (x, bs) →
    pay = (fun i => (List.range 32).flatMap (fun b => bs.getD (groupBlock w b i) [])) →
    portFrames s m = { setMshPort s m { x with txN := p.txN + 1 } with
      out := s.out ++ (List.range w).map (fun l => .mshFrame m l (laneFrame s m l l (p.txN % 256) (0, 0) (pay l))) ++
        [.mshFrame m 8 (if p.force.2 < w then laneFrame s m 8 p.force.2 (p.txN % 256) (apsLocal s m) (pay p.force.2)
          else laneFrame s m 8 15 (p.txN % 256) (apsLocal s m) (fill s 2048))] })

/-- Every command answers a next state and leaves the commands behind it in the queue. That a command which names an event that
cannot happen answers one too, and leaves the state as it is, is the model's choice (log entry 3), and so is the queue (log entry 2). -/
def Obligations.EveryCommandCompletes : Prop :=
  ∀ (c : Instr) (s : State), ∃ t, exec c s = .next t ∧ t.pending = s.pending

/-- After reset nothing waits, the stores of words are in canonical form, the Brush array is in order, and the device is in RESET. -/
def Obligations.ResetHoldsInvariants : Prop :=
  QueueWf State.reset ∧ StoresCanon State.reset ∧ BrushWf State.reset ∧ State.reset.pending = [] ∧ mode State.reset = 0 ∧
  bit State.reset SYS_LOCKED = false ∧ State.reset.out = []

/-- Every step keeps the waiting commands well-formed: from any state whose queue holds commands the surroundings can bring, the state
after a step has such a queue, one command shorter unless it was empty. That there is one queue and that every
command has a next state is the model's choice (log entries 2 and 3). -/
def Obligations.StepKeepsQueueWf : Prop :=
  ∀ s : State, QueueWf s → ∃ t, step s = .next t ∧ QueueWf t ∧ t.pending = s.pending.tail

/-- Every step keeps the register store and host memory in canonical form: addresses strictly rising, no entry equal to what an unlisted
address reads as. So equal contents are equal data, whatever the commands that led there. The form of both is the model's (log entry
11). -/
def Obligations.StepKeepsStoresCanon : Prop :=
  ∀ s t : State, StoresCanon s → step s = .next t → StoresCanon t

/-- Decoding the descriptor words of a host command gives it back (R92, R118), with every operand at every value: no bit of the command
area is dropped or moved. -/
def Obligations.DescriptorRoundTrip : Prop :=
  ∀ (i : Instr) (h : CmdHdr) (op : Nat) (a : List Word) (x : CmdData), encodeCmd i = some (h, op, a, x) → decodeCmd h op a x = some i

/-! ## Rules -/

/-- R21 and R22: the tick number of the time with seconds S and nanoseconds n; where the ticks of a second start, how long each is; and
that the formula of R21 is the inverse: the tick of a time is the last whose start does not lie after it. -/
def Obligations.TickNumbersAndStarts : Prop :=
  (∀ S n : Nat, n < 1000000000 → tickOf (S * 1000000000 + n) = S * 1200 + (3 * n + 2) / 2500000) ∧
  (∀ S k : Nat, k < 1200 → tickStartNs (S * 1200 + k) = S * 1000000000 + k * 2500000 / 3 ∧ (S * 1200 + k) % 3 = k % 3) ∧
  (∀ S j : Nat, j < 400 → tickStartNs (S * 1200 + 3 * j) = S * 1000000000 + 2500000 * j ∧
    tickStartNs (S * 1200 + (3 * j + 1)) = S * 1000000000 + (2500000 * j + 833333) ∧
    tickStartNs (S * 1200 + (3 * j + 2)) = S * 1000000000 + (2500000 * j + 1666666)) ∧
  (∀ n : Nat, tickStartNs n + tickLen n = tickStartNs (n + 1) ∧ tickLen n = if n % 3 = 2 then 833334 else 833333) ∧
  (∀ t n : Nat, tickOf t = n ↔ tickStartNs n ≤ t ∧ t < tickStartNs (n + 1))

/-- R85: the slot and the pass phase of an index in a ring of 2^k entries, and that both stay continuous when the index wraps. -/
def Obligations.RingSlotAndPhase : Prop :=
  ∀ (i : BitVec 32) (k n : Nat), k ≤ 16 → n = 2 ^ k →
    ringSlot i n = i.toNat % n ∧ (passPhase i n = 1 ↔ i.toNat / n % 2 = 0) ∧ (passPhase i n = 0 ↔ i.toNat / n % 2 = 1) ∧
    (ringSlot i n + 1 < n → ringSlot (i + 1) n = ringSlot i n + 1 ∧ passPhase (i + 1) n = passPhase i n) ∧
    (ringSlot i n + 1 = n → ringSlot (i + 1) n = 0 ∧ passPhase (i + 1) n = 1 - passPhase i n)

/-- What a write leaves in each field of each register of the map (R9, R11, R496, R499, R501): RO, ROF and WO fields keep what they hold;
RW and RWS fields take the value written unless it is a reserved encoding, and RWL fields do so while unlocked and keep theirs while
locked; RW1C fields, and those RWS fields that a written 1 clears, lose the bits written 1. No field's write reaches another field, the
bits of no field stay, and a WO field reads 0. A write to a register with an RWL field while locked is recorded, also where the
field would not change, which is the model's choice (log entry 9). Bits that a rule holds back keep their value (`keptBits`: R163, R466,
R392, R109, R149). -/
def Obligations.RegisterFieldsByAccessType : Prop :=
  (∀ (a : Nat) (r : RegDef), regAt a = some r → ∀ (locked : Bool) (w d : Word),
    (∀ f ∈ r.fields, ∀ old new v : Nat, old = bitsOf w f.hi f.lo → v = bitsOf d f.hi f.lo →
      new = bitsOf (r.write locked w d) f.hi f.lo →
      (f.acc = .ro ∨ f.acc = .rof ∨ f.acc = .wo → new = old) ∧
      (f.acc = .rw ∨ f.acc = .rws → (f.least ≤ v → v ≤ f.most → new = v) ∧ (v < f.least ∨ f.most < v → new = old)) ∧
      (f.acc = .rwl → locked = true → new = old) ∧
      (f.acc = .rwl → locked = false → (f.least ≤ v → v ≤ f.most → new = v) ∧ (v < f.least ∨ f.most < v → new = old)) ∧
      (f.acc = .rw1c ∨ f.acc = .rwsc → ∀ j, new.testBit j = (old.testBit j && !v.testBit j)) ∧
      (f.acc = .wo → bitsOf (r.readMask w) f.hi f.lo = 0) ∧ (f.acc ≠ .wo → bitsOf (r.readMask w) f.hi f.lo = old)) ∧
    (∀ j, j < 32 → (∀ f ∈ r.fields, j < f.lo ∨ f.hi < j) → (r.write locked w d).getLsbD j = w.getLsbD j)) ∧
  (∀ (s t : State) (a : Nat) (r : RegDef) (d new : Word), regAt a = some r → answers s a = true →
    t = (if bit s SYS_LOCKED && r.hasRwl then setFld (setBit s SYS_ST_LOCK_WR) SYS_LOCK_OFS a else s) →
    new = r.write (bit s SYS_LOCKED) (reg t a) d →
    regWrite s a d = regActs (setReg t a
      ((keptBits t a new).foldl (fun w k => setBits w k.1 k.2 (bitsOf (reg t a) k.1 k.2)) new)) a d (reg t a))

/-- What reset leaves in the registers (R496 and the Reset columns): every field of every register of the map holds its reset value, and
the bits of no field are 0. -/
def Obligations.RegistersAtReset : Prop :=
  ∀ (a : Nat) (r : RegDef), regAt a = some r →
    (∀ f ∈ r.fields, bitsOf (reg State.reset a) f.hi f.lo = f.rst) ∧
    (∀ j, j < 32 → (∀ f ∈ r.fields, j < f.lo ∨ f.hi < j) → (reg State.reset a).getLsbD j = false)

/-- A command that R94's checks refuse has no effect: it changes nothing but what its completion with the first status that applies
changes (and, for a failed read of host memory, what that failure logs); a command of a function that is not served has neither effect nor
completion. The checks apply in R94's order, the opcode first, and the reserved fields before a chapter's own checks. -/
def Obligations.RefusedCommandsHaveNoEffect : Prop :=
  (∀ (h : CmdHdr) (op : BitVec 16) (p : Pre) (k : State → State × Res) (s : State),
    (unserved s h.fn.toNat = true → command h op p k s = s) ∧
    (∀ st : BitVec 16, unserved s h.fn.toNat = false → p.status s h = some st → st ≠ GEN_ST_DMA →
      command h op p k s = complete s h op st []) ∧
    (unserved s h.fn.toNat = false → p.status s h = some GEN_ST_DMA →
      command h op p k s = complete (dmaErr s h.fn.toNat) h op GEN_ST_DMA [])) ∧
  (∀ (h : CmdHdr) (op : BitVec 16) (p : Pre) (k : State → State × Option Res) (s : State),
    (unserved s h.fn.toNat = true → commandLong h op p k s = s) ∧
    (∀ st : BitVec 16, unserved s h.fn.toNat = false → p.status s h = some st → st ≠ GEN_ST_DMA →
      commandLong h op p k s = complete s h op st []) ∧
    (unserved s h.fn.toNat = false → p.status s h = some GEN_ST_DMA →
      commandLong h op p k s = complete (dmaErr s h.fn.toNat) h op GEN_ST_DMA [])) ∧
  (∀ (h : CmdHdr) (op : BitVec 16) (st : BitVec 16) (s : State), HostSide s (complete s h op st []) ∧ HostSide s (dmaErr s h.fn.toNat)) ∧
  (∀ (h : CmdHdr) (ws : List Word) (x : CmdData),
    (layoutOfOp (bitsOf (ws.getD 0 0) 31 16) (ws.drop 4) = none → (descWaiting h ws x).early = some GEN_ST_OPCODE) ∧
    (∀ l, layoutOfOp (bitsOf (ws.getD 0 0) 31 16) (ws.drop 4) = some l →
      (l.fn0 = true → h.fn ≠ 0 → (descWaiting h ws x).early = some GEN_ST_NOT_PERMITTED) ∧
      ((l.fn0 = true → h.fn = 0) → reservedClear ws l.mask = false → (descWaiting h ws x).early = some GEN_ST_RESERVED))) ∧
  (∀ (h : CmdHdr) (p : Pre) (s : State),
    (p.fn0 = true → h.fn ≠ 0 → p.status s h = some GEN_ST_NOT_PERMITTED) ∧
    ((p.fn0 = true → h.fn = 0) → p.reserved = true → p.status s h = some GEN_ST_RESERVED) ∧
    ((p.fn0 = true → h.fn = 0) → p.reserved = false → mode s ∉ p.modes → p.status s h = some GEN_ST_MODE) ∧
    ((p.fn0 = true → h.fn = 0) → p.reserved = false → mode s ∈ p.modes → p.misaligned = true → p.status s h = some GEN_ST_ALIGN) ∧
    ((p.fn0 = true → h.fn = 0) → p.reserved = false → mode s ∈ p.modes → p.misaligned = false → p.dmaFailed = true →
      p.status s h = some GEN_ST_DMA) ∧
    ((p.fn0 = true → h.fn = 0) → p.reserved = false → mode s ∈ p.modes → p.misaligned = false → p.dmaFailed = false →
      p.status s h = none))

/-- Refusals by the checks of chapters 3 to 9, for each of their families of host commands (R48, R53, R61, R74, R100, R111, R134, R153,
R169, R190, R193, R229, R258): where R94's checks let the command through and the chapter's check refuses it, it completes with the
chapter's status and changes nothing else. That a leg or layout being released is still held by its conference is the model's choice (log
entry 107), and so is the order of checks that a chapter does not rank (log entries 29 and 71). -/
def Obligations.RefusalsOfChapters3To9HaveNoEffect : Prop :=
  (∀ (s : State) (h : CmdHdr) (code : BitVec 16), Passes s h { reserved := !eventCodes.contains code } →
    unmaskable code = true →
    Refused s (.genEventMask h false code) h OP_GEN_EVENT_MASK GEN_ST_NOT_PERMITTED) ∧
  (∀ (s : State) (h : CmdHdr) (f : BitVec 6), Passes s h { fn0 := true, reserved := f = 0 } →
    fnExists s f.toNat = false →
    Refused s (.genVfReset h f) h OP_GEN_VF_RESET GEN_ST_FN_UNKNOWN) ∧
  (∀ (s : State) (h : CmdHdr) (conf : BitVec 12) (leg : BitVec 14) (addr : BitVec 64) (dma : Dma), Passes s h { misaligned := addr.toNat % 64 ≠ 0, dmaFailed := dma.isNone } →
    admOpen s = false →
    Refused s (.admLegAdmit h conf leg addr dma) h OP_ADM_LEG_ADMIT ADM_ST_CLOSED) ∧
  (∀ (s : State) (h : CmdHdr) (conf : BitVec 12) (leg : BitVec 14) (addr : BitVec 64) (dma : Dma), Passes s h { misaligned := addr.toNat % 64 ≠ 0, dmaFailed := dma.isNone } →
    admOpen s = true → tget s.adm.confs conf.toNat = none →
    Refused s (.admLegAdmit h conf leg addr dma) h OP_ADM_LEG_ADMIT ADM_ST_CONF_UNKNOWN) ∧
  (∀ (s : State) (h : CmdHdr) (conf : BitVec 12) (c : Conf), Passes s h {} →
    tget s.adm.confs conf.toNat = some c → c.owner ≠ h.fn.toNat →
    Refused s (.admConfClose h conf) h OP_ADM_CONF_CLOSE ADM_ST_NOT_OWNER) ∧
  (∀ (s : State) (h : CmdHdr) (conf : BitVec 12) (c : Conf), Passes s h {} →
    tget s.adm.confs conf.toNat = some c → c.owner = h.fn.toNat → confHolds s conf.toNat = true →
    Refused s (.admConfClose h conf) h OP_ADM_CONF_CLOSE ADM_ST_CONF_BUSY) ∧
  (∀ (s : State) (h : CmdHdr) (f : BitVec 6) (r : BitVec 4) (v : BitVec 11), Passes s h { fn0 := true, reserved := 1024 < v.toNat } →
    v.toNat < fnPeak s f.toNat r.toNat →
    Refused s (.admFnBudgetSet h f r v) h OP_ADM_FN_BUDGET_SET ADM_ST_BUDGET_BELOW_USE) ∧
  (∀ (s : State) (h : CmdHdr) (id : BitVec 9), Passes s h {} →
    tget s.adm.layouts id.toNat = none →
    Refused s (.admLayoutRelease h id) h OP_ADM_LAYOUT_RELEASE ADM_ST_LEG_UNKNOWN) ∧
  (∀ (s : State) (h : CmdHdr) (hd : BitVec 16) (addr : BitVec 64) (dma : Dma), Passes s h
    { reserved := hd.toNat % 4 = 3, misaligned := addr.toNat % 64 ≠ 0, dmaFailed := dma.isNone } →
    legIn s (hd.toNat / 4) = none →
    Refused s (.netStreamBind h hd addr dma) h OP_NET_STREAM_BIND NET_ST_NOT_ADMITTED) ∧
  (∀ (s : State) (h : CmdHdr) (hd : BitVec 16), Passes s h { reserved := hd.toNat % 4 = 3 } →
    streamForeign s h.fn.toNat hd.toNat = true →
    Refused s (.netStreamUnbind h hd) h OP_NET_STREAM_UNBIND NET_ST_NOT_OWNER) ∧
  (∀ (s : State) (h : CmdHdr) (hd : BitVec 16), Passes s h { reserved := hd.toNat % 4 = 3 } →
    streamForeign s h.fn.toNat hd.toNat = false → tget s.net.bound hd.toNat = none →
    Refused s (.netStreamUnbind h hd) h OP_NET_STREAM_UNBIND NET_ST_UNBOUND) ∧
  (∀ (s : State) (h : CmdHdr) (id : BitVec 20), Passes s h {} →
    tget s.fwd.subs id.toNat = none →
    Refused s (.fwdSubClear h id) h OP_FWD_SUB_CLEAR FWD_ST_SUB_UNKNOWN) ∧
  (∀ (s : State) (h : CmdHdr) (id : BitVec 20) (x : Sub), Passes s h {} →
    tget s.fwd.subs id.toNat = some x → x.owner ≠ h.fn.toNat →
    Refused s (.fwdSubClear h id) h OP_FWD_SUB_CLEAR FWD_ST_NOT_OWNER) ∧
  (∀ (s : State) (h : CmdHdr) (ix : BitVec 2) (hd : BitVec 16), Passes s h { reserved := hd.toNat % 4 = 3 } →
    legIn s (hd.toNat / 4) = none →
    Refused s (.fwdKeyPicReq h ix hd) h OP_FWD_KEY_PIC_REQ FWD_ST_LEG_UNKNOWN) ∧
  (∀ (s : State) (h : CmdHdr) (slot : BitVec 16), Passes s h { modes := keyModes } →
    tget s.key.slots slot.toNat = none →
    Refused s (.keyErase h slot) h OP_KEY_ERASE KEY_ST_SLOT_STATE) ∧
  (∀ (s : State) (h : CmdHdr) (slot : BitVec 16) (k : KeySlot), Passes s h { modes := keyModes } →
    tget s.key.slots slot.toNat = some k → k.owner = h.fn.toNat → k.erase = false → slotBound s slot.toNat = true →
    Refused s (.keyErase h slot) h OP_KEY_ERASE KEY_ST_SLOT_BOUND) ∧
  (∀ (s : State) (h : CmdHdr) (dir : Bool) (hd : BitVec 16), Passes s h { reserved := hd.toNat % 4 = 3, modes := [3, 4, 5] } →
    streamForeign s h.fn.toNat hd.toNat = false → isBound s hd.toNat = true → dirEnabled s hd.toNat dir = true → dirBind s hd.toNat dir = none →
    Refused s (.cipUnbind h dir hd) h OP_CIP_UNBIND KEY_ST_UNBOUND) ∧
  (∀ (s : State) (h : CmdHdr) (bus : BitVec 2) (id : BitVec 14), Passes s h { modes := audModes } →
    toneFor s h.fn.toNat false bus.toNat id.toNat = .ok (sinkTgt id.toNat) → thas s.aud.tones (sinkTgt id.toNat) = false →
    Refused s (.audToneStop h false bus id) h OP_AUD_TONE_STOP AUD_ST_NO_TONE) ∧
  (∀ (s : State) (h : CmdHdr) (prog : BitVec 8), Passes s h { modes := audModes } →
    tget s.brs.progs prog.toNat = none →
    Refused s (.brsProgUnload h prog) h OP_BRS_PROG_UNLOAD BRS_ST_PROG_UNKNOWN) ∧
  (∀ (s : State) (h : CmdHdr) (prog : BitVec 8) (p : BProg), Passes s h { modes := audModes } →
    tget s.brs.progs prog.toNat = some p → p.owner = h.fn.toNat → s.brs.insts.any (fun i => i.2.prog = prog.toNat) = true →
    Refused s (.brsProgUnload h prog) h OP_BRS_PROG_UNLOAD BRS_ST_PROG_BUSY)

/-- Refusals by the checks of chapters 10 to 16, for each of their families of host commands (R308, R322, R330, R339, R356, R386, R417,
R434, R446, R454), in the same form. The order of checks that a chapter does not rank is the model's choice (log entries 48 and 70). -/
def Obligations.RefusalsOfChapters10To16HaveNoEffect : Prop :=
  (∀ (s : State) (h : CmdHdr) (fir : Bool) (opS opT : BitVec 2) (holds : BitVec 3) (dpb : BitVec 5) (hd : BitVec 16), Passes s h
    { modes := audModes, reserved := hd.toNat % 4 = 3 || dpbReserved s hd.toNat dpb.toNat } →
    legIn s (hd.toNat / 4) = none →
    Refused s (.vidDecOpen h fir opS opT holds dpb hd) h OP_VID_DEC_OPEN VID_ST_STREAM) ∧
  (∀ (s : State) (h : CmdHdr) (ctx : BitVec 12) (st : BitVec 16), Passes s h { modes := audModes } →
    ctxOwner s h.fn.toNat false ctx.toNat = some st →
    Refused s (.vidDecClose h ctx) h OP_VID_DEC_CLOSE st) ∧
  (∀ (s : State) (h : CmdHdr) (group : BitVec 4) (layout : BitVec 9) (l : LayoutAdm), Passes s h { modes := audModes, reserved := group = 0 } →
    layoutFor s h.fn.toNat layout.toNat = .ok l → (layoutOf s layout.toNat).groups.find? (fun g => g.group = group.toNat) = none →
    Refused s (.cnvGroupFlip h group layout) h OP_CNV_GROUP_FLIP CNV_ST_GROUP_EMPTY) ∧
  (∀ (s : State) (h : CmdHdr) (plate : BitVec 12), Passes s h { modes := audModes } →
    tget s.cnv.plates plate.toNat = none →
    Refused s (.cnvVarnishDrop h plate) h OP_CNV_VARNISH_DROP CNV_ST_SOURCE) ∧
  (∀ (s : State) (h : CmdHdr) (synced : Bool) (r : BitVec 32), Passes s h { fn0 := true, modes := if outOfService s then [] else timeModes } →
    RMAX < r.toInt.natAbs →
    Refused s (.ptpRate h synced r) h OP_PTP_RATE PTP_ST_RANGE) ∧
  (∀ (s : State) (h : CmdHdr) (synced : Bool) (r : BitVec 32), Passes s h { fn0 := true, modes := if outOfService s then [] else timeModes } →
    r.toInt.natAbs ≤ RMAX → s.ptp.servo = true →
    Refused s (.ptpRate h synced r) h OP_PTP_RATE PTP_ST_SERVO) ∧
  (∀ (s : State) (h : CmdHdr) (m : BitVec 2), Passes s h { modes := timeModes } →
    (mshPort s m.toNat).live.en = false →
    Refused s (.mshPeerStatus h m) h OP_MSH_PEER_STATUS MSH_ST_PORT) ∧
  (∀ (s : State) (h : CmdHdr) (repair : Bool) (k : BitVec 4), Passes s h { fn0 := true, modes := memModes } →
    10 < k.toNat →
    Refused s (.memSweep h repair k) h OP_MEM_SWEEP MEM_ST_TARGET) ∧
  (∀ (s : State) (h : CmdHdr) (repair : Bool) (k : BitVec 4), Passes s h { fn0 := true, modes := memModes } →
    k.toNat ≤ 10 → s.mem.sweep.isSome = true →
    Refused s (.memSweep h repair k) h OP_MEM_SWEEP MEM_ST_BUSY) ∧
  (∀ (s : State) (h : CmdHdr) (cls : BitVec 8) (idx : BitVec 16) (addr : BitVec 64), Passes s h
    { fn0 := true, modes := calModes, misaligned := addr.toNat % 64 ≠ 0 } →
    calCount cls.toNat ≤ idx.toNat →
    Refused s (.calGessoRead h cls idx addr) h OP_CAL_GESSO_READ CAL_ST_ITEM) ∧
  (∀ (s : State) (h : CmdHdr) (v : BitVec 16), Passes s h { fn0 := true, modes := pwrModes } →
    v ≠ 0 → v.toNat < 12 →
    Refused s (.pwrSilHoldSet h v) h OP_PWR_SIL_HOLD_SET PWR_ST_RANGE) ∧
  (∀ (s : State) (h : CmdHdr), Passes s h { fn0 := true, modes := reqModes } →
    s.pwr.trans = none → mode s = 5 → notEmpty s = true →
    Refused s (.pwrModeReqDoze h) h OP_PWR_MODE_REQ PWR_ST_NOT_EMPTY)

/-- R93: the completion entry, in the slot that the ring's device index names, with every other word of host memory as it was. -/
def Obligations.CompletionEntryWritten : Prop :=
  ∀ (s t : State) (h : CmdHdr) (op st : BitVec 16) (w0 w1 w2 w3 : Word) (cq f n a : Nat) (i : BitVec 32),
    f = h.fn.toNat → resetting s f = false → cq = cplRing s h →
    (fnOf s f).heldCpls.all (fun p => p.1 ≠ cq) = true → ringOpen s f cq = true →
    n = ringSize s f cq → i = (ringOf s f cq).devIdx → a = ringBase s f cq + ringSlot i n * 32 →
    t = complete s h op st [w0, w1, w2, w3] →
    hostWord t a = st ++ h.tag ∧ hostWord t (a + 4) = op ++ h.idx.setWidth 16 ∧ hostWord t (a + 8) = BitVec.ofNat 32 (curTick s) ∧
    hostWord t (a + 12) = BitVec.ofNat 32 (passPhase i n * 2 ^ 31 + h.ring.toNat * 2 ^ 16) ∧
    hostWord t (a + 16) = w0 ∧ hostWord t (a + 20) = w1 ∧ hostWord t (a + 24) = w2 ∧ hostWord t (a + 28) = w3 ∧
    (∀ b, b / 4 < a / 4 ∨ a / 4 + 8 ≤ b / 4 → hostWord t b = hostWord s b) ∧ (ringOf t f cq).devIdx = i + 1

/-- Numbering of events (R98 to R100): an event of an enabled code takes the next number whether written, held or lost. With the ring open
and nothing before it, it is written at once, in the slot of the ring's device index, with its number, its tick and the ring's phase; with
no room it is held, up to 32, and lost and counted beyond that, the loss record keeping the first lost number and the count that
EV_GEN_EVT_LOST reports when space returns. An event of a disabled code, and any during a function reset, changes nothing. No other
function's rings, events and vectors are touched. -/
def Obligations.EventsNumberedHeldLost : Prop :=
  (∀ (s t : State) (f : Nat) (c src : BitVec 16) (p0 p1 p2 p3 : Word), t = raise s f c src p0 p1 p2 p3 →
    (resetting s f = true → t = s) ∧
    ((fnOf s f).masked.contains c = true → unmaskable c = false → t = s) ∧
    (resetting s f = false → (fnOf s f).masked.contains c = false ∨ unmaskable c = true →
      (fnOf t f).seq = (fnOf s f).seq + 1 ∧
      (∀ (n a : Nat) (i : BitVec 32), (fnOf s f).heldEvts = [] → (fnOf s f).lostFirst = none → ringOpen s f 32 = true →
        n = ringSize s f 32 → i = (ringOf s f 32).devIdx → a = ringBase s f 32 + ringSlot i n * 32 →
        hostWord t a = c ++ (fnOf s f).seq ∧ hostWord t (a + 4) = BitVec.ofNat 32 (curTick s) ∧
        hostWord t (a + 8) = BitVec.ofNat 32 (curTick s % 2 ^ 64 / 2 ^ 32) ∧
        hostWord t (a + 12) = BitVec.ofNat 32 (passPhase i n * 2 ^ 31 + src.toNat) ∧
        hostWord t (a + 16) = p0 ∧ hostWord t (a + 20) = p1 ∧ hostWord t (a + 24) = p2 ∧ hostWord t (a + 28) = p3 ∧
        (∀ b, b / 4 < a / 4 ∨ a / 4 + 8 ≤ b / 4 → hostWord t b = hostWord s b) ∧ (ringOf t f 32).devIdx = i + 1) ∧
      ((fnOf s f).heldEvts ≠ [] ∨ (fnOf s f).lostFirst.isSome = true ∨ ringOpen s f 32 = false →
        t.hostMem = s.hostMem ∧ (ringOf t f 32).devIdx = (ringOf s f 32).devIdx ∧
        ((fnOf s f).heldEvts.length < 32 → (fnOf t f).lostFirst = (fnOf s f).lostFirst ∧ (fnOf t f).lostCnt = (fnOf s f).lostCnt ∧
          (fnOf t f).heldEvts = (fnOf s f).heldEvts ++ [⟨c, (fnOf s f).seq, BitVec.ofNat 64 (curTick s), src, p0, p1, p2, p3⟩]) ∧
        (32 ≤ (fnOf s f).heldEvts.length → (fnOf t f).heldEvts = (fnOf s f).heldEvts ∧
          (fnOf t f).lostFirst = some ((fnOf s f).lostFirst.getD (fnOf s f).seq) ∧
          (fnOf t f).lostCnt = min ((fnOf s f).lostCnt + 1) (2 ^ 32 - 1) ∧
          fld t (HIF_EVT_LOST_CNT f) = min (fld s (HIF_EVT_LOST_CNT f) + 1) (2 ^ 32 - 1) ∧ bit t (HIF_ST_EVT_LOST f) = true))) ∧
    (∀ g, g ≠ f → fnOf t g = fnOf s g)) ∧
  (∀ (s : State) (f : Nat) (q : BitVec 16), (fnOf s f).lostFirst = some q → ringOpen s f 32 = true →
    writeLost s f = pushEntry (setFn s f { fnOf s f with lostFirst := none, lostCnt := 0 }) f 32
      [EV_GEN_EVT_LOST ++ q, BitVec.ofNat 32 (curTick s), BitVec.ofNat 32 (curTick s % 2 ^ 64 / 2 ^ 32), 0,
       BitVec.ofNat 32 (fnOf s f).lostCnt, 0, 0, 0] false)

/-- R247: convergent rounding at bit 23, in each instruction that does it. -/
def Obligations.BrushRounding : Prop :=
  (∀ A f : Int, f = A % 2 ^ 23 →
    ((2 ^ 22 < f ∨ (f = 2 ^ 22 ∧ A / 2 ^ 23 % 2 = 1)) → roundAcc A = A - f + 2 ^ 23) ∧
    (¬(2 ^ 22 < f ∨ (f = 2 ^ 22 ∧ A / 2 ^ 23 % 2 = 1)) → roundAcc A = A - f) ∧
    roundAcc A % 2 ^ 23 = 0 ∧ 2 * (roundAcc A - A) ≤ 2 ^ 23 ∧ -(2 ^ 23) ≤ 2 * (roundAcc A - A)) ∧
  (∀ (k : BBank) (i : BInst) (n : BitVec 2) (d x y : BitVec 3),
    (BOp.rndc n).run k i = (k.acc n (roundAcc (k.ra n).toInt), i) ∧
    (BOp.mul true n x y).run k i = (k.acc n (roundAcc ((k.rd x).toInt * (k.rd y).toInt)), i) ∧
    (BOp.mla true n x y).run k i = (k.acc n (roundAcc ((k.ra n).toInt + (k.rd x).toInt * (k.rd y).toInt)), i) ∧
    ((BOp.movd true d n).run k i).1.d = k.d.set d.toNat (satMove (reduce56 k.sam (roundAcc (k.ra n).toInt)).1.toInt).1)

/-- R245: an accumulator result is exact, then reduced to 56 bits: WRAP is set exactly when it lies outside, and stays set; the result is
kept modulo 2^56, or at the end of the range with SAM; HR, NEG and ZERO are those of the value kept (R244). -/
def Obligations.BrushAccumulatorReduction : Prop :=
  ∀ (k t : BBank) (n : BitVec 2) (x : Int) (v : BitVec 56), k.a.length = 4 → t = k.acc n x → v = t.ra n →
    (t.flg.wrap = true ↔ k.flg.wrap = true ∨ x < -(2 ^ 55) ∨ 2 ^ 55 - 1 < x) ∧
    (-(2 ^ 55) ≤ x → x ≤ 2 ^ 55 - 1 → v.toInt = x) ∧
    (k.sam = false → v = BitVec.ofInt 56 x) ∧
    (k.sam = true → 2 ^ 55 - 1 < x → v.toInt = 2 ^ 55 - 1) ∧ (k.sam = true → x < -(2 ^ 55) → v.toInt = -(2 ^ 55)) ∧
    (t.flg.hr = true ↔ v.toInt < -(2 ^ 46) ∨ 2 ^ 46 - 1 < v.toInt) ∧ (t.flg.neg = true ↔ v.toInt < 0) ∧ (t.flg.zero = true ↔ v.toInt = 0) ∧
    t.flg.clamp = k.flg.clamp ∧ t.flg.cy = k.flg.cy ∧ (∀ m, m ≠ n → t.ra m = k.ra m) ∧ t.d = k.d ∧ t.p = k.p ∧ t.pc = k.pc

/-- Loops, calls and their faults (R252 to R254): the loop-end test of one loop, of a loop in one that ends elsewhere, its chain of equal
ends, the depth of both stacks. -/
def Obligations.BrushLoopsAndCalls : Prop :=
  (∀ (k : BBank) (l : BLoop) (r : List BLoop) (nx : Nat), k.loops = l :: r → l.le = nx → 1 < l.lc →
    k.fall nx = { k with loops := { l with lc := l.lc - 1 } :: r, pc := BitVec.ofNat 16 l.ls }) ∧
  (∀ (k : BBank) (l : BLoop) (nx : Nat), k.loops = [l] → l.le = nx → l.lc ≤ 1 →
    k.fall nx = { k with loops := [], pc := BitVec.ofNat 16 nx }) ∧
  (∀ (k : BBank) (l m : BLoop) (r : List BLoop) (nx : Nat), k.loops = l :: m :: r → l.le = nx → l.lc ≤ 1 → m.le = nx →
    k.fall nx = ({ k with loops := m :: r } : BBank).fall nx) ∧
  (∀ (k : BBank) (l m : BLoop) (r : List BLoop) (nx : Nat), k.loops = l :: m :: r → l.le = nx → l.lc ≤ 1 → m.le ≠ nx →
    k.fall nx = { k with loops := m :: r, pc := BitVec.ofNat 16 nx }) ∧
  (∀ (k : BBank) (l : BLoop) (r : List BLoop) (nx : Nat), k.loops = l :: r → l.le ≠ nx → k.fall nx = { k with pc := BitVec.ofNat 16 nx }) ∧
  (∀ (k : BBank) (r : BRun) (p : BProg) (n : BCount) (e t : BitVec 16),
    ((BOp.loop n e).fault k r p = some 3 ↔ 4 ≤ k.loops.length) ∧ ((BOp.call t).fault k r p = some 4 ↔ 8 ≤ k.calls.length) ∧
    (BOp.ret.fault k r p = some 4 ↔ k.calls = [])) ∧
  (∀ (op : BOp) (k : BBank) (r : BRun) (p : BProg) (i : BInst) (nx : Nat), op.fault k r p = none → k.loops.length ≤ 4 → k.calls.length ≤ 8 →
    (op.flow (op.run k i).1 nx).1.loops.length ≤ 4 ∧ (op.flow (op.run k i).1 nx).1.calls.length ≤ 8)

/-- Addressing in modulo buffers (R250, R251): a step no longer than the buffer stays in the buffer and goes round it; a write to Ln takes
effect at once or at the next wrap, where the pointer is folded once into the new buffer, as in the example of R251. -/
def Obligations.BrushModuloAddressing : Prop :=
  (∀ (k : BBank) (n : BitVec 3) (m : Int) (B L P : Nat), k.p.length = 8 → P = (k.rp n).toNat → L = k.rel n → B = k.rb n → L ≠ 0 →
    k.rpl n = L → B ≤ P → P < B + L → B + L ≤ 16384 → -(L : Int) ≤ m → m ≤ L →
    (((k.postMod n m).rp n).toNat : Int) = B + ((P : Int) - B + m) % L ∧ (k.postMod n m).rel n = L) ∧
  (∀ (k : BBank) (n : BitVec 3) (m q : Int) (B E L : Nat), k.p.length = 8 → k.el.length = 8 → E = k.rel n → L = k.rpl n → B = k.rb n →
    E ≠ 0 → L ≠ E →
    (B + E ≤ (k.rp n).toNat + m ∧ q = (k.rp n).toNat + m - E ∨
      (k.rp n).toNat + m < B ∧ (k.rp n).toNat + m < B + E ∧ q = (k.rp n).toNat + m + E) →
    (k.postMod n m).rel n = L ∧ (k.postMod n m).rb n = B ∧
    (((k.postMod n m).rp n).toNat : Int) = (if L ≠ 0 ∧ B + L ≤ q then q - L else q) % 16384) ∧
  (∀ (k : BBank) (n : BitVec 3) (m : Int), k.p.length = 8 → k.rel n ≠ 0 → (k.rb n : Int) ≤ (k.rp n).toNat + m →
    (k.rp n).toNat + m < k.rb n + k.rel n →
    (k.postMod n m).el = k.el ∧ (((k.postMod n m).rp n).toNat : Int) = ((k.rp n).toNat + m) % 16384) ∧
  (∀ (k : BBank) (n : BitVec 3) (m : Int), k.p.length = 8 → k.rel n = 0 →
    (((k.postMod n m).rp n).toNat : Int) = ((k.rp n).toNat + m) % 16384) ∧
  (∀ (k : BBank) (n : BitVec 3) (v : BitVec 15), k.pl.length = 8 → k.el.length = 8 → k.b.length = 8 →
    (k.wl n v).rpl n = v.toNat ∧ (k.wl n v).rel n = (if k.rel n = 0 ∨ v = 0 then v.toNat else k.rel n) ∧
    (k.wl n v).rb n = (if k.rel n = 0 ∧ v ≠ 0 then (k.rp n).toNat else k.rb n) ∧ (k.wl n v).p = k.p)

/-- Indices of protected packets (R196, R197): with a slot bound, the packet that leaves has the index that its SSRC's record gives: for
the record's first packet ROC × 65,536 + its sequence number, then the estimate; that index lies above every index the record has used
under that binding and within 48 bits, and the record keeps it; an SSRC without a record starts one at ROC 0, unless a record was
evicted. A refusal leaves the records as they were. -/
def Obligations.TransmitIndicesRise : Prop :=
  ∀ (s t : State) (hd sq slot : Nat) (ssrc : Word) (hdr pay : List Byte) (d : TxDir) (e : TxRec) (out : Option (List Byte)),
    tget s.cip.tx hd = some d → d.slot = some slot → e = (d.recs.find? (fun x => x.ssrc = ssrc)).getD { ssrc := ssrc, roc0 := 0 } →
    txSrtp s hd ssrc sq hdr pay = (t, out) →
    (∀ q, out = some q → ∃ d' e' n, tget t.cip.tx hd = some d' ∧ d'.recs.find? (fun x => x.ssrc = ssrc) = some e' ∧ e'.h = some n ∧
      (n : Int) = (if e.started then estimateIdx e.r e.sl sq else ((e.roc0 * 65536 + sq : Nat) : Int)) ∧ n < 2 ^ 48 ∧
      (e.started = true → ∀ o, e.h = some o → o < n) ∧ e'.r = n / 65536 ∧ e'.sl = sq ∧ e'.started = true) ∧
    (d.recs.find? (fun x => x.ssrc = ssrc) = none → d.evicted = true → out = none) ∧
    (out = none → ∃ d', tget t.cip.tx hd = some d' ∧ d'.recs = d.recs)

/-- The Brush array keeps its shape (R243, R252, R254): from every state whose banks and windows are in order, an instruction of any core,
an arrival and a completed transfer leave them in order: never a fifth loop, never a ninth call. -/
def Obligations.BrushStateKeepsShape : Prop :=
  (∀ (s : State) (b : BrushRef) (op : BOp), BrushWf s → BrushWf (brushIssue s b op)) ∧
  (∀ (s t : State) (leg : BitVec 14) (pt : BitVec 2), BrushWf s → exec (.taskArrival leg pt) s = .next t → BrushWf t) ∧
  (∀ (s t : State) (c : BitVec 9) (bad : List (BitVec 11)) (hits : List EccHit), BrushWf s →
    exec (.xferComplete c bad hits) s = .next t → BrushWf t)

/-- Every step keeps the Brush array in order (R243, R252, R254): both banks of every core hold eight registers of each kind and four
accumulators, no core has a fifth active loop or a ninth call, and the windows and studio region of every instance are in canonical form. -/
def Obligations.StepKeepsBrushWf : Prop :=
  ∀ s t : State, BrushWf s → step s = .next t → BrushWf t

/-- When a vector's message leaves (R107, R108): at once without moderation, with IRQ_NOW or at its count; otherwise it stays pending and
the entry is counted; a masked vector sets its Pending Bit Array bit instead. -/
def Obligations.InterruptModeration : Prop :=
  ∀ (s t : State) (f v : Nat) (now : Bool) (x : Vec), x = vecOf s f v → t = vecIrq s f v now → resetting s f = false →
    (fld s (HIF_VEC_MOD_TICKS f v) = 0 ∨ now = true ∨
        (fld s (HIF_VEC_MOD_CNT f v) ≠ 0 ∧ fld s (HIF_VEC_MOD_CNT f v) ≤ x.count + 1) → vecMasked s f v = false →
      t.out = s.out ++ [.msi f v] ∧ vecOf t f v = {}) ∧
    (fld s (HIF_VEC_MOD_TICKS f v) = 0 ∨ now = true ∨
        (fld s (HIF_VEC_MOD_CNT f v) ≠ 0 ∧ fld s (HIF_VEC_MOD_CNT f v) ≤ x.count + 1) → vecMasked s f v = true →
      t.out = s.out ∧ (vecOf t f v).pba = true) ∧
    (fld s (HIF_VEC_MOD_TICKS f v) ≠ 0 → now = false →
        (fld s (HIF_VEC_MOD_CNT f v) = 0 ∨ x.count + 1 < fld s (HIF_VEC_MOD_CNT f v)) →
      t.out = s.out ∧ (vecOf t f v).pending = true ∧ (vecOf t f v).count = x.count + 1) ∧
    (∀ g w, (g, w) ≠ (f, v) → vecOf t g w = vecOf s g w)

/-! ## Host commands complete -/

/-- The generic commands (R82 to R118) answer a next state with their own effect and a completion of status OK: GEN_NOP changes nothing
else, GEN_FN_INFO reports, GEN_EVENT_MASK enables or disables an event code that may be disabled (R100), and GEN_VF_RESET starts the
reset of a virtual function and goes on running (R110). The model's choices in it are log entries 8, 14 and 15. -/
def Obligations.GenericCommandsComplete : Prop :=
  (∀ (s : State) (h : CmdHdr), Passes s h {} →
    exec (.genNop h) s = .next (keepQueue s (complete (fresh s) h OP_GEN_NOP ST_OK []))) ∧
  (∀ (s : State) (h : CmdHdr), Passes s h {} →
    exec (.genFnInfo h) s = .next (keepQueue s (complete (fresh s) h OP_GEN_FN_INFO ST_OK
      [BitVec.ofNat 32 (h.fn.toNat * 65536 + fld s HIF_HOST_SERVICE_TICKS * 256 + fld s HIF_DB_POLL_RATE),
       BitVec.ofNat 32 (s.adm.legs.filter (fun p => p.2.item.owner = h.fn.toNat)).length]))) ∧
  (∀ (s : State) (h : CmdHdr) (code : BitVec 16), Passes s h { reserved := !eventCodes.contains code } → unmaskable code = false →
    exec (.genEventMask h true code) s = .next (keepQueue s (complete
      (setFn (fresh s) h.fn.toNat { fnOf s h.fn.toNat with masked := (fnOf s h.fn.toNat).masked.filter (· ≠ code) })
      h OP_GEN_EVENT_MASK ST_OK []))) ∧
  (∀ (s : State) (h : CmdHdr) (code : BitVec 16), Passes s h { reserved := !eventCodes.contains code } → unmaskable code = false →
    (fnOf s h.fn.toNat).masked.contains code = false →
    exec (.genEventMask h false code) s = .next (keepQueue s (complete
      (setFn (fresh s) h.fn.toNat { fnOf s h.fn.toNat with masked := (fnOf s h.fn.toNat).masked ++ [code] })
      h OP_GEN_EVENT_MASK ST_OK []))) ∧
  (∀ (s : State) (h : CmdHdr) (f : BitVec 6), Passes s h { fn0 := true, reserved := f = 0 } → fnExists s f.toNat = true →
    exec (.genVfReset h f) s = .next (keepQueue s
      (let t := fnReset (fresh s) f.toNat 2
       let u := setFn t f.toNat { fnOf t f.toNat with resetCmds := (fnOf t f.toNat).resetCmds ++ [h] }
       { u with hif := { u.hif with running := u.hif.running ++ [h] } })))

/-- The admission commands (R46 to R77), where the checks of R48, R52, R61, R73 let them through: a conference is opened or closed, a leg or
layout is committed, its release starts, a share is staged, counts are reported; each with its completion. The model's choices in it are
log entries 12, 29, 38, 83 to 89 and 107. -/
def Obligations.AdmissionCommandsComplete : Prop :=
  (∀ (s : State) (h : CmdHdr) (c ap vp : BitVec 12) (n : BitVec 5), Passes s h {} → tget s.adm.confs c.toNat = none →
    exec (.admConfOpen h c ap vp n) s = .next (keepQueue s (complete
      { fresh s with
        adm := { s.adm with confs := tset s.adm.confs c.toNat ⟨h.fn.toNat, ap.toNat, vp.toNat, n.toNat⟩ }
        aud := { s.aud with confs := tset s.aud.confs c.toNat { owner := h.fn.toNat, hops := n.toNat } } }
      h OP_ADM_CONF_OPEN ST_OK []))) ∧
  (∀ (s : State) (h : CmdHdr) (c : BitVec 12) (x : Conf), Passes s h {} → tget s.adm.confs c.toNat = some x →
    x.owner = h.fn.toNat → confHolds s c.toNat = false →
    exec (.admConfClose h c) s = .next (keepQueue s (complete (confClose (fresh s) c.toNat) h OP_ADM_CONF_CLOSE ST_OK []))) ∧
  (∀ (s : State) (h : CmdHdr) (c : BitVec 12) (leg : BitVec 14) (addr : BitVec 64) (ws : List Word) (x : Conf),
    Passes s h { misaligned := addr.toNat % 64 ≠ 0 } → admOpen s = true → tget s.adm.confs c.toNat = some x →
    x.owner = h.fn.toNat → tget s.adm.legs leg.toNat = none →
    profileChecks s c.toNat x ws (parseProfile ws) = none →
    capacityCheck s h.fn.toNat (allItems s) (legItem s h.fn.toNat leg.toNat (parseProfile ws) (allItems s) []) none = none →
    exec (.admLegAdmit h c leg addr (some ws)) s = .next (keepQueue s (complete
      (legCommit (fresh s) leg.toNat c.toNat x (legItem s h.fn.toNat leg.toNat (parseProfile ws) (allItems s) []) (parseProfile ws)
        none addr.toNat).1 h OP_ADM_LEG_ADMIT ST_OK (effArea (effTick s))))) ∧
  (∀ (s : State) (h : CmdHdr) (c : BitVec 12) (leg : BitVec 14) (addr : BitVec 64) (ws : List Word) (x : Conf) (l : Leg),
    Passes s h { misaligned := addr.toNat % 64 ≠ 0 } → tget s.adm.confs c.toNat = some x →
    x.owner = h.fn.toNat → tget s.adm.legs leg.toNat = some l → l.item.owner = h.fn.toNat → l.item.releasing = false →
    l.conf = c.toNat → profileChecks s c.toNat x ws (parseProfile ws) = none →
    (!admOpen s && chargesMore (legItem s h.fn.toNat leg.toNat (parseProfile ws) (otherItems s leg.toNat) l.item.jobs) l.item)
      = false →
    capacityCheck s h.fn.toNat (otherItems s leg.toNat)
      (legItem s h.fn.toNat leg.toNat (parseProfile ws) (otherItems s leg.toNat) l.item.jobs)
      (poolCheck s leg.toNat (parseProfile ws)) = none →
    exec (.admLegModify h c leg addr (some ws)) s = .next (keepQueue s (complete
      (legCommit (fresh s) leg.toNat c.toNat x
        (legItem s h.fn.toNat leg.toNat (parseProfile ws) (otherItems s leg.toNat) l.item.jobs) (parseProfile ws) (some l)
        addr.toNat).1 h OP_ADM_LEG_MODIFY ST_OK (effArea (effTick s))))) ∧
  (∀ (s : State) (h : CmdHdr) (leg : BitVec 14) (l : Leg), Passes s h {} → legFor s h.fn.toNat leg.toNat = .ok l →
    exec (.admLegRelease h leg) s = .next (keepQueue s (complete (legRelease (fresh s) leg.toNat (effTick s)) h OP_ADM_LEG_RELEASE ST_OK
      (effArea (effTick s))))) ∧
  (∀ (s : State) (h : CmdHdr) (clr : Bool) (hd : BitVec 16) (l : Leg), Passes s h { reserved := hd.toNat % 4 = 3 } →
    legFor s h.fn.toNat (hd.toNat / 4) = .ok l →
    exec (.admLegStats h clr hd) s = .next (keepQueue s (complete
      (if clr then setPolice (fresh s) hd.toNat { policeOf s hd.toNat with accepted := 0, policed := 0, late := 0, overrun := 0 }
       else fresh s) h OP_ADM_LEG_STATS ST_OK
      [sat32 (policeOf s hd.toNat).accepted, sat32 (policeOf s hd.toNat).policed, sat32 (policeOf s hd.toNat).late,
       sat32 (policeOf s hd.toNat).overrun]))) ∧
  (∀ (s : State) (h : CmdHdr) (f : BitVec 6) (r : BitVec 4) (v : BitVec 11),
    Passes s h { fn0 := true, reserved := 1024 < v.toNat } → fnPeak s f.toNat r.toNat ≤ v.toNat →
    (List.range 64).foldl (fun a g => if g = f.toNat then a else a + shareSet s g r.toNat) 0 + v.toNat ≤ 1024 →
    exec (.admFnBudgetSet h f r v) s = .next (keepQueue s (complete
      (stage { fresh s with adm := { s.adm with shareNext := tset s.adm.shareNext (16 * f.toNat + r.toNat) v.toNat } }
        (effTick s) (.share f.toNat r.toNat v.toNat)) h OP_ADM_FN_BUDGET_SET ST_OK (effArea (effTick s))))) ∧
  (∀ (s : State) (h : CmdHdr) (id : BitVec 9) (c : BitVec 12) (w ht : BitVec 16) (per : BitVec 12) (codec cprof : BitVec 8)
    (depth : BitVec 1) (x : Conf), Passes s h { reserved := (vidCap codec.toNat cprof.toNat).isNone } → admOpen s = true →
    tget s.adm.confs c.toNat = some x → x.owner = h.fn.toNat → tget s.adm.layouts id.toNat = none →
    vidOk true codec.toNat cprof.toNat depth.toNat w.toNat ht.toNat = true → per.toNat ≠ 0 → 3600 % per.toNat = 0 →
    per.toNat ≤ x.vidPmax → cdiv (w.toNat * ht.toNat) per.toNat ≤ 625000 →
    capacityCheck s h.fn.toNat (allItems s) (layoutItem h.fn.toNat id.toNat w.toNat ht.toNat per.toNat codec.toNat depth.toNat)
      none = none →
    exec (.admLayoutAdmit h id c w ht per codec cprof depth) s = .next (keepQueue s (complete
      (stage { fresh s with adm := { s.adm with layouts := tset s.adm.layouts id.toNat
                                                  ⟨c.toNat, layoutItem h.fn.toNat id.toNat w.toNat ht.toNat per.toNat codec.toNat depth.toNat, w.toNat, ht.toNat, per.toNat,
           codec.toNat, cprof.toNat, depth.toNat, false⟩ } }
        (effTick s) (.layoutApply id.toNat)) h OP_ADM_LAYOUT_ADMIT ST_OK (effArea (effTick s))))) ∧
  (∀ (s : State) (h : CmdHdr) (id : BitVec 9) (l : LayoutAdm), Passes s h {} → tget s.adm.layouts id.toNat = some l →
    l.item.owner = h.fn.toNat → l.item.releasing = false →
    exec (.admLayoutRelease h id) s = .next (keepQueue s (complete (layoutRelease (fresh s) id.toNat (effTick s)) h OP_ADM_LAYOUT_RELEASE ST_OK
      (effArea (effTick s)))))

/-- The network commands (R133, R134, R147), where their checks let them through. The model's choices in it are log entries 24 and 27. -/
def Obligations.NetworkCommandsComplete : Prop :=
  (∀ (s : State) (h : CmdHdr) (hd : BitVec 16) (addr : BitVec 64) (ws : List Word) (l : Leg),
    Passes s h { reserved := hd.toNat % 4 = 3, misaligned := addr.toNat % 64 ≠ 0 } → legIn s (hd.toNat / 4) = some l →
    ((l.prof.rec' (hd.toNat % 4)).rxEn || (l.prof.rec' (hd.toNat % 4)).txEn) = true → l.item.owner = h.fn.toNat →
    bindCheck s hd.toNat ws (parseBind ws) (rxLimit (l.prof.rec' (hd.toNat % 4))) = none →
    exec (.netStreamBind h hd addr (some ws)) s = .next (keepQueue s (complete
      (stage (setBound { fresh s with net := { s.net with nextOrder := s.net.nextOrder + 1 } } hd.toNat
          { blk := parseBind ws, order := s.net.nextOrder + 1, limit := rxLimit (l.prof.rec' (hd.toNat % 4)) })
        (effTick s) (.netBind hd.toNat)) h OP_NET_STREAM_BIND ST_OK
      (effArea (effTick s) ++ [(Config.queueId hd.toNat (s.net.nextOrder + 1)).setWidth 32, lo32 (rxLimit (l.prof.rec' (hd.toNat % 4)))])))) ∧
  (∀ (s : State) (h : CmdHdr) (hd : BitVec 16) (b : Bound), Passes s h { reserved := hd.toNat % 4 = 3 } →
    boundFor s h.fn.toNat hd.toNat = .ok b →
    exec (.netStreamUnbind h hd) s = .next (keepQueue s (complete (streamRelease (fresh s) hd.toNat (effTick s)) h OP_NET_STREAM_UNBIND ST_OK
      (effArea (effTick s))))) ∧
  (∀ (s : State) (h : CmdHdr) (clr : Bool) (p u : BitVec 2) (addr : BitVec 64),
    Passes s h { fn0 := true, misaligned := addr.toNat % 64 ≠ 0 } → subportOk s p.toNat u.toNat = true →
    exec (.netPortStats h clr p u addr) s = .next (keepQueue s (complete
      (let t := hostWrites (fecCounted (fresh s) p.toNat u.toNat) addr.toNat (statWords (fecCounted (fresh s) p.toNat u.toNat) p.toNat u.toNat)
       if clr then { t with net := { t.net with stats := t.net.stats.filter (fun q => q.1 / 32 ≠ 4 * p.toNat + u.toNat) } } else t)
      h OP_NET_PORT_STATS ST_OK []))) ∧
  (∀ (s : State) (h : CmdHdr) (re : Bool) (hd : BitVec 16) (run : BitVec 4) (b : Bound),
    Passes s h { reserved := hd.toNat % 4 = 3 || run = 0 } → boundFor s h.fn.toNat hd.toNat = .ok b →
    (recOf s hd.toNat).rxEn = true →
    exec (.netJbSet h re hd run) s = .next (keepQueue s (complete
      (let t := stage (fresh s) (effTick s) (.jbLate hd.toNat run.toNat)
       if re then stage t (effTick s) (.jbReanchor hd.toNat) else t) h OP_NET_JB_SET ST_OK (effArea (effTick s))))) ∧
  (∀ (s : State) (h : CmdHdr) (hd : BitVec 16) (b : Bound), Passes s h { reserved := hd.toNat % 4 = 3 } →
    boundFor s h.fn.toNat hd.toNat = .ok b → (recOf s hd.toNat).rxEn = true →
    exec (.netQueueFlush h hd) s = .next (keepQueue s (complete
      (vidFlush (countAccepted (setBound (fresh s) hd.toNat (flushQ b)) hd.toNat b.q.length) hd.toNat) h OP_NET_QUEUE_FLUSH ST_OK (flushRes b))))

/-- The forwarding commands (R151 to R174), where their checks let them through. The model's choices in it are log entries 30 to 33 and
108. -/
def Obligations.ForwardingCommandsComplete : Prop :=
  (∀ (s : State) (h : CmdHdr) (id : BitVec 20) (src dst : BitVec 16) (ssrc ofs : BitVec 32) (sq : BitVec 16) (ptEn : Bool)
    (pt : BitVec 7) (di do' fi fo : BitVec 4) (pause fir : Bool) (prio : BitVec 3) (cs ct : BitVec 2),
    Passes s h { reserved := src.toNat % 4 = 3 || dst.toNat % 4 = 3 || [di, do', fi, fo].contains 15 || ct = 3 } →
    subSetCheck s h.fn.toNat id.toNat
      { owner := h.fn.toNat, src := src.toNat, dst := dst.toNat, outSsrc := ssrc, seqStart := sq.toNat, ptEn := ptEn
        ptOut := pt.toNat, ddIn := di.toNat, ddOut := do'.toNat, fmIn := fi.toNat, fmOut := fo.toNat, pause := pause
        kpFir := fir, prio := prio.toNat, capS := cs.toNat, capT := ct.toNat, ofs := ofs, kind := srcKind s src.toNat } = none →
    exec (.fwdSubSet h id src dst ssrc ofs sq ptEn pt di do' fi fo pause fir prio cs ct) s = .next (keepQueue s (complete
      (stage (setSub (fresh s) id.toNat
        { owner := h.fn.toNat, src := src.toNat, dst := dst.toNat, outSsrc := ssrc, seqStart := sq.toNat, ptEn := ptEn
          ptOut := pt.toNat, ddIn := di.toNat, ddOut := do'.toNat, fmIn := fi.toNat, fmOut := fo.toNat, pause := pause
          kpFir := fir, prio := prio.toNat, capS := cs.toNat, capT := ct.toNat, ofs := ofs, kind := srcKind s src.toNat })
        (effTick s) (.subStart id.toNat)) h OP_FWD_SUB_SET ST_OK (effArea (effTick s))))) ∧
  (∀ (s : State) (h : CmdHdr) (id : BitVec 20) (x : Sub), Passes s h {} → subFor s h.fn.toNat id.toNat = .ok x →
    exec (.fwdSubClear h id) s = .next (keepQueue s (complete (subRemove (fresh s) id.toNat (effTick s) false) h OP_FWD_SUB_CLEAR ST_OK
      (effArea (effTick s) ++ [sat32 x.pkts])))) ∧
  (∀ (s : State) (h : CmdHdr) (id : BitVec 20) (pause fir : Bool) (prio : BitVec 3) (cs ct : BitVec 2) (x : Sub),
    Passes s h { reserved := ct = 3 } → subFor s h.fn.toNat id.toNat = .ok x →
    exec (.fwdSubCap h id pause fir prio cs ct) s = .next (keepQueue s (complete
      (stage (fresh s) (effTick s) (.subCap id.toNat pause fir prio.toNat cs.toNat ct.toNat)) h OP_FWD_SUB_CAP ST_OK
      (effArea (effTick s))))) ∧
  (∀ (s : State) (h : CmdHdr) (leg : BitVec 14) (l : Leg), Passes s h {} → fwdLegFor s h.fn.toNat leg.toNat = .ok l →
    exec (.fwdEstRead h leg) s = .next (keepQueue s (complete (fresh s) h OP_FWD_EST_READ ST_OK
      [lo32 (estOf s leg.toNat).est, lo32 (estOf s leg.toNat).acked,
       BitVec.ofNat 32 (((estOf s leg.toNat).q / 1000).toNat % 65536 * 65536 + (estOf s leg.toNat).f % 256 * 256
         + (if (estOf s leg.toNat).stale then 4 else 0) + (estOf s leg.toNat).emode),
       sat32 (estOf s leg.toNat).drops]))) ∧
  (∀ (s : State) (h : CmdHdr) (i : BitVec 2) (hd : BitVec 16) (l : Leg) (b : Bound),
    Passes s h { reserved := hd.toNat % 4 = 3 } → fwdLegFor s h.fn.toNat (hd.toNat / 4) = .ok l →
    tget s.net.bound hd.toNat = some b → b.gone = false → b.blk.valid.testBit i.toNat = true →
    exec (.fwdKeyPicReq h i hd) s = .next (keepQueue s (complete (kpRequest (fresh s) hd.toNat i.toNat).1 h OP_FWD_KEY_PIC_REQ ST_OK
      [if (kpRequest (fresh s) hd.toNat i.toNat).2 then 1 else 0]))) ∧
  (∀ (s : State) (h : CmdHdr) (em : BitVec 2) (leg : BitVec 14) (line init max : BitVec 32) (l : Leg),
    Passes s h { reserved := em = 3 || (line ≠ 0 && (decide (line.toNat < 64) || decide (400000000 < line.toNat))) } →
    fwdLegFor s h.fn.toNat leg.toNat = .ok l →
    exec (.fwdPaceSet h em leg line init max) s = .next (keepQueue s (complete
      (stage (fresh s) (effTick s) (.pace leg.toNat em.toNat line.toNat init.toNat max.toNat)) h OP_FWD_PACE_SET ST_OK
      (effArea (effTick s)))))

/-- The key store's commands (R184 to R190), where their checks let them through: a KEK is agreed, a slot is filled as MASTER or as SESSION,
an erasure is staged, with the counted unit returning later. The model's choices in it are log entries 20 and 71. -/
def Obligations.KeyCommandsComplete : Prop :=
  (∀ (s : State) (h : CmdHdr) (addr : BitVec 64), Passes s h { modes := keyModes, misaligned := addr.toNat % 64 ≠ 0 } →
    exec (.keyKekInfo h addr) s = .next (keepQueue s (complete (writeDevPub (fresh s) addr.toNat) h OP_KEY_KEK_INFO ST_OK
      [kekWord s h.fn.toNat]))) ∧
  (∀ (s : State) (h : CmdHdr) (addr : BitVec 64) (ws : List Word),
    Passes s h { modes := keyModes, misaligned := addr.toNat % 64 ≠ 0 } →
    p256Valid (be (wordBytes ws) 0 32) (be (wordBytes ws) 32 32) = true →
    exec (.kekAgree h addr (some ws)) s = .next (keepQueue s
      (let t : State := { fresh s with key := { s.key with keks := tset s.key.keks h.fn.toNat
                                                                 (agreeKek Config.agreementKey (be (wordBytes ws) 0 32, be (wordBytes ws) 32 32) h.fn.toNat) } }
       complete (writeDevPub t addr.toNat) h OP_KEY_KEK_INFO ST_OK [kekWord t h.fn.toNat]))) ∧
  (∀ (s : State) (h : CmdHdr) (suite : BitVec 8) (slot : BitVec 16) (addr : BitVec 64) (ws : List Word) (su : Suite)
    (kek p : List Byte), Passes s h { modes := keyModes, misaligned := addr.toNat % 64 ≠ 0 } →
    suiteOf suite.toNat = some su → tget s.key.slots slot.toNat = none → tget s.key.keks h.fn.toNat = some kek →
    slotOver s h.fn.toNat = false →
    keyUnwrap kek ((wordBytes ws).take ((8 + su.keyLen + su.saltLen + 7) / 8 * 8 + 8)) = some p →
    be p 0 1 = 1 → be p 1 1 = suite.toNat → be p 2 6 = 0 →
    be p (8 + su.keyLen + su.saltLen) ((8 + su.keyLen + su.saltLen + 7) / 8 * 8 - (8 + su.keyLen + su.saltLen)) = 0 →
    exec (.keyImport h suite slot addr (some ws)) s = .next (keepQueue s (complete
      (setSlot (fresh s) slot.toNat { owner := h.fn.toNat, session := false, suite := suite.toNat, key := sl p 8 su.keyLen
                                      salt := sl p (8 + su.keyLen) su.saltLen })
      h OP_KEY_IMPORT ST_OK [BitVec.ofNat 32 (checkValue (sl p 8 su.keyLen))]))) ∧
  (∀ (s : State) (h : CmdHdr) (ms ss : BitVec 16) (m : KeySlot) (su : Suite), Passes s h { modes := keyModes } →
    tget s.key.slots ms.toNat = some m → m.owner = h.fn.toNat → m.session = false → tget s.key.slots ss.toNat = none →
    suiteOf m.suite = some su → slotOver s h.fn.toNat = false →
    exec (.keyDerive h ms ss) s = .next (keepQueue s (complete
      (setSlot (fresh s) ss.toNat { owner := h.fn.toNat, session := true, suite := m.suite, key := [], salt := []
                                    keys := sessionKeys su m.key m.salt }) h OP_KEY_DERIVE ST_OK []))) ∧
  (∀ (s : State) (h : CmdHdr) (slot : BitVec 16) (k : KeySlot), Passes s h { modes := keyModes } →
    tget s.key.slots slot.toNat = some k → k.owner = h.fn.toNat → k.erase = false → slotBound s slot.toNat = false →
    exec (.keyErase h slot) s = .next (keepQueue s (complete
      (stageEnd (stage (setSlot (fresh s) slot.toNat { k with erase := true }) (effTick s) (.keyErase slot.toNat)) (effTick s - 1)
        (.keyUnit slot.toNat)) h OP_KEY_ERASE ST_OK (effArea (effTick s)))))

/-- The cipher commands (R191 to R193, R203), where the checks of R192 let them through; a slot bound for sending is spent. The model's
choices in it are log entries 20, 71 and 99. -/
def Obligations.CipherCommandsComplete : Prop :=
  (∀ (s : State) (h : CmdHdr) (keep clear : Bool) (w : BitVec 3) (dir : Bool) (hd slot : BitVec 16) (roc : BitVec 32)
    (sq : BitVec 16) (r0 r1 r2 r3 : BitVec 32) (ti : BitVec 31),
    Passes s h { reserved := hd.toNat % 4 = 3 || (clear && slot ≠ 0) || (dir && w ≠ 0) || decide (4 < w.toNat)
                 modes := [3, 4, 5] } →
    cipBindCheck s h.fn.toNat clear dir hd.toNat slot.toNat = none →
    exec (.cipBind h keep clear w dir hd slot roc sq r0 r1 r2 r3 ti) s = .next (keepQueue s (complete
      (stage (spendSlot (fresh s) (dir && !clear) slot.toNat) (effTick s)
        (if dir then .cipTx hd.toNat (if clear then none else some slot.toNat) keep roc.toNat sq.toNat ti.toNat
         else .cipRx hd.toNat (if clear then none else some slot.toNat) (64 * 2 ^ w.toNat) keep
           [r0.toNat, r1.toNat, r2.toNat, r3.toNat])) h OP_CIP_BIND ST_OK (effArea (effTick s))))) ∧
  (∀ (s : State) (h : CmdHdr) (dir : Bool) (hd : BitVec 16), Passes s h { reserved := hd.toNat % 4 = 3, modes := [3, 4, 5] } →
    streamForeign s h.fn.toNat hd.toNat = false → isBound s hd.toNat = true → dirEnabled s hd.toNat dir = true →
    (dirBind s hd.toNat dir).isSome = true →
    exec (.cipUnbind h dir hd) s = .next (keepQueue s (complete (stage (fresh s) (effTick s) (.cipUnbind hd.toNat dir)) h OP_CIP_UNBIND ST_OK
      (effArea (effTick s))))) ∧
  (∀ (s : State) (h : CmdHdr) (clr : Bool) (i : BitVec 2) (hd : BitVec 16) (addr : BitVec 64) (d : TxDir),
    Passes s h { reserved := hd.toNat % 4 = 3, modes := keyModes, misaligned := addr.toNat % 64 ≠ 0 } →
    streamForeign s h.fn.toNat hd.toNat = false → isBound s hd.toNat = true → dirEnabled s hd.toNat true = true →
    tget s.cip.tx hd.toNat = some d →
    exec (.cipStats h clr i true hd addr) s = .next (keepQueue s (complete
      (cntClear (hostWrites (fresh s) addr.toNat (txStats d ((tget s.cip.cnt (2 * hd.toNat + 1)).getD {}) (txSsrc s hd.toNat)))
        (2 * hd.toNat + 1) clr) h OP_CIP_STATS ST_OK []))) ∧
  (∀ (s : State) (h : CmdHdr) (clr : Bool) (i : BitVec 2) (hd : BitVec 16) (addr : BitVec 64) (d : RxDir),
    Passes s h { reserved := hd.toNat % 4 = 3, modes := keyModes, misaligned := addr.toNat % 64 ≠ 0 } →
    streamForeign s h.fn.toNat hd.toNat = false → isBound s hd.toNat = true → dirEnabled s hd.toNat false = true →
    tget s.cip.rx hd.toNat = some d →
    exec (.cipStats h clr i false hd addr) s = .next (keepQueue s (complete
      (cntClear (hostWrites (fresh s) addr.toNat (rxStats d ((tget s.cip.cnt (2 * hd.toNat)).getD {}) i.toNat)) (2 * hd.toNat) clr)
      h OP_CIP_STATS ST_OK [])))

/-- The audio commands (R212 to R232), where their checks let them through: a route, a bus setting, a sink's dynamics, a tone or a media
binding is staged for its effect tick; AUD_LEVELS reports and may clear the clip counter. The model's choices in it are log entries 35,
36 and 38. -/
def Obligations.AudioCommandsComplete : Prop :=
  (∀ (s : State) (h : CmdHdr) (leg : BitVec 14) (contrib listen minus : BitVec 4) (force dtx : Bool) (xf : BitVec 3)
    (c0 c1 c2 c3 l0 l1 l2 l3 : BitVec 16) (r : StreamRec), Passes s h { modes := audModes } →
    audFor s h.fn.toNat leg.toNat = .ok r → (contrib ≠ 0 → r.rxDec = true) → (listen ≠ 0 ∨ minus ≠ 0 → r.txEn = true) →
    (dtx = true → r.txEn = true ∧ hasDtx r.codec = true) →
    exec (.audRouteSet h leg contrib listen minus force dtx xf c0 c1 c2 c3 l0 l1 l2 l3) s = .next (keepQueue s (complete
      (routeStage (fresh s) leg.toNat (some ⟨contrib.toNat, listen.toNat, minus.toNat, force, dtx,
        [c0.toNat, c1.toNat, c2.toNat, c3.toNat], [l0.toNat, l1.toNat, l2.toNat, l3.toNat]⟩) (xf.toNat + 1)).1
      h OP_AUD_ROUTE_SET ST_OK (effArea (routeTick (audLeg s leg.toNat) (effTick s)))))) ∧
  (∀ (s : State) (h : CmdHdr) (bus : BitVec 2) (conf : BitVec 12) (n : BitVec 7),
    Passes s h { modes := audModes, reserved := n = 0 || decide (64 < n.toNat) } →
    audConfFor s h.fn.toNat conf.toNat = .ok () →
    exec (.audBusSetting h bus conf n) s = .next (keepQueue s (complete
      (stage (fresh s) (effTick s) (.mixN conf.toNat bus.toNat n.toNat)) h OP_AUD_ROUTE_SET ST_OK (effArea (effTick s))))) ∧
  (∀ (s : State) (h : CmdHdr) (leg : BitVec 14) (xf : BitVec 3) (r : StreamRec), Passes s h { modes := audModes } →
    audFor s h.fn.toNat leg.toNat = .ok r →
    exec (.audRouteClear h leg xf) s = .next (keepQueue s (complete
      (routeStage (fresh s) leg.toNat none (xf.toNat + 1)).1 h OP_AUD_ROUTE_CLEAR ST_OK
      (effArea (routeTick (audLeg s leg.toNat) (effTick s)))))) ∧
  (∀ (s : State) (h : CmdHdr) (compEn limEn : Bool) (leg : BitVec 14) (thr ratio att rel makeup ceil limRel : BitVec 16)
    (r : StreamRec),
    Passes s h
      { modes := audModes
        reserved := decide (960 < thr.toNat) || decide (ratio.toNat < 10) || decide (200 < ratio.toNat) || att = 0
          || decide (1000 < att.toNat) || decide (rel.toNat < 10) || decide (5000 < rel.toNat) || decide (240 < makeup.toNat)
          || decide (240 < ceil.toNat) || limRel = 0 || decide (5000 < limRel.toNat) } →
    audFor s h.fn.toNat leg.toNat = .ok r → r.txEn = true →
    exec (.audSinkDyn h compEn limEn leg thr ratio att rel makeup ceil limRel) s = .next (keepQueue s (complete
      (stage (fresh s) (effTick s) (.sinkDyn leg.toNat
        ⟨compEn, limEn, thr.toNat, ratio.toNat, att.toNat, rel.toNat, makeup.toNat, ceil.toNat, limRel.toNat⟩))
      h OP_AUD_SINK_DYN ST_OK (effArea (effTick s))))) ∧
  (∀ (s : State) (h : CmdHdr) (onBus replace : Bool) (bus : BitVec 2) (id : BitVec 14) (tone : BitVec 8)
    (rep onT offT f1 f2 l1 l2 : BitVec 16) (tgt : Nat) (os : List Osc) (cad : List (Option Nat × Nat)) (once : Bool),
    Passes s h
      { modes := audModes
        reserved := toneReserved tone.toNat onT.toNat offT.toNat f1.toNat f2.toNat l1.toNat l2.toNat
          || (onBus && (replace || decide (4096 ≤ id.toNat))) } →
    toneFor s h.fn.toNat onBus bus.toNat id.toNat = .ok tgt → (tgt ∈ toneTargets s ∨ (toneTargets s).length < 4096) →
    toneSpec tone.toNat onT.toNat offT.toNat f1.toNat f2.toNat l1.toNat l2.toNat = some (os, cad, once) →
    exec (.audTonePlay h onBus replace bus id tone rep onT offT f1 f2 l1 l2) s = .next (keepQueue s (complete
      (stage (fresh s) (effTick s) (.tonePlay tgt
        { fn := h.fn.toNat, osc := os, cadence := cad, left := if once then some 1 else if rep = 0 then none else some rep.toNat
          replace := replace, start := 0 })) h OP_AUD_TONE_PLAY ST_OK (effArea (effTick s))))) ∧
  (∀ (s : State) (h : CmdHdr) (onBus : Bool) (bus : BitVec 2) (id : BitVec 14) (tgt : Nat),
    Passes s h { modes := audModes, reserved := onBus && decide (4096 ≤ id.toNat) } →
    toneFor s h.fn.toNat onBus bus.toNat id.toNat = .ok tgt → thas s.aud.tones tgt = true →
    exec (.audToneStop h onBus bus id) s = .next (keepQueue s (complete
      (stage (fresh s) (effTick s) (.toneStop tgt)) h OP_AUD_TONE_STOP ST_OK (effArea (effTick s))))) ∧
  (∀ (s : State) (h : CmdHdr) (clr : Bool) (leg : BitVec 14) (r : StreamRec), Passes s h { modes := audModes } →
    audFor s h.fn.toNat leg.toNat = .ok r →
    exec (.audLevels h clr leg) s = .next (keepQueue s (complete
      (if clr then setAudLeg (fresh s) leg.toNat { audLeg s leg.toNat with clips := 0 } else fresh s)
      h OP_AUD_LEVELS ST_OK (levelWords s leg.toNat)))) ∧
  (∀ (s : State) (h : CmdHdr) (m : BitVec 6) (point : BitVec 2) (id : BitVec 14) (bus : BitVec 2) (gain : BitVec 16)
    (p : MPoint),
    Passes s h
      { modes := audModes
        reserved := point = 3 || (point = 2 && !mediaCaps s (mediaKey h.fn.toNat m.toNat))
          || (point = 0 && decide (4096 ≤ id.toNat)) } →
    mediaPointFor s h.fn.toNat point.toNat id.toNat bus.toNat gain.toNat = .ok p →
    bit s (HIF_RING_EN h.fn.toNat (mediaQ m.toNat)) = true → (mediaOf s (mediaKey h.fn.toNat m.toNat)).point = none →
    exec (.audMediaBind h m point id bus gain) s = .next (keepQueue s (complete
      (stage (setMedia (fresh s) (mediaKey h.fn.toNat m.toNat)
          { mediaOf s (mediaKey h.fn.toNat m.toNat) with point := some p, live := false })
        (effTick s) (.mediaBind (mediaKey h.fn.toNat m.toNat))) h OP_AUD_MEDIA_BIND ST_OK (effArea (effTick s))))) ∧
  (∀ (s : State) (h : CmdHdr) (m : BitVec 6) (pt id bus gain : Nat), Passes s h { modes := audModes } →
    (mediaOf s (mediaKey h.fn.toNat m.toNat)).point = some (.audio pt id bus gain) →
    exec (.audMediaUnbind h m) s = .next (keepQueue s (complete
      (stage (fresh s) (effTick s) (.mediaUnbind (mediaKey h.fn.toNat m.toNat))) h OP_AUD_MEDIA_BIND ST_OK
      (effArea (effTick s)))))

/-- The Brush commands (R257 to R262), where their checks let them through: a program is stored or deleted, an instance gets its core, its
memory image and its start, its end is staged, its counters are reported. The model's choices in it are log entries 44, 45 and 106. -/
def Obligations.BrushCommandsComplete : Prop :=
  (∀ (s : State) (h : CmdHdr) (prog : BitVec 8) (addr : BitVec 64) (ws : List Word),
    Passes s h { modes := audModes, misaligned := addr.toNat % 64 ≠ 0 } → thas s.brs.progs prog.toNat = false →
    headerOk ws (parseImage h.fn.toNat ws) = true → (parseImage h.fn.toNat ws).code.length ≤ storeFree s →
    exec (.brsProgLoad h prog addr (some ws) none) s = .next (keepQueue s
      (complete (progPut (fresh s) prog.toNat (parseImage h.fn.toNat ws)) h OP_BRS_PROG_LOAD ST_OK
        [lo32 (storeFree (progPut (fresh s) prog.toNat (parseImage h.fn.toNat ws)))]))) ∧
  (∀ (s : State) (h : CmdHdr) (prog : BitVec 8) (p : BProg), Passes s h { modes := audModes } →
    tget s.brs.progs prog.toNat = some p → p.owner = h.fn.toNat →
    s.brs.insts.any (fun i => i.2.prog = prog.toNat) = false →
    exec (.brsProgUnload h prog) s = .next (keepQueue s (complete
      { fresh s with brs := { s.brs with progs := tdel s.brs.progs prog.toNat } } h OP_BRS_PROG_UNLOAD ST_OK []))) ∧
  (∀ (s : State) (h : CmdHdr) (prog : BitVec 8) (pt : BitVec 2) (leg : BitVec 14) (p0 p1 p2 p3 : BitVec 24) (l : Leg)
    (p : BProg) (c xb yb : Nat), Passes s h { modes := audModes, reserved := pt = 3 } → legIn s leg.toNat = some l →
    pointOk pt.toNat (l.prof.rec' 0) = true → l.item.owner = h.fn.toNat → tget s.brs.progs prog.toNat = some p →
    p.owner = h.fn.toNat → thas s.brs.insts (4 * leg.toNat + pt.toNat) = false → admOpen s = true →
    capacityCheck s h.fn.toNat (allItems s) (instItem h.fn.toNat pt.toNat p) none = none →
    groupFits s (groupItems s (homeOf s leg.toNat) ++ [instItem h.fn.toNat pt.toNat p]) = true →
    coreBest s ((((List.range 32).map (fun c => 32 * homeOf s leg.toNat + c)).filter (fun c => coreRoom s c p)).filter
      (fun c => coreMem s c p)) = some c →
    p.studio ≤ studioFree s → winBase s c p false = some xb → winBase s c p true = some yb →
    exec (.brsTaskBind h prog pt leg p0 p1 p2 p3) s = .next (keepQueue s (complete
      (stage (setInst { setCore (fresh s) c { coreOf s c with
              x := winTake (coreOf s c).x xb p.xwin, y := winTake (coreOf s c).y yb p.ywin } with adm := { s.adm with
            tasks := tset s.adm.tasks (4 * leg.toNat + pt.toNat) (instItem h.fn.toNat pt.toNat p) } }
          (4 * leg.toNat + pt.toNat)
          ((({ prog := prog.toNat, core := c, params := [p0, p1, p2, p3], xb := xb, yb := yb } : BInst).setWords false 0
            p.ximg).setWords true 0 p.yimg))
        (effTick s) (.brsStart (4 * leg.toNat + pt.toNat)))
      h OP_BRS_TASK_BIND ST_OK (effArea (effTick s) ++ [BitVec.ofNat 32 c])))) ∧
  (∀ (s : State) (h : CmdHdr) (pt : BitVec 2) (leg : BitVec 14) (i : BInst),
    Passes s h { modes := audModes, reserved := pt = 3 } → instFor s h.fn.toNat pt.toNat leg.toNat = .ok i →
    exec (.brsTaskUnbind h pt leg) s = .next (keepQueue s (complete
      (instEnd (fresh s) (4 * leg.toNat + pt.toNat) (effTick s)) h OP_BRS_TASK_UNBIND ST_OK (effArea (effTick s))))) ∧
  (∀ (s : State) (h : CmdHdr) (clr : Bool) (pt : BitVec 2) (leg : BitVec 14) (i : BInst),
    Passes s h { modes := audModes, reserved := pt = 3 } → instFor s h.fn.toNat pt.toNat leg.toNat = .ok i →
    exec (.brsStats h clr pt leg) s = .next (keepQueue s (complete
      (if clr then setInst (fresh s) (4 * leg.toNat + pt.toNat) { i with nInv := 0, nAband := 0, maxCyc := 0, sigDrop := 0 }
       else fresh s) h OP_BRS_STATS ST_OK
      [sat32 i.nInv, sat32 i.nAband, sat32 i.maxCyc,
       BitVec.ofNat 32 (i.lastCause * 2 ^ 24 + (if i.suspended then 2 ^ 16 else 0) + min i.sigDrop 0xffff)])))

/-- The video commands (R284 to R308), where their checks let them through: a context gets its engine, number and buffers and its start; a
close, a rate or a key picture is staged; a media ring is bound; counters are reported. The model's choices in it are log entries 46, 48
and 81. -/
def Obligations.VideoCommandsComplete : Prop :=
  (∀ (s : State) (h : CmdHdr) (fir : Bool) (opS opT : BitVec 2) (holds : BitVec 3) (dpb : BitVec 5) (hd : BitVec 16) (l : Leg)
    (e k : Nat), Passes s h { modes := audModes, reserved := hd.toNat % 4 = 3 || dpbReserved s hd.toNat dpb.toNat } →
    legIn s (hd.toNat / 4) = some l →
    l.item.owner = h.fn.toNat → (l.prof.rec' (hd.toNat % 4)).rxEn = true → (l.prof.rec' (hd.toNat % 4)).rxDec = true →
    isVideo (l.prof.rec' (hd.toNat % 4)).codec = true → (tget s.net.bound hd.toNat).any (fun b => !b.gone) = true →
    s.vid.dec.any (fun p => p.2.hd = hd.toNat) = false →
    ((l.prof.rec' (hd.toNat % 4)).codec ≠ 0x12 → opS.toNat = 0 ∧ opT.toNat = 0) →
    (dpbOf (l.prof.rec' (hd.toNat % 4)).codec dpb.toNat + 1 + (holds.toNat + 1)) * decBufUnits (l.prof.rec' (hd.toNat % 4))
      ≤ poolLeft s →
    pickEngine (decLoad s) (engineLimit s 1250000)
      (cdiv ((l.prof.rec' (hd.toNat % 4)).rxW * (l.prof.rec' (hd.toNat % 4)).rxH) (l.prof.rec' (hd.toNat % 4)).pRx) 16 = some e →
    newCtx s false hd.toNat = some k →
    exec (.vidDecOpen h fir opS opT holds dpb hd) s = .next (keepQueue s
      (let r := l.prof.rec' (hd.toNat % 4)
       let n := dpbOf r.codec dpb.toNat
       let units := (n + 1 + (holds.toNat + 1)) * decBufUnits r
       complete
        (stage (setDec (fresh s) k { owner := h.fn.toNat, hd := hd.toNat, engine := e, px := cdiv (r.rxW * r.rxH) r.pRx
                                     units := units, kpFir := fir, opS := opS.toNat, opT := opT.toNat
                                     holds := holds.toNat + 1, dpbN := n })
          (effTick s) (.vidStart false k))
        h OP_VID_DEC_OPEN ST_OK (effArea (effTick s) ++ [BitVec.ofNat 32 (e * 2 ^ 16 + k), lo32 units])))) ∧
  (∀ (s : State) (h : CmdHdr) (ctx : BitVec 12), Passes s h { modes := audModes } →
    ctxOwner s h.fn.toNat false ctx.toNat = none →
    exec (.vidDecClose h ctx) s = .next (keepQueue s (complete (vidClose (fresh s) false ctx.toNat (effTick s))
      h OP_VID_DEC_CLOSE ST_OK (effArea (effTick s))))) ∧
  (∀ (s : State) (h : CmdHdr) (own : Bool) (id : BitVec 14) (topW topH : BitVec 16) (sl tl : BitVec 2) (ext : BitVec 4)
    (pt : BitVec 7) (keyInt : BitVec 16) (ts : BitVec 32) (lay w ht p codec cprof depth e c k : Nat) (x : EncCtx),
    Passes s h { modes := audModes, reserved := !own && decide (512 ≤ id.toNat) } →
    encTarget s h.fn.toNat own id.toNat = .ok (lay, w, ht, p, codec, cprof, depth) →
    x = { owner := h.fn.toNat, own := own, item := id.toNat, layout := lay, engine := e, cengine := c, px := cdiv (w * ht) p
          units := 2 * compBufUnits topW.toNat topH.toNat (depth = 1), w := topW.toNat, h := topH.toNat
          period := p, codec := codec, cprof := cprof, ten := decide (depth = 1), sLay := sl.toNat + 1, tLay := tl.toNat + 1
          ext := ext.toNat, pt := pt.toNat, keyInt := keyInt.toNat, tsOfs := ts } →
    s.vid.enc.any (fun q => q.2.own = own && q.2.item = id.toNat) = false →
    encParamBad { x with engine := 0, cengine := 0 } w ht = false → x.units ≤ poolLeft s →
    pickEngine (encLoad s) (engineLimit s 625000) x.px 16 = some e →
    pickEngine (cnvLoad s) (engineLimit s 2500000) (compPx { x with engine := 0, cengine := 0 }) 4 = some c →
    newCtx s true (2 * id.toNat + if own then 1 else 0) = some k →
    exec (.vidEncOpen h own id topW topH sl tl ext pt keyInt ts) s = .next (keepQueue s (complete
      (stage (setEnc (fresh s) k { x with fpkt := fPkt s { x with engine := 0, cengine := 0 } }) (effTick s) (.vidStart true k))
      h OP_VID_ENC_OPEN ST_OK (effArea (effTick s) ++ [BitVec.ofNat 32 (e * 2 ^ 16 + k)])))) ∧
  (∀ (s : State) (h : CmdHdr) (ctx : BitVec 10), Passes s h { modes := audModes } →
    ctxOwner s h.fn.toNat true ctx.toNat = none →
    exec (.vidEncClose h ctx) s = .next (keepQueue s (complete (vidClose (fresh s) true ctx.toNat (effTick s))
      h OP_VID_ENC_CLOSE ST_OK (effArea (effTick s))))) ∧
  (∀ (s : State) (h : CmdHdr) (ctx : BitVec 10) (kbps cap : BitVec 32) (pct : BitVec 8) (mult : BitVec 4) (x : EncCtx),
    Passes s h { modes := audModes, reserved := decide (pct.toNat < 100) || mult = 0 } →
    ctxOwner s h.fn.toNat true ctx.toNat = none → tget s.vid.enc ctx.toNat = some x →
    capTooLow x ⟨kbps.toNat, cap.toNat, pct.toNat, mult.toNat⟩ (tickCap s x) = false →
    exec (.vidEncRate h ctx kbps cap pct mult) s = .next (keepQueue s (complete
      (stage (fresh s) (effTick s) (.encRate ctx.toNat ⟨kbps.toNat, cap.toNat, pct.toNat, mult.toNat⟩))
      h OP_VID_ENC_RATE ST_OK (effArea (effTick s) ++ [sat32 (tickCap s x)])))) ∧
  (∀ (s : State) (h : CmdHdr) (ctx : BitVec 10), Passes s h { modes := audModes } →
    ctxOwner s h.fn.toNat true ctx.toNat = none →
    exec (.vidKeyPic h ctx) s = .next (keepQueue s (complete (keyRequest (fresh s) ctx.toNat 1).1 h OP_VID_KEY_PIC ST_OK
      (effArea (effTick s) ++ [if (keyRequest (fresh s) ctx.toNat 1).2 then 1 else 0])))) ∧
  (∀ (s : State) (h : CmdHdr) (m : BitVec 6) (ctx : BitVec 12) (w ht : BitVec 16) (x : EncCtx),
    Passes s h { modes := audModes, reserved := decide (1024 ≤ ctx.toNat) } → ctxOwner s h.fn.toNat true ctx.toNat = none →
    tget s.vid.enc ctx.toNat = some x → x.w = w.toNat → x.h = ht.toNat →
    bit s (HIF_RING_EN h.fn.toNat (mediaQ m.toNat)) = true → mediaCaps s (mediaKey h.fn.toNat m.toNat) = true →
    (mediaOf s (mediaKey h.fn.toNat m.toNat)).point = none →
    exec (.vidMediaBind h 2 m ctx w ht) s = .next (keepQueue s (complete
      (stage (setMedia (fresh s) (mediaKey h.fn.toNat m.toNat)
          { mediaOf s (mediaKey h.fn.toNat m.toNat) with point := some (.videoEnc ctx.toNat x.w x.h x.ten), live := false })
        (effTick s) (.mediaBind (mediaKey h.fn.toNat m.toNat))) h OP_VID_MEDIA_BIND ST_OK (effArea (effTick s))))) ∧
  (∀ (s : State) (h : CmdHdr) (point : BitVec 2) (m : BitVec 6) (ctx : BitVec 12) (w ht : BitVec 16),
    Passes s h { modes := audModes, reserved := point = 3 } → point.toNat < 2 → ctxOwner s h.fn.toNat false ctx.toNat = none →
    (ctxRec s ctx.toNat).rxW = w.toNat → (ctxRec s ctx.toNat).rxH = ht.toNat →
    bit s (HIF_RING_EN h.fn.toNat (mediaQ m.toNat)) = true →
    mediaCaps s (mediaKey h.fn.toNat m.toNat) = decide (point ≠ 0) →
    (mediaOf s (mediaKey h.fn.toNat m.toNat)).point = none →
    exec (.vidMediaBind h point m ctx w ht) s = .next (keepQueue s (complete
      (stage (setMedia (fresh s) (mediaKey h.fn.toNat m.toNat)
          { mediaOf s (mediaKey h.fn.toNat m.toNat) with
            point := some (.videoDec ctx.toNat w.toNat ht.toNat (decide ((ctxRec s ctx.toNat).rxDepth = 1))), live := false })
        (effTick s) (.mediaBind (mediaKey h.fn.toNat m.toNat))) h OP_VID_MEDIA_BIND ST_OK (effArea (effTick s))))) ∧
  (∀ (s : State) (h : CmdHdr) (m : BitVec 6) (c w ht : Nat) (ten enc : Bool), Passes s h { modes := audModes } →
    (mediaOf s (mediaKey h.fn.toNat m.toNat)).point = some (if enc then .videoEnc c w ht ten else .videoDec c w ht ten) →
    exec (.vidMediaUnbind h m) s = .next (keepQueue s (complete
      (stage (fresh s) (effTick s) (.mediaUnbind (mediaKey h.fn.toNat m.toNat))) h OP_VID_MEDIA_BIND ST_OK
      (effArea (effTick s))))) ∧
  (∀ (s : State) (h : CmdHdr) (clr : Bool) (ctx : BitVec 12) (addr : BitVec 64) (x : EncCtx),
    Passes s h { modes := audModes, reserved := decide (1024 ≤ ctx.toNat) } →
    ctxOwner s h.fn.toNat true ctx.toNat = none → tget s.vid.enc ctx.toNat = some x →
    exec (.vidStats h clr true ctx addr) s = .next (keepQueue s (complete
      (let t := hostWrites (fresh s) addr.toNat (encStats x)
       if clr then setEnc t ctx.toNat { x with nPic := 0, nKey := 0, nDmg := 0, nMin := 0, nBytes := 0 } else t)
      h OP_VID_STATS ST_OK []))) ∧
  (∀ (s : State) (h : CmdHdr) (clr : Bool) (ctx : BitVec 12) (addr : BitVec 64) (x : DecCtx),
    Passes s h { modes := audModes } →
    ctxOwner s h.fn.toNat false ctx.toNat = none → tget s.vid.dec ctx.toNat = some x →
    exec (.vidStats h clr false ctx addr) s = .next (keepQueue s (complete
      (let t := hostWrites (fresh s) addr.toNat (decStats x)
       if clr then setDec t ctx.toNat { x with nPic := 0, nKey := 0, nDmg := 0, nBytes := 0 } else t)
      h OP_VID_STATS ST_OK [])))

/-- The canvas commands (R315 to R333), where their checks let them through: a layout's description, a layer's change or its removal is
staged, a group's flip is set for its effect tick, a plate starts loading or is dropped. The model's choices in it are log entries 49 to
51. -/
def Obligations.CanvasCommandsComplete : Prop :=
  (∀ (s : State) (h : CmdHdr) (id : BitVec 9) (mtx : BitVec 2) (full : Bool) (y cb cr : BitVec 10) (a : LayoutAdm),
    Passes s h { modes := audModes, reserved := mtx = 3 } → layoutFor s h.fn.toNat id.toNat = .ok a →
    exec (.cnvLayoutSet h id mtx full y cb cr) s = .next (keepQueue s (complete
      (setLayout (fresh s) id.toNat { layoutOf s id.toNat with
        descs := (layoutOf s id.toNat).descs ++ [(effTick s, ⟨mtx.toNat, full, y.toNat, cb.toNat, cr.toNat⟩)] })
      h OP_CNV_LAYOUT_SET ST_OK (effArea (effTick s))))) ∧
  (∀ (s : State) (h : CmdHdr) (kind : BitVec 2) (hideDmg selfHide : Bool) (g : BitVec 4) (i : BitVec 6) (id : BitVec 9)
    (src : BitVec 32) (x y w ht cx cy cw ch : BitVec 16) (alpha : BitVec 8) (fence : BitVec 2) (a : LayoutAdm) (l : Layer),
    Passes s h
      { modes := audModes
        reserved := layerReserved kind.toNat src.toNat x.toNat y.toNat w.toNat ht.toNat cx.toNat cy.toNat cw.toNat ch.toNat
          fence.toNat } →
    l = ⟨kind.toNat, hideDmg, selfHide, src.toNat, x.toNat, y.toNat, w.toNat, ht.toNat, cx.toNat, cy.toNat, cw.toNat, ch.toNat,
        alpha.toNat, fence.toNat⟩ →
    layoutFor s h.fn.toNat id.toNat = .ok a →
    (l.kind = 0 → ∃ d, tget s.vid.dec l.src = some d ∧ d.gone = false ∧ d.owner = h.fn.toNat) →
    (l.kind = 1 → ∃ p, tget s.cnv.plates l.src = some p ∧ p.gone = false ∧ p.owner = h.fn.toNat) →
    stagedCheck (layoutOf s id.toNat) g.toNat i.toNat = none → geometryOk s a l = true →
    demandCheck s (stageLayer (fresh s) id.toNat g.toNat ⟨i.toNat, some l⟩) id.toNat l = none →
    exec (.cnvLayerSet h kind hideDmg selfHide g i id src x y w ht cx cy cw ch alpha fence) s = .next (keepQueue s (complete
      (stageLayer (fresh s) id.toNat g.toNat ⟨i.toNat, some l⟩) h OP_CNV_LAYER_SET ST_OK
      (effArea (effTick s) ++ [if g.toNat = 0 then 0 else 1])))) ∧
  (∀ (s : State) (h : CmdHdr) (g : BitVec 4) (i : BitVec 6) (id : BitVec 9) (a : LayoutAdm),
    Passes s h { modes := audModes } → layoutFor s h.fn.toNat id.toNat = .ok a →
    stagedCheck (layoutOf s id.toNat) g.toNat i.toNat = none →
    (thas (layoutOf s id.toNat).layers i.toNat
      || (layoutOf s id.toNat).groups.any (fun g => g.changes.any (fun c => c.layer = i.toNat))) = true →
    exec (.cnvLayerClear h g i id) s = .next (keepQueue s (complete
      (stageLayer (fresh s) id.toNat g.toNat ⟨i.toNat, none⟩) h OP_CNV_LAYER_CLEAR ST_OK
      (effArea (effTick s) ++ [if g = 0 then 0 else 1])))) ∧
  (∀ (s : State) (h : CmdHdr) (g : BitVec 4) (id : BitVec 9) (a : LayoutAdm) (x : CnvGroup),
    Passes s h { modes := audModes, reserved := g = 0 } → layoutFor s h.fn.toNat id.toNat = .ok a →
    (layoutOf s id.toNat).groups.find? (fun y => y.group = g.toNat) = some x → x.flipAt = none →
    exec (.cnvGroupFlip h g id) s = .next (keepQueue s (complete
      (setLayout (fresh s) id.toNat { layoutOf s id.toNat with
        groups := (layoutOf s id.toNat).groups.map (fun y => if y = x then { x with flipAt := some (effTick s) } else y) })
      h OP_CNV_GROUP_FLIP ST_OK (effArea (effTick s))))) ∧
  (∀ (s : State) (h : CmdHdr) (k : BitVec 12) (w ht : BitVec 16) (mtx : BitVec 2) (full : Bool) (count : BitVec 5)
    (addr : BitVec 64) (ws : List Word) (imgs : List ImgData) (p : Plate),
    Passes s h { modes := audModes, reserved := mtx = 3 || count = 0 || decide (16 < count.toNat)
                 misaligned := addr.toNat % 64 ≠ 0 } →
    p = (tget s.cnv.plates k.toNat).getD { owner := h.fn.toNat } → p.owner = h.fn.toNat → p.loading = none → p.gone = false →
    w.toNat % 2 = 0 → ht.toNat % 2 = 0 → 2 ≤ w.toNat → 2 ≤ ht.toNat → w.toNat ≤ 8192 → ht.toNat ≤ 8192 →
    (List.range count.toNat).all (elemOk ws w.toNat ht.toNat) = true → plateUnits w.toNat ht.toNat ≤ varnishFree s →
    exec (.cnvVarnishLoad h k w ht mtx full count addr (some ws) (some imgs)) s = .next (keepQueue s
      (let t := setPlate (fresh s) k.toNat { p with loading := some (h,
          buildPlate mtx.toNat full w.toNat ht.toNat ((List.range count.toNat).map (elemAt ws imgs)), curTick s) }
       { t with hif := { t.hif with running := t.hif.running ++ [h] } }))) ∧
  (∀ (s : State) (h : CmdHdr) (k : BitVec 12) (p : Plate), Passes s h { modes := audModes } →
    tget s.cnv.plates k.toNat = some p → p.gone = false → p.owner = h.fn.toNat → p.loading = none → plateNamed s k.toNat = false →
    exec (.cnvVarnishDrop h k) s = .next (keepQueue s (complete
      (stage (setPlate (fresh s) k.toNat { p with gone := true }) (effTick s) (.plateDrop k.toNat)) h OP_CNV_VARNISH_DROP ST_OK
      (effArea (effTick s)))))

/-- The time commands (R339, R342, R356), where their checks let them through. The model's choices in it are log entries 53 to 55. -/
def Obligations.TimeCommandsComplete : Prop :=
  (∀ (s : State) (h : CmdHdr) (v : BitVec 64) (set : Bool) (n : BitVec 30),
    Passes s h { fn0 := true, reserved := if set then decide (2 ^ 48 ≤ v.toNat) else decide (n ≠ 0)
                 modes := if outOfService s then [] else timeModes } →
    stepInRange s set v n = true → s.ptp.servo = false → s.ptp.staged = none → bit s PTP_STEP_USED = false →
    exec (.ptpStep h false set v n) s = .next (keepQueue s
      (let t := stageStep (fresh s) (if set then some (v.toNat * 1000000000 + n.toNat) else none) v.toInt false false
       complete t h OP_PTP_STEP ST_OK [lo32 (lastTick s), hi32 (lastTick s), BitVec.ofNat 32 (fld t PTP_EPOCH)]))) ∧
  (∀ (s : State) (h : CmdHdr) (v : BitVec 64) (set : Bool) (n : BitVec 30),
    Passes s h { fn0 := true, reserved := if set then decide (2 ^ 48 ≤ v.toNat) else decide (n ≠ 0)
                 modes := if outOfService s then [] else timeModes } →
    stepInRange s set v n = true → s.ptp.staged = none → (set = true ∨ v ≠ 0) →
    exec (.ptpStep h true set v n) s = .next (keepQueue s
      (let t := stageStep (openEpoch (fresh s)) (if set then some (v.toNat * 1000000000 + n.toNat) else none) v.toInt false true
       complete t h OP_PTP_STEP ST_OK [lo32 (lastTick s), hi32 (lastTick s), BitVec.ofNat 32 (fld t PTP_EPOCH)]))) ∧
  (∀ (s : State) (h : CmdHdr), Passes s h { fn0 := true, modes := if outOfService s then [] else timeModes } →
    stepInRange s false 0 0 = true → s.ptp.staged = none →
    exec (.ptpStep h true false 0 0) s = .next (keepQueue s
      (let t := stepEvt (openEpoch (fresh s)) false true 0 (lastTick s)
       complete t h OP_PTP_STEP ST_OK [lo32 (lastTick s), hi32 (lastTick s), BitVec.ofNat 32 (fld t PTP_EPOCH)]))) ∧
  (∀ (s : State) (h : CmdHdr) (synced : Bool) (r : BitVec 32),
    Passes s h { fn0 := true, modes := if outOfService s then [] else timeModes } → (r.toInt.natAbs : Int) ≤ RMAX →
    s.ptp.servo = false →
    exec (.ptpRate h synced r) s = .next (keepQueue s (complete
      (if synced then setFld (setReg (fresh s) PTP_RATE.addr r) PTP_UNCERTAIN 0 else setReg (fresh s) PTP_RATE.addr r)
      h OP_PTP_RATE ST_OK []))) ∧
  (∀ (s : State) (h : CmdHdr) (en : Bool) (src : BitVec 2) (ports : BitVec 4) (domain : BitVec 8) (dest : Bool)
    (prio stepNs : BitVec 32) (lockCnt : BitVec 8) (lockNs : BitVec 16),
    Passes s h { fn0 := true, reserved := decide (2 ≤ src.toNat), modes := timeModes } →
    1000 ≤ stepNs.toNat → stepNs.toNat ≤ 1000000000 → lockCnt ≠ 0 → lockNs ≠ 0 → (servoPrios prio).contains 0 = false →
    (List.range 4).any (fun p => ports.getLsbD p && !subportOk s p 0) = false → 24 ≤ domain.toNat → domain.toNat ≤ 43 →
    exec (.ptpServoCfg h en src ports domain dest prio stepNs lockCnt lockNs) s = .next (keepQueue s (complete
      (servoSet (fresh s) en src.toNat ports domain.toNat dest (servoPrios prio) stepNs.toNat lockCnt.toNat lockNs.toNat)
      h OP_PTP_SERVO_CFG ST_OK []))) ∧
  (∀ (s : State) (h : CmdHdr), Passes s h { modes := timeModes } →
    exec (.ptpStatus h) s = .next (keepQueue s (complete (fresh s) h OP_PTP_STATUS ST_OK (ptpStatusWords s))))

/-- A host command of the Meash ends as R386 says of one that changes the data path: what waited in the queue still waits, the change `c`
is staged for the effect tick and nothing else of the agenda moves. -/
def MeashStages (i : Instr) (s : State) (c : Change) (more : State → Prop) : Prop :=
  ∃ t, exec i s = .next t ∧ t.pending = s.pending ∧ t.agenda = s.agenda ++ [⟨effTick s, false, c⟩] ∧ t.clk = s.clk ∧ more t

/-- The Meash commands (R366, R369, R372 to R386). Where their checks let them through, each answers the next state its rules give; and
under the conditions of the chapter on the state and the operands alone every host command of the Meash answers one: a port's
configuration, a route, an export, an import, a trace identifier and a request for the protection lane are each staged for the effect
tick, and the port keeps what is in force till then; MSH_PEER_STATUS changes nothing of the Meash; MSH_WAKE_SEND starts the wake pattern
on the ports it names and on no other. The model's choices in it are log entries 56 to 59. -/
def Obligations.MeashCommandsComplete : Prop :=
  (∀ (s : State) (h : CmdHdr) (m : BitVec 2) (en : Bool) (w : BitVec 2) (tree exp wake : Bool) (node : BitVec 5),
    Passes s h { fn0 := true, reserved := w = 3, modes := timeModes } →
    exec (.mshPortCfg h m en w tree exp wake node) s = .next (keepQueue s
      (let c : MshCfg := { en := en, w := 2 * 2 ^ w.toNat, tree := tree, exp := exp, wake := wake, node := node.toNat }
       complete (stage (setMshPort (fresh s) m.toNat { mshPort s m.toNat with cfg := c }) (effTick s) (.mshPort m.toNat c))
         h OP_MSH_PORT_CFG ST_OK (effArea (effTick s))))) ∧
  (∀ (s : State) (h : CmdHdr) (node : BitVec 5) (m : BitVec 2), Passes s h { fn0 := true, modes := timeModes } →
    (mshPort s m.toNat).cfg.en = true →
    exec (.mshRouteSet h node m) s = .next (keepQueue s (complete
      (stage (fresh s) (effTick s) (.mshRoute node.toNat m.toNat)) h OP_MSH_PORT_CFG ST_OK (effArea (effTick s))))) ∧
  (∀ (s : State) (h : CmdHdr) (hd : BitVec 16) (r : BitVec 20) (dst : BitVec 5) (x : StreamRec),
    Passes s h { reserved := hd.toNat % 4 = 3, modes := timeModes } →
    mshStream s h.fn.toNat hd.toNat (fun r => r.rxEn) = .ok x →
    (thas s.msh.exports r.toNat || thas s.msh.imports r.toNat) = false →
    exec (.mshStreamExport h hd r dst false) s = .next (keepQueue s (complete
      (stage { fresh s with msh := { s.msh with exports := tset s.msh.exports r.toNat { hd := hd.toNat, dst := dst.toNat } } }
        (effTick s) (.mshExport r.toNat)) h OP_MSH_PORT_CFG ST_OK (effArea (effTick s))))) ∧
  (∀ (s : State) (h : CmdHdr) (hd : BitVec 16) (r : BitVec 20) (dst : BitVec 5) (x : StreamRec) (e : Export),
    Passes s h { reserved := hd.toNat % 4 = 3, modes := timeModes } →
    mshStream s h.fn.toNat hd.toNat (fun r => r.rxEn) = .ok x → tget s.msh.exports r.toNat = some e → e.hd = hd.toNat →
    e.gone = false →
    exec (.mshStreamExport h hd r dst true) s = .next (keepQueue s (complete
      (stage { fresh s with msh := { s.msh with exports := tset s.msh.exports r.toNat { e with gone := true } } }
        (effTick s) (.mshExportEnd r.toNat)) h OP_MSH_PORT_CFG ST_OK (effArea (effTick s))))) ∧
  (∀ (s : State) (h : CmdHdr) (hd : BitVec 16) (r : BitVec 20) (v : BitVec 4) (s0 s1 s2 s3 : BitVec 32) (x : StreamRec),
    Passes s h { reserved := hd.toNat % 4 = 3, modes := timeModes } →
    mshStream s h.fn.toNat hd.toNat (fun r => r.rxEn && r.rxFwd && !r.txEn) = .ok x → thas s.net.bound hd.toNat = false →
    (thas s.msh.exports r.toNat || thas s.msh.imports r.toNat) = false → queueLimit x ≤ poolFree s →
    exec (.mshStreamImport h hd r v s0 s1 s2 s3 false) s = .next (keepQueue s (complete
      (stage (setBound { fresh s with
            net := { s.net with nextOrder := s.net.nextOrder + 1 }
            msh := { s.msh with imports := tset s.msh.imports r.toNat hd.toNat } } hd.toNat
          { blk := { port := 4, ssrcs := [s0, s1, s2, s3], valid := v.toNat }, order := s.net.nextOrder + 1
            limit := queueLimit x })
        (effTick s) (.netBind hd.toNat)) h OP_MSH_PORT_CFG ST_OK
      (effArea (effTick s) ++ [(Config.queueId hd.toNat (s.net.nextOrder + 1)).setWidth 32])))) ∧
  (∀ (s : State) (h : CmdHdr) (hd : BitVec 16) (r : BitVec 20) (v : BitVec 4) (s0 s1 s2 s3 : BitVec 32) (x : StreamRec) (b : Bound),
    Passes s h { reserved := hd.toNat % 4 = 3, modes := timeModes } →
    mshStream s h.fn.toNat hd.toNat (fun r => r.rxEn && r.rxFwd && !r.txEn) = .ok x →
    tget s.msh.imports r.toNat = some hd.toNat → isBound s hd.toNat = true → tget s.net.bound hd.toNat = some b →
    exec (.mshStreamImport h hd r v s0 s1 s2 s3 true) s = .next (keepQueue s (complete
      (streamRelease (fresh s) hd.toNat (effTick s)) h OP_MSH_PORT_CFG ST_OK
      (effArea (effTick s) ++ [(Config.queueId hd.toNat b.order).setWidth 32])))) ∧
  (∀ (s : State) (h : CmdHdr) (id : BitVec 112), Passes s h { fn0 := true, modes := timeModes } →
    exec (.mshTraceSet h id) s = .next (keepQueue s (complete
      (stage (fresh s) (effTick s) (.mshTrace id.toNat)) h OP_MSH_TRACE_SET ST_OK (effArea (effTick s))))) ∧
  (∀ (s : State) (h : CmdHdr) (m : BitVec 2) (req lane : BitVec 4),
    Passes s h
      { fn0 := true, modes := timeModes
        reserved := !([0x0, 0x7, 0xd, 0xf].contains req.toNat)
          || (if req = 0 ∨ req = 0xf then decide (lane ≠ 15) else decide (7 < lane.toNat)) } →
    (mshPort s m.toNat).cfg.en = true → (req = 0 ∨ apsPrio req.toNat ≤ apsPrio (mshPort s m.toNat).force.1) →
    exec (.mshApsCmd h m req lane) s = .next (keepQueue s
      (let f := (mshPort (mshApsApply (fresh s) m.toNat req.toNat lane.toNat) m.toNat).force
       complete (stage (fresh s) (effTick s) (.mshAps m.toNat req.toNat lane.toNat)) h OP_MSH_APS_CMD ST_OK
         (effArea (effTick s) ++ [BitVec.ofNat 32 (f.1 * 16 + f.2)])))) ∧
  (∀ (s : State) (h : CmdHdr) (m : BitVec 2), Passes s h { modes := timeModes } → (mshPort s m.toNat).live.en = true →
    exec (.mshPeerStatus h m) s = .next (keepQueue s (complete (fresh s) h OP_MSH_PEER_STATUS ST_OK (peerWords s m.toNat)))) ∧
  (∀ (s : State) (h : CmdHdr) (mask : BitVec 4), Passes s h { fn0 := true, modes := timeModes } →
    (∀ m ∈ [0, 1, 2, 3].filter (fun m => mask.getLsbD m), (mshPort s m).live.en = true ∧ mshUp s m = false) →
    exec (.mshWakeSend h mask) s = .next (keepQueue s (complete
      (([0, 1, 2, 3].filter (fun m => mask.getLsbD m)).foldl (fun t m =>
        emitOut (setMshPort t m { mshPort t m with waking := some (localNs t) }) (.mshWake m true)) (fresh s))
      h OP_MSH_WAKE_SEND ST_OK []))) ∧
  (∀ (s : State) (h : CmdHdr) (m : BitVec 2) (en : Bool) (w : BitVec 2) (tree exp wake : Bool) (node : BitVec 5) (c : MshCfg),
    Passes s h { fn0 := true, reserved := w = 3, modes := timeModes } →
    c = { en := en, w := 2 * 2 ^ w.toNat, tree := tree, exp := exp, wake := wake, node := node.toNat } →
    MeashStages (.mshPortCfg h m en w tree exp wake node) s (.mshPort m.toNat c) (fun t =>
      (mshPort t m.toNat).cfg = c ∧ (mshPort t m.toNat).live = (mshPort s m.toNat).live ∧ ∀ n, n ≠ m.toNat → mshPort t n = mshPort s n)) ∧
  (∀ (s : State) (h : CmdHdr) (node : BitVec 5) (m : BitVec 2), Passes s h { fn0 := true, modes := timeModes } →
    (mshPort s m.toNat).cfg.en = true →
    MeashStages (.mshRouteSet h node m) s (.mshRoute node.toNat m.toNat) (fun t => t.msh = s.msh)) ∧
  (∀ (s : State) (h : CmdHdr) (hd : BitVec 16) (r : BitVec 20) (dst : BitVec 5) (l : Leg),
    Passes s h { reserved := hd.toNat % 4 = 3, modes := timeModes } → legIn s (hd.toNat / 4) = some l → l.item.owner = h.fn.toNat →
    (l.prof.rec' (hd.toNat % 4)).rxEn = true →
    (thas s.msh.exports r.toNat = false → thas s.msh.imports r.toNat = false →
      MeashStages (.mshStreamExport h hd r dst false) s (.mshExport r.toNat) (fun t =>
        tget t.msh.exports r.toNat = some { hd := hd.toNat, dst := dst.toNat } ∧
        ∀ k, k ≠ r.toNat → tget t.msh.exports k = tget s.msh.exports k)) ∧
    (∀ e, tget s.msh.exports r.toNat = some e → e.hd = hd.toNat → e.gone = false →
      MeashStages (.mshStreamExport h hd r dst true) s (.mshExportEnd r.toNat) (fun t =>
        tget t.msh.exports r.toNat = some { e with gone := true } ∧ ∀ k, k ≠ r.toNat → tget t.msh.exports k = tget s.msh.exports k))) ∧
  (∀ (s : State) (h : CmdHdr) (hd : BitVec 16) (r : BitVec 20) (v : BitVec 4) (s0 s1 s2 s3 : BitVec 32) (l : Leg),
    Passes s h { reserved := hd.toNat % 4 = 3, modes := timeModes } → legIn s (hd.toNat / 4) = some l → l.item.owner = h.fn.toNat →
    (l.prof.rec' (hd.toNat % 4)).rxEn = true → (l.prof.rec' (hd.toNat % 4)).rxFwd = true →
    (l.prof.rec' (hd.toNat % 4)).txEn = false →
    (thas s.net.bound hd.toNat = false → thas s.msh.exports r.toNat = false → thas s.msh.imports r.toNat = false →
      queueLimit (l.prof.rec' (hd.toNat % 4)) ≤ poolFree s →
      MeashStages (.mshStreamImport h hd r v s0 s1 s2 s3 false) s (.netBind hd.toNat) (fun t =>
        tget t.msh.imports r.toNat = some hd.toNat ∧ ∃ b, tget t.net.bound hd.toNat = some b ∧
          b.blk = { port := 4, ssrcs := [s0, s1, s2, s3], valid := v.toNat } ∧
          b.limit = queueLimit (l.prof.rec' (hd.toNat % 4)))) ∧
    (tget s.msh.imports r.toNat = some hd.toNat → isBound s hd.toNat = true →
      ∃ t, exec (.mshStreamImport h hd r v s0 s1 s2 s3 true) s = .next t ∧ t.pending = s.pending ∧
        t.agenda = (streamRelease (fresh s) hd.toNat (effTick s)).agenda)) ∧
  (∀ (s : State) (h : CmdHdr) (id : BitVec 112), Passes s h { fn0 := true, modes := timeModes } →
    MeashStages (.mshTraceSet h id) s (.mshTrace id.toNat) (fun t => t.msh = s.msh)) ∧
  (∀ (s : State) (h : CmdHdr) (m : BitVec 2) (req lane : BitVec 4),
    Passes s h { fn0 := true, modes := timeModes, reserved :=
      !([0x0, 0x7, 0xd, 0xf].contains req.toNat)
          || (if req = 0 ∨ req = 0xf then decide (lane ≠ 15) else decide (7 < lane.toNat)) } →
    (mshPort s m.toNat).cfg.en = true → (req = 0 ∨ apsPrio req.toNat ≤ apsPrio (mshPort s m.toNat).force.1) →
    MeashStages (.mshApsCmd h m req lane) s (.mshAps m.toNat req.toNat lane.toNat) (fun t => t.msh = s.msh)) ∧
  (∀ (s : State) (h : CmdHdr) (m : BitVec 2), Passes s h { modes := timeModes } → (mshPort s m.toNat).live.en = true →
    ∃ t, exec (.mshPeerStatus h m) s = .next t ∧ t.pending = s.pending ∧ t.agenda = s.agenda ∧ t.msh = s.msh) ∧
  (∀ (s : State) (h : CmdHdr) (mask : BitVec 4), Passes s h { fn0 := true, modes := timeModes } →
    (∀ m, m < 4 → mask.getLsbD m = true → (mshPort s m).live.en = true ∧ mshUp s m = false) →
    ∃ t, exec (.mshWakeSend h mask) s = .next t ∧ t.pending = s.pending ∧ t.agenda = s.agenda ∧
      (∀ m, m < 4 → mask.getLsbD m = true → (mshPort t m).waking = some (localNs s)) ∧
      (∀ m, m < 4 → mask.getLsbD m = false → mshPort t m = mshPort s m))

/-- The memory and calibration commands (R416 to R438), where their checks let them through. The model's choices in it are log entries 63 to
65. -/
def Obligations.MemoryCalibrationCommandsComplete : Prop :=
  (∀ (s : State) (h : CmdHdr) (repair : Bool) (t : BitVec 4), Passes s h { fn0 := true, modes := memModes } →
    t.toNat ≤ 10 → s.mem.sweep = none → targetOn s t.toNat = true →
    exec (.memSweep h repair t) s = .next (keepQueue s
      { fresh s with
        mem := { s.mem with sweep := some ⟨h, t.toNat, repair⟩ }
        hif := { s.hif with running := s.hif.running ++ [h] } })) ∧
  (∀ (s : State) (h : CmdHdr) (t : BitVec 4) (m row : BitVec 11), Passes s h { fn0 := true, modes := memModes } →
    m.toNat < macrosOf t.toNat → row.toNat < rowsOf t.toNat → targetOn s t.toNat = true → s.mem.repairs.length < 256 →
    s.mem.repairs.contains (t.toNat, m.toNat, row.toNat) = false →
    exec (.memSoftRepair h t m row) s = .next (keepQueue s (complete
      { fresh s with mem := { s.mem with repairs := s.mem.repairs ++ [(t.toNat, m.toNat, row.toNat)] } }
      h OP_MEM_SOFT_REPAIR ST_OK [BitVec.ofNat 32 (s.mem.repairs.length + 1)]))) ∧
  (∀ (s : State) (h : CmdHdr), Passes s h { fn0 := true, modes := memModes } →
    exec (.softRepairClearAll h 0 0 0) s = .next (keepQueue s (complete { fresh s with mem := { s.mem with repairs := [] } }
      h OP_MEM_SOFT_REPAIR ST_OK [0]))) ∧
  (∀ (s : State) (h : CmdHdr), Passes s h { fn0 := true, modes := memModes } →
    exec (.memSpareStatus h) s = .next (keepQueue s
      (let byte (i : Nat) : Nat := fld s (MEM_SPARE_STATE i) * 64 + (stackOf s i).failed.getD 32
       complete (fresh s) h OP_MEM_SPARE_STATUS ST_OK
        [BitVec.ofNat 32 (byte 0 + byte 1 * 2 ^ 8 + byte 2 * 2 ^ 16 + byte 3 * 2 ^ 24),
         BitVec.ofNat 32 ((stackOf s 1).mib * 65536 + (stackOf s 0).mib),
         BitVec.ofNat 32 ((stackOf s 3).mib * 65536 + (stackOf s 2).mib), reg s MEM_POISON_CNT.addr]))) ∧
  (∀ (s : State) (h : CmdHdr) (clr : Bool) (addr : BitVec 64),
    Passes s h { fn0 := true, modes := memModes, misaligned := addr.toNat % 64 ≠ 0 } →
    exec (.memErrLog h clr addr) s = .next (keepQueue s
      (let t := hostWrites (fresh s) addr.toNat (s.mem.log.map EccLog.words).flatten
       complete (if clr then { t with mem := { t.mem with log := [] } } else t) h OP_MEM_ERR_LOG ST_OK
        [BitVec.ofNat 32 s.mem.log.length]))) ∧
  (∀ (s : State) (h : CmdHdr) (addr : BitVec 64) (ws : List Word),
    Passes s h { fn0 := true, modes := calModes, misaligned := addr.toNat % 64 ≠ 0 } → glazeCheck1 ws = none →
    firstIdx glazeBadItem (glazeEntries ws) = none → glazeDup (glazeEntries ws) = none →
    firstIdx (glazeBadDelta (fresh s)) (glazeEntries ws) = none → firstIdx (glazeBadMap (fresh s)) (glazeEntries ws) = none →
    exec (.calGlazeLoad h false addr (some ws)) s = .next (keepQueue s (complete
      { fresh s with cal := { s.cal with store := some (glazeEntries ws) } } h OP_CAL_GLAZE_LOAD ST_OK
      [BitVec.ofNat 32 (glazeEntries ws).length]))) ∧
  (∀ (s : State) (h : CmdHdr) (addr : BitVec 64) (d : Dma), Passes s h { fn0 := true, modes := calModes } →
    exec (.calGlazeLoad h true addr d) s = .next (keepQueue s (complete { fresh s with cal := { s.cal with store := none } }
      h OP_CAL_GLAZE_LOAD ST_OK [0]))) ∧
  (∀ (s : State) (h : CmdHdr) (sel : Bool) (addr : BitVec 64),
    Passes s h { fn0 := true, modes := calModes, misaligned := addr.toNat % 64 ≠ 0 } →
    exec (.calGlazeRead h sel addr) s = .next (keepQueue s
      (let es := if sel then s.cal.store.getD [] else s.cal.applied
       complete (hostWrites (fresh s) addr.toNat (glazeWords es)) h OP_CAL_GLAZE_READ ST_OK
        [BitVec.ofNat 32 (fld s CAL_GLZ_SRC * 4096 + es.length)]))) ∧
  (∀ (s : State) (h : CmdHdr) (cls : BitVec 8) (first count : BitVec 16) (addr : BitVec 64),
    Passes s h { fn0 := true, modes := calModes, misaligned := addr.toNat % 64 ≠ 0 } → calItems cls.toNat ≠ 0 →
    first.toNat + count.toNat ≤ calCount cls.toNat → first.toNat < calCount cls.toNat →
    exec (.calLiveRead h cls first count addr) s = .next (keepQueue s
      (let es := ((List.range (if cls.toNat = 4 then 0 else min count.toNat (1024 / calItems cls.toNat))).map (fun j =>
         liveEntries (fresh s) cls.toNat (first.toNat + j))).flatten
       complete (hostWrites (fresh s) addr.toNat (glazeWords es)) h OP_CAL_LIVE_READ ST_OK [BitVec.ofNat 32 es.length]))) ∧
  (∀ (s : State) (h : CmdHdr) (cls : BitVec 8) (i : BitVec 16) (addr : BitVec 64),
    Passes s h { fn0 := true, modes := calModes, misaligned := addr.toNat % 64 ≠ 0 } → i.toNat < calCount cls.toNat →
    exec (.calGessoRead h cls i addr) s = .next (keepQueue s
      (let r := gessoOf (fresh s) cls.toNat i.toNat
       complete (hostWrites (fresh s) addr.toNat (gessoWords cls.toNat i.toNat r)) h OP_CAL_GESSO_READ ST_OK
        [BitVec.ofNat 32 ((if r.defaulted then 256 else 0)
          + r.outcome.getD (Config.gessoOutcome (calKey cls.toNat i.toNat)).toNat * 16 + r.mask)])))

/-- The power commands (R445 to R465), where their checks let them through. The model's choices in it are log entries 15, 67 and 70. -/
def Obligations.PowerCommandsComplete : Prop :=
  (∀ (s : State) (h : CmdHdr), Passes s h { fn0 := true, modes := reqModes } → s.pwr.trans = none → mode s = 5 →
    exec (.pwrModeReqRun h) s = .next (keepQueue s
      (let t := stage (setPwr (fresh s) { s.pwr with trans := some ⟨3, effTick s, some h⟩ }) (effTick s) (.pwrMode 3 0)
       { t with hif := { t.hif with running := t.hif.running ++ [h] } }))) ∧
  (∀ (s : State) (h : CmdHdr), Passes s h { fn0 := true, modes := reqModes } → s.pwr.trans = none → mode s = 6 →
    exec (.pwrModeReqRun h) s = .next (keepQueue s
      (let t := setPwr (fresh s) { s.pwr with trans := some ⟨3, effTick s, some h⟩, up := some ⟨1, s.pwr.rails, fld s PWR_DOM_ON, 0, false⟩ }
       { t with hif := { t.hif with running := t.hif.running ++ [h] } }))) ∧
  (∀ (s : State) (h : CmdHdr), Passes s h { fn0 := true, modes := reqModes } → s.pwr.trans = none →
    (mode s = 3 ∨ mode s = 4) →
    exec (.pwrModeReqDrain h) s = .next (keepQueue s
      (let t := stage (setPwr (fresh s) { s.pwr with trans := some ⟨5, effTick s, some h⟩ }) (effTick s) (.pwrMode 5 0)
       { t with hif := { t.hif with running := t.hif.running ++ [h] } }))) ∧
  (∀ (s : State) (h : CmdHdr), Passes s h { fn0 := true, modes := reqModes } → s.pwr.trans = none → mode s = 5 →
    notEmpty s = false →
    exec (.pwrModeReqDoze h) s = .next (keepQueue s
      (let t := stage (setPwr (fresh s) { s.pwr with trans := some ⟨6, effTick s, some h⟩ }) (effTick s) (.pwrMode 6 0)
       { t with hif := { t.hif with running := t.hif.running ++ [h] } }))) ∧
  (∀ (s : State) (h : CmdHdr), Passes s h { fn0 := true, modes := reqModes } → s.pwr.trans = none →
    (mode s = 5 ∨ mode s = 6) → notEmpty s = false → wakeEnabled s = true →
    exec (.pwrModeReqSleep h) s = .next (keepQueue s (complete
      { setPwr (fresh s) { s.pwr with trans := some ⟨7, effTick s, none⟩ } with
        easel := { s.easel with stopAt := some (effTick s) } }
      h OP_PWR_MODE_REQ ST_OK (effArea (effTick s) ++ [7])))) ∧
  (∀ (s : State) (h : CmdHdr) (clr : Bool) (addr : BitVec 64),
    Passes s h { fn0 := true, modes := pwrModes, misaligned := addr.toNat % 64 ≠ 0 } →
    exec (.pwrResidency h clr addr) s = .next (keepQueue s
      (let cnt (k : Nat) : Nat := (tget s.pwr.resid k).getD 0
       let ws := (List.range 24).map (fun i => let v := if i < 8 then cnt i else cnt (8 + i); [lo32 v, hi32 v])
       let t := hostWrites (fresh s) addr.toNat ws.flatten
       complete (if clr then setPwr t { t.pwr with resid := [] } else t) h OP_PWR_RESIDENCY ST_OK []))) ∧
  (∀ (s : State) (h : CmdHdr) (v : BitVec 16), Passes s h { fn0 := true, modes := pwrModes } → (v = 0 ∨ 12 ≤ v.toNat) →
    exec (.pwrSilHoldSet h v) s = .next (keepQueue s (complete
      (stage (fresh s) (effTick s) (.silHold v.toNat)) h OP_PWR_SIL_HOLD_SET ST_OK (effArea (effTick s))))) ∧
  (∀ (s : State) (h : CmdHdr), Passes s h { fn0 := true, modes := pwrModes } →
    exec (.pwrThermal h) s = .next (keepQueue s (complete (fresh s) h OP_PWR_THERMAL ST_OK
      [BitVec.ofNat 32 (fld s PWR_TEMP_MAX * 2 ^ 24 + fld s PWR_TEMP_SENSOR * 2 ^ 16 + fld s PWR_THERM_STATE),
       BitVec.ofNat 32 (fld s PWR_WARN_C * 2 ^ 24 + fld s PWR_CRIT_C * 2 ^ 16 + 115)])))

/-! ## Events complete -/

/-- The Easel's sequence (R22, R26, R29, R35, R39, R42, R43): each event, when it is due, carries out its part of the tick. TICK_START is
stated for a tick that starts with nothing staged for its boundary, no stop and EMIT of the tick before already open. The model's
choices in it are log entries 4, 16 to 18, 82 and 105. -/
def Obligations.TickEventsComplete : Prop :=
  (∀ (s : State) (errs : List (BitVec 16 × BitVec 16 × Bool)) (slow : List (BitVec 16)) (hits : List EccHit) (fw : List FwData),
    s.easel.running = true → s.easel.stopAt = none → (s.easel.issued = true → s.easel.emitted = true) → s.ptp.staged = none →
    s.msh.adopt = none → (s.easel.follow = true → fld s TIK_SRC ≠ 0) →
    exec (.tickStart errs slow hits fw) s = .next (keepQueue s
      (let t := padsRelease (stallCount (nextTick (tsDrain (advanceTo (fresh s) s.easel.due))))
       let t := skipWork (modeCount (agendaStart t (curTick t)))
       let t := t.net.bound.foldl (releaseStream errs slow) t
       let t := vidInject (quietAll (routesApply { t with easel := { t.easel with skipped := [] } }))
       let t := groupsWake (if t.pwr.fwStop then t else encStartAll t)
       fw.foldl fwData (eccHits t hits)))) ∧
  (∀ s : State, s.easel.issued = true → s.easel.worked = false → s.easel.gather = false →
    exec .workOpen s = .next (keepQueue s
      (let t := advanceTo (fresh s) (s.easel.start + 83333)
       let t := peersOpen (selectAll { t with easel := { t.easel with work := true, worked := true } }) (curTick t)
       setPwr t { t.pwr with resid := ((List.range 16).filter (groupGated t)).foldl (fun u g =>
         tset u (16 + g) ((tget u (16 + g)).getD 0 + 1)) t.pwr.resid }))) ∧
  (∀ s : State, s.easel.issued = true → s.easel.emitted = false → s.easel.worked = true → s.easel.work = false →
    s.easel.emit = none →
    exec .emitOpen s = .next (keepQueue s
      (let t := advanceTo (fresh s) (s.easel.start + 708333)
       let n := curTick t
       let t := { t with easel := { t.easel with
         emit := some n, emitted := true, emitEndCyc := none } }
       let t := t.adm.legs.foldl (fun u p => emitLeg u (s.easel.start + 708333) p.1) t
       let t := kpSendAll t t.fwd.kps
       let t := partialSend (relaySr t t.fwd.srs) n
       t.net.hpa.foldl (fun u p => if bit u (NET_HPA_EN p.1) && fld u (NET_HPA_STATE p.1) ≠ 3 then hostFrames u p.1 else u) t))) ∧
  (∀ s : State, s.easel.gather = true →
    exec (.phaseEnd 0) s = .next (keepQueue s
      (let t := advanceTo (fresh s) (s.easel.start + 83333)
       t.easel.slow.foldl (fun u hd =>
         let u := overrun u hd 0 9
         if hd % 4 = 0 ∧ thas u.aud.legs (hd / 4) then setAudLeg u (hd / 4) { audLeg u (hd / 4) with decLost := true } else u)
         { t with easel := { t.easel with gather := false, slow := [] } }))) ∧
  (∀ s : State, s.easel.work = true →
    exec (.phaseEnd 1) s = .next (keepQueue s
      (let t := cnvEnd (encEnd (decEnd (audioEnd (brushEnd (advanceTo (fresh s) (s.easel.start + 708333))))))
       groupsGate { t with easel := { t.easel with work := false } }))) ∧
  (∀ (s : State) (n : Nat), s.easel.emit = some n → s.pwr.shutAt = none →
    exec (.phaseEnd 2) s = .next (keepQueue s
      (let t := toEmitEnd (fresh s)
       let late := t.net.egress.filter (fun e => e.kind ≤ 1)
       let t := { t with
         net := { t.net with egress := t.net.egress.filter (fun e => 3 ≤ e.kind) }
         easel := { t.easel with emit := none, emitEndCyc := none } }
       let t := agendaEnd (partialEnd (late.foldl (fun u e => overrun u e.handle 2 8) t) n) n
       if (t.pwr.shutAt.map (fun m => decide (m ≤ n))).getD false then thermalShutdown t 4 else t))) ∧
  (∀ s : State, s.easel.running = true → s.easel.issued = true → s.easel.latched = false →
    exec .latchPoint s = .next (keepQueue s
      (let t := advanceTo (fresh s) (s.easel.start + 750000)
       { t with easel := { t.easel with latched := true } }))) ∧
  (∀ (s : State) (p : PtpStep), s.ptp.staged = some p →
    exec .stepApply s = .next (keepQueue s
      (let t := tsFlush (advanceTo (fresh s) (stepAt s p))
       let v := p.abs.getD (stepAt s p + p.off).toNat
       let d : Int := (v : Int) - stepAt s p
       let t := { t with
         clk := { t.clk with t := match p.abs with
                                  | some a => a * 2 ^ 48
                                  | none => (t.clk.t + d * 2 ^ 48).toNat }
         ptp := ppsStepped t.ptp v }
       let t := shiftEasel (shiftEgress (stepEvt t p.servo p.epoch d (lastTick s)) d) d
       easelStep (tsEntry t 3 (fld t PTP_EPOCH) 0 0 v) (stepAt s p) v))) ∧
  (∀ s : State, bit s TIK_OUT_EN = true → s.easel.running = true → s.easel.holding = false → s.easel.stopAt = none →
    s.easel.issued = true → s.easel.now < s.easel.outDone → s.ptp.staged = none → s.msh.adopt = none →
    (s.easel.follow = true → fld s TIK_SRC ≠ 0) → s.easel.outDone ≤ s.easel.next → s.easel.outFirst ≤ s.easel.due → outSelects s s.easel.next = true →
    exec .tickOutPulse s = .next (keepQueue s
      (let t := advanceTo (fresh s) (s.easel.due - fld s TIK_OUT_ADV)
       let t := { t with easel := { t.easel with outDone := s.easel.next + 1 } }
       let w := outWidth t s.easel.next
       if fld t PAD_ST_TIME = 2 then
         emitOut { t with easel := { t.easel with outFall := some (localNs t + w) } } (.tickOut s.easel.next w)
       else t)))

/-- The network's events (R119, R120, R123 to R129, R145, R507): a frame is checked and counted, a link changes with its event, a control
line is taken, the next frame leaves, a late run is cleared. The model's choices in it are log entries 25 to 28
and 111. -/
def Obligations.NetworkEventsComplete : Prop :=
  (∀ (s : State) (p u : BitVec 2) (fcs : Bool) (frame : RxFrame), linkUp s p.toNat u.toNat = true → s.net.rxFrames < 250000 →
    exec (.frameReceive p u fcs frame) s = .next (keepQueue s
      (let t := { fresh s with net := { s.net with rxFrames := s.net.rxFrames + 1 } }
       let n := frame.bytes.length + 4
       if fcs = false ∨ n < 64 then stat t p.toNat u.toNat RX_FCS_ERR 1
       else if fld s (NET_PORT_MAXF p.toNat) < n then stat t p.toNat u.toNat RX_OVERSIZE 1
       else
         let t := eccHits (stat (stat t p.toNat u.toNat RX_FRAMES 1) p.toNat u.toNat RX_BYTES n) frame.hits
         if eccBad s frame.hits [4] then t else frameRx t p.toNat u.toNat frame.bytes))) ∧
  (∀ (s : State) (hd : BitVec 16) (i : BitVec 2) (b : Bound), tget s.net.bound hd.toNat = some b →
    exec (.lateRunReached hd i) s = .next (keepQueue s (setBound (fresh s) hd.toNat (lateRunClear b i.toNat)))) ∧
  (∀ (s : State) (p u : BitVec 2), linkUp s p.toNat u.toNat = true →
    exec (.linkDown p u) s = .next (keepQueue s
      (let t := setFld (fresh s) (NET_LINK_UP p.toNat) (fld s (NET_LINK_UP p.toNat) - 2 ^ u.toNat)
       let mine (e : Egr) : Bool := decide (e.port = p.toNat) && decide (e.sub = u.toNat) && decide (e.kind ≠ 4)
       let gone := s.net.egress.filter mine
       let t := stat { t with net := { t.net with egress := s.net.egress.filter (fun e => !mine e) } } p.toNat u.toNat TX_LINK_DOWN
         gone.length
       linkEvt (gone.foldl (fun t e => if e.kind = 3 then hpaSent t e.handle e.ord e.seq else t) t) p.toNat u.toNat 0))) ∧
  (∀ (s : State) (p u : BitVec 2), (fld s (NET_LINK_UP p.toNat)).testBit u.toNat = false → subportOk s p.toNat u.toNat = true →
    ctlOn s = true → domOn s 3 = true →
    exec (.linkUp p u) s = .next (keepQueue s
      (linkEvt (setFld (subTrain (fresh s) p.toNat u.toNat) (NET_LINK_UP p.toNat) (fld s (NET_LINK_UP p.toNat) + 2 ^ u.toNat)) p.toNat u.toNat 1))) ∧
  (∀ (s : State) (f : BitVec 6) (ws : List Word) (slots : List (List Word)), bit s (NET_HPA_EN f.toNat) = true →
    fld s (NET_HPA_STATE f.toNat) ≠ 3 → fld s (HIF_FN_STATE f.toNat) = 1 →
    hostIdxValid false (ws.getD 0 0) (hpaOf s f.toNat).rxHost (hpaOf s f.toNat).rxDev (hpaRxN s f.toNat) = true →
    hostIdxValid true (ws.getD 1 0) (hpaOf s f.toNat).txHost (hpaOf s f.toNat).txDev (hpaTxN s f.toNat) = true →
    exec (.hpaControlRead f (some ws) slots) s = .next (keepQueue s
      (setHpa (fresh s) f.toNat { hpaOf s f.toNat with
        rxHost := ws.getD 0 0, txHost := ws.getD 1 0
        slots := (hpaOf s f.toNat).slots ++ (List.range (ws.getD 1 0 - (hpaOf s f.toNat).txHost).toNat).map (fun i =>
          wordBytes (slots.getD i [])) }))) ∧
  (∀ (s : State) (f : BitVec 6) (slots : List (List Word)), bit s (NET_HPA_EN f.toNat) = true →
    fld s (NET_HPA_STATE f.toNat) ≠ 3 → fld s (HIF_FN_STATE f.toNat) = 1 →
    exec (.hpaControlRead f none slots) s = .next (keepQueue s (dmaErr (fresh s) f.toNat))) ∧
  (∀ (s t : State) (p : BitVec 2) (u : TxRead) (e : Egr) (b : List Byte), nextFrame s p.toNat u.sub.toNat = some e →
    (if e.kind = 4 then launchPs s e < (e.launch + 2000) * 1000
      else emitShut (advanceTo (fresh s) (cdiv (launchPs s e) 1000)) = false) → linkUp s e.port e.sub = true →
    frameOut (advanceTo (fresh s) (cdiv (launchPs s e) 1000)) e = (t, some b) → eccBad s u.hits [4] = false →
    exec (.packetLaunch p u) s = .next (keepQueue s
      (let t := eccHits { t with net := { t.net with egress := t.net.egress.erase e } } u.hits
       let t := { t with net := { t.net with
         busyUntil := tset t.net.busyUntil (4 * e.port + e.sub) (launchPs s e + wireLen b * psPerByte t e.port) } }
       let t := stat (stat t e.port e.sub TX_FRAMES 1) e.port e.sub TX_BYTES (b.length + 4)
       let t := if e.kind = 3 then hpaSent (stat t e.port e.sub TX_HOST 1) e.handle e.ord e.seq else t
       let t := match e.kp with
         | some (k, fir) => kpSent t k fir
         | none => t
       let t := if e.kind ≤ 1 then logLaunch t e (cdiv (launchPs s e) 1000) else t
       let t := if e.kind = 4 then delayReqSent t e.port e.seq (egressNs t e.port (launchPs s e)) else t
       emitOut t (.frame e.port e.sub b))))

/-- The forwarding and key-picture events (R164 to R167, R169, R170), the cipher's and the entropy source's (R195, R200, R205): the estimate
of a leg is brought up and targets are taken, an upward step is confirmed, a wait asks again, a gap ends; an old receive key goes, the
entropy source fails and recovers. The model's choices in it are log entries 30 to 33, 97 to 99 and 108. -/
def Obligations.ForwardingCipherEventsComplete : Prop :=
  (∀ (s : State) (leg : BitVec 14), (liveProf s leg.toNat).isSome = true → curTick s % 24 = leg.toNat % 24 →
    (estOf s leg.toNat).updAt ≠ some (curTick s) → s.pwr.fwStop = false →
    exec (.estUpdate leg) s = .next (keepQueue s
      (let t := estUpdate (fresh s) leg.toNat
       let t := setEst t leg.toNat { estOf t leg.toNat with updAt := some (curTick t) }
       (selectLeg t leg.toNat).foldl takeTarget t))) ∧
  (∀ (s : State) (id : BitVec 20) (x : Sub), tget s.fwd.subs id.toNat = some x → fld s FWD_UP_HOLD ≤ x.hold → s.pwr.fwStop = false →
    exec (.upHoldReached id) s = .next (keepQueue s
      (stage (setSub (fresh s) id.toNat { x with hold := 0 }) (curTick s + 1) (.subTarget id.toNat x.target)))) ∧
  (∀ (s : State) (id : BitVec 20) (x : Sub) (t : Nat), tget s.fwd.subs id.toNat = some x → x.upSince = some t →
    t + fld s FWD_KP_WAIT ≤ curTick s → x.live = true →
    exec (.kpWaitExpiry id) s = .next (keepQueue s
      (kpRequest (setSub (fresh s) id.toNat { x with upSince := none, kpAsked := true, tries := 0, toRaised := false }) x.src 0).1)) ∧
  (∀ (s : State) (hd : BitVec 16) (i : BitVec 2) (r : KpReq) (t : Nat), tget s.fwd.kps (4 * hd.toNat + i.toNat) = some r →
    r.sentAt = some t → t + fld s FWD_KP_GAP ≤ curTick s →
    exec (.kpGapEnd hd i) s = .next (keepQueue s
      (let waits := kpWaits s hd i
       let r' : KpReq := { r with merged := false, due := r.due || waits, sentAt := if waits then r.sentAt else none }
       kpTimeouts { fresh s with fwd := { s.fwd with kps := tset s.fwd.kps (4 * hd.toNat + i.toNat) r' } } hd.toNat i.toNat))) ∧
  (∀ (s : State) (hd : BitVec 16) (d : RxDir) (o : Option Nat) (e : Nat), tget s.cip.rx hd.toNat = some d → d.old = some (o, e) →
    e ≤ curTick s → exec (.rxOverlapEnd hd) s = .next (keepQueue s (setRx (fresh s) hd.toNat { d with old := none }))) ∧
  (∀ s : State, ctlOn s = true → exec .entropyHealthFail s = .next (keepQueue s
    (raise (setFld (setBit { fresh s with cip := { s.cip with entFail := true } } KEY_ENT_FAIL) KEY_ENT_OK 0)
      0 EV_KEY_ENTROPY 0 1 0 0 0))) ∧
  (∀ s : State, ctlOn s = true → s.cip.entFail = true → exec (.reseed true) s = .next (keepQueue s
    (raise (setFld { fresh s with cip := { s.cip with entFail := false } } KEY_ENT_OK 1) 0 EV_KEY_ENTROPY 0 0 0 0 0))) ∧
  (∀ s : State, ctlOn s = true → s.cip.entFail = false → exec (.reseed true) s = .next (keepQueue s
    (setFld { fresh s with cip := { s.cip with entFail := false } } KEY_ENT_OK 1)))

/-- The audio unit's events (R38, R216 to R221, R226, R234, R235, R238, R239): decode, mix, encode, and the speakers', groups' and partials'
own events. A decode or an encode whose kernel data holds an uncorrectable word is abandoned instead (R40, R412). The model's choices in
it are log entries 34 to 39, 94 to 96 and 111. -/
def Obligations.AudioEventsComplete : Prop :=
  (∀ (s : State) (hd : BitVec 16) (pcm : List (BitVec 16)) (ns : Option (List Word)) (hits : List EccHit),
    hd.toNat % 4 = 0 → s.easel.work = true → legMixed s (hd.toNat / 4) = false → (audLeg s (hd.toNat / 4)).quiet = false →
    (audLeg s (hd.toNat / 4)).pend ≠ [] → (audRec s (hd.toNat / 4)).rxDec = true →
    exec (.audioDecode hd pcm ns hits) s = .next (keepQueue s
      (if eccBad s hits [0, 1, 10] then decodeLost (eccHits (fresh s) hits) (hd.toNat / 4)
       else decodeAudio (eccHits (fresh s) hits) (hd.toNat / 4) pcm ns))) ∧
  (∀ (s : State) (late : Late), s.easel.work = true →
    exec (.mix late) s = .next (keepQueue s
      (mixAll (late.sinks.map (·.toNat) ++ (mixErrors s late).1) (late.measures.map (·.toNat) ++ (mixErrors s late).2)
        (mixNote (fresh s) late)))) ∧
  (∀ (s : State) (hd : BitVec 16) (pay : List Byte) (sid : Bool) (hits : List EccHit) (l : AudLeg) (r : StreamRec),
    l = audLeg s (hd.toNat / 4) → r = audRec s (hd.toNat / 4) → hd.toNat % 4 = 0 → s.easel.work = true →
    legMixed s (hd.toNat / 4) = true → l.sinkIn = none → encodeDue s (hd.toNat / 4) = true → eccBad s hits [0, 1, 10] = false →
    exec (.audioEncode hd pay sid hits) s = .next (keepQueue s
      (let t := eccHits (fresh s) hits
       let xs := (l.outs.drop (l.outs.length - r.pTx)).flatten
       let xs := List.replicate (40 * r.pTx - xs.length) 0 ++ xs
       let ys := resample 48000 (audRate r.codec r.cprof) l.rsTx xs
       let keep := hasDtx r.codec && (if r.codec = 1 then decide (pay.length ≤ 2) else sid)
       setAudLeg t (hd.toNat / 4) { l with
         rsTx := ys.1, encIn := ys.2.map busToPcm, enc := some pay, encAt := some (curTick t)
         dtxPay := if keep then some pay else l.dtxPay }))) ∧
  (∀ (s : State) (hd : BitVec 16) (pay : List Byte) (sid : Bool) (hits : List EccHit),
    hd.toNat % 4 = 0 → s.easel.work = true → legMixed s (hd.toNat / 4) = true → (audLeg s (hd.toNat / 4)).sinkIn = none →
    encodeDue s (hd.toNat / 4) = true → eccBad s hits [0, 1, 10] = true →
    exec (.audioEncode hd pay sid hits) s = .next (keepQueue s
      (let t := eccHits (fresh s) hits
       setAudLeg t (hd.toNat / 4) { audLeg s (hd.toNat / 4) with enc := none, encAt := some (curTick s) }))) ∧
  (∀ (s : State) (c : BitVec 12) (b : BitVec 2) (l w : Nat) (above : Bool), swapPair s c.toNat b.toNat = some (l, w, above) →
    fld s AUD_AS_HOLD ≤ (tget (audConf s c.toNat).win (4 * l + b.toNat)).getD 0 →
    exec (.activeSpeakerSwap c b) s = .next (keepQueue s
      (let x := audConf s c.toNat
       setAudConf (fresh s) c.toNat { x with
         sel := x.sel.set b.toNat ((x.sel.getD b.toNat []).erase w ++ [l]), win := tset x.win (4 * l + b.toNat) 0 }))) ∧
  (∀ (s : State) (c : BitVec 12) (ms : List (Nat × AudLeg)) (p : Nat × AudLeg),
    ms = (confLegs s c.toNat).filter (fun p => ((audConf s c.toNat).sel.getD 0 []).contains p.1) →
    (if ((audConf s c.toNat).dom.map (fun d => ms.any (fun p => p.1 = d))).getD false
     then highest (ms.filter (fun p => decide (fld s AUD_DS_HOLD ≤ (tget (audConf s c.toNat).domWin p.1).getD 0)))
     else highest ms) = some p →
    exec (.dominantSpeakerChange c) s = .next (keepQueue s
      (raise (setAudConf (fresh s) c.toNat { audConf s c.toNat with dom := some p.1, domWin := [] }) (audConf s c.toNat).owner
        EV_AUD_SPEAKER (BitVec.ofNat 16 c.toNat) (BitVec.ofNat 32 p.1) (BitVec.ofInt 32 (p.2.score % 65536)) 0 0))) ∧
  (∀ (s : State) (c : BitVec 12) (n : BitVec 5) (p : Peer), tget (audConf s c.toNat).peers n.toNat = some p → p.expected = true →
    fld s MSH_PART_FORGET ≤ p.missed →
    exec (.partForget c n) s = .next (keepQueue s
      (let x := audConf s c.toNat
       let p' : Peer := { p with expected := false, missed := 0, now := [] }
       raise (setAudConf (fresh s) c.toNat { x with peers := tset x.peers n.toNat p' }) x.owner EV_AUD_PART_MISS
         (BitVec.ofNat 16 c.toNat) (BitVec.ofNat 32 n.toNat) (lo32 p.missed) 0 0))) ∧
  (∀ (s : State) (leg : BitVec 14) (l : AudLeg), tget s.aud.legs leg.toNat = some l → l.quiet = true →
    fld s PWR_SIL_HOLD ≤ l.quietRun →
    exec (.silHoldReached leg) s = .next (keepQueue s (setAudLeg (fresh s) leg.toNat { l with silHeld := true }))) ∧
  (∀ (s : State) (g : BitVec 4), groupGated s g.toNat = true →
    s.aud.legs.any (fun p => p.2.home = some g.toNat && (!p.2.quiet || wakesNext s p.1 p.2)) = true →
    exec (.groupWake g) s = .next (keepQueue s
      (raise (setFld (fresh s) AUD_GRP_GATED (fld s AUD_GRP_GATED - 2 ^ g.toNat)) 0 EV_AUD_GROUP (BitVec.ofNat 16 g.toNat)
        0 0 0 0)))

/-- The Brush array's events (R263 to R271): an invocation starts with its input block and the swapped banks, a transfer completes, a wait
or a budget that runs out abandons it with its cause, an instance is suspended. The model's choices in it are log entries 19, 40, 44
and 111. -/
def Obligations.BrushEventsComplete : Prop :=
  (∀ (s u : State) (leg : BitVec 14) (pt : BitVec 2) (i : BInst) (p : BProg) (xs : List Int),
    tget s.brs.insts (4 * leg.toNat + pt.toNat) = some i → tget s.brs.progs i.prog = some p → i.live = true →
    i.suspended = false → (coreOf s i.core).run = none → i.invAt ≠ some (curTick s) →
    (audLeg s ((4 * leg.toNat + pt.toNat) / 4)).quiet = false → s.easel.work = true →
    u = (if (4 * leg.toNat + pt.toNat) % 4 = 1 then fresh s
         else if (audLeg s ((4 * leg.toNat + pt.toNat) / 4)).pend = [] then audPrep (fresh s) ((4 * leg.toNat + pt.toNat) / 4)
         else fresh s) →
    pointInput u (4 * leg.toNat + pt.toNat) = some xs →
    exec (.taskArrival leg pt) s = .next (keepQueue s
      (setCore (setInst u (4 * leg.toNat + pt.toNat)
          { i.setWords false p.inOfs (xs.map (BitVec.ofInt 32)) with invAt := some (curTick u), nInv := i.nInv + 1 })
        i.core { coreOf s i.core with
          act := arrivalBank u p i, idle := (coreOf s i.core).act
          run := some { key := 4 * leg.toNat + pt.toNat, input := xs } }))) ∧
  (∀ (s : State) (c : BitVec 9) (bad : List (BitVec 11)) (hits : List EccHit) (r : BRun) (t : BXfer) (rest : List BXfer)
    (i : BInst), (coreOf s c.toNat).run = some r → r.xfers = t :: rest → tget s.brs.insts r.key = some i → r.stall = none →
    exec (.xferComplete c bad hits) s = .next (keepQueue s
      (setCore (setInst (eccHits (fresh s) hits) r.key (xferMove (bad.map (·.toNat)) i t)) c.toNat
        { coreOf s c.toNat with run := some { r with xfers := rest, dirty := r.dirty || !bad.isEmpty || eccBad s hits [0, 1] } }))) ∧
  (∀ (s : State) (c : BitVec 9) (r : BRun) (w : BStall), (coreOf s c.toNat).run = some r →
    r.stall = some w →
    (coreOf (cycles (fresh s) (w.since + 80 * fld s SCH_WAIT_TO - s.clk.cyc)) c.toNat).run = some r →
    exec (.waitTimeout c) s = .next (keepQueue s
      (let t := cycles (fresh s) (w.since + 80 * fld s SCH_WAIT_TO - s.clk.cyc)
       abandon (setCore t c.toNat { coreOf t c.toNat with run := some { r with cyc := r.cyc + waitCycles t w.since } }) c.toNat 6))) ∧
  (∀ (s : State) (c : BitVec 9) (r : BRun) (i : BInst) (p : BProg), (coreOf s c.toNat).run = some r →
    tget s.brs.insts r.key = some i → tget s.brs.progs i.prog = some p →
    p.cycMax + 200 ≤ r.cyc + (r.stall.map (fun x => waitCycles s x.since)).getD 0 →
    exec (.cycleBudgetReached c) s = .next (keepQueue s
      (abandon (setCore (fresh s) c.toNat { coreOf s c.toNat with
        run := some { r with cyc := r.cyc + (r.stall.map (fun x => waitCycles s x.since)).getD 0 } }) c.toNat 5))) ∧
  (∀ (s : State) (leg : BitVec 14) (pt : BitVec 2) (i : BInst), tget s.brs.insts (4 * leg.toNat + pt.toNat) = some i →
    i.suspended = false → fld s SCH_FAULT_SUSPEND ≤ i.consec →
    exec (.instanceSuspend leg pt) s = .next (keepQueue s
      (raiseLeg (setBit (setInst (fresh s) (4 * leg.toNat + pt.toNat) { i with suspended := true }) BRS_ST_SUSPEND)
        (4 * leg.toNat + pt.toNat) EV_BRS_SUSPEND (BitVec.ofNat 16 leg.toNat)
        (BitVec.ofNat 32 (pt.toNat * 2 ^ 16 + i.lastCause)) 0 0 0)))

/-- The video engines' and the canvas's events (R295, R299, R305, R306, R319 to R325, R330): a slice of each is carried out in WORK, a key
picture falls due, a boundary latches its pictures, a flip or a layer runs out of time, a plate becomes valid. The model's choices in it
are log entries 46 to 51 and 100 to 105. -/
def Obligations.VideoCanvasEventsComplete : Prop :=
  (∀ (s : State) (c : BitVec 12) (facts : List VidFacts) (hits : List EccHit) (x : DecCtx), tget s.vid.dec c.toNat = some x →
    s.easel.work = true → x.live = true → x.ranAt ≠ some (curTick s) → decTurn s c.toNat x = true →
    exec (.videoDecodeSlice c facts hits) s = .next (keepQueue s
      (decRun (decErrors (setDec (fresh s) c.toNat { x with ranAt := some (curTick s) }) c.toNat hits) c.toNat x.px facts
        (3 * x.queue.length + 3)))) ∧
  (∀ (s : State) (c : BitVec 10) (bs : List (BitVec 24)) (us : List EncUnit) (ps : List (List (BitVec 8))) (hits : List EccHit)
    (x : EncCtx) (p : EncPic) (j : Nat), tget s.vid.enc c.toNat = some x → sliceDue s x = some j → x.pic = some p →
    s.easel.work = true → x.live = true → encTurn s c.toNat x = true →
    exec (.videoEncodeSlice c bs us ps hits) s = .next (keepQueue s
      (if eccBad s hits [2] then sliceLost (eccHits (fresh s) hits) c.toNat j
       else encSlice (eccHits (fresh s) hits) c.toNat j x (if eccBad s hits [6, 7, 8, 9] then { p with minAny := true } else p)
         (bs.map (·.toNat)) us ps))) ∧
  (∀ (s : State) (c : BitVec 10) (x : EncCtx) (t : Nat), tget s.vid.enc c.toNat = some x → x.lastKey = some t → x.live = true →
    x.keyInt ≠ 0 → t + x.keyInt ≤ curTick s + 1 → x.reqs.any (fun r => r.reason = 3) = false →
    exec (.keyIntExpiry c) s = .next (keepQueue s
      (setEnc (fresh s) c.toNat { x with reqs := x.reqs ++ [⟨t + x.keyInt, t + x.keyInt, 3⟩] }))) ∧
  (∀ (s : State) (k : BitVec 10) (hits : List EccHit) (skip : SliceSkip)
    (lost : List (BitVec 12 × List (BitVec 13 × BitVec 13))) (x : EncCtx) (c : Comp) (j : Nat),
    tget s.vid.enc k.toNat = some x → tget s.cnv.comps k.toNat = some c → compDue s c = some j → s.easel.work = true →
    x.live = true →
    exec (.canvasSlice k hits skip lost) s = .next (keepQueue s
      (let t := canvasSlice (eccHits (fresh s) hits) k.toNat j x c (skip.layers.map (·.toNat)) (fun p =>
          (lost.filter (fun e => e.1.toNat = p)).flatMap (fun e => e.2.map (fun q => (q.1.toNat, q.2.toNat)))) (skip.stop.map (·.toNat))
       ((lost.map (fun e => e.1.toNat)).eraseDups).foldl (fun t p =>
          plateLost t p ((lost.filter (fun e => e.1.toNat = p)).length))
        (if skip.stop.isSome then cnvOverrun t x else t)))) ∧
  (∀ (s : State) (k : BitVec 10) (x : EncCtx) (c : Comp), tget s.vid.enc k.toNat = some x → tget s.cnv.comps k.toNat = some c →
    boundaryDue s k.toNat x = true →
    exec (.frameBoundary k) s = .next (keepQueue s (frameBoundary (fresh s) k.toNat x))) ∧
  (∀ (s : State) (id : BitVec 9) (g : CnvGroup),
    (layoutOf s id.toNat).groups.filter (fun g => g.flipAt.isSome && decide (fld s CNV_FLIP_TO ≤ g.waits)) = [g] →
    exec (.flipTimeout id) s = .next (keepQueue s
      (let t := setLayout (fresh s) id.toNat { layoutOf s id.toNat with groups := (layoutOf s id.toNat).groups.erase g }
       flipEvt (setBit (bump t CNV_FLIP_TO_CNT 1) CNV_ST_FLIP_TO) id.toNat g false (curTick t)))) ∧
  (∀ (s : State) (id : BitVec 9) (i : BitVec 6) (k : Nat) (x : EncCtx) (c : Comp) (h : Held),
    s.vid.enc.find? (fun p => !p.2.own && p.2.layout = id.toNat && p.2.live) = some (k, x) → tget s.cnv.comps k = some c →
    tget c.held i.toNat = some h → h.pic.isSome = true → h.stale = false → fld s CNV_STALE_FRAMES ≤ h.n →
    exec (.layerStale id i) s = .next (keepQueue s
      (let h' : Held := { h with stale := true }
       staleEvt (setComp (fresh s) k { c with held := tset c.held i.toNat h' }) id.toNat i.toNat true))) ∧
  (∀ (s : State) (k : BitVec 12) (p : Plate) (h : CmdHdr) (img : PlateImg) (n : Nat), tget s.cnv.plates k.toNat = some p →
    p.loading = some (h, img, n) → s.pwr.fwStop = false →
    exec (.plateValid k) s = .next (keepQueue s
      (let t := dropOldPlates (setPlate (fresh s) k.toNat (p.fill img))
       complete t h OP_CNV_VARNISH_LOAD ST_OK (effArea (effTick t) ++ [BitVec.ofNat 32 (varnishFree t)]))))

/-- The host interface's events (R82, R84 to R89, R92, R94, R99, R104, R107 to R111): function and ring enables, resets and their end,
polls, line reads and descriptor fetches, stalls, moderation, media entries. The model's choices in it are log entries 12 to 15 and 90. -/
def Obligations.HostInterfaceEventsComplete : Prop :=
  (∀ (s : State) (f : BitVec 6) (q : BitVec 7) (en : Bool), ringExists q.toNat = true → answers s 0x110000 = true →
    exec (.hifRingEn f q en) s = .next (keepQueue s
      (if en then ringEnable (fresh s) f.toNat q.toNat else ringDisable (fresh s) f.toNat q.toNat))) ∧
  (∀ (s : State) (f : BitVec 6) (q : BitVec 7), q.toNat < 16 → fld s (HIF_RING_STATE f.toNat q.toNat) = 2 →
    s.hif.waiting.any (fun w => w.h.fn = f && w.h.ring.toNat = q.toNat) = false →
    s.hif.running.any (fun h => h.fn = f && h.ring.toNat = q.toNat) = false →
    (fnOf s f.toNat).heldCpls.any (fun c => c.2.h.fn = f && c.2.h.ring.toNat = q.toNat) = false →
    exec (.ringDrainDone f q) s = .next (keepQueue s (setFld (fresh s) (HIF_RING_STATE f.toNat q.toNat) 0))) ∧
  (∀ (s : State) (f : BitVec 6) (en : Bool), answers s 0x110000 = true → resetting s f.toNat = false →
    exec (.hifFnEn f en) s = .next (keepQueue s (setFld (fresh s) (HIF_FN_EN f.toNat) (if en then 1 else 0)))) ∧
  (∀ (s : State) (f : BitVec 6), f ≠ 0 → fnExists s f.toNat = true → ctlOn s = true →
    exec (.functionLevelReset f) s = .next (keepQueue s (fnReset
      { fresh s with hif := { s.hif with msixCtl := tdel s.hif.msixCtl f.toNat } } f.toNat 0))) ∧
  (∀ s : State, ctlOn s = true →
    exec (.functionLevelReset 0) s = .next (keepQueue s ((List.range 64).foldl (fun t g =>
      fnReset { t with hif := { t.hif with msixCtl := tdel t.hif.msixCtl g } } g 0) (fresh s)))) ∧
  (∀ s : State, s.hif.vfEn = true → ctlOn s = true →
    exec .vfEnableClear s = .next (keepQueue s
      (let t := (List.range 63).foldl (fun t g => if g < s.hif.numVfs then fnReset t (g + 1) 3 else t) (fresh s)
       { t with hif := { t.hif with vfEn := false } }))) ∧
  (∀ (s : State) (f : BitVec 6), answers s 0x110000 = true →
    exec (.hifFnReset f) s = .next (keepQueue s (fnReset (fresh s) f.toNat 1))) ∧
  (∀ (s : State) (f : BitVec 6), resetting s f.toNat = true → (fnOf s f.toNat).resetEnd ≤ curTick s →
    s.hif.running.any (fun h => h.fn = f) = false → fld s (HIF_FN_STATE f.toNat) ≠ 3 → s.pwr.fwStop = false →
    exec (.fnResetComplete f) s = .next (keepQueue s
      (let t := keyResetFn (fresh s) f.toNat
       let t := { t with
         brs := { t.brs with progs := t.brs.progs.filter (fun p => p.2.owner ≠ f.toNat) }
         cnv := { t.cnv with plates := t.cnv.plates.filter (fun p => p.2.owner ≠ f.toNat) }
         aud := { t.aud with media := t.aud.media.filter (fun m => m.1 / 64 ≠ f.toNat) } }
       let t := setFn (setFld (pageReset t f.toNat) (NET_HPA_DROP_CNT f.toNat) 0) f.toNat {}
       let t := if f.toNat = 0 then t
         else raise t 0 EV_GEN_FN_RESET (BitVec.ofNat 16 f.toNat) (BitVec.ofNat 32 ((fnOf s f.toNat).reset.getD 0)) 0 0 0
       (fnOf s f.toNat).resetCmds.foldl (fun u h => complete u h OP_GEN_VF_RESET ST_OK []) t))) ∧
  (∀ (s : State) (f : BitVec 6) (q : BitVec 4) (ws : List Word) (dma : Dma) (bad : Option (BitVec 16))
    (imgs : Option (List ImgData)) (r : Ring), fetches s = true → resetting s f.toNat = false →
    fetchNext s f.toNat = some q.toNat → r = ringOf s f.toNat q.toNat →
    exec (.descriptorFetch f q (some ws) dma bad imgs) s = .next (keepQueue s
      (let h : CmdHdr := ⟨f, q, r.devIdx, BitVec.ofNat 16 (bitsOf (ws.getD 0 0) 15 0), bitsOf (ws.getD 1 0) 30 30 = 1⟩
       let t := fetched (setRing (fresh s) f.toNat q.toNat { r with devIdx := r.devIdx + 1 }) f.toNat q.toNat (r.devIdx + 1)
       pumpAll { t with hif := { t.hif with waiting := t.hif.waiting ++ [descWaiting h ws ⟨dma, bad, imgs⟩] } }))) ∧
  (∀ (s : State) (f : BitVec 6) (q : BitVec 4) (dma : Dma) (bad : Option (BitVec 16)) (imgs : Option (List ImgData)),
    fetches s = true → resetting s f.toNat = false → fetchNext s f.toNat = some q.toNat →
    exec (.descriptorFetch f q none dma bad imgs) s = .next (keepQueue s
      (ringErr (dmaErr (fresh s) f.toNat) f.toNat q.toNat 2))) ∧
  (∀ s : State, fetches s = true → s.easel.issued = true → s.hif.poll < 2 ^ fld s HIF_DB_POLL_RATE →
    exec .doorbellPoll s = .next (keepQueue s
      (let t := advanceTo (fresh s) ((fresh s).easel.start + pollOfs (fresh s) (fresh s).hif.poll)
       let t := if t.hif.pcieUp then wakeReport t else t
       let t := (List.range 64).foldl fnPoll t
       pumpAll { t with hif := { t.hif with
         poll := (fresh s).hif.poll + 1, reads := t.hif.reads ++ ((List.range 64).map (pollLines t)).flatten } }))) ∧
  (∀ (s : State) (f : BitVec 6) (l : BitVec 3) (ws : List Word) (media : List (BitVec 6 × List (List Word × List Word))),
    s.hif.reads.contains (f.toNat, l.toNat) = true → resetting s f.toNat = false → fetches s = true →
    exec (.doorbellLineRead f l (some ws) media) s = .next (keepQueue s
      (pumpAll ((List.range (lineRings l.toNat).length).foldl (fun t i =>
          let q := (lineRings l.toNat).getD i 0
          takeIndex t f.toNat q (ws.getD i 0) (((media.find? (fun m => m.1.toNat + 64 = q)).map (·.2)).getD []))
        { fresh s with hif := { s.hif with reads := s.hif.reads.erase (f.toNat, l.toNat) } })))) ∧
  (∀ (s : State) (f : BitVec 6) (q : BitVec 7), 16 ≤ q.toNat → q.toNat ≤ 32 → (ringOf s f.toNat q.toNat).stalled = false →
    fld s HIF_HOST_SERVICE_TICKS < (ringOf s f.toNat q.toNat).held → resetting s f.toNat = false →
    exec (.hostStall f q) s = .next (keepQueue s
      (let t := setRing (fresh s) f.toNat q.toNat { ringOf s f.toNat q.toNat with stalled := true }
       let t := sendErrVec (setBit (setFld t (HIF_ST_STALL f.toNat) 1) (HIF_ST_STALLED f.toNat)) f.toNat
       if f.toNat = 0 then t
       else raise t 0 EV_GEN_HOST_STALL (BitVec.ofNat 16 f.toNat) (BitVec.ofNat 32 (2 ^ 31 + q.toNat)) 0 0 0))) ∧
  (∀ (s : State) (f : BitVec 6), s.easel.running = true → s.easel.issued = true → (fnOf s f.toNat).modAt ≠ some (curTick s) →
    exec (.moderationPoint f) s = .next (keepQueue s
      (let t := advanceTo (fresh s) (s.easel.start + fld s (HIF_FN_IRQ_OFS f.toNat))
       let t := setFn t f.toNat { fnOf t f.toNat with modAt := some (curTick s) }
       (List.range 32).foldl (fun u v =>
         let m := fld u (HIF_VEC_MOD_TICKS f.toNat v)
         if m ≠ 0 ∧ curTick s % m = 0 ∧ (vecOf u f.toNat v).pending then sendMsi u f.toNat v else u) t))) ∧
  (∀ (s : State) (f m : BitVec 6) (r : MRing) (e : MEnt) (st : BitVec 16), r = mediaOf s (mediaKey f.toNat m.toNat) →
    mediaDone r = some (e, st) → resetting s f.toNat = false → bit s (HIF_RING_EN f.toNat (mediaQ m.toNat)) = true →
    fld s (HIF_RING_STATE f.toNat (mediaQ m.toNat)) ≠ 3 →
    exec (.mediaEntryFinish f m) s = .next (keepQueue s
      (let q := mediaQ m.toNat
       let n := ringSize s f.toNat q
       let w := if mediaCaps s (mediaKey f.toNat m.toNat) then [lo32 (e.start.getD 0), hi32 (e.start.getD 0)]
         else [e.ws.getD 4 0, e.ws.getD 5 0]
       let t := hostWrites (fresh s) (ringBase s f.toNat q + 32 * ringSlot e.idx n + 16)
         (w ++ [lo32 e.pos, BitVec.ofNat 32 (passPhase e.idx n * 2 ^ 31 + st.toNat)])
       let t := setMedia t (mediaKey f.toNat m.toNat) { r with ents := r.ents.tail }
       ringIrq (setRing t f.toNat q { ringOf t f.toNat q with devIdx := e.idx + 1 }) f.toNat q false)))

/-- The time unit's events (R342, R347 to R352, R456): requests, timeouts of announcements and measurements, holdover, the pulse per second
in and out, launch misses. The model's choices in it are log entries 52 to 55. -/
def Obligations.TimeEventsComplete : Prop :=
  (∀ (s : State) (ofs : BitVec 19) (p l : Nat), s.ptp.master = some p → s.pwr.fwStop = false → s.clk.running = true →
    s.ptp.reqAt = none → reqLaunch (fresh s) ofs.toNat = some l →
    exec (.delayReqSend ofs) s = .next (keepQueue s
      (let e : Egr := { port := p, sub := 0, launch := l, leg := 0, ord := 0, kind := 4
                        handle := 0, bytes := delayReqFrame s p s.ptp.seq, seq := s.ptp.seq, tsId := some s.ptp.seq }
       { fresh s with
         net := { s.net with egress := s.net.egress ++ [e] }
         ptp := { s.ptp with req := some ⟨p, s.ptp.seq, none⟩, seq := (s.ptp.seq + 1) % 65536, reqAt := some (localNs s) } }))) ∧
  (∀ (s : State) (p : Nat) (a : Announce), s.ptp.master = some p → tget s.ptp.anns p = some a →
    exec .announceTimeout s = .next (keepQueue s
      (let t := advanceLocal (fresh s) (a.at' + 375000000 - localNs s)
       selectMaster (holdover (setPtp t { t.ptp with anns := tdel t.ptp.anns p }))))) ∧
  (∀ s : State, (fld s PTP_STATE = 1 ∨ fld s PTP_STATE = 2) →
    exec .measurementTimeout s = .next (keepQueue s
      (holdover (advanceLocal (fresh s) (s.ptp.measAt + 1000000000 - localNs s))))) ∧
  (∀ s : State, fld s PTP_STATE = 3 →
    exec .holdoverLimit s = .next (keepQueue s
      (ppsCut (setFld (advanceLocal (fresh s) (s.ptp.holdAt + fld s PTP_HOLD_LIMIT * 1000000000 - localNs s)) PTP_UNCERTAIN 1)))) ∧
  (∀ (s : State) (n : Nat), bit s PPS_OUT_EN = true → s.clk.running = true →
    (bit s PPS_SQUELCH && bit s PTP_UNCERTAIN) = false → s.ptp.ppsStep = false → s.ptp.staged = none →
    n = (max (ns s + fld s PTP_PPS_ADV) s.ptp.ppsFrom + 999999999) / 1000000000 →
    exec .ppsOutPulse s = .next (keepQueue s
      (let t := advanceTo (setPtp (fresh s) { s.ptp with ppsFrom := n * 1000000000 + 1, ppsStep := false }) (n * 1000000000 - fld s PTP_PPS_ADV)
       let w := fld t PPS_WIDTH * 100000
       if fld t PAD_ST_TIME = 2 then emitOut (setPtp t { t.ptp with ppsFall := some (localNs t + w) }) (.ppsOut n w) else t))) ∧
  (∀ (s : State) (falling : Bool), bit s PPS_IN_EN = true → bit s PPS_IN_EDGE = falling → s.clk.running = true →
    (s.ptp.ppsEdge = true → s.ptp.ppsAt + 900000000 ≤ localNs s) →
    exec (.ppsInEdge falling) s = .next (keepQueue s
      (let n := (s.ptp.ppsN + 1) % 65536
       let t := setPtp (fresh s) { s.ptp with ppsN := n, ppsAt := localNs s, ppsEdge := true, ppsLost := false }
       let t := tsEntry t 2 n 0 0 (ns t)
       let t := if s.ptp.ppsLost then raise t 0 EV_PTP_PPS 0 0 0 0 0 else t
       if t.ptp.src = 1 then measurement t (ppsTheta (ns t)) t.ptp.mpd (Config.ppsMeasId n) else t))) ∧
  (∀ s : State, bit s PPS_IN_EN = true → s.ptp.ppsLost = false →
    exec .ppsInLoss s = .next (keepQueue s
      (let t := advanceLocal (fresh s) (s.ptp.ppsAt + 1100000000 - localNs s)
       let t := raise (setBit (setPtp t { t.ptp with ppsLost := true }) PTP_ST_PPS_LOSS) 0 EV_PTP_PPS 0 1 0 0 0
       if t.ptp.src = 1 then holdover t else t))) ∧
  (∀ (s : State) (e : Egr), earliest (s.net.egress.filter (fun e =>
      e.kind = 4 && (!linkUp s e.port e.sub || decide (e.launch + 2000 ≤ ns s)))) = some e →
    exec .ptpLaunchMiss s = .next (keepQueue s
      (let t := advanceTo (fresh s) (e.launch + 2000)
       let t := { t with net := { t.net with egress := t.net.egress.erase e } }
       setBit (bump t PTP_LAUNCH_MISS_CNT 1) PTP_ST_LAUNCH_MISS)))

/-- The lanes and groups of the Meash (R364 to R373): the bytes a lane receives are tested for markers, in SEARCH at every byte position and
in CONFIRM and LOCKED 2,064 bytes after the last marker; lock and its loss, the trace, the hold-off, the selector and the wait to
restore. The model's choices in it are log entries 56 and 57. -/
def Obligations.MeashLaneEventsComplete : Prop :=
  (∀ (s : State) (m : BitVec 2) (l : BitVec 4) (b : List Byte) (delay unc sym : BitVec 16) (x : Lane), ctlOn s = true →
    (mshPort s m.toNat).live.en = true → (l.toNat < (mshPort s m.toNat).live.w ∨ l.toNat = 8) →
    x = laneFec (fresh s) { laneOf s m.toNat l.toNat with delay := delay.toNat, buf := (laneOf s m.toNat l.toNat).buf ++ b }
      unc.toNat sym.toNat →
    exec (.laneFrameReceive m l b delay unc sym) s = .next (keepQueue s
      (let t := laneScan (16 * x.buf.length + 16) (setLane (fresh s) m.toNat l.toNat x) m.toNat l.toNat
       laneDone (laneEval t m.toNat l.toNat (laneLof t m.toNat l.toNat)) m.toNat l.toNat
         ((laneOf s m.toNat l.toNat).sfOn || (laneOf s m.toNat l.toNat).sdOn)))) ∧
  (∀ (s : State) (m l : Nat) (x : Lane) (b : List Byte), x = laneOf s m l → b = sl x.buf x.ofs 16 →
    (fld s (MSH_AM_STATE m l) = 0 → be b 0 6 = AM_PAT → crc16 (sl b 6 4) = be b 10 2 →
      laneTest s m l = setFld (setLane s m l { x with cnt := 1, mfc := be b 6 1, phy := be b 7 1 % 16, ofs := 2064 })
        (MSH_AM_STATE m l) 1) ∧
    (fld s (MSH_AM_STATE m l) = 0 → (be b 0 6 ≠ AM_PAT ∨ crc16 (sl b 6 4) ≠ be b 10 2) →
      laneTest s m l = setLane s m l { x with buf := x.buf.tail }) ∧
    (fld s (MSH_AM_STATE m l) = 1 → be b 0 6 = AM_PAT → crc16 (sl b 6 4) = be b 10 2 → be b 6 1 = (x.mfc + 1) % 256 →
      be b 7 1 % 16 = x.phy →
      laneTest s m l = setLane s m l { x with cnt := x.cnt + 1, mfc := be b 6 1, ofs := x.ofs + 2064 }) ∧
    (fld s (MSH_AM_STATE m l) = 1 → (be b 0 6 ≠ AM_PAT ∨ crc16 (sl b 6 4) ≠ be b 10 2 ∨ be b 6 1 ≠ (x.mfc + 1) % 256 ∨
        be b 7 1 % 16 ≠ x.phy) →
      laneTest s m l = setFld (setLane s m l { x with cnt := 0, buf := x.buf.tail, ofs := 0 }) (MSH_AM_STATE m l) 0) ∧
    (fld s (MSH_AM_STATE m l) = 2 →
      (3 < ones (be b 0 6 ^^^ AM_PAT) ∨ crc16 (sl b 6 4) ≠ be b 10 2 ∨ be b 6 1 ≠ (x.mfc + 1) % 256) →
      ∃ y, laneTest s m l = setLane (laneDeliver s m l) m l y ∧ y.bad = x.bad + 1 ∧ y.mfc = (x.mfc + 1) % 256 ∧ y.tti = [] ∧
        y.buf = x.buf.drop x.ofs ∧ y.ofs = 2064)) ∧
  (∀ (s : State) (m : BitVec 2) (l : BitVec 4), l.toNat ≤ 8 → fld s (MSH_AM_STATE m.toNat l.toNat) = 1 →
    fld s MSH_AM_N ≤ (laneOf s m.toNat l.toNat).cnt →
    exec (.amLock m l) s = .next (keepQueue s
      (let x := laneOf s m.toNat l.toNat
       laneTo (setLane (fresh s) m.toNat l.toNat { x with bad := 0, buf := x.buf.drop (x.ofs - 2064), ofs := min x.ofs 2064 })
         m.toNat l.toNat 2 false))) ∧
  (∀ (s : State) (m : BitVec 2) (l : BitVec 4), l.toNat ≤ 8 → fld s (MSH_AM_STATE m.toNat l.toNat) = 2 →
    fld s MSH_AM_M ≤ (laneOf s m.toNat l.toNat).bad →
    exec (.amLoss m l) s = .next (keepQueue s
      (laneTo (setFld (setLane (fresh s) m.toNat l.toNat
          { laneOf s m.toNat l.toNat with
            bad := 0, cnt := 0, tti := [], multi := [], buf := (laneOf s m.toNat l.toNat).buf.tail, ofs := 0 }) (MSH_LOG_LANE m.toNat l.toNat) 15)
        m.toNat l.toNat 0 true))) ∧
  (∀ (s : State) (m : BitVec 2) (l : BitVec 4) (a : List (BitVec 8)), (laneOf s m.toNat l.toNat).multi = [a, a, a] → l.toNat ≤ 8 →
    exec (.traceAccept m l) s = .next (keepQueue s
      (traceEval (setFld (setLane (fresh s) m.toNat l.toNat { laneOf s m.toNat l.toNat with acc := some a })
        (MSH_PEER_NODE m.toNat) (be a 0 1 % 32)) m.toNat))) ∧
  (∀ (s : State) (m : BitVec 2) (l : BitVec 3) (t : Nat), (laneOf s m.toNat l.toNat).sfSince = some t →
    (laneOf s m.toNat l.toNat).sfOn = false → (laneOf s m.toNat l.toNat).sdSince = none →
    exec (.sfHoldoffExpiry m l) s = .next (keepQueue s
      (let h := fld s MSH_HOLDOFF * 100000
       let u := advanceLocal (fresh s) (t + h - localNs s)
       groupEval (apsEval (setLane u m.toNat l.toNat { laneOf s m.toNat l.toNat with sfOn := true }) m.toNat) m.toNat))) ∧
  (∀ (s : State) (m : BitVec 2), (mshPort s m.toNat).live.w ≤ (mshPort s m.toNat).force.2 → (mshPort s m.toNat).sel ≠ none →
    exec (.apsSelect m) s = .next (keepQueue s
      (let x := mshPort s m.toNat
       groupEval (setBit (setMshPort (fresh s) m.toNat
         (groupFrames 8 { x with sel := none, skip := if x.sel = some 0 then 2 else x.skip })) MSH_ST_APS) m.toNat))) ∧
  (∀ (s : State) (m : BitVec 2) (l t : Nat), (mshPort s m.toNat).wtr = some (l, t) →
    exec (.wtrExpiry m) s = .next (keepQueue s
      (let u := advanceLocal (fresh s) (t + fld s MSH_WTR * 1000000000 - localNs s)
       apsSelect (apsEval (setMshPort u m.toNat { mshPort u m.toNat with wtr := none }) m.toNat) m.toNat)))

/-- The units of the Meash (R374 to R387): whole units with a good CRC are used and their blocks freed, credits open the sender, a media
unit that waited two ticks is dropped, markers go out and come in, the tick lock is gained and lost, wake patterns start and end. The
model's choices in it are log entries 57 to 60. -/
def Obligations.MeashUnitEventsComplete : Prop :=
  (∀ (s : State) (m : BitVec 2) (body : List Byte), mshUp s m.toNat = true → (mshPort s m.toNat).held.getD 0 0 + unitBlocks body ≤ vcSize 0 → unitCrcOk body = true →
    body.length = 660 →
    exec (.partialUnitReceive m body false) s = .next (keepQueue s
      (partialRx (freeBlocks (fresh s) m.toNat 0 (unitBlocks body)) m.toNat body))) ∧
  (∀ (s : State) (m : BitVec 2) (body : List Byte), mshUp s m.toNat = true → (mshPort s m.toNat).held.getD 2 0 + unitBlocks body ≤ vcSize 2 → unitCrcOk body = true →
    13 + be body 11 2 + 4 ≤ body.length →
    exec (.mediaUnitReceive m body false) s = .next (keepQueue s
      (let t := freeBlocks (fresh s) m.toNat 2 (unitBlocks body)
       if be body 3 1 % 32 = fld t MESH_NODE then mediaImport t body else mediaRoute t (be body 3 1 % 32) body))) ∧
  (∀ (s : State) (m vc : BitVec 2) (body : List Byte), mshUp s m.toNat = true → (mshPort s m.toNat).held.getD 1 0 + unitBlocks body ≤ vcSize 1 →
    unitCrcOk body = true →
    exec (.controlUnitReceive m 5 vc body false) s = .next (keepQueue s (freeBlocks (fresh s) m.toNat 1 (unitBlocks body)))) ∧
  (∀ (s : State) (m : BitVec 2) (body : List Byte), mshUp s m.toNat = true → unitCrcOk body = true → body.length = 10 →
    (∀ v ∈ [0, 1, 2], ([be body 0 2, be body 2 2, be body 4 2].getD v 0 + 65536 - (mshPort s m.toNat).sent.getD v 0) % 65536
      ≤ vcSize v) →
    exec (.creditUnitReceive m body) s = .next (keepQueue s
      (pumpPort (setMshPort (fresh s) m.toNat
        { mshPort s m.toNat with lim := [be body 0 2, be body 2 2, be body 4 2] }) m.toNat))) ∧
  (∀ (s : State) (m : BitVec 2), mshUp s m.toNat = true →
    exec (.creditUnitSend m) s = .next (keepQueue s
      (let l (v : Nat) : List Byte := natBE 2 (((mshPort (freeHeld s m.toNat) m.toNat).freed.getD v 0 + vcSize v) % 65536)
       unitOut (freeHeld (fresh s) m.toNat) m.toNat 2 0 (withCrc (l 0 ++ l 1 ++ l 2))))) ∧
  (∀ (s : State) (m : BitVec 2) (t : Nat) (b : List (BitVec 8)) (r : List (Nat × List (BitVec 8))),
    (mshPort s m.toNat).qm = (t, b) :: r →
    exec (.mediaUnitTimeout m) s = .next (keepQueue s
      (mediaDrop (setMshPort (advanceLocal (fresh s) (t + 833334 - localNs s)) m.toNat { mshPort s m.toNat with qm := r })))) ∧
  (∀ (s : State) (ofs : List (BitVec 11)), s.easel.issued = true →
    exec (.tickMarkerSend ofs) s = .next (keepQueue s
      ([0, 1, 2, 3].foldl (markerSend ofs s.easel.now) (advanceTo (fresh s) (s.easel.start + 10000))))) ∧
  (∀ (s : State) (m : BitVec 2) (body : List Byte) (n : Nat) (rx : Int), mshUp s m.toNat = true → s.easel.issued = true →
    unitCrcOk body = true → body.length = 21 → n = be body 0 8 → rx = (s.clk.t : Int) / 2 ^ 45 - ownStart8 s n →
    -(2 ^ 31) < rx → rx < 2 ^ 31 → fld s TIK_SRC ≠ 1 →
    exec (.tickMarkerReceive m body) s = .next (keepQueue s
      (setMshPort (fresh s) m.toNat { mshPort s m.toNat with
         rx := ((n, rx) :: (mshPort s m.toNat).rx.filter (fun q => q.1 ≠ n)).take 3, skip := (mshPort s m.toNat).skip - 1 }))) ∧
  (∀ (s t : State) (m : BitVec 2) (body : List Byte) (n : Nat) (rx : Int), mshUp s m.toNat = true → s.easel.issued = true →
    unitCrcOk body = true → body.length = 21 → n = be body 0 8 → rx = (s.clk.t : Int) / 2 ^ 45 - ownStart8 s n →
    -(2 ^ 31) < rx → rx < 2 ^ 31 → fld s TIK_SRC = 1 → m.toNat = fld s MSH_TICK_PORT →
    (be body 16 1).testBit 7 = true → BitVec.ofNat 32 (be body 12 4) = (0x80000000 : Word) →
    t = setMshPort (fresh s) m.toNat { mshPort s m.toNat with
      rx := ((n, rx) :: (mshPort s m.toNat).rx.filter (fun q => q.1 ≠ n)).take 3, skip := (mshPort s m.toNat).skip - 1 } →
    exec (.tickMarkerReceive m body) s = .next (keepQueue s
      (followMarker t n none ((s.clk.t : Int) / 2 ^ 45 - (BitVec.ofNat 32 (be body 8 4)).toInt)))) ∧
  (∀ (s t : State) (m : BitVec 2) (body : List Byte) (n : Nat) (rx phi d : Int), mshUp s m.toNat = true →
    s.easel.issued = true → unitCrcOk body = true → body.length = 21 → n = be body 0 8 →
    rx = (s.clk.t : Int) / 2 ^ 45 - ownStart8 s n → -(2 ^ 31) < rx → rx < 2 ^ 31 → fld s TIK_SRC = 1 →
    m.toNat = fld s MSH_TICK_PORT → (mshPort s m.toNat).skip = 0 →
    t = setMshPort (fresh s) m.toNat { mshPort s m.toNat with
      rx := ((n, rx) :: (mshPort s m.toNat).rx.filter (fun q => q.1 ≠ n)).take 3, skip := 0 } →
    markerPhase t m.toNat n rx (BitVec.ofNat 32 (be body 8 4)).toInt (BitVec.ofNat 32 (be body 12 4)) = some (phi, d) →
    exec (.tickMarkerReceive m body) s = .next (keepQueue s
      (let u := setReg (setReg t MSH_TICK_DELAY.addr (i32 d)) MSH_TICK_PHASE.addr (i32 phi)
       if (be body 16 1).testBit 7 then followMarker u n (some phi) (ownStart8 u n - phi) else u))) ∧
  (∀ (s : State) (m : Nat), m = fld s MSH_TICK_PORT → fld s TIK_SRC = 1 → fld s (MSH_TICK_LOCK m) = 1 →
    fld s MSH_TLOCK_N ≤ s.msh.okRun →
    exec .tickLockAcquire s = .next (keepQueue s
      (let t := setFld { fresh s with msh := { s.msh with lost := false, badRun := 0 } } (MSH_TICK_LOCK m) 2
       if s.msh.lost then raise t 0 EV_TICK_SRC 0 1 0 0 0 else t))) ∧
  (∀ (s : State) (m : Nat), m = fld s MSH_TICK_PORT → fld s TIK_SRC = 1 → fld s (MSH_TICK_LOCK m) = 2 → 3 ≤ s.msh.badRun →
    exec .tickLockLost s = .next (keepQueue s
      (raise (setBit (setFld { fresh s with msh := { s.msh with lost := true, okRun := 0, badRun := 0, adopt := none } }
        (MSH_TICK_LOCK m) 0) TIK_ST_SRC_LOST) 0 EV_TICK_SRC 0 0 0 0 0))) ∧
  (∀ (s : State) (m : BitVec 2) (bs : List (BitVec 16 × BitVec 16)),
    6 ≤ bs.foldl (fun n b => if 6 ≤ n then n
      else if decide (48 ≤ b.1.toNat) && decide (b.1.toNat ≤ 80) && decide (48 ≤ b.2.toNat) && decide (b.2.toNat ≤ 80) then n + 1
      else 0) 0 →
    ((tget s.msh.ports m.toNat).map (·.live.wake)).getD false = true →
    exec (.wakePatternDetect m bs) s = .next (keepQueue s (wakeLatch (fresh s) 2 m.toNat))) ∧
  (∀ (s : State) (m : BitVec 2) (t : Nat), (mshPort s m.toNat).waking = some t →
    exec (.wakePatternSendEnd m) s = .next (keepQueue s
      (let u := advanceLocal (fresh s) (t + 20000000 - localNs s)
       emitOut (setMshPort u m.toNat { mshPort u m.toNat with waking := none }) (.mshWake m.toNat false))))

/-- The memory's and calibration's events (R398 to R403, R413, R416, R431, R432): a sweep's end, refresh and temperature, retrains, a failed
pseudo-channel and its migration, the correctable-error bucket, and the trim slots. The model's choices in it are log entries 61 to 66,
109 and 111. -/
def Obligations.MemoryEventsComplete : Prop :=
  (∀ (s : State) (read skipped : BitVec 40) (hits : List EccHit) (w : SweepRun), s.mem.sweep = some w → s.pwr.fwStop = false →
    exec (.sweepComplete read skipped hits) s = .next (keepQueue s
      (let es := hits.filter (fun e => e.ok && e.t.toNat = w.target)
       let ce := (es.filter (fun e => (foundAs s e).1 = 0)).length
       let t := es.foldl (fun t e =>
         let t := eccHit t { e with acc := 0 }
         if w.repair then eccHit t { e with acc := 1 } else t) (fresh s)
       complete { t with mem := { t.mem with sweep := none } } w.h OP_MEM_SWEEP ST_OK
         [sat32 read.toNat, sat32 ce, sat32 (es.length - ce), sat32 (skipped.toNat / 1000)]))) ∧
  (∀ (s : State) (k : BitVec 2) (p : BitVec 5), domOn s DOM_MEM = true → (stackOf s k.toNat).tempAt.isSome = true →
    (fld s MEM_HOT_C : Int) < (BitVec.ofNat 8 (fld s (MEM_TEMP k.toNat))).toInt → bit s (MEM_REF_HALF k.toNat) = false →
    exec (.hbmRefresh k p) s = .next (keepQueue s
      (let t := setBit (setFld (fresh s) (MEM_REF_HALF k.toNat) 1) MEM_ST_HOT
       raise t 0 EV_MEM_REFRESH (BitVec.ofNat 16 k.toNat) (BitVec.ofNat 32 (fld t (MEM_TEMP k.toNat) * 256 + 1)) 0 0 0))) ∧
  (∀ (s : State) (k : BitVec 2) (temp : BitVec 8), domOn s DOM_MEM = true → s.easel.running = true →
    (stackOf s k.toNat).tempAt = none →
    exec (.hbmTempRead k temp) s = .next (keepQueue s
      ((List.range 32).foldl (fun t p =>
          match (pcOf t (32 * k.toNat + p)).temp with
          | none => setPc t (32 * k.toNat + p) { pcOf t (32 * k.toNat + p) with temp := some temp.toInt }
          | some v => if fld t MEM_RETRAIN_DT ≤ (v - temp.toInt).natAbs then retrainStart t k.toNat p else t)
        (setStack (setFld (fresh s) (MEM_TEMP k.toNat) temp.toNat) k.toNat
          { stackOf s k.toNat with tempAt := some (curTick s) })))) ∧
  (∀ (s : State) (k : BitVec 2) (p : BitVec 5),
    (pcOf s (32 * k.toNat + p.toNat)).at' + fld s MEM_RETRAIN_TICKS ≤ curTick s → retrains s k.toNat p.toNat = true →
    (pcOf s (32 * k.toNat + p.toNat)).step = 0 →
    exec (.retrainInterval k p) s = .next (keepQueue s
      (setPc (fresh s) (32 * k.toNat + p.toNat) { pcOf s (32 * k.toNat + p.toNat) with step := 1, pieces := 0 }))) ∧
  (∀ (s : State) (st : BitVec 2) (p : BitVec 5) (cand : List (BitVec 16)) (margin good : List (BitVec 8)) (k : Nat) (x : Pc),
    k = 32 * st.toNat + p.toNat → x = pcOf s k → x.step = 1 → x.pieceAt ≠ some (curTick s, segNow s) → mode s = 3 → s.easel.running = true →
    settingIn s k 1 (cand.map (·.toInt)) = false → x.pieces + 1 < 32 →
    exec (.retrainPiece st p cand margin good) s = .next (keepQueue s
      (setPc (fresh s) k { x with pieces := x.pieces + 1, pieceAt := some (curTick s, segNow s), margins := good.map (·.toNat) }))) ∧
  (∀ (s : State) (st : BitVec 2) (p : BitVec 5) (x : Stack), x = stackOf s st.toNat → pcFailed s st.toNat p.toNat = true →
    x.slots.contains p.toNat = true → fld s (MEM_SPARE_STATE st.toNat) = 0 → fld s (MEM_SPARE_PC st.toNat) < 32 →
    exec (.pcFail st p) s = .next (keepQueue s
      (let i := st.toNat
       let t := setPc (fresh s) (32 * i + p.toNat) { pcOf s (32 * i + p.toNat) with fail := false, ues := [], step := 0, pieces := 0 }
       let t := setFld (setBit t MEM_ST_SPARE) (MEM_OUT_PC i) p.toNat
       let slot := x.slots.idxOf p.toNat
       let t := setStack t i { x with slots := x.slots.set slot (fld s (MEM_SPARE_PC i)), failed := some p.toNat
                                      mig := some ⟨slot, p.toNat, 0, 0⟩, moved := 0 }
       degrade (spareEvt (setFld t (MEM_SPARE_STATE i) 1) i 0 p.toNat 0) false))) ∧
  (∀ (s : State) (st : BitVec 2) (m : Migration), (stackOf s st.toNat).mig = some m → m.chunk < slotChunks →
    domOn s DOM_MEM = true → chunkHits s st.toNat m [] = [] →
    exec (.migrationChunk st []) s = .next (keepQueue s
      (setStack (fresh s) st.toNat { stackOf s st.toNat with mig := some { m with chunk := m.chunk + 1 } }))) ∧
  (∀ (s : State) (st : BitVec 2) (m : Migration), (stackOf s st.toNat).mig = some m → slotChunks ≤ m.chunk →
    exec (.migrationEnd st) s = .next (keepQueue s
      (let t := setStack (fresh s) st.toNat { stackOf s st.toNat with mig := none, moved := 768 }
       spareEvt (setFld (setFld t (MEM_SPARE_STATE st.toNat) 2) (MEM_OUT_PC st.toNat) m.failed) st.toNat 1 m.failed m.poisoned))) ∧
  (∀ s : State, s.mem.leakAt + fld s ECC_LEAK_TICKS ≤ curTick s →
    exec .bucketLeak s = .next (keepQueue s
      ((List.range 11).foldl (fun t k => setFld t (ECC_BUCKET k) (fld t (ECC_BUCKET k) - 1))
        { fresh s with mem := { s.mem with leakAt := s.mem.leakAt + fld s ECC_LEAK_TICKS } }))) ∧
  (∀ (s : State) (k : BitVec 4) (synd : BitVec 8) (addr : BitVec 34), (EccHit.mk k 0 0 synd addr).ok = true →
    fld s ECC_CE_THRESH ≤ fld s (ECC_BUCKET k.toNat) →
    exec (.bucketOverflow k synd addr) s = .next (keepQueue s (eccCe (fresh s) k.toNat synd.toNat addr.toNat))) ∧
  (∀ (s t : State) (msh : Bool) (lane : BitVec 6) (cand : List (BitVec 16)) (v h v0 h0 : BitVec 16) (c : Nat), c = (if msh then 2 else 1) →
    trims s = true → segNow s = 3 → tget s.cal.slotAt (calKey c lane.toNat) ≠ some (curTick s) →
    lane.toNat < calCount c → v0.toNat ≤ v.toNat → h0.toNat ≤ h.toNat →
    t = { fresh s with cal := { s.cal with slotAt := tset s.cal.slotAt (calKey c lane.toNat) (curTick s) } } →
    exec (.serdesTrimSlot msh lane cand v h v0 h0) s = .next (keepQueue s
      (let u := (List.range 5).foldl (fun t j =>
         match cand[j]? with
         | some x => trimItem t c lane.toNat (3 + j) x.toInt
         | none => t) t
       { u with cal := { u.cal with moves := tset u.cal.moves (calKey c lane.toNat) (liveOf s c lane.toNat, s.clk.cyc) } }))) ∧
  (∀ (s t : State) (t0 : BitVec 16), trims s = true → curTick s % 1200 = 600 → segNow s = 3 →
    tget s.cal.slotAt (calKey 5 0) ≠ some (curTick s) →
    t = { fresh s with cal := { s.cal with slotAt := tset s.cal.slotAt (calKey 5 0) (curTick s) } } →
    exec (.sensorTrimSlot [t0] [] none) s = .next (keepQueue s (trimItem (advanceTo t (s.easel.start + 708333)) 5 0 0 t0.toInt)))

/-- The events of power and heat (R447 to R453, R458 to R463, R465, R466, R482, R514): DOZE and its end, the steps into SLEEP, the wake
sources, the wake and the clock's restart; temperature readings, the drain at the critical temperature and its end, the trip, the bus
poll, a stop of the firmware. The model's choices in it are log entries 10, 67, 69, 70, 77, 109, 110 and 112. -/
def Obligations.PowerEventsComplete : Prop :=
  (∀ (s : State) (e : Nat) (h : CmdHdr), s.pwr.trans = some ⟨6, e, some h⟩ → mode s = 6 → s.pwr.fwStop = false →
    exec .dozeDomainsOff s = .next (keepQueue s
      (let t := complete (setPwr (fresh s) { s.pwr with trans := none }) h OP_PWR_MODE_REQ ST_OK (effArea e ++ [6])
       pwrNext t t.pwr.waiting.length))) ∧
  (∀ (s : State) (t : Trans) (u : PowerUp), s.pwr.trans = some t → s.pwr.up = some u → t.target = 3 → mode s = 6 → u.kind = 1 →
    u.waits = false → t.tick ≤ curTick s → s.pwr.fwStop = false →
    exec .dozeExitReady s = .next (keepQueue s
      (stage (storesWrite (setFld (setPwr (fresh s) { s.pwr with up := none }) PWR_DOM_ON 1023)) (curTick s + 1) (.pwrMode 3 0)))) ∧
  (∀ (s : State) (e : Nat), s.easel.stopAt = some e → s.pwr.saved = false → s.easel.emit = none →
    (s.easel.issued = true → outOfService s = true) →
    exec .sleepEntry s = .next (keepQueue s
      (let t := setFld (setFld (setFld (gpioLatch (platesFree (keyResetAll (fresh s)))) PAD_ST_MGMT 1) PAD_ST_TIME 1) PAD_ST_GPIO 1
       setPwr (ppsLower (tickCut { t with easel := { t.easel with running := false } })) { t.pwr with saved := true }))) ∧
  (∀ s : State, s.pwr.saved = true → s.clk.running = true →
    exec .clockStop s = .next (keepQueue s
      (let t := setPwr (fresh s) { s.pwr with sleepT := s.clk.t, edgeAt := s.clk.cyc }
       let t := { t with clk := { t.clk with running := false } }
       let t := { t with
         hif := { t.hif with pcieUp := false, reads := [] }, brs := { t.brs with cores := [], store := [] }
         mem := { t.mem with poison := t.mem.poison.filter (fun q => decide (6 ≤ q.1) && decide (q.1 ≤ 9)) }
         easel := { t.easel with follow := false } }
       lowerTo (setFld t PWR_DOM_ON 1) 7))) ∧
  (∀ (s : State) (p : BitVec 2), (fld s PWR_WAKE_EN_ETH).testBit p.toNat = true →
    exec (.ethSignalWake p) s = .next (keepQueue s (wakeLatch (fresh s) 1 p.toNat))) ∧
  (∀ s : State, bit s PWR_WAKE_EN_PCIE = true → exec .pcieWake s = .next (keepQueue s (wakeLatch (fresh s) 3 0))) ∧
  (∀ s : State, bit s PWR_WAKE_EN_TIMER = true → fld s PWR_SLEEP_TIMER ≠ 0 → s.clk.running = false →
    exec .sleepTimerWake s = .next (keepQueue s (wakeLatch (fresh s) 4 0))) ∧
  (∀ (s : State) (u : PowerUp) (src port : Nat), s.pwr.up = some u → s.pwr.wake = some (src, port) → mode s = 7 → u.kind = 2 →
    u.waits = false → s.pwr.good = 63 →
    exec .wake s = .next (keepQueue s
      (let t := storesWrite (setFld (setFld (fresh s) PWR_DOM_ON 1023) PAD_ST_MGMT 2)
       let held := fld t PAD_ST_TIME = 1 || fld t PAD_ST_GPIO = 1
       let t := (List.range 128).foldl wakeRetrain t
       setPwr t { t.pwr with
         up := none, wake := none, woken := true, saved := false, wakeN := decide (src ≠ 3)
         wakeRep := some ⟨src, port, held, 0, u.fails⟩ }))) ∧
  (∀ (s : State) (c : BitVec 64), s.pwr.woken = true → s.clk.running = false →
    exec (.clockRestart c) s = .next (keepQueue s
      (let d := c.toNat * 1953125 / 64
       let t := epochStart { fresh s with
         clk := { t := (fresh s).pwr.sleepT + d * 2 ^ 48, running := true, cyc := (fresh s).clk.cyc + d * 4 / 5 } }
       let t := setPtp t (ppsStepped t.ptp (ns t))
       let t := setPwr t { t.pwr with
         woken := false, sleepC := c.toNat, wakeRep := t.pwr.wakeRep.map (fun w => { w with count := c.toNat })
         resid := tset t.pwr.resid 7 (((tget t.pwr.resid 7).getD 0 + c.toNat) % 2 ^ 64) }
       let t := setPwr t { t.pwr with fan := fanDuty t (BitVec.ofNat 8 (fld t PWR_TEMP_MAX)).toInt }
       transDone (linksRetrain (easelStart (enterRun t 0)))))) ∧
  (∀ s : State, domOn s 1 = true →
    exec .pcieLinkUp s = .next (keepQueue s
      (setPwr { fresh s with hif := { s.hif with pcieUp := true } } { s.pwr with wakeN := false }))) ∧
  (∀ (s : State) (raw : List (BitVec 16)) (v : Int) (i : Nat), s.easel.running = true → s.pwr.tempAt = none → mode s ≠ 1 →
    hottest ((List.range (min raw.length 24)).map (fun i => (raw.getD i 0).toInt + (liveOf s 5 0).getD i 0)) = some (v, i) →
    exec (.tempReading raw) s = .next (keepQueue s (tempJudge (tempTaken (fresh s) (v / 16) i) (v / 16)))) ∧
  (∀ (s : State) (t : Int), fld s PWR_THERM_STATE = 0 → t < fld s PWR_WARN_C → s.pwr.hot < 2 → tempJudge s t = s) ∧
  (∀ (s : State) (e : Nat), s.pwr.critAt = some e → e + fld s PWR_CRIT_DRAIN ≤ curTick s →
    exec .critDrainExpiry s = .next (keepQueue s
      (setPwr (releaseAll (fresh s) none) { s.pwr with critAt := none, shutAt := some (effTick s - 1) }))) ∧
  (∀ s : State, s.pwr.rails.testBit 3 = true →
    exec .thermalTrip s = .next (keepQueue s (thermalShutdown (setBit (fresh s) PWR_ST_TRIP) 5))) ∧
  (∀ s : State, reqModes.contains (mode s) = true → s.pwr.fwStop = false → (∀ n, s.pwr.pmbusAt = some n → n + 1200 ≤ curTick s) →
    exec .pmbusPoll s = .next (keepQueue s { setPwr s { s.pwr with pmbusAt := some (curTick s) } with
      out := (List.range 18).map (fun i => .pmbus (0x40 + i / 3) ([0x8b, 0x8c, 0x79].getD (i % 3) 0)) })) ∧
  (∀ s : State, domOn s 2 = true →
    exec .firmwareStop s = .next (keepQueue s (alertSet (setPwr (fresh s) { s.pwr with fwStop := true }) 2 true)))

/-- Resets, rails, boot and PRIME (R17 to R20, R399, R416, R440 to R445, R500 to R503). The model's choices in it are log entries 10, 67,
68, 79, 109, 110 and 112. -/
def Obligations.ResetEventsComplete : Prop :=
  (∀ s : State, exec .coldReset s = .next (keepQueue s
    { State.reset with
        pending := s.pending, hostMem := s.hostMem, out := [], clk := { cyc := s.clk.cyc }
        pwr := { State.reset.pwr with pins := s.pwr.pins } })) ∧
  (∀ s : State, s.pwr.cold = true → s.pwr.pins = 0 →
    exec .coldResetEnd s = .next (keepQueue s (bringUp (setPwr (fresh s) { s.pwr with cold := false })))) ∧
  (∀ s : State, s.pwr.cold = true → s.pwr.pins ≠ 0 →
    exec .coldResetEnd s = .next (keepQueue s (setPwr (fresh s) { s.pwr with cold := false }))) ∧
  (∀ (s : State) (w : BitVec 32) (taken : Bool), 1000 ≤ w.toNat → s.pwr.cold = true →
    exec (.perstNAssert w taken) s = .next (keepQueue s (setPwr (fresh s) { s.pwr with pins := s.pwr.pins ||| 1 }))) ∧
  (∀ (s : State) (w : BitVec 32) (taken : Bool), 100 ≤ w.toNat → (w.toNat < 1000 → taken = true) → s.pwr.cold = false →
    exec (.perstNAssert w taken) s = .next (keepQueue s
      (let t := setPwr (fresh s) { s.pwr with pins := s.pwr.pins ||| 1 }
       let t := if mode t = 0 ∧ !t.pwr.held then t else enterReset t 1 t.pwr.held
       setPwr t { t.pwr with alert := 0, up := if t.pwr.held then none else s.pwr.up.filter (fun u => u.kind = 0) }))) ∧
  (∀ (s : State) (w : BitVec 32) (taken : Bool), 100 ≤ w.toNat → (w.toNat < 1000 → taken = true) → s.pwr.cold = false →
    exec (.sysResetNAssert w taken) s = .next (keepQueue s
      (let t := setPwr (fresh s) { s.pwr with pins := s.pwr.pins ||| 2 }
       let t := if mode t = 0 ∧ !t.pwr.held then t else enterReset t 2 t.pwr.held
       setPwr t { t.pwr with alert := 0, up := if t.pwr.held then none else s.pwr.up.filter (fun u => u.kind = 0) }))) ∧
  (∀ s : State, s.pwr.pins ≠ 0 → s.pwr.cold = false →
    exec .resetRelease s = .next (keepQueue s
      (let t := setPwr (fresh s) { s.pwr with pins := 0, held := false }
       if s.pwr.up.isSome then t else bringUp t))) ∧
  (∀ (s : State) (u : PowerUp) (i : Nat), s.pwr.up = some u → u.waits = false → u.kind ≠ 1 → (u.kind = 3 → s.pwr.good ≠ 63) →
    s.pwr.lower = none → lowRail s.pwr.rails = some i →
    exec .railRaise s = .next (keepQueue s (setPwr (fresh s) { s.pwr with rails := s.pwr.rails + 2 ^ i, good := s.pwr.rails }))) ∧
  (∀ (s : State) (u : PowerUp), s.pwr.up = some u → u.waits = false → u.kind = 0 → s.pwr.lower = none →
    lowRail s.pwr.rails = none → s.pwr.pins = 0 →
    exec .railRaise s = .next (keepQueue s
      (let t := enterBoot (setPwr (fresh s) { s.pwr with good := s.pwr.rails })
       setPwr t { t.pwr with up := some { u with kind := 3 } }))) ∧
  (∀ (s : State) (u : PowerUp), s.pwr.up = some u → u.waits = false → u.kind = 3 → s.pwr.good ≠ 63 → s.pwr.lower = none →
    lowRail s.pwr.rails = none →
    exec .railRaise s = .next (keepQueue s
      (setFld (setPwr (fresh s) { s.pwr with good := s.pwr.rails }) PWR_DOM_ON (modeDoms s)))) ∧
  (∀ (s : State) (left i j : Nat), s.pwr.lower = some left → topRail s.pwr.rails left = some i →
    topRail (s.pwr.rails - 2 ^ i) left = some j →
    exec .railLower s = .next (keepQueue s (setPwr (fresh s)
      { s.pwr with rails := s.pwr.rails - 2 ^ i, good := s.pwr.good &&& (s.pwr.rails - 2 ^ i), lower := some left }))) ∧
  (∀ (s : State) (i : BitVec 3), (s.pwr.good &&& s.pwr.rails).testBit i.toNat = true →
    exec (.railFault i) s = .next (keepQueue s
      (lowerTo (enterReset (setFld (setBit (alertSet (fresh s) 0 true) PWR_ST_RAIL_FAULT) PWR_FAULT_SRC i.toNat) 3 true) 0))) ∧
  (∀ (s : State) (src : BitVec 3) (u : PowerUp), s.pwr.up = some u → u.waits = false → u.fails < 3 →
    s.pwr.lower = none → mayFail s u src.toNat = true →
    exec (.powerupTimeout src) s = .next (keepQueue s
      (setPwr (setFld (fresh s) PWR_DOM_ON u.doms) { s.pwr with
        up := some { u with fails := u.fails + 1, waits := true }
        lower := if s.pwr.rails = u.before then none else some u.before }))) ∧
  (∀ (s : State) (src : BitVec 3) (u : PowerUp), s.pwr.up = some u → u.waits = false → 3 ≤ u.fails →
    s.pwr.lower = none → mayFail s u src.toNat = true →
    exec (.powerupTimeout src) s = .next (keepQueue s (wakeFault (fresh s) u src.toNat))) ∧
  (∀ (s : State) (u : PowerUp) (i : Nat), s.pwr.up = some u → u.waits = true → s.pwr.lower = none → u.kind ≠ 1 →
    lowRail s.pwr.rails = some i →
    exec .powerupRetry s = .next (keepQueue s
      (setPwr (fresh s) { s.pwr with up := some { u with waits := false }, rails := s.pwr.rails + 2 ^ i }))) ∧
  (∀ (s : State) (u : PowerUp), s.pwr.up = some u → u.waits = true → s.pwr.lower = none → u.kind = 3 →
    lowRail s.pwr.rails = none →
    exec .powerupRetry s = .next (keepQueue s
      (setFld (setPwr (fresh s) { s.pwr with up := some { u with waits := false } }) PWR_DOM_ON (modeDoms s)))) ∧
  (∀ (s : State) (len : BitVec 32) (svn : BitVec 8) (ver edges : BitVec 32) (gesso : GessoImage) (flash : List (BitVec 32)),
    mode s = 1 → fld s CTL_BOOT_STATE = 1 → domOn s 2 = true → 65536 ≤ len.toNat → len.toNat ≤ 6291456 → Config.svnFloor.toNat ≤ svn.toNat →
    exec (.bootImageCheck true len true true 0x9416 svn ver edges gesso flash) s = .next (keepQueue s
      (let t := setPwr (fresh s) { s.pwr with
         up := none, edgeAt := s.clk.cyc, resid := tset s.pwr.resid 1 (((tget s.pwr.resid 1).getD 0 + edges.toNat) % 2 ^ 64) }
       enterPrime (setReg (setFld (setFld t CTL_BOOT_STATE 3) CTL_BOOT_SVN svn.toNat) SYS_FW_MAJOR.addr ver) gesso flash))) ∧
  (∀ s : State, mode s = 1 → fld s CTL_BOOT_STATE = 0 →
    exec .ctlBootGo s = .next (keepQueue s
      (emitOut (setFld (setPwr (fresh s) { s.pwr with bootHost := true, up := none }) CTL_BOOT_STATE 1) (.hostRead 0 (bootAddr s))))) ∧
  (∀ s : State, 1 ≤ mode s → mode s ≤ 6 → exec .sysSetupDone s = .next (keepQueue s (setFld (fresh s) SYS_ST_SETUP 1))) ∧
  (∀ (s : State) (res : List (BitVec 7 × List (BitVec 8) × List (BitVec 16))), mode s = 2 → s.pwr.trained = false →
    domOn s DOM_MEM = true →
    exec (.primeTraining res) s = .next (keepQueue s
      ((List.range 128).foldl (primeTrain res) (repairsApply (setPwr (fresh s) { s.pwr with trained := true, up := none }))))) ∧
  (∀ s : State, mode s = 2 → s.pwr.trained = true → bit s SYS_ST_SETUP = true →
    exec .primeComplete s = .next (keepQueue s
      (let t := setFld (setFld (fresh s) SYS_LOCKED 1) SYS_COMPAT_CUR (fld s SYS_COMPAT_SEL)
       enterRun (masksApply (poolsLock (budgetsLock t))) 3)))

/-! ## Register accesses complete -/

/-- The rows that clear a counter (R44, R150, R177, R206, R207, R240, R274, R312, R335, R359, R389, R413, R421, R422, R437, R498): wherever
all blocks answer, each answers a next state in which its counter is 0 and nothing else has changed. TIK_CLR_LAST clears TIK_OVR_LAST, and
ECC_CLR the three counters and the bucket of a memory target; its bits 11 to 15, which name none, clear nothing. -/
def Obligations.CounterClearsComplete : Prop :=
  (∀ p ∈
    [(Instr.tikClrHold, TIK_HOLD_CNT), (.tikClrSkip, TIK_SKIP_CNT), (.tikClrEmit, TIK_OVR_EMIT_CNT),
     (.tikClrWork, TIK_OVR_WORK_CNT), (.tikClrGather, TIK_OVR_GATHER_CNT), (.spqClrUe, SPQ_UE_CNT), (.spqClrCe, SPQ_CE_CNT),
     (.fwdClrKp, FWD_KP_SENT_CNT), (.fwdClrStale, FWD_DROP_STALE_CNT), (.fwdClrLimit, FWD_DROP_LIMIT_CNT),
     (.cipClrRetry, CIP_RETRY_DROP_CNT), (.cipClrRefuse, CIP_REFUSE_CNT), (.cipClrReplay, CIP_REPLAY_CNT),
     (.cipClrAuth, CIP_AUTH_FAIL_CNT), (.keyClrUnwrap, KEY_UNWRAP_FAIL_CNT), (.audClrPart, AUD_PART_MISS_CNT),
     (.audClrSat, AUD_BUS_SAT_CNT), (.audClrClip, AUD_CLIP_CNT), (.brsClrFault, BRS_FAULT_CNT), (.vidClrBound, VID_BOUND_CNT),
     (.vidClrDrop, VID_TX_DROP_CNT), (.vidClrMin, VID_ENC_MIN_CNT), (.vidClrDmg, VID_DEC_DMG_CNT), (.cnvClrUe, CNV_PLATE_UE_CNT),
     (.cnvClrOmit, CNV_OMIT_CNT), (.cnvClrFlip, CNV_FLIP_TO_CNT), (.ptpClrRxdrop, PTP_RX_DROP_CNT),
     (.ptpClrLaunch, PTP_LAUNCH_MISS_CNT), (.ptpClrTslost, PTP_TS_LOST_CNT), (.mshClrCredit, MSH_CREDIT_ERR_CNT),
     (.mshClrMedia, MSH_MEDIA_DROP_CNT), (.mshClrLate, MSH_PART_LATE_CNT), (.mshClrDrop, MSH_PART_DROP_CNT),
     (.mshClrUnit, MSH_UNIT_ERR_CNT), (.memClrPoison, MEM_POISON_CNT), (.calClrWide, CAL_RETRAIN_WIDE_CNT),
     (.calClrHeld, CAL_RETRAIN_HELD_CNT)],
    ∀ s : State, 2 ≤ mode s → mode s ≤ 6 → ∃ t, exec p.1 s = .next t ∧ fld t p.2 = 0 ∧
      (∀ g : Field, (g.addr ≠ p.2.addr ∨ g.hi < p.2.lo ∨ p.2.hi < g.lo) → fld t g = fld s g) ∧
      { t with regs := s.regs, out := s.out } = s) ∧
  (∀ s : State, 2 ≤ mode s → mode s ≤ 6 → ∃ t, exec .tikClrLast s = .next t ∧ t.easel.ovrLast = 0 ∧ (∀ g : Field, fld t g = fld s g) ∧
    { t with regs := s.regs, out := s.out, easel := { t.easel with ovrLast := s.easel.ovrLast } } = s) ∧
  (∀ (s : State) (k : BitVec 4), 2 ≤ mode s → mode s ≤ 6 → ∃ t, exec (.eccClr k) s = .next t ∧
    (k.toNat ≤ 10 → fld t (ECC_CE_CNT k.toNat) = 0 ∧ fld t (ECC_UE_CNT k.toNat) = 0 ∧ fld t (ECC_ADDR_CNT k.toNat) = 0 ∧
      fld t (ECC_BUCKET k.toNat) = 0) ∧
    (∀ g : Field, (k.toNat ≤ 10 → g.addr ≠ (ECC_CE_CNT k.toNat).addr ∧ g.addr ≠ (ECC_UE_CNT k.toNat).addr ∧
      g.addr ≠ (ECC_ADDR_CNT k.toNat).addr ∧ g.addr ≠ (ECC_BUCKET k.toNat).addr) → fld t g = fld s g) ∧
    { t with regs := s.regs, out := s.out } = s)

/-- The reads that latch (R337, R493, R522): wherever all blocks answer, the read returns the live low word, with the register after it when
the read is of 8 bytes, and leaves the copies. The model's choice in it is log entry 7. -/
def Obligations.LatchingReadsComplete : Prop :=
  (∀ (s : State) (wide : Bool), 2 ≤ mode s → mode s ≤ 6 → ∃ t, exec (.tikNowLo wide) s = .next t ∧
    reg t TIK_NOW_HI.addr = BitVec.ofNat 32 (curTick s / 2 ^ 32) ∧ reg t TIK_SEG.addr = BitVec.ofNat 32 (tikPos s) ∧
    t.hif.rdata = (if wide then regRead t TIK_NOW_HI.addr else 0) ++ BitVec.ofNat 32 (curTick s)) ∧
  (∀ (s : State) (wide : Bool), 2 ≤ mode s → mode s ≤ 6 → ∃ t, exec (.tikOvrLastLo wide) s = .next t ∧
    reg t TIK_OVR_LAST_HI.addr = BitVec.ofNat 32 (s.easel.ovrLast.toNat / 2 ^ 32) ∧
    t.hif.rdata = (if wide then regRead t TIK_OVR_LAST_HI.addr else 0) ++ s.easel.ovrLast.setWidth 32) ∧
  (∀ (s : State) (wide : Bool), 2 ≤ mode s → mode s ≤ 6 → ∃ t, exec (.ptpTimeNs wide) s = .next t ∧
    reg t PTP_TIME_SL.addr = BitVec.ofNat 32 (ns s / 1000000000) ∧
    reg t PTP_TIME_SH.addr = BitVec.ofNat 32 (ns s / 1000000000 / 2 ^ 32 % 2 ^ 16) ∧
    t.hif.rdata = (if wide then regRead t PTP_TIME_SL.addr else 0) ++ BitVec.ofNat 32 (ns s % 1000000000)) ∧
  (∀ (s : State) (wide : Bool), 2 ≤ mode s → mode s ≤ 6 → ∃ t, exec (.ptpSleepCntLo wide) s = .next t ∧
    reg t PTP_SLEEP_CNT_HI.addr = BitVec.ofNat 32 (s.pwr.sleepC / 2 ^ 32) ∧
    t.hif.rdata = (if wide then regRead t PTP_SLEEP_CNT_HI.addr else 0) ++ BitVec.ofNat 32 s.pwr.sleepC) ∧
  (∀ (s : State) (wide : Bool), 1 ≤ mode s → mode s ≤ 6 → ∃ t, exec (.sysSerialLo wide) s = .next t ∧
    reg t SYS_SERIAL_HI.addr = BitVec.ofNat 32 (Config.serial.toNat / 2 ^ 32) ∧
    t.hif.rdata = (if wide then regRead t SYS_SERIAL_HI.addr else 0) ++ Config.serial.setWidth 32)

/-- Register accesses (R43, R46, R456, R483, R492 to R496): a write of 4 aligned bytes and of 8 by each path, a read, what is refused, and
the rows of single fields. By the path of the JTAG port an edge of TCK comes: the port takes it, five edges with TMS high bring its
controller to Test-Logic-Reset, and Capture-DR under IDCODE takes 0x1941_6DCB (R483). The model's choices in it are log entries 7, 9, 92
and 93. -/
def Obligations.RegisterWritesComplete : Prop :=
  (∀ (s : State) (o : BitVec 26) (d : BitVec 64), o.toNat % 4 = 0 →
    exec (.registerWrite ⟨.bar0, o, 4, d, true⟩) s = .next (keepQueue s
      (setRdata (readAt (fresh s) o.toNat).1 ((readAt (fresh s) o.toNat).2.setWidth 64)))) ∧
  (∀ (s : State) (o : BitVec 26) (d : BitVec 64), o.toNat % 4 = 0 →
    exec (.registerWrite ⟨.jtag, o, 4, d, false⟩) s = .next (keepQueue s
      (jtagEdge (fresh s) ((d.setWidth 32).getLsbD 0) ((d.setWidth 32).getLsbD 1) ((d.setWidth 32).getLsbD 2)))) ∧
  (∀ (s : State) (tdi : Bool), ctlOn s = true → s.jtag.st = .capDr → s.jtag.ir = .idcode →
    (jtagEdge s false tdi false).jtag.st = .shDr ∧
    ∀ i, i < 32 → (jtagEdge s false tdi false).jtag.sh.getD i false = (0x19416dcb : BitVec 32).getLsbD i) ∧
  (∀ st : TapState, ((((st.next true).next true).next true).next true).next true = .reset) ∧
  (∀ (s : State) (o : BitVec 26) (d : BitVec 64), o.toNat % 4 = 0 →
    exec (.registerWrite ⟨.bar0, o, 4, d, false⟩) s = .next (keepQueue s (regWrite (fresh s) o.toNat (d.setWidth 32)))) ∧
  (∀ (s : State) (o : BitVec 26) (d : BitVec 64), o.toNat % 8 = 0 →
    exec (.registerWrite ⟨.bar0, o, 8, d, false⟩) s = .next (keepQueue s
      (regWrite (regWrite (fresh s) o.toNat (d.setWidth 32)) (o.toNat + 4) ((d >>> 32).setWidth 32)))) ∧
  (∀ (s : State) (f : BitVec 6) (o : BitVec 26) (d : BitVec 64), o.toNat % 4 = 0 →
    exec (.registerWrite ⟨.window f, o, 4, d, false⟩) s = .next (keepQueue s (windowWrite (fresh s) f.toNat o.toNat (d.setWidth 32)))) ∧
  (∀ (s : State) (o : BitVec 26) (d : BitVec 64), o.toNat % 4 = 0 →
    exec (.registerWrite ⟨.sriov, o, 4, d, false⟩) s = .next (keepQueue s (sriovWrite (fresh s) (d.setWidth 32)))) ∧
  (∀ (s : State) (o : BitVec 26) (z : BitVec 4) (d : BitVec 64), ¬(z = 4 ∧ o.toNat % 4 = 0) → ¬(z = 8 ∧ o.toNat % 8 = 0) →
    2 ≤ mode s → mode s ≤ 6 → exec (.registerWrite ⟨.bar0, o, z, d, false⟩) s = .next (keepQueue s (setBit (fresh s) SYS_ST_ACCESS))) ∧
  (∀ (s : State) (o : BitVec 26) (d : BitVec 64), o.toNat % 4 = 0 → mode s = 0 ∨ mode s = 7 →
    exec (.registerWrite ⟨.bar0, o, 4, d, false⟩) s = .next (keepQueue s (fresh s))) ∧
  (∀ (s : State) (v : Bool), 2 ≤ mode s → mode s ≤ 6 →
    exec (.admHostClose v) s = .next (keepQueue s (admRefresh (setFld (fresh s) ADM_HOST_CLOSE (if v then 1 else 0))))) ∧
  (∀ (s : State) (en : Bool), exec (.tikOutEn en) s = .next (keepQueue s
    (regWrite (fresh s) TIK_OUT_EN.addr (setBits (reg s TIK_OUT_EN.addr) 31 31 (if en then 1 else 0))))) ∧
  (∀ s : State, 3 ≤ mode s → mode s ≤ 6 → ∃ t, exec .padRelTime s = .next t ∧ t.pwr.rel = s.pwr.rel ||| 1 ∧
    (∀ g : Field, fld t g = fld s g)) ∧
  (∀ s : State, 3 ≤ mode s → mode s ≤ 6 → ∃ t, exec .padRelGpio s = .next t ∧ t.pwr.rel = s.pwr.rel ||| 2 ∧
    (∀ g : Field, fld t g = fld s g))

/-! ## Brush instructions complete -/

/-- The instructions of the move group (R246, R248 to R251, R255): each answers the next state its rules give, whole: the bank, the word
stored, nothing else. A word that a memory error spoils arrives as 0 (`clean`, R412). The model's choices in it are log entries 40, 41
and 43. -/
def Obligations.BrushMoveInstructionsComplete : Prop :=
  ∀ (s : State) (b : BrushRef) (r : BRun) (i : BInst) (p : BProg) (k : BBank) (nx : Nat),
    k = brushBank b s → nx = brushAfter b s →
  (∀ (d : BReg) (q : BReg), Issues s b (.move d q) r i p → (∀ n, q ≠ .a n) →
    exec (.move b d q) s = .next (keepQueue s (brushNext s b (.move d q) r ((k.write d (k.read q)).fall nx) i 1))) ∧
  (∀ n m, Issues s b (.move (.a n) (.a m)) r i p →
    exec (.move b (.a n) (.a m)) s = .next (keepQueue s (brushNext s b (.move (.a n) (.a m)) r ((k.wa n (k.ra m)).fall nx) i 1))) ∧
  (∀ d v, Issues s b (.ldi d v) r i p →
    exec (.ldi b d v) s = .next (keepQueue s (brushNext s b (.ldi d v) r ((k.write d v).fall nx) i 1))) ∧
  (∀ d e i0, i0 = (BOp.ldh d e).clean k i b.bad → Issues s b (.ldh d e) r i p →
    exec (.ldH b d e) s = .next (keepQueue s (brushNext s b (.ldh d e) r (((k.wd d (i0.hi k e)).step e.p e.m).fall nx) i 1))) ∧
  (∀ d e i0, i0 = (BOp.ldl d e).clean k i b.bad → Issues s b (.ldl d e) r i p →
    exec (.ldL b d e) s = .next (keepQueue s (brushNext s b (.ldl d e) r (((k.wd d ((i0.word e.y (k.ea e)).setWidth 24)).step e.p e.m).fall nx) i 1))) ∧
  (∀ d e, Issues s b (.sth d e) r i p →
    exec (.stH b d e) s = .next (keepQueue s (brushNext s b (.sth d e) r ((k.step e.p e.m).fall nx) (i.setWord e.y (k.ea e) ((k.rd d).setWidth 32 <<< 8)) 1))) ∧
  (∀ d e, Issues s b (.stl d e) r i p →
    exec (.stL b d e) s = .next (keepQueue s (brushNext s b (.stl d e) r ((k.step e.p e.m).fall nx) (i.setWord e.y (k.ea e) ((k.rd d).signExtend 32)) 1))) ∧
  (∀ n e i0, i0 = (BOp.ldbus n e).clean k i b.bad → Issues s b (.ldbus n e) r i p →
    exec (.ldbus b n e) s = .next (keepQueue s (brushNext s b (.ldbus n e) r (((k.wa n ((i0.word e.y (k.ea e)).signExtend 56 <<< 22)).step e.p e.m).fall nx) i 1))) ∧
  (∀ n e x w, x = roundConv (k.ra n).toInt 22 → w = sat32I x → Issues s b (.stbus n e) r i p →
    exec (.stbus b n e) s = .next (keepQueue s (brushNext s b (.stbus n e) r ((({ k with flg := { k.flg with clamp := k.flg.clamp || decide (w ≠ x) } } : BBank).step e.p e.m).fall nx) (i.setWord e.y (k.ea e) (BitVec.ofInt 32 w)) 1))) ∧
  (∀ d n v c, (v, c) = satMove (k.ra n).toInt → Issues s b (.movd false d n) r i p →
    exec (.movd b d n) s = .next (keepQueue s (brushNext s b (.movd false d n) r (({ k.wd d v with flg := { k.flg with clamp := k.flg.clamp || c } } : BBank).fall nx) i 1))) ∧
  (∀ d n a o v c, (a, o) = reduce56 k.sam (roundAcc (k.ra n).toInt) → (v, c) = satMove a.toInt → Issues s b (.movd true d n) r i p →
    exec (.movdR b d n) s = .next (keepQueue s (brushNext s b (.movd true d n) r (({ k.wd d v with flg := { k.flg with clamp := k.flg.clamp || c, wrap := k.flg.wrap || o } } : BBank).fall nx) i 1)))

/-- The instructions of the multiply group (R245, R247, R255): products are exact, sums are exact before they are reduced (`acc`), the .R
forms round first, the memory forms step both pointers. The model's choices in it are log entries 40 and 41. -/
def Obligations.BrushMultiplyInstructionsComplete : Prop :=
  ∀ (s : State) (b : BrushRef) (r : BRun) (i : BInst) (p : BProg) (k : BBank) (nx : Nat),
    k = brushBank b s → nx = brushAfter b s →
  (∀ n x y, Issues s b (.mul false n x y) r i p →
    exec (.mul b n x y) s = .next (keepQueue s (brushNext s b (.mul false n x y) r ((k.acc n (prod (k.rd x) (k.rd y))).fall nx) i 1))) ∧
  (∀ n x y, Issues s b (.mla false n x y) r i p →
    exec (.mla b n x y) s = .next (keepQueue s (brushNext s b (.mla false n x y) r ((k.acc n ((k.ra n).toInt + prod (k.rd x) (k.rd y))).fall nx) i 1))) ∧
  (∀ n x y, Issues s b (.mls n x y) r i p →
    exec (.mls b n x y) s = .next (keepQueue s (brushNext s b (.mls n x y) r ((k.acc n ((k.ra n).toInt - prod (k.rd x) (k.rd y))).fall nx) i 1))) ∧
  (∀ n x y, Issues s b (.mul true n x y) r i p →
    exec (.mulR b n x y) s = .next (keepQueue s (brushNext s b (.mul true n x y) r ((k.acc n (roundAcc (prod (k.rd x) (k.rd y)))).fall nx) i 1))) ∧
  (∀ n x y, Issues s b (.mla true n x y) r i p →
    exec (.mlaR b n x y) s = .next (keepQueue s (brushNext s b (.mla true n x y) r ((k.acc n (roundAcc ((k.ra n).toInt + prod (k.rd x) (k.rd y)))).fall nx) i 1))) ∧
  (∀ n x y i0, i0 = (BOp.mlam false n x y).clean k i b.bad → Issues s b (.mlam false n x y) r i p →
    exec (.mlaM b n x y) s = .next (keepQueue s (brushNext s b (.mlam false n x y) r ((((k.acc n ((k.ra n).toInt + prod (i0.hi k x) (i0.hi k y))).step x.p x.m).step y.p y.m).fall nx) i 1))) ∧
  (∀ n x y i0, i0 = (BOp.mlam true n x y).clean k i b.bad → Issues s b (.mlam true n x y) r i p →
    exec (.mlsM b n x y) s = .next (keepQueue s (brushNext s b (.mlam true n x y) r ((((k.acc n ((k.ra n).toInt - prod (i0.hi k x) (i0.hi k y))).step x.p x.m).step y.p y.m).fall nx) i 1))) ∧
  (∀ n u x m v y i0 k1, i0 = (BOp.mla2 n u x m v y).clean k i b.bad →
    k1 = k.acc n ((k.ra n).toInt + prod (k.rd u) (i0.hi k x)) → Issues s b (.mla2 n u x m v y) r i p →
    exec (.mla2 b n u x m v y) s = .next (keepQueue s (brushNext s b (.mla2 n u x m v y) r ((((k1.acc m ((k1.ra m).toInt + prod (k.rd v) (i0.hi k y))).step x.p x.m).step y.p y.m).fall nx) i 1)))

/-- The instructions of the accumulator group (R244 to R247, R255). The model's choices in it are log entries 40 and 41. -/
def Obligations.BrushAccumulatorInstructionsComplete : Prop :=
  ∀ (s : State) (b : BrushRef) (r : BRun) (i : BInst) (p : BProg) (k : BBank) (nx : Nat),
    k = brushBank b s → nx = brushAfter b s →
  (∀ n m, Issues s b (.add n m) r i p →
    exec (.add b n m) s = .next (keepQueue s (brushNext s b (.add n m) r ((k.acc n ((k.ra n).toInt + (k.ra m).toInt)).fall nx) i 1))) ∧
  (∀ n m, Issues s b (.sub n m) r i p →
    exec (.sub b n m) s = .next (keepQueue s (brushNext s b (.sub n m) r ((k.acc n ((k.ra n).toInt - (k.ra m).toInt)).fall nx) i 1))) ∧
  (∀ n, Issues s b (.neg n) r i p →
    exec (.neg b n) s = .next (keepQueue s (brushNext s b (.neg n) r ((k.acc n (-(k.ra n).toInt)).fall nx) i 1))) ∧
  (∀ n, Issues s b (.abs n) r i p →
    exec (.abs b n) s = .next (keepQueue s (brushNext s b (.abs n) r ((k.acc n ((k.ra n).toInt.natAbs : Nat)).fall nx) i 1))) ∧
  (∀ n, Issues s b (.clr n) r i p →
    exec (.clr b n) s = .next (keepQueue s (brushNext s b (.clr n) r ((k.acc n 0).fall nx) i 1))) ∧
  (∀ n m, Issues s b (.cmp n m) r i p →
    exec (.cmp b n m) s = .next (keepQueue s (brushNext s b (.cmp n m) r ((k.accFlags ((k.ra n).toInt - (k.ra m).toInt)).fall nx) i 1))) ∧
  (∀ n c, Issues s b (.shl n c) r i p →
    exec (.shl b n c) s = .next (keepQueue s (brushNext s b (.shl n c) r ((k.acc n ((k.ra n).toInt * 2 ^ c.toNat)).fall nx) i 1))) ∧
  (∀ n c, Issues s b (.shr n c) r i p →
    exec (.shr b n c) s = .next (keepQueue s (brushNext s b (.shr n c) r ((k.acc n ((k.ra n).toInt / 2 ^ c.toNat)).fall nx) i 1))) ∧
  (∀ n, Issues s b (.rndc n) r i p →
    exec (.rndc b n) s = .next (keepQueue s (brushNext s b (.rndc n) r ((k.acc n (roundAcc (k.ra n).toInt)).fall nx) i 1))) ∧
  (∀ n x, x = (k.ra n).toInt → Issues s b (.sat n) r i p → beyond x = false →
    exec (.sat b n) s = .next (keepQueue s (brushNext s b (.sat n) r ((k.acc n x).fall nx) i 1))) ∧
  (∀ n x, x = (k.ra n).toInt → Issues s b (.sat n) r i p → beyond x = true →
    exec (.sat b n) s = .next (keepQueue s (brushNext s b (.sat n) r ((({ k with flg := { k.flg with clamp := true } } : BBank).acc n (if x < 0 then -(2 ^ 46) else 2 ^ 46 - 1)).fall nx) i 1))) ∧
  (∀ d n v, v = BitVec.ofNat 24 (signBits (k.ra n)) → Issues s b (.cls d n) r i p →
    exec (.cls b d n) s = .next (keepQueue s (brushNext s b (.cls d n) r (((k.wd d v).dFlags v none).fall nx) i 1)))

/-- The instructions of the data and address groups (R244, R250, R255). The model's choices in it are log entries 40 and 41. -/
def Obligations.BrushDataInstructionsComplete : Prop :=
  ∀ (s : State) (b : BrushRef) (r : BRun) (i : BInst) (p : BProg) (k : BBank) (nx : Nat),
    k = brushBank b s → nx = brushAfter b s →
  (∀ d x y v, v = k.rd x + k.rd y → Issues s b (.addd d x y) r i p →
    exec (.addd b d x y) s = .next (keepQueue s (brushNext s b (.addd d x y) r (((k.wd d v).dFlags v (some (decide (2 ^ 24 ≤ (k.rd x).toNat + (k.rd y).toNat)))).fall nx) i 1))) ∧
  (∀ d x y v, v = k.rd x - k.rd y → Issues s b (.subd d x y) r i p →
    exec (.subd b d x y) s = .next (keepQueue s (brushNext s b (.subd d x y) r (((k.wd d v).dFlags v (some (decide ((k.rd x).toNat < (k.rd y).toNat)))).fall nx) i 1))) ∧
  (∀ d x y v, v = k.rd x &&& k.rd y → Issues s b (.and d x y) r i p →
    exec (.and b d x y) s = .next (keepQueue s (brushNext s b (.and d x y) r (((k.wd d v).dFlags v none).fall nx) i 1))) ∧
  (∀ d x y v, v = k.rd x ||| k.rd y → Issues s b (.or d x y) r i p →
    exec (.or b d x y) s = .next (keepQueue s (brushNext s b (.or d x y) r (((k.wd d v).dFlags v none).fall nx) i 1))) ∧
  (∀ d x y v, v = k.rd x ^^^ k.rd y → Issues s b (.xor d x y) r i p →
    exec (.xor b d x y) s = .next (keepQueue s (brushNext s b (.xor d x y) r (((k.wd d v).dFlags v none).fall nx) i 1))) ∧
  (∀ d x v, v = ~~~(k.rd x) → Issues s b (.not d x) r i p →
    exec (.not b d x) s = .next (keepQueue s (brushNext s b (.not d x) r (((k.wd d v).dFlags v none).fall nx) i 1))) ∧
  (∀ d x c v, v = k.rd x <<< c.toNat → Issues s b (.lsl d x c) r i p →
    exec (.lsl b d x c) s = .next (keepQueue s (brushNext s b (.lsl d x c) r (((k.wd d v).dFlags v none).fall nx) i 1))) ∧
  (∀ d x c v, v = k.rd x >>> c.toNat → Issues s b (.lsr d x c) r i p →
    exec (.lsr b d x c) s = .next (keepQueue s (brushNext s b (.lsr d x c) r (((k.wd d v).dFlags v none).fall nx) i 1))) ∧
  (∀ d x c v, v = (k.rd x).sshiftRight c.toNat → Issues s b (.asrd d x c) r i p →
    exec (.asrd b d x c) s = .next (keepQueue s (brushNext s b (.asrd d x c) r (((k.wd d v).dFlags v none).fall nx) i 1))) ∧
  (∀ x y, Issues s b (.cmpd x y) r i p →
    exec (.cmpd b x y) s = .next (keepQueue s (brushNext s b (.cmpd x y) r ((k.dFlags (k.rd x - k.rd y) (some (decide ((k.rd x).toNat < (k.rd y).toNat)))).fall nx) i 1))) ∧
  (∀ q m, Issues s b (.lea q m) r i p →
    exec (.lea b q m) s = .next (keepQueue s (brushNext s b (.lea q m) r ((k.step q m).fall nx) i 1)))

/-- The instructions of the control group (R244, R252 to R255). The model's choices in it are log entries 40 and 42. -/
def Obligations.BrushControlInstructionsComplete : Prop :=
  ∀ (s : State) (b : BrushRef) (r : BRun) (i : BInst) (p : BProg) (k : BBank) (nx : Nat),
    k = brushBank b s → nx = brushAfter b s →
  (∀ t, Issues s b (.br t) r i p →
    exec (.br b t) s = .next (keepQueue s (brushNext s b (.br t) r { k with pc := t } i 2))) ∧
  (∀ c t, Issues s b (.brCond c t) r i p → k.flg.test c = true →
    exec (.brCond b c t) s = .next (keepQueue s (brushNext s b (.brCond c t) r { k with pc := t } i 2))) ∧
  (∀ c t, Issues s b (.brCond c t) r i p → k.flg.test c = false →
    exec (.brCond b c t) s = .next (keepQueue s (brushNext s b (.brCond c t) r (k.fall nx) i 1))) ∧
  (∀ t, Issues s b (.call t) r i p →
    exec (.call b t) s = .next (keepQueue s (brushNext s b (.call t) r { k with pc := t, calls := BitVec.ofNat 16 nx :: k.calls } i 2))) ∧
  (∀ a rest, Issues s b (.ret) r i p → k.calls = a :: rest →
    exec (.ret b) s = .next (keepQueue s (brushNext s b (.ret) r { k with pc := a, calls := rest } i 2))) ∧
  (∀ n e c, c = k.count n → Issues s b (.loop n e) r i p → c ≠ 0 →
    exec (.loop b n e) s = .next (keepQueue s (brushNext s b (.loop n e) r { k with loops := ⟨c, nx, e.toNat⟩ :: k.loops, pc := BitVec.ofNat 16 nx } i 2))) ∧
  (∀ n e, Issues s b (.loop n e) r i p → k.count n = 0 → (∀ l, k.loops.head? = some l → l.le ≠ nx) →
    exec (.loop b n e) s = .next (keepQueue s (brushNext s b (.loop n e) r { k with pc := e } i 2))) ∧
  (∀ l rest, Issues s b (.leave) r i p → k.loops = l :: rest →
    exec (.leave b) s = .next (keepQueue s (brushNext s b (.leave) r { k with loops := rest, pc := BitVec.ofNat 16 l.le } i 2))) ∧
  (Issues s b (.clrf) r i p →
    exec (.clrf b) s = .next (keepQueue s (brushNext s b (.clrf) r (({ k with flg := { k.flg with clamp := false, wrap := false } } : BBank).fall nx) i 1))) ∧
  (Issues s b (.nop) r i p →
    exec (.nop b) s = .next (keepQueue s (brushNext s b (.nop) r (k.fall nx) i 1)))

/-- The instructions of the task group (R264 to R266): a transfer is issued (`brushRun`), WAIT and HALT go on once no transfer is
outstanding, SIG raises its event, HALT ends the invocation. The model's choices in it are log entries 40 and 44. -/
def Obligations.BrushTaskInstructionsComplete : Prop :=
  ∀ (s : State) (b : BrushRef) (r : BRun) (i : BInst) (p : BProg) (k : BBank) (nx : Nat),
    k = brushBank b s → nx = brushAfter b s →
  (∀ d q y n, Issues s b (.xferR d q y n) r i p →
    exec (.xferR b d q y n) s = .next (keepQueue s (brushNext s b (.xferR d q y n) r (k.fall nx) i 1))) ∧
  (∀ d q y n, Issues s b (.xferW d q y n) r i p →
    exec (.xferW b d q y n) s = .next (keepQueue s (brushNext s b (.xferW d q y n) r (k.fall nx) i 1))) ∧
  (Issues s b (.wait) r i p →
    exec (.wait b) s = .next (keepQueue s (brushNext s b (.wait) r (k.fall nx) i 1))) ∧
  (Issues s b (.sig) r i p →
    exec (.sig b) s = .next (keepQueue s (sigDo (brushNext s b (.sig) r (k.fall nx) i 1) r.key k))) ∧
  (Issues s b (.halt) r i p →
    exec (.halt b) s = .next (keepQueue s
      (haltDone (brushNext s b (.halt) r (k.fall nx) i 1) b.core.toNat (brushRun s b (.halt) r 1) i p)))
end

