-- ==== Sys2Proof/Laws/Aes.lean ====
section
/-! SUPPORT. AES decryption by tables of bytes held in numbers, and that it is the decryption of FIPS 197 that key unwrapping uses
(R185): the kernel evaluates it fast. -/

namespace Sys2Proof.Machine

/-- Byte `x` of a table. -/
def look (t x : Nat) : Nat := (t >>> (8 * x)) % 256

/-- The inverse S-box. -/
def invSboxT : Nat :=
  0x7d0c2155631469e126d677ba7e042b17619953833cbbebc8b0f52aae4d3be0a0ef9cc9939f7ae52d0d4ab519a97f51605fec8027591012b131c7078833a8dd1ff45acd78fec0db9a2079d2c64b3e56fc1bbe18aa0e62b76f89c5291d711af1476edf751ce837f9e28535ade72274ac9673e6b4f0cecff297eadc674f4111913a6b8a130103bdafc1020f3fca8f1e2cd00645b3b80558e4f70ad3bc8c00abd890849d8da75746155edab9edfd5048706c92b6655dcc5ca4d41698688664f6f87225d18b6d49a25b76b224d92866a12e084ec3fa420b954cee3d23c2a632947b54cbe9dec444438e3487ff2f9b8239e37cfbd7f3819ea340bf38a53630d56a0952

/-- Products with 9. -/
def gmul9T : Nat :=
  0x464f545d626b70790e071c152a233831d6dfc4cdf2fbe0e99e978c85bab3a8a17d746f6659504b42353c272e1118030aede4fff6c9c0dbd2a5acb7be8188939a3039222b141d060f78716a635c554e47a0a9b2bb848d969fe8e1faf3ccc5ded70b0219102f263d34434a5158676e757c9b928980bfb6ada4d3dac1c8f7fee5ecaaa3b8b18e879c95e2ebf0f9c6cfd4dd3a3328211e170c05727b6069565f444d9198838ab5bca7aed9d0cbc2fdf4efe60108131a252c373e49405b526d647f76dcd5cec7f8f1eae3949d868fb0b9a2ab4c455e5768617a73040d161f2029323be7eef5fcc3cad1d8afa6bdb48b829990777e656c535a41483f362d241b120900

/-- Products with 11. -/
def gmul11T : Nat :=
  0xa3a8b5be8f849992fbf0ede6d7dcc1ca1318050e3f3429224b405d56676c717ad8d3cec5f4ffe2e9808b969daca7bab168637e75444f5259303b262d1c170a01555e434879726f640d061b10212a373ce5eef3f8c9c2dfd4bdb6aba0919a878c2e2538330209141f767d606b5a514c479e958883b2b9a4afc6cdd0dbeae1fcf7545f424978736e650c071a11202b363de4eff2f9c8c3ded5bcb7aaa1909b868d2f2439320308151e777c616a5b504d469f948982b3b8a5aec7ccd1daebe0fdf6a2a9b4bf8e859893faf1ece7d6ddc0cb1219040f3e3528234a415c57666d707bd9d2cfc4f5fee3e8818a979cada6bbb069627f74454e5358313a272c1d160b00

/-- Products with 13. -/
def gmul13T : Nat :=
  0x979a8d80a3aeb9b4fff2e5e8cbc6d1dc474a5d50737e69642f2235381b16010c2c21363b1815020f44495e53707d6a67fcf1e6ebc8c5d2df94998e83a0adbab7faf7e0edcec3d4d9929f8885a6abbcb12a27303d1e130409424f5855767b6c61414c5b5675786f622924333e1d10070a919c8b86a5a8bfb2f9f4e3eecdc0d7da4d40575a7974636e25283f32111c0b069d90878aa9a4b3bef5f8efe2c1ccdbd6f6fbece1c2cfd8d59e938489aaa7b0bd262b3c31121f08054e4354597a77606d202d3a3714190e034845525f7c71666bf0fdeae7c4c9ded39895828faca1b6bb9b96818cafa2b5b8f3fee9e4c7caddd04b46515c7f726568232e3934171a0d00

/-- Products with 14. -/
def gmul14T : Nat :=
  0x8d83919fb5bba9a7fdf3e1efc5cbd9d76d63717f555b49471d13010f252b393756584a446e60727c26283a341e10020cb6b8aaa48e80929cc6c8dad4fef0e2ec202e3c321816040a505e4c426866747ac0cedcd2f8f6e4eab0beaca28886949afbf5e7e9c3cddfd18b859799b3bdafa11b150709232d3f316b657779535d4f41ccc2d0def4fae8e6bcb2a0ae848a98962c22303e141a08065c52404e646a787617190b052f21333d67697b755f51434df7f9ebe5cfc1d3dd87899b95bfb1a3ad616f7d735957454b111f0d032927353b818f9d93b9b7a5abf1ffede3c9c7d5dbbab4a6a8828c9e90cac4d6d8f2fceee05a544648626c7e702a243638121c0e00

theorem invSbox_look : ∀ b : Fin 256, (invSbox (BitVec.ofNat 8 b)).toNat = look invSboxT b := by decide +kernel
theorem gmul9_look : ∀ b : Fin 256, (gmul 9 (BitVec.ofNat 8 b)).toNat = look gmul9T b := by decide +kernel
theorem gmul11_look : ∀ b : Fin 256, (gmul 11 (BitVec.ofNat 8 b)).toNat = look gmul11T b := by decide +kernel
theorem gmul13_look : ∀ b : Fin 256, (gmul 13 (BitVec.ofNat 8 b)).toNat = look gmul13T b := by decide +kernel
theorem gmul14_look : ∀ b : Fin 256, (gmul 14 (BitVec.ofNat 8 b)).toNat = look gmul14T b := by decide +kernel


theorem byte_look (f : Byte → Byte) (t : Nat) (h : ∀ b : Fin 256, (f (BitVec.ofNat 8 b)).toNat = look t b) (b : Byte) :
    f b = BitVec.ofNat 8 (look t b.toNat) := by
  have := h ⟨b.toNat, b.isLt⟩
  simp only [BitVec.ofNat_toNat, BitVec.setWidth_eq] at this
  rw [← this, BitVec.ofNat_toNat, BitVec.setWidth_eq]

/-- The inverse of SubBytes and ShiftRows on bytes as numbers. -/
def subShiftN (b : List Nat) : List Nat := (List.range 16).map (fun i => look invSboxT (b.getD ((i + 12 * (i % 4)) % 16) 0))

/-- The tables of the products with 14, 11, 13 and 9. -/
def mixT : List Nat := [gmul14T, gmul11T, gmul13T, gmul9T]

/-- The inverse of MixColumns on bytes as numbers. -/
def mixN (b : List Nat) : List Nat :=
  (List.range 16).map (fun i =>
    (List.range 4).foldl (fun a j => a ^^^ look (mixT.getD ((j + 4 - i % 4) % 4) 0) (b.getD (i / 4 * 4 + j) 0)) 0)

def toNats (b : List Byte) : List Nat := b.map BitVec.toNat
def ofNats (b : List Nat) : List Byte := b.map (BitVec.ofNat 8)

theorem ofNats_toNats (b : List Byte) : ofNats (toNats b) = b := by simp [ofNats, toNats, Function.comp_def]


theorem look_lt (t x : Nat) : look t x < 256 := Nat.mod_lt _ (by decide)

theorem toNat_look (t x : Nat) : (BitVec.ofNat 8 (look t x)).toNat = look t x := by
  simp [Nat.mod_eq_of_lt (look_lt t x)]

theorem getD_toNats (b : List Byte) (i : Nat) : (toNats b).getD i 0 = (b.getD i 0).toNat := by
  simp [toNats, List.getD, List.getElem?_map]
  cases b[i]? <;> rfl

theorem subShiftN_eq (b : List Byte) : subShiftN (toNats b) = toNats (invSubShift b) := by
  simp only [subShiftN, invSubShift, toNats, List.map_map]
  refine List.map_congr_left (fun i _ => ?_)
  rw [← toNats, getD_toNats, Function.comp, byte_look invSbox _ invSbox_look, toNat_look]

theorem gmul_mixT (k : Nat) (h : k < 4) (x : Byte) :
    (gmul (([14, 11, 13, 9] : List Byte).getD k 0) x).toNat = look (mixT.getD k 0) x.toNat := by
  have e : k = 0 ∨ k = 1 ∨ k = 2 ∨ k = 3 := by omega
  rcases e with rfl | rfl | rfl | rfl
  · exact (congrArg BitVec.toNat (byte_look _ _ gmul14_look x)).trans (toNat_look _ _)
  · exact (congrArg BitVec.toNat (byte_look _ _ gmul11_look x)).trans (toNat_look _ _)
  · exact (congrArg BitVec.toNat (byte_look _ _ gmul13_look x)).trans (toNat_look _ _)
  · exact (congrArg BitVec.toNat (byte_look _ _ gmul9_look x)).trans (toNat_look _ _)

theorem mixN_eq (b : List Byte) : mixN (toNats b) = toNats (mixCols [14, 11, 13, 9] b) := by
  simp only [mixN, mixCols, toNats, List.map_map]
  refine List.map_congr_left (fun i _ => ?_)
  rw [← toNats]
  have e : List.range 4 = [0, 1, 2, 3] := rfl
  have m (k : Nat) : k % 4 < 4 := Nat.mod_lt _ (by decide)
  simp only [Function.comp, e, List.foldl, BitVec.toNat_xor, getD_toNats, gmul_mixT _ (m _)]
  rfl

theorem xorN_eq (a b : List Byte) : List.zipWith (· ^^^ ·) (toNats a) (toNats b) = toNats (xorB a b) := by
  simp [toNats, xorB, List.zipWith_map, List.map_zipWith]

/-- The inverse of SubBytes and ShiftRows on sixteen bytes as numbers. -/
def sub16 (b : List Nat) : List Nat :=
  match b with
  | [a0, a1, a2, a3, a4, a5, a6, a7, a8, a9, a10, a11, a12, a13, a14, a15] =>
    [look invSboxT a0, look invSboxT a13, look invSboxT a10, look invSboxT a7, look invSboxT a4, look invSboxT a1, look invSboxT a14, look invSboxT a11,
     look invSboxT a8, look invSboxT a5, look invSboxT a2, look invSboxT a15, look invSboxT a12, look invSboxT a9, look invSboxT a6, look invSboxT a3]
  | _ => []

/-- The inverse of MixColumns on one column. -/
def mixCol (a b c d : Nat) (r : List Nat) : List Nat :=
  (look gmul14T a ^^^ look gmul11T b ^^^ look gmul13T c ^^^ look gmul9T d) ::
  (look gmul9T a ^^^ look gmul14T b ^^^ look gmul11T c ^^^ look gmul13T d) ::
  (look gmul13T a ^^^ look gmul9T b ^^^ look gmul14T c ^^^ look gmul11T d) ::
  (look gmul11T a ^^^ look gmul13T b ^^^ look gmul9T c ^^^ look gmul14T d) :: r

def mix16 (b : List Nat) : List Nat :=
  match b with
  | [a0, a1, a2, a3, a4, a5, a6, a7, a8, a9, a10, a11, a12, a13, a14, a15] =>
    mixCol a0 a1 a2 a3 (mixCol a4 a5 a6 a7 (mixCol a8 a9 a10 a11 (mixCol a12 a13 a14 a15 [])))
  | _ => []

theorem sub16_eq (b : List Byte) (h : b.length = 16) : sub16 (toNats b) = toNats (invSubShift b) := by
  rw [← subShiftN_eq]
  match b, h with
  | [a0, a1, a2, a3, a4, a5, a6, a7, a8, a9, a10, a11, a12, a13, a14, a15], _ => rfl

theorem mix16_eq (b : List Byte) (h : b.length = 16) : mix16 (toNats b) = toNats (mixCols [14, 11, 13, 9] b) := by
  rw [← mixN_eq]
  match b, h with
  | [a0, a1, a2, a3, a4, a5, a6, a7, a8, a9, a10, a11, a12, a13, a14, a15], _ =>
    simp [mix16, mixN, mixCol, mixT, toNats, List.range, List.range.loop]

def rounds16 (rks : List (List Nat)) (b : List Nat) : List Nat :=
  match rks with
  | [] => b
  | [k] => List.zipWith (· ^^^ ·) (sub16 b) k
  | k :: r => rounds16 r (mix16 (List.zipWith (· ^^^ ·) (sub16 b) k))

theorem rounds16_eq (rks : List (List Byte)) (hk : ∀ k ∈ rks, k.length = 16) (b : List Byte) (hb : b.length = 16) :
    rounds16 (rks.map toNats) (toNats b) = toNats (aesInvRounds rks b) := by
  induction rks generalizing b with
  | nil => rfl
  | cons k r ih =>
    have hx : (xorB (invSubShift b) k).length = 16 := by simp [xorB, invSubShift, hk k (by simp)]
    cases r with
    | nil => simp only [List.map, rounds16, aesInvRounds, sub16_eq b hb, xorN_eq]
    | cons k2 r =>
      have hm : (mixCols [14, 11, 13, 9] (xorB (invSubShift b) k)).length = 16 := by simp [mixCols]
      have := ih (fun x hx => hk x (List.mem_cons_of_mem _ hx)) _ hm
      simp only [List.map, rounds16, aesInvRounds, sub16_eq b hb, xorN_eq, mix16_eq _ hx] at this ⊢
      exact this

/-- AES decryption of a block with its round keys given, newest first, as numbers. -/
theorem aesDec_rounds (key k : List Byte) (r : List (List Byte)) (h : (roundKeys key).reverse = k :: r)
    (hk : ∀ x ∈ k :: r, x.length = 16) (b : List Byte) (hb : b.length = 16) :
    aesDec key b = ofNats (rounds16 (r.map toNats) (List.zipWith (· ^^^ ·) (toNats b) (toNats k))) := by
  have hx : (xorB b k).length = 16 := by simp [xorB, hb, hk k (by simp)]
  rw [aesDec, h, xorN_eq, rounds16_eq r (fun x m => hk x (List.mem_cons_of_mem _ m)) _ hx, ofNats_toNats]

end Sys2Proof.Machine
end

