-- ==== Sys2Proof/Laws/State.lean ====
section
/-! SUPPORT. What each update of the state leaves as it was: one lemma per field and update. -/

namespace Sys2Proof.Laws

open Sys2Proof.Machine

/-! ## setReg -/

@[simp] theorem setReg_pending (s : State) (a : Nat) (w : Word) : (setReg s a w).pending = s.pending := rfl
@[simp] theorem setReg_hostMem (s : State) (a : Nat) (w : Word) : (setReg s a w).hostMem = s.hostMem := rfl
@[simp] theorem setReg_clk (s : State) (a : Nat) (w : Word) : (setReg s a w).clk = s.clk := rfl
@[simp] theorem setReg_easel (s : State) (a : Nat) (w : Word) : (setReg s a w).easel = s.easel := rfl
@[simp] theorem setReg_hif (s : State) (a : Nat) (w : Word) : (setReg s a w).hif = s.hif := rfl
@[simp] theorem setReg_agenda (s : State) (a : Nat) (w : Word) : (setReg s a w).agenda = s.agenda := rfl
@[simp] theorem setReg_adm (s : State) (a : Nat) (w : Word) : (setReg s a w).adm = s.adm := rfl
@[simp] theorem setReg_net (s : State) (a : Nat) (w : Word) : (setReg s a w).net = s.net := rfl
@[simp] theorem setReg_fwd (s : State) (a : Nat) (w : Word) : (setReg s a w).fwd = s.fwd := rfl
@[simp] theorem setReg_key (s : State) (a : Nat) (w : Word) : (setReg s a w).key = s.key := rfl
@[simp] theorem setReg_cip (s : State) (a : Nat) (w : Word) : (setReg s a w).cip = s.cip := rfl
@[simp] theorem setReg_aud (s : State) (a : Nat) (w : Word) : (setReg s a w).aud = s.aud := rfl
@[simp] theorem setReg_brs (s : State) (a : Nat) (w : Word) : (setReg s a w).brs = s.brs := rfl
@[simp] theorem setReg_vid (s : State) (a : Nat) (w : Word) : (setReg s a w).vid = s.vid := rfl
@[simp] theorem setReg_cnv (s : State) (a : Nat) (w : Word) : (setReg s a w).cnv = s.cnv := rfl
@[simp] theorem setReg_mem (s : State) (a : Nat) (w : Word) : (setReg s a w).mem = s.mem := rfl
@[simp] theorem setReg_cal (s : State) (a : Nat) (w : Word) : (setReg s a w).cal = s.cal := rfl
@[simp] theorem setReg_ptp (s : State) (a : Nat) (w : Word) : (setReg s a w).ptp = s.ptp := rfl
@[simp] theorem setReg_msh (s : State) (a : Nat) (w : Word) : (setReg s a w).msh = s.msh := rfl
@[simp] theorem setReg_pwr (s : State) (a : Nat) (w : Word) : (setReg s a w).pwr = s.pwr := rfl
@[simp] theorem setReg_jtag (s : State) (a : Nat) (w : Word) : (setReg s a w).jtag = s.jtag := rfl
@[simp] theorem setReg_out (s : State) (a : Nat) (w : Word) : (setReg s a w).out = s.out := rfl

/-! ## setFld -/

@[simp] theorem setFld_pending (s : State) (f : Field) (v : Nat) : (setFld s f v).pending = s.pending := rfl
@[simp] theorem setFld_hostMem (s : State) (f : Field) (v : Nat) : (setFld s f v).hostMem = s.hostMem := rfl
@[simp] theorem setFld_clk (s : State) (f : Field) (v : Nat) : (setFld s f v).clk = s.clk := rfl
@[simp] theorem setFld_easel (s : State) (f : Field) (v : Nat) : (setFld s f v).easel = s.easel := rfl
@[simp] theorem setFld_hif (s : State) (f : Field) (v : Nat) : (setFld s f v).hif = s.hif := rfl
@[simp] theorem setFld_agenda (s : State) (f : Field) (v : Nat) : (setFld s f v).agenda = s.agenda := rfl
@[simp] theorem setFld_adm (s : State) (f : Field) (v : Nat) : (setFld s f v).adm = s.adm := rfl
@[simp] theorem setFld_net (s : State) (f : Field) (v : Nat) : (setFld s f v).net = s.net := rfl
@[simp] theorem setFld_fwd (s : State) (f : Field) (v : Nat) : (setFld s f v).fwd = s.fwd := rfl
@[simp] theorem setFld_key (s : State) (f : Field) (v : Nat) : (setFld s f v).key = s.key := rfl
@[simp] theorem setFld_cip (s : State) (f : Field) (v : Nat) : (setFld s f v).cip = s.cip := rfl
@[simp] theorem setFld_aud (s : State) (f : Field) (v : Nat) : (setFld s f v).aud = s.aud := rfl
@[simp] theorem setFld_brs (s : State) (f : Field) (v : Nat) : (setFld s f v).brs = s.brs := rfl
@[simp] theorem setFld_vid (s : State) (f : Field) (v : Nat) : (setFld s f v).vid = s.vid := rfl
@[simp] theorem setFld_cnv (s : State) (f : Field) (v : Nat) : (setFld s f v).cnv = s.cnv := rfl
@[simp] theorem setFld_mem (s : State) (f : Field) (v : Nat) : (setFld s f v).mem = s.mem := rfl
@[simp] theorem setFld_cal (s : State) (f : Field) (v : Nat) : (setFld s f v).cal = s.cal := rfl
@[simp] theorem setFld_ptp (s : State) (f : Field) (v : Nat) : (setFld s f v).ptp = s.ptp := rfl
@[simp] theorem setFld_msh (s : State) (f : Field) (v : Nat) : (setFld s f v).msh = s.msh := rfl
@[simp] theorem setFld_pwr (s : State) (f : Field) (v : Nat) : (setFld s f v).pwr = s.pwr := rfl
@[simp] theorem setFld_jtag (s : State) (f : Field) (v : Nat) : (setFld s f v).jtag = s.jtag := rfl
@[simp] theorem setFld_out (s : State) (f : Field) (v : Nat) : (setFld s f v).out = s.out := rfl

/-! ## setBit -/

@[simp] theorem setBit_pending (s : State) (f : Field) : (setBit s f).pending = s.pending := rfl
@[simp] theorem setBit_hostMem (s : State) (f : Field) : (setBit s f).hostMem = s.hostMem := rfl
@[simp] theorem setBit_clk (s : State) (f : Field) : (setBit s f).clk = s.clk := rfl
@[simp] theorem setBit_easel (s : State) (f : Field) : (setBit s f).easel = s.easel := rfl
@[simp] theorem setBit_hif (s : State) (f : Field) : (setBit s f).hif = s.hif := rfl
@[simp] theorem setBit_agenda (s : State) (f : Field) : (setBit s f).agenda = s.agenda := rfl
@[simp] theorem setBit_adm (s : State) (f : Field) : (setBit s f).adm = s.adm := rfl
@[simp] theorem setBit_net (s : State) (f : Field) : (setBit s f).net = s.net := rfl
@[simp] theorem setBit_fwd (s : State) (f : Field) : (setBit s f).fwd = s.fwd := rfl
@[simp] theorem setBit_key (s : State) (f : Field) : (setBit s f).key = s.key := rfl
@[simp] theorem setBit_cip (s : State) (f : Field) : (setBit s f).cip = s.cip := rfl
@[simp] theorem setBit_aud (s : State) (f : Field) : (setBit s f).aud = s.aud := rfl
@[simp] theorem setBit_brs (s : State) (f : Field) : (setBit s f).brs = s.brs := rfl
@[simp] theorem setBit_vid (s : State) (f : Field) : (setBit s f).vid = s.vid := rfl
@[simp] theorem setBit_cnv (s : State) (f : Field) : (setBit s f).cnv = s.cnv := rfl
@[simp] theorem setBit_mem (s : State) (f : Field) : (setBit s f).mem = s.mem := rfl
@[simp] theorem setBit_cal (s : State) (f : Field) : (setBit s f).cal = s.cal := rfl
@[simp] theorem setBit_ptp (s : State) (f : Field) : (setBit s f).ptp = s.ptp := rfl
@[simp] theorem setBit_msh (s : State) (f : Field) : (setBit s f).msh = s.msh := rfl
@[simp] theorem setBit_pwr (s : State) (f : Field) : (setBit s f).pwr = s.pwr := rfl
@[simp] theorem setBit_jtag (s : State) (f : Field) : (setBit s f).jtag = s.jtag := rfl
@[simp] theorem setBit_out (s : State) (f : Field) : (setBit s f).out = s.out := rfl

/-! ## bump -/

@[simp] theorem bump_pending (s : State) (f : Field) (n : Nat) : (bump s f n).pending = s.pending := rfl
@[simp] theorem bump_hostMem (s : State) (f : Field) (n : Nat) : (bump s f n).hostMem = s.hostMem := rfl
@[simp] theorem bump_clk (s : State) (f : Field) (n : Nat) : (bump s f n).clk = s.clk := rfl
@[simp] theorem bump_easel (s : State) (f : Field) (n : Nat) : (bump s f n).easel = s.easel := rfl
@[simp] theorem bump_hif (s : State) (f : Field) (n : Nat) : (bump s f n).hif = s.hif := rfl
@[simp] theorem bump_agenda (s : State) (f : Field) (n : Nat) : (bump s f n).agenda = s.agenda := rfl
@[simp] theorem bump_adm (s : State) (f : Field) (n : Nat) : (bump s f n).adm = s.adm := rfl
@[simp] theorem bump_net (s : State) (f : Field) (n : Nat) : (bump s f n).net = s.net := rfl
@[simp] theorem bump_fwd (s : State) (f : Field) (n : Nat) : (bump s f n).fwd = s.fwd := rfl
@[simp] theorem bump_key (s : State) (f : Field) (n : Nat) : (bump s f n).key = s.key := rfl
@[simp] theorem bump_cip (s : State) (f : Field) (n : Nat) : (bump s f n).cip = s.cip := rfl
@[simp] theorem bump_aud (s : State) (f : Field) (n : Nat) : (bump s f n).aud = s.aud := rfl
@[simp] theorem bump_brs (s : State) (f : Field) (n : Nat) : (bump s f n).brs = s.brs := rfl
@[simp] theorem bump_vid (s : State) (f : Field) (n : Nat) : (bump s f n).vid = s.vid := rfl
@[simp] theorem bump_cnv (s : State) (f : Field) (n : Nat) : (bump s f n).cnv = s.cnv := rfl
@[simp] theorem bump_mem (s : State) (f : Field) (n : Nat) : (bump s f n).mem = s.mem := rfl
@[simp] theorem bump_cal (s : State) (f : Field) (n : Nat) : (bump s f n).cal = s.cal := rfl
@[simp] theorem bump_ptp (s : State) (f : Field) (n : Nat) : (bump s f n).ptp = s.ptp := rfl
@[simp] theorem bump_msh (s : State) (f : Field) (n : Nat) : (bump s f n).msh = s.msh := rfl
@[simp] theorem bump_pwr (s : State) (f : Field) (n : Nat) : (bump s f n).pwr = s.pwr := rfl
@[simp] theorem bump_jtag (s : State) (f : Field) (n : Nat) : (bump s f n).jtag = s.jtag := rfl
@[simp] theorem bump_out (s : State) (f : Field) (n : Nat) : (bump s f n).out = s.out := rfl

/-! ## hostWrite -/

@[simp] theorem hostWrite_pending (s : State) (a : Nat) (w : Word) : (hostWrite s a w).pending = s.pending := rfl
@[simp] theorem hostWrite_regs (s : State) (a : Nat) (w : Word) : (hostWrite s a w).regs = s.regs := rfl
@[simp] theorem hostWrite_clk (s : State) (a : Nat) (w : Word) : (hostWrite s a w).clk = s.clk := rfl
@[simp] theorem hostWrite_easel (s : State) (a : Nat) (w : Word) : (hostWrite s a w).easel = s.easel := rfl
@[simp] theorem hostWrite_hif (s : State) (a : Nat) (w : Word) : (hostWrite s a w).hif = s.hif := rfl
@[simp] theorem hostWrite_agenda (s : State) (a : Nat) (w : Word) : (hostWrite s a w).agenda = s.agenda := rfl
@[simp] theorem hostWrite_adm (s : State) (a : Nat) (w : Word) : (hostWrite s a w).adm = s.adm := rfl
@[simp] theorem hostWrite_net (s : State) (a : Nat) (w : Word) : (hostWrite s a w).net = s.net := rfl
@[simp] theorem hostWrite_fwd (s : State) (a : Nat) (w : Word) : (hostWrite s a w).fwd = s.fwd := rfl
@[simp] theorem hostWrite_key (s : State) (a : Nat) (w : Word) : (hostWrite s a w).key = s.key := rfl
@[simp] theorem hostWrite_cip (s : State) (a : Nat) (w : Word) : (hostWrite s a w).cip = s.cip := rfl
@[simp] theorem hostWrite_aud (s : State) (a : Nat) (w : Word) : (hostWrite s a w).aud = s.aud := rfl
@[simp] theorem hostWrite_brs (s : State) (a : Nat) (w : Word) : (hostWrite s a w).brs = s.brs := rfl
@[simp] theorem hostWrite_vid (s : State) (a : Nat) (w : Word) : (hostWrite s a w).vid = s.vid := rfl
@[simp] theorem hostWrite_cnv (s : State) (a : Nat) (w : Word) : (hostWrite s a w).cnv = s.cnv := rfl
@[simp] theorem hostWrite_mem (s : State) (a : Nat) (w : Word) : (hostWrite s a w).mem = s.mem := rfl
@[simp] theorem hostWrite_cal (s : State) (a : Nat) (w : Word) : (hostWrite s a w).cal = s.cal := rfl
@[simp] theorem hostWrite_ptp (s : State) (a : Nat) (w : Word) : (hostWrite s a w).ptp = s.ptp := rfl
@[simp] theorem hostWrite_msh (s : State) (a : Nat) (w : Word) : (hostWrite s a w).msh = s.msh := rfl
@[simp] theorem hostWrite_pwr (s : State) (a : Nat) (w : Word) : (hostWrite s a w).pwr = s.pwr := rfl
@[simp] theorem hostWrite_jtag (s : State) (a : Nat) (w : Word) : (hostWrite s a w).jtag = s.jtag := rfl
@[simp] theorem hostWrite_out (s : State) (a : Nat) (w : Word) : (hostWrite s a w).out = s.out := rfl

/-! ## emitOut -/

@[simp] theorem emitOut_pending (s : State) (m : OutMsg) : (emitOut s m).pending = s.pending := rfl
@[simp] theorem emitOut_regs (s : State) (m : OutMsg) : (emitOut s m).regs = s.regs := rfl
@[simp] theorem emitOut_hostMem (s : State) (m : OutMsg) : (emitOut s m).hostMem = s.hostMem := rfl
@[simp] theorem emitOut_clk (s : State) (m : OutMsg) : (emitOut s m).clk = s.clk := rfl
@[simp] theorem emitOut_easel (s : State) (m : OutMsg) : (emitOut s m).easel = s.easel := rfl
@[simp] theorem emitOut_hif (s : State) (m : OutMsg) : (emitOut s m).hif = s.hif := rfl
@[simp] theorem emitOut_agenda (s : State) (m : OutMsg) : (emitOut s m).agenda = s.agenda := rfl
@[simp] theorem emitOut_adm (s : State) (m : OutMsg) : (emitOut s m).adm = s.adm := rfl
@[simp] theorem emitOut_net (s : State) (m : OutMsg) : (emitOut s m).net = s.net := rfl
@[simp] theorem emitOut_fwd (s : State) (m : OutMsg) : (emitOut s m).fwd = s.fwd := rfl
@[simp] theorem emitOut_key (s : State) (m : OutMsg) : (emitOut s m).key = s.key := rfl
@[simp] theorem emitOut_cip (s : State) (m : OutMsg) : (emitOut s m).cip = s.cip := rfl
@[simp] theorem emitOut_aud (s : State) (m : OutMsg) : (emitOut s m).aud = s.aud := rfl
@[simp] theorem emitOut_brs (s : State) (m : OutMsg) : (emitOut s m).brs = s.brs := rfl
@[simp] theorem emitOut_vid (s : State) (m : OutMsg) : (emitOut s m).vid = s.vid := rfl
@[simp] theorem emitOut_cnv (s : State) (m : OutMsg) : (emitOut s m).cnv = s.cnv := rfl
@[simp] theorem emitOut_mem (s : State) (m : OutMsg) : (emitOut s m).mem = s.mem := rfl
@[simp] theorem emitOut_cal (s : State) (m : OutMsg) : (emitOut s m).cal = s.cal := rfl
@[simp] theorem emitOut_ptp (s : State) (m : OutMsg) : (emitOut s m).ptp = s.ptp := rfl
@[simp] theorem emitOut_msh (s : State) (m : OutMsg) : (emitOut s m).msh = s.msh := rfl
@[simp] theorem emitOut_pwr (s : State) (m : OutMsg) : (emitOut s m).pwr = s.pwr := rfl
@[simp] theorem emitOut_jtag (s : State) (m : OutMsg) : (emitOut s m).jtag = s.jtag := rfl

/-! ## setFn -/

@[simp] theorem setFn_pending (s : State) (f : Nat) (x : Fn) : (setFn s f x).pending = s.pending := rfl
@[simp] theorem setFn_regs (s : State) (f : Nat) (x : Fn) : (setFn s f x).regs = s.regs := rfl
@[simp] theorem setFn_hostMem (s : State) (f : Nat) (x : Fn) : (setFn s f x).hostMem = s.hostMem := rfl
@[simp] theorem setFn_clk (s : State) (f : Nat) (x : Fn) : (setFn s f x).clk = s.clk := rfl
@[simp] theorem setFn_easel (s : State) (f : Nat) (x : Fn) : (setFn s f x).easel = s.easel := rfl
@[simp] theorem setFn_agenda (s : State) (f : Nat) (x : Fn) : (setFn s f x).agenda = s.agenda := rfl
@[simp] theorem setFn_adm (s : State) (f : Nat) (x : Fn) : (setFn s f x).adm = s.adm := rfl
@[simp] theorem setFn_net (s : State) (f : Nat) (x : Fn) : (setFn s f x).net = s.net := rfl
@[simp] theorem setFn_fwd (s : State) (f : Nat) (x : Fn) : (setFn s f x).fwd = s.fwd := rfl
@[simp] theorem setFn_key (s : State) (f : Nat) (x : Fn) : (setFn s f x).key = s.key := rfl
@[simp] theorem setFn_cip (s : State) (f : Nat) (x : Fn) : (setFn s f x).cip = s.cip := rfl
@[simp] theorem setFn_aud (s : State) (f : Nat) (x : Fn) : (setFn s f x).aud = s.aud := rfl
@[simp] theorem setFn_brs (s : State) (f : Nat) (x : Fn) : (setFn s f x).brs = s.brs := rfl
@[simp] theorem setFn_vid (s : State) (f : Nat) (x : Fn) : (setFn s f x).vid = s.vid := rfl
@[simp] theorem setFn_cnv (s : State) (f : Nat) (x : Fn) : (setFn s f x).cnv = s.cnv := rfl
@[simp] theorem setFn_mem (s : State) (f : Nat) (x : Fn) : (setFn s f x).mem = s.mem := rfl
@[simp] theorem setFn_cal (s : State) (f : Nat) (x : Fn) : (setFn s f x).cal = s.cal := rfl
@[simp] theorem setFn_ptp (s : State) (f : Nat) (x : Fn) : (setFn s f x).ptp = s.ptp := rfl
@[simp] theorem setFn_msh (s : State) (f : Nat) (x : Fn) : (setFn s f x).msh = s.msh := rfl
@[simp] theorem setFn_pwr (s : State) (f : Nat) (x : Fn) : (setFn s f x).pwr = s.pwr := rfl
@[simp] theorem setFn_jtag (s : State) (f : Nat) (x : Fn) : (setFn s f x).jtag = s.jtag := rfl
@[simp] theorem setFn_out (s : State) (f : Nat) (x : Fn) : (setFn s f x).out = s.out := rfl

/-! ## setRing -/

@[simp] theorem setRing_pending (s : State) (f q : Nat) (r : Ring) : (setRing s f q r).pending = s.pending := rfl
@[simp] theorem setRing_regs (s : State) (f q : Nat) (r : Ring) : (setRing s f q r).regs = s.regs := rfl
@[simp] theorem setRing_hostMem (s : State) (f q : Nat) (r : Ring) : (setRing s f q r).hostMem = s.hostMem := rfl
@[simp] theorem setRing_clk (s : State) (f q : Nat) (r : Ring) : (setRing s f q r).clk = s.clk := rfl
@[simp] theorem setRing_easel (s : State) (f q : Nat) (r : Ring) : (setRing s f q r).easel = s.easel := rfl
@[simp] theorem setRing_agenda (s : State) (f q : Nat) (r : Ring) : (setRing s f q r).agenda = s.agenda := rfl
@[simp] theorem setRing_adm (s : State) (f q : Nat) (r : Ring) : (setRing s f q r).adm = s.adm := rfl
@[simp] theorem setRing_net (s : State) (f q : Nat) (r : Ring) : (setRing s f q r).net = s.net := rfl
@[simp] theorem setRing_fwd (s : State) (f q : Nat) (r : Ring) : (setRing s f q r).fwd = s.fwd := rfl
@[simp] theorem setRing_key (s : State) (f q : Nat) (r : Ring) : (setRing s f q r).key = s.key := rfl
@[simp] theorem setRing_cip (s : State) (f q : Nat) (r : Ring) : (setRing s f q r).cip = s.cip := rfl
@[simp] theorem setRing_aud (s : State) (f q : Nat) (r : Ring) : (setRing s f q r).aud = s.aud := rfl
@[simp] theorem setRing_brs (s : State) (f q : Nat) (r : Ring) : (setRing s f q r).brs = s.brs := rfl
@[simp] theorem setRing_vid (s : State) (f q : Nat) (r : Ring) : (setRing s f q r).vid = s.vid := rfl
@[simp] theorem setRing_cnv (s : State) (f q : Nat) (r : Ring) : (setRing s f q r).cnv = s.cnv := rfl
@[simp] theorem setRing_mem (s : State) (f q : Nat) (r : Ring) : (setRing s f q r).mem = s.mem := rfl
@[simp] theorem setRing_cal (s : State) (f q : Nat) (r : Ring) : (setRing s f q r).cal = s.cal := rfl
@[simp] theorem setRing_ptp (s : State) (f q : Nat) (r : Ring) : (setRing s f q r).ptp = s.ptp := rfl
@[simp] theorem setRing_msh (s : State) (f q : Nat) (r : Ring) : (setRing s f q r).msh = s.msh := rfl
@[simp] theorem setRing_pwr (s : State) (f q : Nat) (r : Ring) : (setRing s f q r).pwr = s.pwr := rfl
@[simp] theorem setRing_jtag (s : State) (f q : Nat) (r : Ring) : (setRing s f q r).jtag = s.jtag := rfl
@[simp] theorem setRing_out (s : State) (f q : Nat) (r : Ring) : (setRing s f q r).out = s.out := rfl

/-! ## setVec -/

@[simp] theorem setVec_pending (s : State) (f v : Nat) (x : Vec) : (setVec s f v x).pending = s.pending := rfl
@[simp] theorem setVec_regs (s : State) (f v : Nat) (x : Vec) : (setVec s f v x).regs = s.regs := rfl
@[simp] theorem setVec_hostMem (s : State) (f v : Nat) (x : Vec) : (setVec s f v x).hostMem = s.hostMem := rfl
@[simp] theorem setVec_clk (s : State) (f v : Nat) (x : Vec) : (setVec s f v x).clk = s.clk := rfl
@[simp] theorem setVec_easel (s : State) (f v : Nat) (x : Vec) : (setVec s f v x).easel = s.easel := rfl
@[simp] theorem setVec_agenda (s : State) (f v : Nat) (x : Vec) : (setVec s f v x).agenda = s.agenda := rfl
@[simp] theorem setVec_adm (s : State) (f v : Nat) (x : Vec) : (setVec s f v x).adm = s.adm := rfl
@[simp] theorem setVec_net (s : State) (f v : Nat) (x : Vec) : (setVec s f v x).net = s.net := rfl
@[simp] theorem setVec_fwd (s : State) (f v : Nat) (x : Vec) : (setVec s f v x).fwd = s.fwd := rfl
@[simp] theorem setVec_key (s : State) (f v : Nat) (x : Vec) : (setVec s f v x).key = s.key := rfl
@[simp] theorem setVec_cip (s : State) (f v : Nat) (x : Vec) : (setVec s f v x).cip = s.cip := rfl
@[simp] theorem setVec_aud (s : State) (f v : Nat) (x : Vec) : (setVec s f v x).aud = s.aud := rfl
@[simp] theorem setVec_brs (s : State) (f v : Nat) (x : Vec) : (setVec s f v x).brs = s.brs := rfl
@[simp] theorem setVec_vid (s : State) (f v : Nat) (x : Vec) : (setVec s f v x).vid = s.vid := rfl
@[simp] theorem setVec_cnv (s : State) (f v : Nat) (x : Vec) : (setVec s f v x).cnv = s.cnv := rfl
@[simp] theorem setVec_mem (s : State) (f v : Nat) (x : Vec) : (setVec s f v x).mem = s.mem := rfl
@[simp] theorem setVec_cal (s : State) (f v : Nat) (x : Vec) : (setVec s f v x).cal = s.cal := rfl
@[simp] theorem setVec_ptp (s : State) (f v : Nat) (x : Vec) : (setVec s f v x).ptp = s.ptp := rfl
@[simp] theorem setVec_msh (s : State) (f v : Nat) (x : Vec) : (setVec s f v x).msh = s.msh := rfl
@[simp] theorem setVec_pwr (s : State) (f v : Nat) (x : Vec) : (setVec s f v x).pwr = s.pwr := rfl
@[simp] theorem setVec_jtag (s : State) (f v : Nat) (x : Vec) : (setVec s f v x).jtag = s.jtag := rfl
@[simp] theorem setVec_out (s : State) (f v : Nat) (x : Vec) : (setVec s f v x).out = s.out := rfl

/-! ## setPwr -/

@[simp] theorem setPwr_pending (s : State) (p : Pwr) : (setPwr s p).pending = s.pending := rfl
@[simp] theorem setPwr_regs (s : State) (p : Pwr) : (setPwr s p).regs = s.regs := rfl
@[simp] theorem setPwr_hostMem (s : State) (p : Pwr) : (setPwr s p).hostMem = s.hostMem := rfl
@[simp] theorem setPwr_clk (s : State) (p : Pwr) : (setPwr s p).clk = s.clk := rfl
@[simp] theorem setPwr_easel (s : State) (p : Pwr) : (setPwr s p).easel = s.easel := rfl
@[simp] theorem setPwr_hif (s : State) (p : Pwr) : (setPwr s p).hif = s.hif := rfl
@[simp] theorem setPwr_agenda (s : State) (p : Pwr) : (setPwr s p).agenda = s.agenda := rfl
@[simp] theorem setPwr_adm (s : State) (p : Pwr) : (setPwr s p).adm = s.adm := rfl
@[simp] theorem setPwr_net (s : State) (p : Pwr) : (setPwr s p).net = s.net := rfl
@[simp] theorem setPwr_fwd (s : State) (p : Pwr) : (setPwr s p).fwd = s.fwd := rfl
@[simp] theorem setPwr_key (s : State) (p : Pwr) : (setPwr s p).key = s.key := rfl
@[simp] theorem setPwr_cip (s : State) (p : Pwr) : (setPwr s p).cip = s.cip := rfl
@[simp] theorem setPwr_aud (s : State) (p : Pwr) : (setPwr s p).aud = s.aud := rfl
@[simp] theorem setPwr_brs (s : State) (p : Pwr) : (setPwr s p).brs = s.brs := rfl
@[simp] theorem setPwr_vid (s : State) (p : Pwr) : (setPwr s p).vid = s.vid := rfl
@[simp] theorem setPwr_cnv (s : State) (p : Pwr) : (setPwr s p).cnv = s.cnv := rfl
@[simp] theorem setPwr_mem (s : State) (p : Pwr) : (setPwr s p).mem = s.mem := rfl
@[simp] theorem setPwr_cal (s : State) (p : Pwr) : (setPwr s p).cal = s.cal := rfl
@[simp] theorem setPwr_ptp (s : State) (p : Pwr) : (setPwr s p).ptp = s.ptp := rfl
@[simp] theorem setPwr_msh (s : State) (p : Pwr) : (setPwr s p).msh = s.msh := rfl
@[simp] theorem setPwr_out (s : State) (p : Pwr) : (setPwr s p).out = s.out := rfl

/-! ## setPtp -/

@[simp] theorem setPtp_pending (s : State) (p : Ptp) : (setPtp s p).pending = s.pending := rfl
@[simp] theorem setPtp_regs (s : State) (p : Ptp) : (setPtp s p).regs = s.regs := rfl
@[simp] theorem setPtp_hostMem (s : State) (p : Ptp) : (setPtp s p).hostMem = s.hostMem := rfl
@[simp] theorem setPtp_clk (s : State) (p : Ptp) : (setPtp s p).clk = s.clk := rfl
@[simp] theorem setPtp_easel (s : State) (p : Ptp) : (setPtp s p).easel = s.easel := rfl
@[simp] theorem setPtp_hif (s : State) (p : Ptp) : (setPtp s p).hif = s.hif := rfl
@[simp] theorem setPtp_agenda (s : State) (p : Ptp) : (setPtp s p).agenda = s.agenda := rfl
@[simp] theorem setPtp_adm (s : State) (p : Ptp) : (setPtp s p).adm = s.adm := rfl
@[simp] theorem setPtp_net (s : State) (p : Ptp) : (setPtp s p).net = s.net := rfl
@[simp] theorem setPtp_fwd (s : State) (p : Ptp) : (setPtp s p).fwd = s.fwd := rfl
@[simp] theorem setPtp_key (s : State) (p : Ptp) : (setPtp s p).key = s.key := rfl
@[simp] theorem setPtp_cip (s : State) (p : Ptp) : (setPtp s p).cip = s.cip := rfl
@[simp] theorem setPtp_aud (s : State) (p : Ptp) : (setPtp s p).aud = s.aud := rfl
@[simp] theorem setPtp_brs (s : State) (p : Ptp) : (setPtp s p).brs = s.brs := rfl
@[simp] theorem setPtp_vid (s : State) (p : Ptp) : (setPtp s p).vid = s.vid := rfl
@[simp] theorem setPtp_cnv (s : State) (p : Ptp) : (setPtp s p).cnv = s.cnv := rfl
@[simp] theorem setPtp_mem (s : State) (p : Ptp) : (setPtp s p).mem = s.mem := rfl
@[simp] theorem setPtp_cal (s : State) (p : Ptp) : (setPtp s p).cal = s.cal := rfl
@[simp] theorem setPtp_msh (s : State) (p : Ptp) : (setPtp s p).msh = s.msh := rfl
@[simp] theorem setPtp_pwr (s : State) (p : Ptp) : (setPtp s p).pwr = s.pwr := rfl
@[simp] theorem setPtp_jtag (s : State) (p : Ptp) : (setPtp s p).jtag = s.jtag := rfl
@[simp] theorem setPtp_out (s : State) (p : Ptp) : (setPtp s p).out = s.out := rfl

/-! ## stage -/

@[simp] theorem stage_pending (s : State) (e : Nat) (c : Change) : (stage s e c).pending = s.pending := rfl
@[simp] theorem stage_regs (s : State) (e : Nat) (c : Change) : (stage s e c).regs = s.regs := rfl
@[simp] theorem stage_hostMem (s : State) (e : Nat) (c : Change) : (stage s e c).hostMem = s.hostMem := rfl
@[simp] theorem stage_clk (s : State) (e : Nat) (c : Change) : (stage s e c).clk = s.clk := rfl
@[simp] theorem stage_easel (s : State) (e : Nat) (c : Change) : (stage s e c).easel = s.easel := rfl
@[simp] theorem stage_hif (s : State) (e : Nat) (c : Change) : (stage s e c).hif = s.hif := rfl
@[simp] theorem stage_adm (s : State) (e : Nat) (c : Change) : (stage s e c).adm = s.adm := rfl
@[simp] theorem stage_net (s : State) (e : Nat) (c : Change) : (stage s e c).net = s.net := rfl
@[simp] theorem stage_fwd (s : State) (e : Nat) (c : Change) : (stage s e c).fwd = s.fwd := rfl
@[simp] theorem stage_key (s : State) (e : Nat) (c : Change) : (stage s e c).key = s.key := rfl
@[simp] theorem stage_cip (s : State) (e : Nat) (c : Change) : (stage s e c).cip = s.cip := rfl
@[simp] theorem stage_aud (s : State) (e : Nat) (c : Change) : (stage s e c).aud = s.aud := rfl
@[simp] theorem stage_brs (s : State) (e : Nat) (c : Change) : (stage s e c).brs = s.brs := rfl
@[simp] theorem stage_vid (s : State) (e : Nat) (c : Change) : (stage s e c).vid = s.vid := rfl
@[simp] theorem stage_cnv (s : State) (e : Nat) (c : Change) : (stage s e c).cnv = s.cnv := rfl
@[simp] theorem stage_mem (s : State) (e : Nat) (c : Change) : (stage s e c).mem = s.mem := rfl
@[simp] theorem stage_cal (s : State) (e : Nat) (c : Change) : (stage s e c).cal = s.cal := rfl
@[simp] theorem stage_ptp (s : State) (e : Nat) (c : Change) : (stage s e c).ptp = s.ptp := rfl
@[simp] theorem stage_msh (s : State) (e : Nat) (c : Change) : (stage s e c).msh = s.msh := rfl
@[simp] theorem stage_pwr (s : State) (e : Nat) (c : Change) : (stage s e c).pwr = s.pwr := rfl
@[simp] theorem stage_jtag (s : State) (e : Nat) (c : Change) : (stage s e c).jtag = s.jtag := rfl
@[simp] theorem stage_out (s : State) (e : Nat) (c : Change) : (stage s e c).out = s.out := rfl

/-! ## The field an update writes -/

@[simp] theorem setPwr_pwr (s : State) (p : Pwr) : (setPwr s p).pwr = p := rfl
@[simp] theorem setPtp_ptp (s : State) (p : Ptp) : (setPtp s p).ptp = p := rfl
@[simp] theorem emitOut_out (s : State) (m : OutMsg) : (emitOut s m).out = s.out ++ [m] := rfl
@[simp] theorem stage_agenda (s : State) (e : Nat) (c : Change) : (stage s e c).agenda = s.agenda ++ [⟨e, false, c⟩] := rfl

end Sys2Proof.Laws
end

