-- ==== Sys2Proof/Laws/HostSide.lean ====
section
/-! SUPPORT. What writing entries of rings, events, completions and interrupts can do: each touches registers, host memory, the host
interface and what is sent out, and nothing else. -/

namespace Sys2Proof.Laws

open Sys2Proof.Machine

/-! ## The frame -/

theorem hostSide_refl (s : State) : HostSide s s := rfl

theorem hostSide_trans {s t u : State} (h : HostSide s t) (k : HostSide t u) : HostSide s u := k.trans h

/-- What the frame says of each field. -/
theorem hostSide_fields {s t : State} (h : HostSide s t) :
    t.pending = s.pending ∧ t.clk = s.clk ∧ t.easel = s.easel ∧ t.agenda = s.agenda ∧ t.adm = s.adm ∧ t.net = s.net ∧
    t.fwd = s.fwd ∧ t.key = s.key ∧ t.cip = s.cip ∧ t.aud = s.aud ∧ t.brs = s.brs ∧ t.vid = s.vid ∧ t.cnv = s.cnv ∧
    t.mem = s.mem ∧ t.cal = s.cal ∧ t.ptp = s.ptp ∧ t.msh = s.msh ∧ t.pwr = s.pwr ∧ t.jtag = s.jtag := by
  obtain ⟨⟩ := s
  obtain ⟨⟩ := t
  simp only [HostSide, hostRest, State.mk.injEq] at h
  simp [h]

@[simp] theorem hostRest_setReg (s : State) (a : Nat) (w : Word) : hostRest (setReg s a w) = hostRest s := rfl
@[simp] theorem hostRest_setFld (s : State) (f : Field) (v : Nat) : hostRest (setFld s f v) = hostRest s := rfl
@[simp] theorem hostRest_setBit (s : State) (f : Field) : hostRest (setBit s f) = hostRest s := rfl
@[simp] theorem hostRest_bump (s : State) (f : Field) (n : Nat) : hostRest (bump s f n) = hostRest s := rfl
@[simp] theorem hostRest_hostWrite (s : State) (a : Nat) (w : Word) : hostRest (hostWrite s a w) = hostRest s := rfl
@[simp] theorem hostRest_emitOut (s : State) (m : OutMsg) : hostRest (emitOut s m) = hostRest s := rfl
@[simp] theorem hostRest_setFn (s : State) (f : Nat) (x : Fn) : hostRest (setFn s f x) = hostRest s := rfl
@[simp] theorem hostRest_setRing (s : State) (f q : Nat) (r : Ring) : hostRest (setRing s f q r) = hostRest s := rfl
@[simp] theorem hostRest_setVec (s : State) (f v : Nat) (x : Vec) : hostRest (setVec s f v x) = hostRest s := rfl
@[simp] theorem hostRest_hif (s : State) (x : Hif) : hostRest { s with hif := x } = hostRest s := rfl
@[simp] theorem hostRest_fresh (s : State) : hostRest (fresh s) = hostRest s := rfl

@[simp] theorem hostRest_hostWrites (s : State) (a : Nat) (ws : List Word) : hostRest (hostWrites s a ws) = hostRest s := by
  induction ws generalizing s a with
  | nil => rfl
  | cons w r ih => simp [hostWrites, ih]

/-! ## Interrupts and entries -/

@[simp] theorem hostRest_sendMsi (s : State) (f v : Nat) : hostRest (sendMsi s f v) = hostRest s := by
  unfold sendMsi
  repeat' split
  all_goals simp

@[simp] theorem hostRest_vecIrq (s : State) (f v : Nat) (now : Bool) : hostRest (vecIrq s f v now) = hostRest s := by
  simp only [vecIrq]
  split <;> simp

@[simp] theorem hostRest_ringIrq (s : State) (f q : Nat) (now : Bool) : hostRest (ringIrq s f q now) = hostRest s := by
  unfold ringIrq
  split <;> simp

@[simp] theorem hostRest_sendErrVec (s : State) (f : Nat) : hostRest (sendErrVec s f) = hostRest s := by simp [sendErrVec]

@[simp] theorem hostRest_pushEntry (s : State) (f q : Nat) (ws : List Word) (now : Bool) :
    hostRest (pushEntry s f q ws now) = hostRest s := by simp [pushEntry]

/-! ## Events -/

@[simp] theorem hostRest_writeLost (s : State) (f : Nat) : hostRest (writeLost s f) = hostRest s := by
  simp only [writeLost]
  repeat' split
  all_goals simp

@[simp] theorem hostRest_drainEvts (s : State) (f n : Nat) : hostRest (drainEvts s f n) = hostRest s := by
  induction n generalizing s with
  | zero => rfl
  | succ k ih =>
    simp only [drainEvts]
    repeat' split
    all_goals simp [ih]

@[simp] theorem hostRest_raise (s : State) (f : Nat) (c src : BitVec 16) (p0 p1 p2 p3 : Word) :
    hostRest (raise s f c src p0 p1 p2 p3) = hostRest s := by
  unfold raise
  extract_lets x e s1
  split
  · rfl
  · split
    · simp [s1]
    · split
      · simp [s1]
      · rw [hostRest_setBit, hostRest_bump]
        exact (hostRest_setFn s1 f _).trans (hostRest_setFn s f _)

/-- Raising an event touches only what the host sees. -/
theorem hostSide_raise (s : State) (f : Nat) (c src : BitVec 16) (p0 p1 p2 p3 : Word) :
    HostSide s (raise s f c src p0 p1 p2 p3) := hostRest_raise ..

/-! ## Completions -/

@[simp] theorem hostRest_writeCpl (s : State) (cq : Nat) (c : Cpl) : hostRest (writeCpl s cq c) = hostRest s := by
  simp [writeCpl]

@[simp] theorem hostRest_drainCpls (s : State) (f cq n : Nat) : hostRest (drainCpls s f cq n) = hostRest s := by
  induction n generalizing s with
  | zero => rfl
  | succ k ih =>
    simp only [drainCpls]
    repeat' split
    all_goals simp [ih]

@[simp] theorem hostRest_complete (s : State) (h : CmdHdr) (op st : BitVec 16) (res : List Word) :
    hostRest (complete s h op st res) = hostRest s := by
  simp only [complete]
  repeat' split
  all_goals simp

/-- A failed read of host memory is logged where the host sees it. -/
@[simp] theorem hostRest_dmaErr (s : State) (f : Nat) : hostRest (dmaErr s f) = hostRest s := by
  simp only [dmaErr, aerErr]
  repeat' split
  all_goals rfl

/-- Completing a command touches only what the host sees. -/
theorem hostSide_complete (s : State) (h : CmdHdr) (op st : BitVec 16) (res : List Word) :
    HostSide s (complete s h op st res) := hostRest_complete ..

/-! ## Registers under entries -/

@[simp] theorem hostWrites_regs (s : State) (a : Nat) (ws : List Word) : (hostWrites s a ws).regs = s.regs := by
  induction ws generalizing s a with
  | nil => rfl
  | cons w r ih => simp [hostWrites, ih]

@[simp] theorem sendMsi_regs (s : State) (f v : Nat) : (sendMsi s f v).regs = s.regs := by
  unfold sendMsi
  repeat' split
  all_goals simp

@[simp] theorem vecIrq_regs (s : State) (f v : Nat) (now : Bool) : (vecIrq s f v now).regs = s.regs := by
  simp only [vecIrq]
  split <;> simp

@[simp] theorem ringIrq_regs (s : State) (f q : Nat) (now : Bool) : (ringIrq s f q now).regs = s.regs := by
  unfold ringIrq
  split <;> simp

@[simp] theorem pushEntry_regs (s : State) (f q : Nat) (ws : List Word) (now : Bool) :
    (pushEntry s f q ws now).regs = s.regs := by simp [pushEntry]

@[simp] theorem writeCpl_regs (s : State) (cq : Nat) (c : Cpl) : (writeCpl s cq c).regs = s.regs := by simp [writeCpl]

/-- A completion changes no register. -/
@[simp] theorem complete_regs (s : State) (h : CmdHdr) (op st : BitVec 16) (res : List Word) :
    (complete s h op st res).regs = s.regs := by
  simp only [complete]
  repeat' split
  all_goals simp

/-! ## Whole commands -/

/-- What a host command does: nothing while its function is being reset or CTL is unpowered; a status of R94's checks with no other
effect; or the chapter's effect and its status. -/
theorem command_cases (h : CmdHdr) (op : BitVec 16) (p : Pre) (k : State → State × Res) (s : State) :
    (unserved s h.fn.toNat = true ∧ command h op p k s = s) ∨
    (unserved s h.fn.toNat = false ∧ ∃ st, p.status s h = some st ∧
      (command h op p k s = complete s h op st [] ∨ command h op p k s = complete (dmaErr s h.fn.toNat) h op st [])) ∨
    (unserved s h.fn.toNat = false ∧ p.status s h = none ∧
      command h op p k s = complete (k s).1 h op (k s).2.st (k s).2.area) := by
  unfold command
  cases hr : unserved s h.fn.toNat
  · cases hp : p.status s h with
    | none => simp
    | some st => by_cases hd : st = GEN_ST_DMA <;> simp [hd]
  · simp

/-- A host command that passes R94's checks. -/
theorem command_run {h : CmdHdr} {op : BitVec 16} {p : Pre} {k : State → State × Res} {s : State}
    (hr : unserved s h.fn.toNat = false) (hp : p.status s h = none) :
    command h op p k s = complete (k s).1 h op (k s).2.st (k s).2.area := by
  simp [command, hr, hp]

/-- A host command that has passed them and goes on, or completes. -/
theorem commandLong_run {h : CmdHdr} {op : BitVec 16} {p : Pre} {k : State → State × Option Res} {s : State}
    (hr : unserved s h.fn.toNat = false) (hp : p.status s h = none) :
    commandLong h op p k s = match (k s).2 with
      | some r => complete (k s).1 h op r.st r.area
      | none => { (k s).1 with hif := { (k s).1.hif with running := (k s).1.hif.running ++ [h] } } := by
  simp only [commandLong, hr, hp]
  cases hk : k s with
  | mk a b => cases b <;> simp

/-! ## Meanings -/

/-- Every meaning answers a next state that keeps the queue. -/
theorem act_next (k : State → State) (s : State) : act k s = .next { k (fresh s) with pending := s.pending } := rfl

/-- A meaning answers with its effect on the fresh state, the queue as it was. -/
theorem act_keep {k : State → State} {s t : State} (h : k (fresh s) = t) : act k s = .next (keepQueue s t) := by
  rw [act_next, h]
  rfl

/-- A host command that passes R94's checks answers with its effect and its completion, the queue as it was. -/
theorem command_next {h : CmdHdr} {op : BitVec 16} {p : Pre} {k : State → State × Res} {s t : State} {r : Res}
    (hp : Passes s h p) (hk : k (fresh s) = (t, r)) :
    act (command h op p k) s = .next (keepQueue s (complete t h op r.st r.area)) := by
  have hc := command_run (h := h) (op := op) (p := p) (k := k) (s := fresh s) hp.1 hp.2
  rw [act_next, hc, hk]
  rfl

/-- A host command that passes R94's checks and succeeds, with its result area. -/
theorem command_ok {h : CmdHdr} {op : BitVec 16} {p : Pre} {k : State → State × Res} {s t : State} {a : List Word}
    (hp : Passes s h p) (hk : k (fresh s) = (t, ok a)) :
    act (command h op p k) s = .next (keepQueue s (complete t h op ST_OK a)) := by
  have e := command_next (op := op) hp hk
  simp only [ok] at e
  exact e

/-- A host command that passes R94's checks and goes on: it runs, with its effect so far and no completion yet. -/
theorem commandLong_next {h : CmdHdr} {op : BitVec 16} {p : Pre} {k : State → State × Option Res} {s t : State}
    (hp : Passes s h p) (hk : k (fresh s) = (t, none)) :
    act (commandLong h op p k) s = .next (keepQueue s { t with hif := { t.hif with running := t.hif.running ++ [h] } }) := by
  have hc := commandLong_run (h := h) (op := op) (p := p) (k := k) (s := fresh s) hp.1 hp.2
  rw [act_next, hc, hk]
  rfl

/-- A host command that may go on, passes R94's checks and completes at once. -/
theorem commandLong_done {h : CmdHdr} {op : BitVec 16} {p : Pre} {k : State → State × Option Res} {s t : State} {r : Res}
    (hp : Passes s h p) (hk : k (fresh s) = (t, some r)) :
    act (commandLong h op p k) s = .next (keepQueue s (complete t h op r.st r.area)) := by
  have hc := commandLong_run (h := h) (op := op) (p := p) (k := k) (s := fresh s) hp.1 hp.2
  rw [act_next, hc, hk]
  rfl

end Sys2Proof.Laws
end

