-- ==== Sys2Proof/Laws/Brush.lean ====
section
/-! SUPPORT. Instructions of the cores: what an instruction that issues leaves (R255 to R266). -/

namespace Sys2Proof.Laws

open Sys2Proof.Machine

/-- What an instruction that issues does: its operation on the bank and the instance, the steps of its pointers, the flow (R255). -/
theorem brush_issue {s : State} {b : BrushRef} {op : BOp} {r : BRun} {i : BInst} {p : BProg} (h : Issues s b op r i p)
    (k3 : BBank) (tk : Bool) (nx : Nat) (hx : nx = brushAfter b s)
    (hf : op.flow (op.mems.foldl (fun k m => k.step m.1.p m.1.m) (op.run (brushBank b s) (op.clean (brushBank b s) i b.bad)).1) nx = (k3,
        tk)) :
    brushIssue (fresh s) b op =
      (let t := brushNext s b op r k3 (op.run (brushBank b s) i).2 (op.cycles tk)
       match op with
       | .halt => haltDone t b.core.toNat (brushRun s b op r (op.cycles tk)) (op.run (brushBank b s) i).2 p
       | .sig => sigDo t r.key (brushBank b s)
       | _ => t) := by
  subst hx
  obtain ⟨h1, h2, h3, h4, h5, hc, h6, h7, h8, h9⟩ := h
  have e1 : (coreOf (fresh s) b.core.toNat).run = some r := h1
  have e2 : ¬ r.stall.isSome = true := by rw [h2]; decide
  have e3 : tget (fresh s).brs.insts r.key = some i := h3
  have e4 : tget (fresh s).brs.progs i.prog = some p := h4
  have e5 : ¬ (¬ op.valid = true ∨ ¬ op.inCode (coreOf (fresh s) b.core.toNat).act.pc.toNat p.code.length b.two = true ∨
      p.cycMax + 200 ≤ r.cyc) := by
    rintro (h | h | h)
    · exact h h5
    · exact h hc
    · omega
  have e7 : ¬ eccBad (fresh s) b.hits [10] = true := by rw [show eccBad (fresh s) b.hits [10] = eccBad s b.hits [10] from rfl, h7]; decide
  have e9 : ¬ op.waits (brushBank b s) r = true := by rw [h9]; decide
  unfold brushIssue
  simp only [e1]
  rw [if_neg e2, if_neg e7]
  unfold brushOp
  simp only [e1, e3, e4]
  rw [if_neg e5]
  have e8 : op.fault (coreOf (fresh s) b.core.toNat).act r p = none := h8
  simp only [e8]
  rw [if_neg (show ¬ op.waits (coreOf (fresh s) b.core.toNat).act r = true from e9)]
  have hf' : op.flow (op.mems.foldl (fun k m => k.step m.1.p m.1.m) (op.run (coreOf (fresh s) b.core.toNat).act (op.clean (coreOf (fresh
      s) b.core.toNat).act i b.bad)).1)
      ((coreOf (fresh s) b.core.toNat).act.pc.toNat + if b.two = true then 2 else 1) = (k3, tk) := hf
  rw [hf']
  cases op <;> rfl
/-- An instruction row is its issue. -/
theorem issue_keep {s t : State} {b : BrushRef} {op : BOp} (h : brushIssue (fresh s) b op = t) :
    act (brushIssue · b op) s = .next (keepQueue s t) := act_keep h

/-- The row of an instruction that is neither HALT nor SIG, from its operation, its flow and its cycles. -/
theorem brush_keep {s : State} {b : BrushRef} {op : BOp} {r : BRun} {i i1 : BInst} {p : BProg} {nx n : Nat} {k1 k3 : BBank} (tk : Bool)
    (h : Issues s b op r i p) (hx : nx = brushAfter b s) (h1 : (op.run (brushBank b s) (op.clean (brushBank b s) i b.bad)).1 = k1)
    (h2 : (op.run (brushBank b s) i).2 = i1) (h3 : op.flow (op.mems.foldl (fun k m => k.step m.1.p m.1.m) k1) nx = (k3, tk))
    (h4 : op.cycles tk = n) (h5 : op ≠ .halt) (h6 : op ≠ .sig) :
    act (brushIssue · b op) s = .next (keepQueue s (brushNext s b op r k3 i1 n)) := by
  refine issue_keep ((brush_issue h k3 tk nx hx ?_).trans ?_)
  · rw [h1]; exact h3
  · rw [h2, h4]
    cases op <;> first | rfl | exact absurd rfl h5 | exact absurd rfl h6

/-- MOVE from a register that is no accumulator (R255). -/
theorem move_run (k : BBank) (i : BInst) (d q : BReg) (hq : ∀ n, q ≠ .a n) : (BOp.move d q).run k i = (k.write d (k.read q), i) := by
  cases q with
  | a n => exact absurd rfl (hq n)
  | _ => cases d <;> rfl
/-- MOVE between accumulators. -/
theorem move_run_acc (k : BBank) (i : BInst) (n m : BitVec 2) : (BOp.move (.a n) (.a m)).run k i = (k.wa n (k.ra m), i) := rfl

end Sys2Proof.Laws
end

