-- ==== Sys2Proof/Laws/Crc.lean ====
section
/-! SUPPORT. CRC-32 and the check of a unit: what a unit's sender appends is what its receiver accepts (R372). -/

namespace Sys2Proof.Machine

theorem crc32Bits_lt (c k : Nat) (h : c < 2 ^ 32) : crc32Bits c k < 2 ^ 32 := by
  induction k generalizing c with
  | zero => exact h
  | succ k ih =>
    unfold crc32Bits
    apply ih
    split
    · exact Nat.xor_lt_two_pow (by omega) (by decide)
    · omega

theorem crc32_lt (bs : List Byte) : crc32 bs < 2 ^ 32 := by
  unfold crc32
  apply Nat.xor_lt_two_pow _ (by decide)
  have : ∀ c : Nat, c < 2 ^ 32 → bs.foldl (fun c b => crc32Bits (c ^^^ b.toNat) 8) c < 2 ^ 32 := by
    induction bs with
    | nil => intro c h; exact h
    | cons b bs ih =>
      intro c h
      exact ih _ (crc32Bits_lt _ _ (Nat.xor_lt_two_pow h (by have := b.isLt; omega)))
  exact this _ (by decide)

theorem be_natBE4 (x : Nat) (h : x < 2 ^ 32) : beNat (natBE 4 x) = x := by
  simp [natBE, beNat, List.range_succ]
  omega

/-- A unit closed by its CRC passes the check (R372). -/
theorem unitCrcOk_append (b : List Byte) : unitCrcOk (b ++ natBE 4 (crc32 b)) = true := by
  have hl : (natBE 4 (crc32 b)).length = 4 := by simp [natBE]
  simp [unitCrcOk, hl, be, sl, List.take_of_length_le (Nat.le_of_eq hl), be_natBE4 _ (crc32_lt b)]

end Sys2Proof.Machine
end

