-- ==== Sys2Proof/Laws/Desc.lean ====
section
/-! SUPPORT. Descriptor words (R92, R118): reading back the fields a word was put together from. -/

namespace Sys2Proof.Laws

open Sys2Proof.Machine

theorem bool_field {x : Nat} {b : Bool} (h : x = b.toNat) : decide (x = 1) = b := by subst h; cases b <;> rfl
theorem fieldSum_nil : fieldSum [] = 0 := rfl
theorem fieldSum_cons (i v : Nat) (r : List (Nat × Nat)) : fieldSum ((i, v) :: r) = v * 2 ^ i + fieldSum r := rfl
theorem cat32 (a : BitVec 64) : (fw [(0, a.toNat / 2^32)] ++ fw [(0, a.toNat % 2^32)] : BitVec 64) = a := by
  apply BitVec.eq_of_toNat_eq
  rw [BitVec.toNat_append, ← Nat.shiftLeft_add_eq_or_of_lt (BitVec.isLt _), Nat.shiftLeft_eq]
  have := a.isLt
  simp only [fw, fieldSum_cons, fieldSum_nil, BitVec.toNat_ofNat]
  omega
theorem cw_fw {a : List Word} {i hi lo n : Nat} {fs : List (Nat × Nat)} {v : BitVec n} (ha : a.getD i 0 = fw fs)
    (h : fieldSum fs % 2 ^ 32 / 2 ^ lo % 2 ^ (hi + 1 - lo) = v.toNat) : cw a i hi lo n = v := by
  apply BitVec.eq_of_toNat_eq
  unfold cw bitsOf
  rw [ha, fw, BitVec.toNat_ofNat, BitVec.toNat_ofNat, h, Nat.mod_eq_of_lt v.isLt]
theorem cb_fw {a : List Word} {i b : Nat} {fs : List (Nat × Nat)} {v : Bool} (ha : a.getD i 0 = fw fs)
    (h : fieldSum fs % 2 ^ 32 / 2 ^ b % 2 ^ (b + 1 - b) = v.toNat) : cb a i b = v := by
  unfold cb bitsOf
  rw [ha, fw, BitVec.toNat_ofNat, h]
  cases v <;> rfl
theorem bits_fw {fs : List (Nat × Nat)} {hi lo v : Nat}
    (h : fieldSum fs % 2 ^ 32 / 2 ^ lo % 2 ^ (hi + 1 - lo) = v) : bitsOf (fw fs) hi lo = v := by
  unfold bitsOf
  rw [fw, BitVec.toNat_ofNat, h]

end Sys2Proof.Laws
end

