-- ==== Sys2Proof/Laws/Table.lean ====
section
/-! SUPPORT. Laws of the sparse tables: lookup after insertion and removal, and the canonical form of stores. -/

namespace Sys2Proof.Laws

open Sys2Proof.Machine

variable {α : Type}

theorem tget_tset (t : Table α) (k j : Nat) (v : α) : tget (tset t k v) j = if j = k then some v else tget t j := by
  induction t with
  | nil => simp [tset, tget]; grind
  | cons p r ih =>
    obtain ⟨i, w⟩ := p
    unfold tset
    split
    · simp [tget]; grind
    · split
      · simp [tget]; grind
      · simp [tget, ih]; grind

@[simp] theorem tget_tset_self (t : Table α) (k : Nat) (v : α) : tget (tset t k v) k = some v := by simp [tget_tset]

theorem tget_tset_ne (t : Table α) {k j : Nat} (v : α) (h : j ≠ k) : tget (tset t k v) j = tget t j := by
  simp [tget_tset, h]

theorem tget_tdel (t : Table α) (k j : Nat) : tget (tdel t k) j = if j = k then none else tget t j := by
  induction t with
  | nil => simp [tdel, tget]
  | cons p r ih =>
    obtain ⟨i, w⟩ := p
    unfold tdel
    split
    · simp [tget, ih]; grind
    · simp [tget, ih]; grind

@[simp] theorem tget_tdel_self (t : Table α) (k : Nat) : tget (tdel t k) k = none := by simp [tget_tdel]

theorem tget_tdel_ne (t : Table α) {k j : Nat} (h : j ≠ k) : tget (tdel t k) j = tget t j := by simp [tget_tdel, h]

theorem mget_mset (d : Nat → Word) (t : Table Word) (k j : Nat) (v : Word) :
    mget d (mset d t k v) j = if j = k then v else mget d t j := by
  unfold mget mset
  split
  · rw [tget_tdel]; split <;> simp_all
  · rw [tget_tset]; split <;> simp_all

@[simp] theorem mget_mset_self (d : Nat → Word) (t : Table Word) (k : Nat) (v : Word) : mget d (mset d t k v) k = v := by
  simp [mget_mset]

theorem mget_mset_ne (d : Nat → Word) (t : Table Word) {k j : Nat} (v : Word) (h : j ≠ k) :
    mget d (mset d t k v) j = mget d t j := by simp [mget_mset, h]

theorem tabove_le {i k : Nat} {t : Table α} (h : k ≤ i) (ht : tabove i t = true) : tabove k t = true := by
  cases t <;> simp_all [tabove]; omega

theorem tabove_tset {i k : Nat} {t : Table α} {v : α} (h : i < k) (ht : tabove i t = true) : tabove i (tset t k v) = true := by
  cases t with
  | nil => simpa [tset, tabove] using h
  | cons p r =>
    obtain ⟨j, w⟩ := p
    simp only [tset]
    split
    · simpa [tabove] using h
    · split
      · simpa [tabove] using h
      · simpa [tabove] using ht

theorem tsorted_tset {t : Table α} {k : Nat} {v : α} (h : tsorted t = true) : tsorted (tset t k v) = true := by
  induction t with
  | nil => simp [tset, tsorted, tabove]
  | cons p r ih =>
    obtain ⟨j, w⟩ := p
    simp only [tsorted, Bool.and_eq_true] at h
    simp only [tset]
    split
    · simp_all [tsorted, tabove]
    · split
      · simp_all [tsorted]
      · simp only [tsorted, Bool.and_eq_true]
        exact ⟨tabove_tset (by omega) h.1, ih h.2⟩

theorem tabove_tdel {i k : Nat} {t : Table α} (h : tsorted t = true) (ht : tabove i t = true) : tabove i (tdel t k) = true := by
  induction t with
  | nil => simp [tdel, tabove]
  | cons p r ih =>
    obtain ⟨j, w⟩ := p
    simp only [tsorted, Bool.and_eq_true] at h
    simp only [tabove, decide_eq_true_eq] at ht
    simp only [tdel]
    split
    · exact ih h.2 (tabove_le (by omega) h.1)
    · simpa [tabove] using ht

theorem tsorted_tdel {t : Table α} {k : Nat} (h : tsorted t = true) : tsorted (tdel t k) = true := by
  induction t with
  | nil => simp [tdel, tsorted]
  | cons p r ih =>
    obtain ⟨j, w⟩ := p
    simp only [tsorted, Bool.and_eq_true] at h
    simp only [tdel]
    split
    · exact ih h.2
    · simp only [tsorted, Bool.and_eq_true]
      exact ⟨tabove_tdel h.2 h.1, ih h.2⟩

theorem all_tset {p : Nat × α → Bool} {t : Table α} {k : Nat} {v : α} (h : t.all p = true) (hv : p (k, v) = true) :
    (tset t k v).all p = true := by
  induction t with
  | nil => simpa [tset] using hv
  | cons q r ih =>
    obtain ⟨j, w⟩ := q
    simp only [List.all_cons, Bool.and_eq_true] at h
    simp only [tset]
    split
    · simp [h, hv]
    · split
      · simp [h, hv]
      · simp [h, ih]

theorem all_tdel {p : Nat × α → Bool} {t : Table α} {k : Nat} (h : t.all p = true) : (tdel t k).all p = true := by
  induction t with
  | nil => simp [tdel]
  | cons q r ih =>
    obtain ⟨j, w⟩ := q
    simp only [List.all_cons, Bool.and_eq_true] at h
    simp only [tdel]
    split
    · exact ih h.2
    · simp [h, ih]

/-- A write keeps the canonical form of a store. -/
theorem mcanon_mset {d : Nat → Word} {t : Table Word} {k : Nat} {v : Word} (h : mcanon d t = true) :
    mcanon d (mset d t k v) = true := by
  simp only [mcanon, Bool.and_eq_true] at h ⊢
  unfold mset
  split
  · exact ⟨tsorted_tdel h.1, all_tdel h.2⟩
  · exact ⟨tsorted_tset h.1, all_tset h.2 (by simpa)⟩

theorem mcanon_nil (d : Nat → Word) : mcanon d [] = true := rfl

/-- In an empty table the number asked for is free. -/
theorem tfree_nil (n r : Nat) : tfree ([] : Table α) (n + 1) r = some (r % (n + 1)) := by
  simp [tfree, List.range_succ_eq_map, thas, tget]

end Sys2Proof.Laws
end

