-- ==== Sys2Proof/Laws/Regs.lean ====
section
/-! SUPPORT. Laws of registers and fields: what a field reads after a field or a register was written. -/

namespace Sys2Proof.Laws

open Sys2Proof.Machine

/-! ## Bits of a word -/

theorem testBit_bitsOf (w : Word) (hi lo i : Nat) :
    (bitsOf w hi lo).testBit i = (decide (i < hi + 1 - lo) && w.toNat.testBit (lo + i)) := by
  simp [bitsOf, Nat.testBit_mod_two_pow, Nat.testBit_div_two_pow, Nat.add_comm]

/-- Bit `i` of a word after its bits `hi` to `lo` were replaced. -/
theorem testBit_setBits (w : Word) {hi lo : Nat} (v i : Nat) (h : lo ≤ hi) (hi32 : hi < 32) :
    (setBits w hi lo v).toNat.testBit i =
      if lo ≤ i ∧ i ≤ hi then v.testBit (i - lo) else w.toNat.testBit i := by
  obtain ⟨n, hn⟩ : ∃ n, hi + 1 = lo + n := ⟨hi + 1 - lo, by omega⟩
  have hw : w.toNat.testBit i = (decide (i < 32) && w.toNat.testBit i) := by
    by_cases h32 : i < 32
    · simp [h32]
    · simp [h32, Nat.testBit_lt_two_pow (Nat.lt_of_lt_of_le w.isLt (Nat.pow_le_pow_right (by omega) (by omega : 32 ≤ i)))]
  have e : w.toNat % 2 ^ lo + v % 2 ^ (hi + 1 - lo) * 2 ^ lo + w.toNat / 2 ^ (hi + 1) * 2 ^ (hi + 1)
      = 2 ^ lo * (2 ^ n * (w.toNat / 2 ^ (hi + 1)) + v % 2 ^ n) + w.toNat % 2 ^ lo := by
    rw [hn, Nat.add_sub_cancel_left, Nat.pow_add]
    grind
  have hp : ∀ k, 0 < 2 ^ k := fun k => Nat.two_pow_pos k
  simp only [setBits, BitVec.toNat_ofNat, Nat.testBit_mod_two_pow, e]
  rw [Nat.testBit_two_pow_mul_add _ (Nat.mod_lt _ (hp lo))]
  by_cases h1 : i < lo
  · have h2 : ¬ lo ≤ i := by omega
    have h3 : i < 32 := by omega
    simp [h1, h2, h3, Nat.testBit_mod_two_pow]
  · rw [if_neg h1, Nat.testBit_two_pow_mul_add _ (Nat.mod_lt _ (hp n))]
    by_cases h2 : i - lo < n
    · have h3 : lo ≤ i ∧ i ≤ hi := by omega
      have h4 : i < 32 := by omega
      simp [h2, h3, h4, Nat.testBit_mod_two_pow]
    · have : ¬ (lo ≤ i ∧ i ≤ hi) := by omega
      rw [if_neg h2, if_neg this, Nat.testBit_div_two_pow, hw]
      congr 2
      omega

/-- A field reads what was written to it, cut to its width. -/
theorem bitsOf_setBits (w : Word) {hi lo : Nat} (v : Nat) (h : lo ≤ hi) (hi32 : hi < 32) :
    bitsOf (setBits w hi lo v) hi lo = v % 2 ^ (hi + 1 - lo) := by
  apply Nat.eq_of_testBit_eq
  intro i
  rw [testBit_bitsOf, testBit_setBits w v _ h hi32, Nat.testBit_mod_two_pow]
  by_cases hi' : i < hi + 1 - lo
  · have : lo ≤ lo + i ∧ lo + i ≤ hi := by omega
    simp [hi', this]
  · simp [hi']

/-- Writing one field leaves a field of other bits as it was. -/
theorem bitsOf_setBits_ne (w : Word) {hi lo hi' lo' : Nat} (v : Nat) (h : lo ≤ hi) (hi32 : hi < 32)
    (hd : hi' < lo ∨ hi < lo') : bitsOf (setBits w hi lo v) hi' lo' = bitsOf w hi' lo' := by
  apply Nat.eq_of_testBit_eq
  intro i
  rw [testBit_bitsOf, testBit_bitsOf, testBit_setBits w v _ h hi32]
  by_cases hl : i < hi' + 1 - lo'
  · have : ¬ (lo ≤ lo' + i ∧ lo' + i ≤ hi) := by omega
    simp [hl, this]
  · simp [hl]

/-- A field's value fits its width. -/
theorem bitsOf_lt (w : Word) (hi lo : Nat) : bitsOf w hi lo < 2 ^ (hi + 1 - lo) := Nat.mod_lt _ (Nat.two_pow_pos _)

/-! ## Registers -/

theorem reg_setReg (s : State) (a b : Nat) (w : Word) : reg (setReg s a w) b = if b = a then w else reg s b := by
  simp [reg, setReg, mget_mset]

@[simp] theorem reg_setReg_self (s : State) (a : Nat) (w : Word) : reg (setReg s a w) a = w := by simp [reg_setReg]

theorem reg_setReg_ne (s : State) {a b : Nat} (w : Word) (h : b ≠ a) : reg (setReg s a w) b = reg s b := by
  simp [reg_setReg, h]

theorem reg_setFld_ne (s : State) (f : Field) (v : Nat) {b : Nat} (h : b ≠ f.addr) : reg (setFld s f v) b = reg s b := by
  simp [setFld, reg_setReg_ne, h]

/-- A field whose bits are in a word, low to high. -/
def FieldOk (f : Field) : Prop := f.lo ≤ f.hi ∧ f.hi < 32

theorem fld_setFld (s : State) {f : Field} (v : Nat) (h : FieldOk f) : fld (setFld s f v) f = v % 2 ^ (f.hi + 1 - f.lo) := by
  simp [fld, setFld, bitsOf_setBits, h.1, h.2]

/-- A field of another register, or of other bits of the same one, keeps its value. -/
theorem fld_setFld_ne (s : State) {f g : Field} (v : Nat) (h : FieldOk f)
    (hd : g.addr ≠ f.addr ∨ g.hi < f.lo ∨ f.hi < g.lo) : fld (setFld s f v) g = fld s g := by
  by_cases ha : g.addr = f.addr
  · simp [fld, setFld, ha, bitsOf_setBits_ne _ v h.1 h.2 (hd.resolve_left (by simp [ha]))]
  · simp [fld, setFld, reg_setReg_ne _ _ ha]

theorem bit_setBit (s : State) {f : Field} (h : FieldOk f) (h1 : f.hi = f.lo) : bit (setBit s f) f = true := by
  simp [bit, setBit, fld_setFld _ _ h, h1]

/-- A counting field holds at its largest value (R498). -/
theorem fld_bump (s : State) {f : Field} (n : Nat) (h : FieldOk f) :
    fld (bump s f n) f = min (fld s f + n) (2 ^ (f.hi + 1 - f.lo) - 1) := by
  rw [bump, fld_setFld _ _ h, Nat.mod_eq_of_lt]
  have := Nat.two_pow_pos (f.hi + 1 - f.lo)
  omega

/-! ## Canonical form -/

theorem setReg_canon {s : State} {a : Nat} {w : Word} (h : mcanon regReset s.regs = true) :
    mcanon regReset (setReg s a w).regs = true := mcanon_mset h

theorem setFld_canon {s : State} {f : Field} {v : Nat} (h : mcanon regReset s.regs = true) :
    mcanon regReset (setFld s f v).regs = true := mcanon_mset h

theorem setBit_canon {s : State} {f : Field} (h : mcanon regReset s.regs = true) :
    mcanon regReset (setBit s f).regs = true := mcanon_mset h

theorem bump_canon {s : State} {f : Field} {n : Nat} (h : mcanon regReset s.regs = true) :
    mcanon regReset (bump s f n).regs = true := mcanon_mset h

theorem hostWrite_canon {s : State} {a : Nat} {w : Word} (h : mcanon (fun _ => 0) s.hostMem = true) :
    mcanon (fun _ => 0) (hostWrite s a w).hostMem = true := mcanon_mset h

theorem hostWrites_canon {s : State} {a : Nat} {ws : List Word} (h : mcanon (fun _ => 0) s.hostMem = true) :
    mcanon (fun _ => 0) (hostWrites s a ws).hostMem = true := by
  induction ws generalizing s a with
  | nil => exact h
  | cons w r ih => exact ih (hostWrite_canon h)

theorem reset_canon : mcanon regReset State.reset.regs = true ∧ mcanon (fun _ => 0) State.reset.hostMem = true := ⟨rfl, rfl⟩

/-! ## Host memory -/

theorem hostWord_hostWrite (s : State) (a b : Nat) (w : Word) :
    hostWord (hostWrite s a w) b = if b / 4 = a / 4 then w else hostWord s b := by
  simp [hostWord, hostWrite, mget_mset]

/-- Words outside those written read as before. -/
theorem hostWord_hostWrites_ne (s : State) (a b : Nat) (ws : List Word) (h : b / 4 < a / 4 ∨ a / 4 + ws.length ≤ b / 4) :
    hostWord (hostWrites s a ws) b = hostWord s b := by
  induction ws generalizing s a with
  | nil => rfl
  | cons w r ih =>
    simp only [List.length_cons] at h
    rw [hostWrites, ih _ _ (by omega), hostWord_hostWrite, if_neg (by omega)]

end Sys2Proof.Laws
end

