-- ==== Sys2Proof/Laws/Registers.lean ====
section
/-! SUPPORT. Register accesses (R492 to R496, R522): writes to WO registers, clear bits, reads that latch. -/

namespace Sys2Proof.Laws

open Sys2Proof.Machine

/-- Command `c` writes the clear bit of field `f`: the field reads 0, every other field and the rest of the state stay. -/
def Clears (c : Instr) (f : Field) : Prop :=
  ∀ s : State, 2 ≤ mode s → mode s ≤ 6 → ∃ t, exec c s = .next t ∧ fld t f = 0 ∧
    (∀ g : Field, (g.addr ≠ f.addr ∨ g.hi < f.lo ∨ f.hi < g.lo) → fld t g = fld s g) ∧
    { t with regs := s.regs, out := s.out } = s
/-- Writing back a field what it holds changes nothing. -/
theorem setBits_same (w : Word) {hi lo : Nat} (h : lo ≤ hi) (hi32 : hi < 32) : setBits w hi lo (bitsOf w hi lo) = w := by
  apply BitVec.eq_of_toNat_eq
  apply Nat.eq_of_testBit_eq
  intro i
  rw [testBit_setBits w _ i h hi32]
  split
  · rename_i hh
    rw [testBit_bitsOf]
    have : i - lo < hi + 1 - lo := by omega
    have e : lo + (i - lo) = i := by omega
    simp [this, e]
  · rfl

/-- A write to a register of WO fields leaves it as it was (R496). -/
theorem wo_fold (fs : List FieldDef) (locked : Bool) (d w x : Word) (hx : x = w)
    (h : fs.all (fun f => f.acc = .wo && decide (f.lo ≤ f.hi) && decide (f.hi < 32)) = true) :
    fs.foldl (fun acc f => setBits acc f.hi f.lo (f.write locked (bitsOf w f.hi f.lo) (bitsOf d f.hi f.lo))) x = w := by
  induction fs generalizing x with
  | nil => exact hx
  | cons f r ih =>
    simp only [List.all_cons, Bool.and_eq_true, decide_eq_true_eq] at h
    refine ih _ ?_ (by simpa using h.2)
    subst hx
    simp only [FieldDef.write, h.1.1.1]
    exact setBits_same x h.1.1.2 h.1.2

/-- In PRIME to DOZE every block answers (R492). -/
theorem answers_on {s : State} {a : Nat} (h1 : 2 ≤ mode s) (h2 : mode s ≤ 6) : answers s a = true := by
  unfold answers
  split <;> first | rfl | omega

/-- A write to a register of WO fields is what it sets off. -/
theorem regWrite_wo {s : State} {a : Nat} {d : Word} {r : RegDef} (h1 : answers s a = true) (h2 : regAt a = some r)
    (h3 : r.hasRwl = false) (h4 : r.fields.all (fun f => f.acc = .wo && decide (f.lo ≤ f.hi) && decide (f.hi < 32)) = true)
    (h5 : keptBits s a (reg s a) = []) : regWrite s a d = regActs (setReg s a (reg s a)) a d (reg s a) := by
  unfold regWrite
  rw [h1, h2]
  have : r.write (bit s SYS_LOCKED) (reg s a) d = reg s a := wo_fold r.fields _ d _ _ rfl h4
  simp [h3, this, h5]

theorem fld_setReg_same (s : State) (a : Nat) (g : Field) : fld (setReg s a (reg s a)) g = fld s g := by
  unfold fld
  rw [reg_setReg]
  split <;> simp_all

/-- A row of a counter clear, from what its write does. -/
theorem clears_of {c : Instr} {f : Field} (x : Field) (k : State → State) (hf : FieldOk f) (he : ∀ s, exec c s = act k s)
    (hk : ∀ s, 2 ≤ mode s → mode s ≤ 6 → k (fresh s) = setFld (setReg (fresh s) x.addr (reg s x.addr)) f 0) : Clears c f := by
  intro s h1 h2
  refine ⟨keepQueue s (setFld (setReg (fresh s) x.addr (reg s x.addr)) f 0), ?_, ?_, ?_, ?_⟩
  · rw [he]
    exact act_keep (hk s h1 h2)
  · show fld (setFld _ f 0) f = 0
    rw [fld_setFld _ _ hf]; simp
  · intro g hg
    show fld (setFld _ f 0) g = _
    rw [fld_setFld_ne _ _ hf hg]
    exact fld_setReg_same (fresh s) x.addr g
  · rfl

/-- A fold that skips elements folds over the rest. -/
theorem fold_if {α β : Type} (l : List α) (p : α → Prop) [DecidablePred p] (g : β → α → β) (x : β) :
    l.foldl (fun b a => if p a then g b a else b) x = (l.filter p).foldl g x := by
  induction l generalizing x with
  | nil => rfl
  | cons a r ih =>
    by_cases h : p a
    · simp [h, ih]
    · simp [h, ih]

/-- A clear bit written alone clears its own counter. -/
theorem clearBits_one {s : State} {a : Nat} {d : Word} {c f : Field}
    (h : clears.filter (fun c => decide (c.1.addr = a ∧ bitsOf d c.1.hi c.1.lo = 1)) = [(c, f)])
    (h1 : ¬ (a = TIK_CLR_LAST.addr ∧ bitsOf d TIK_CLR_LAST.hi TIK_CLR_LAST.lo = 1)) (h2 : ¬ a = ECC_CLR.addr) :
    clearBits s a d = setFld s f 0 := by
  unfold clearBits
  rw [fold_if, h]
  simp only [if_neg h1, if_neg h2, List.foldl_cons, List.foldl_nil]

theorem ringReg_none {a : Nat} (h : ¬ (0x110000 ≤ a ∧ a < 0x150000)) : ringReg a = none := by
  unfold ringReg
  rw [if_neg (fun x => h ⟨x.1, x.2.1⟩)]

/-- Where no other register acts, a write is its clear bits. -/
theorem regActs_clear {s : State} {a : Nat} {d old : Word}
    (h : a ∉ [SYS_SETUP_DONE.addr, CTL_BOOT_GO.addr, ADM_HOST_CLOSE.addr, TIK_SRC.addr, TIK_OUT_EN.addr, PPS_IN_EN.addr,
        PAD_REL_TIME.addr, PAD_FAN_AUTO.addr, PWR_ALERT_WARN.addr])
    (h2 : ¬ (0x401000 ≤ a ∧ a < 0x401800 ∧ a % 0x20 = 8)) (h3 : ¬ (0x110000 ≤ a ∧ a < 0x150000)) :
    regActs s a d old = clearBits s a d := by
  simp only [List.mem_cons, not_or, List.not_mem_nil, not_false_eq_true, and_true] at h
  obtain ⟨a1, a2, a3, a4, a5, a6, a7, a8, a9⟩ := h
  unfold regActs
  simp only [if_neg a1, if_neg a2, if_neg a3, if_neg a4, if_neg a5, if_neg a6, if_neg a7, if_neg a8, if_neg a9, if_neg h2, ringReg_none h3]
  rw [if_neg (fun x => h3 ⟨x.1, x.2.1⟩), if_neg (fun x => h3 ⟨x.1, x.2.1⟩)]

/-- Registers without bits that a write keeps. -/
theorem keptBits_none {s : State} {a : Nat} {w : Word}
    (h : a ∉ [FWD_EST_Q_HI.addr, PWR_CRIT_C.addr, MEM_HASH_BA0.addr, MEM_HASH_BA1.addr, MEM_HASH_BG0.addr, MEM_HASH_BG1.addr])
    (h2 : ¬ (0x401000 ≤ a ∧ a < 0x401800)) (h3 : ¬ (0x110000 ≤ a ∧ a < 0x150000)) : keptBits s a w = [] := by
  simp only [List.mem_cons, not_or, List.not_mem_nil, not_false_eq_true, and_true] at h
  obtain ⟨a1, a2, a3, a4, a5, a6⟩ := h
  unfold keptBits
  simp only [if_neg a1, if_neg a2, if_neg a3, if_neg a4, if_neg a5, if_neg a6, if_neg h2, ringReg_none h3, if_neg h3]

/-- A row of a counter clear, from facts about its register that decide. -/
theorem clears_row {c : Instr} {x f : Field} (he : ∀ s, exec c s = act (clearWrite · x) s) (hf : FieldOk f) (hr : (regAt x.addr).isSome =
    true)
    (h1 : ((regAt x.addr).get hr).hasRwl = false)
    (h2 : ((regAt x.addr).get hr).fields.all (fun f => f.acc = .wo && decide (f.lo ≤ f.hi) && decide (f.hi < 32)) = true)
    (h3 : x.addr ∉ [SYS_SETUP_DONE.addr, CTL_BOOT_GO.addr, ADM_HOST_CLOSE.addr, TIK_SRC.addr, TIK_OUT_EN.addr, PPS_IN_EN.addr,
        PAD_REL_TIME.addr, PAD_FAN_AUTO.addr, PWR_ALERT_WARN.addr])
    (h4 : x.addr ∉ [FWD_EST_Q_HI.addr, PWR_CRIT_C.addr, MEM_HASH_BA0.addr, MEM_HASH_BA1.addr, MEM_HASH_BG0.addr, MEM_HASH_BG1.addr])
    (h5 : ¬ (0x401000 ≤ x.addr ∧ x.addr < 0x401800)) (h6 : ¬ (0x110000 ≤ x.addr ∧ x.addr < 0x150000))
    (h7 : clears.filter (fun c => decide (c.1.addr = x.addr ∧ bitsOf (BitVec.ofNat 32 (2 ^ x.lo)) c.1.hi c.1.lo = 1)) = [(x, f)])
    (h8 : ¬ (x.addr = TIK_CLR_LAST.addr ∧ bitsOf (BitVec.ofNat 32 (2 ^ x.lo)) TIK_CLR_LAST.hi TIK_CLR_LAST.lo = 1)) (h9 : ¬ x.addr =
        ECC_CLR.addr) :
    Clears c f := by
  refine clears_of x (clearWrite · x) hf he (fun s m1 m2 => ?_)
  refine (regWrite_wo (s := fresh s) (r := (regAt x.addr).get hr) (answers_on (s := fresh s) m1 m2) (by simp) h1 h2 (keptBits_none h4 h5
      h6)).trans ?_
  refine (regActs_clear h3 (fun y => h5 ⟨y.1, y.2.1⟩) h6).trans ?_
  exact clearBits_one h7 h8 h9

theorem fld_fresh (s : State) (g : Field) : fld (fresh s) g = fld s g := rfl

/-- ECC_CLR of target `n` clears its counters and its bucket (R408). -/
theorem ecc_fld (t : State) (n : Nat) (h : n ≤ 10) : fld (eccClear t n) (ECC_CE_CNT n) = 0 ∧ fld (eccClear t n) (ECC_UE_CNT n) = 0 ∧
    fld (eccClear t n) (ECC_ADDR_CNT n) = 0 ∧ fld (eccClear t n) (ECC_BUCKET n) = 0 := by
  unfold eccClear
  rw [if_pos h]
  have o1 : FieldOk (ECC_CE_CNT n) := ⟨Nat.zero_le _, (by decide : 31 < 32)⟩
  have o2 : FieldOk (ECC_UE_CNT n) := ⟨Nat.zero_le _, (by decide : 31 < 32)⟩
  have o3 : FieldOk (ECC_ADDR_CNT n) := ⟨Nat.zero_le _, (by decide : 31 < 32)⟩
  have o4 : FieldOk (ECC_BUCKET n) := ⟨Nat.zero_le _, (by decide : 15 < 32)⟩
  refine ⟨?_, ?_, ?_, ?_⟩
  · rw [fld_setFld_ne _ _ o4 (.inl (by simp [ECC_BUCKET, ECC_CE_CNT])), fld_setFld_ne _ _ o3 (.inl (by simp [ECC_ADDR_CNT, ECC_CE_CNT])),
      fld_setFld_ne _ _ o2 (.inl (by simp [ECC_UE_CNT, ECC_CE_CNT])), fld_setFld _ _ o1, Nat.zero_mod]
  · rw [fld_setFld_ne _ _ o4 (.inl (by simp [ECC_BUCKET, ECC_UE_CNT])), fld_setFld_ne _ _ o3 (.inl (by simp [ECC_ADDR_CNT, ECC_UE_CNT])),
      fld_setFld _ _ o2, Nat.zero_mod]
  · rw [fld_setFld_ne _ _ o4 (.inl (by simp [ECC_BUCKET, ECC_ADDR_CNT])), fld_setFld _ _ o3, Nat.zero_mod]
  · rw [fld_setFld _ _ o4, Nat.zero_mod]

/-- ECC_CLR leaves every other register. -/
theorem ecc_fld_ne (t : State) (n : Nat) (g : Field) (hg : n ≤ 10 → g.addr ≠ (ECC_CE_CNT n).addr ∧ g.addr ≠ (ECC_UE_CNT n).addr ∧
      g.addr ≠ (ECC_ADDR_CNT n).addr ∧ g.addr ≠ (ECC_BUCKET n).addr) : fld (eccClear t n) g = fld t g := by
  unfold eccClear
  split
  · rename_i h
    obtain ⟨g1, g2, g3, g4⟩ := hg h
    rw [fld_setFld_ne _ _ (⟨Nat.zero_le _, (by decide : 15 < 32)⟩ : FieldOk (ECC_BUCKET n)) (.inl g4),
      fld_setFld_ne _ _ (⟨Nat.zero_le _, (by decide : 31 < 32)⟩ : FieldOk (ECC_ADDR_CNT n)) (.inl g3),
      fld_setFld_ne _ _ (⟨Nat.zero_le _, (by decide : 31 < 32)⟩ : FieldOk (ECC_UE_CNT n)) (.inl g2),
      fld_setFld_ne _ _ (⟨Nat.zero_le _, (by decide : 31 < 32)⟩ : FieldOk (ECC_CE_CNT n)) (.inl g1)]
  · rfl

theorem setFld_keep (t : State) (f : Field) (v : Nat) (r : Table Word) (o : List OutMsg) :
    ({ setFld t f v with regs := r, out := o } : State) = { t with regs := r, out := o } := rfl
theorem ecc_keep (t : State) (n : Nat) (r : Table Word) (o : List OutMsg) :
    ({ eccClear t n with regs := r, out := o } : State) = { t with regs := r, out := o } := by
  unfold eccClear
  split
  · rw [setFld_keep, setFld_keep, setFld_keep, setFld_keep]
  · rfl

theorem keepQueue_fld (s t : State) (g : Field) : fld (keepQueue s t) g = fld t g := rfl
theorem keepQueue_keep (s t : State) (r : Table Word) (o : List OutMsg) :
    ({ keepQueue s t with regs := r, out := o } : State) = { ({ t with regs := r, out := o } : State) with pending := s.pending } := rfl
theorem setReg_keep (s : State) (a : Nat) (w : Word) : ({ ({ setReg (fresh s) a w with regs := s.regs, out := s.out } : State) with
    pending := s.pending } : State) = s := rfl


/-- A read of a live register. -/
theorem read_live {s : State} {a : Nat} {w : Word} (h1 : answers s a = true) (h2 : (regAt a).isSome = true) (h3 : liveReg s a = some w) :
    regRead s a = w := by
  unfold regRead
  rw [h1, h3]
  obtain ⟨r, hr⟩ := Option.isSome_iff_exists.mp h2
  rw [hr]; rfl

/-- A 4-byte read of a register that answers: it latches its copies, and returns what the register reads as (R493, R522). -/
theorem readAt_mapped {s : State} {a : Nat} (h1 : answers s a = true) (h2 : (regAt a).isSome = true) :
    readAt s a = ((latched s a).foldl (fun s p => setReg s p.1 (BitVec.ofNat 32 p.2)) s, regRead s a) := by
  obtain ⟨r, hr⟩ := Option.isSome_iff_exists.mp h2
  simp [readAt, h1, hr]

/-- A read that latches (R522), of 8 bytes with the register after it, which latches nothing. -/
theorem latch_run {s t : State} {a : Nat} {w : Word} {wide : Bool} {l : List (Nat × Nat)} (h1 : answers s a = true)
    (h2 : (regAt a).isSome = true) (h3 : regRead s a = w) (h4 : latched s a = l)
    (ht : t = l.foldl (fun s p => setReg s p.1 (BitVec.ofNat 32 p.2)) s) (h5 : answers t (a + 4) = true)
    (h6 : (regAt (a + 4)).isSome = true) (h7 : latched t (a + 4) = []) :
    latchRead s a wide = setRdata t ((if wide then regRead t (a + 4) else 0) ++ w) := by
  subst h3 h4 ht
  cases wide
  · simp [latchRead, readAt_mapped h1 h2]
  · simp [latchRead, readAt_mapped h1 h2, readAt_mapped h5 h6, h7]

theorem liveNow (s : State) : liveReg s TIK_NOW_LO.addr = some (BitVec.ofNat 32 (curTick s)) := by
  unfold liveReg
  rw [if_neg (by decide), if_neg (by decide), if_pos rfl]
theorem liveOvr (s : State) : liveReg s TIK_OVR_LAST_LO.addr = some (s.easel.ovrLast.setWidth 32) := by
  unfold liveReg
  rw [if_neg (by decide), if_neg (by decide), if_neg (by decide), if_pos rfl]
theorem liveNs (s : State) : liveReg s PTP_TIME_NS.addr = some (BitVec.ofNat 32 (ns s % 1000000000)) := by
  unfold liveReg
  rw [if_neg (by decide), if_neg (by decide), if_neg (by decide), if_neg (by decide), if_pos rfl]
theorem liveSleep (s : State) : liveReg s PTP_SLEEP_CNT_LO.addr = some (BitVec.ofNat 32 s.pwr.sleepC) := by
  unfold liveReg
  rw [if_neg (by decide), if_neg (by decide), if_neg (by decide), if_neg (by decide), if_neg (by decide), if_pos rfl]
theorem liveSer (s : State) : liveReg s SYS_SERIAL_LO.addr = some (Config.serial.setWidth 32) := by
  unfold liveReg
  rw [if_neg (by decide), if_pos rfl]

end Sys2Proof.Laws
end

