-- ==== Sys2Proof/Tests/Slice0.lean ====
section
/-! SUPPORT. Tests: witnesses that meet the hypotheses of every statement, the checks of WellFormed, and small steps against the spec's
worked examples. -/

namespace Sys2Proof.Tests

-- Each theorem here is evaluated by the kernel: one after another, so that they do not all wait in threads of their own.
set_option Elab.async false

open Sys2Proof Sys2Proof.Machine

/-! ## A small device in RUN -/

def hdr : CmdHdr := ⟨0, 0, 7, 0x1234, false⟩

/-- Set several fields. -/
def flds (s : State) (l : List (Field × Nat)) : State := l.foldl (fun s p => setFld s p.1 p.2) s

/-- An audio record: Opus both ways, decoded, one packet per tick. -/
def opusRec : StreamRec :=
  { rxEn := true, txEn := true, rxDec := true, rxFwd := true, codec := 1, pRx := 24, pTx := 24, jRx := 4, rxKbps := 64, rxPps := 50
    rxPktMax := 300, rxBurstP := 8, rxBurstB := 2400, txKbps := 64, txPps := 50, txPktMax := 300 }

/-- A video record: H.264 at 640 by 360 both ways. -/
def avcRec : StreamRec :=
  { rxEn := true, txEn := true, rxDec := true, rxFwd := true, codec := 0x10, pRx := 40, pTx := 40, jRx := 4, rxW := 640, rxH := 360
    txW := 640, txH := 360, rxKbps := 1000, rxPps := 200, rxPktMax := 1200, rxBurstP := 16, rxBurstB := 24000, txKbps := 20000
    txPps := 2000, txPktMax := 1200 }

def prof : Profile := { ownEnc := true, recs := [opusRec, avcRec, {}], subMax := 4, subKbps := 1000, subPps := 200, subPktMax := 1200 }

def leg5 : Leg := { conf := 1, item := { owner := 0, jobs := [], counts := [], sport := 0 }, prof := prof, live := some prof }

def blk (tx : Word) (x : Nat) : BindBlk :=
  { localUdp := 5000, remoteUdp := 6000, localIp := 1, remoteIp := 2, ssrcs := [BitVec.ofNat 32 x, 0, 0, 0], txSsrc := tx, valid := 1 }

def bnd20 : Bound := { blk := blk 0x111 0x222, order := 0, live := true, limit := 100 }
def bnd21 : Bound := { blk := blk 0x333 0x444, order := 1, live := true, limit := 100 }

/-- RUN, tick 100 in WORK, function 0 enabled, conference 1 with leg 5, whose streams 20 and 21 are bound. -/
def runS : State :=
  let s := flds State.reset [(SYS_MODE, 3), (SYS_LOCKED, 1), (HIF_FN_STATE 0, 1), (HIF_FN_EN 0, 1), (NET_PORT_MODE 0, 1),
    (SPQ_POOL_UNITS, 16), (KEY_CLEAR_EN, 1), (PWR_DOM_ON, 1023)]
  { s with
    clk := { t := 100 * 833333 * 2 ^ 48, running := true, cyc := 100000 }
    easel := { running := true, issued := true, now := 100, start := 83333333, next := 101, due := 84166666, work := true }
    adm := { confs := [(1, ⟨0, 120, 3600, 0⟩)], legs := [(5, leg5)] }
    net := { bound := [(20, bnd20), (21, bnd21)] }
    pwr := { cold := false, rails := 63 } }

theorem test_runS : Passes runS hdr {} ∧ admOpen runS = true := by decide

/-! ## Witness: a wrapped key (R185) -/

def kek0 : List Byte := (List.range 32).map (fun i => BitVec.ofNat 8 i)

/-- The plaintext of an import: type 1, suite 3, 28 bytes of key and salt, 4 bytes of zeros. -/
def plain0 : List Byte := [1, 3, 0, 0, 0, 0, 0, 0] ++ (List.range 28).map (fun i => BitVec.ofNat 8 (i + 1)) ++ zeros 4

/-- The round keys of `kek0`, newest first. -/
def rks0 : List Nat :=
  [0x24fc79ccbf0979e9371ac23c6d68de36,
   0x4e5a6699a9f24fe07e572baacdf8cdea,
   0x2541fe719bf500258813bbd55a721c0a,
   0xf01afafee7a82979d7a5644ab3afe640,
   0x7ccff71cbeb4fe5413e6bbf0d261a7df,
   0x45f5a66017b2d387300d4d33640a820a,
   0x0bdc905fc27b0948ad5245a4c1871c2f,
   0x3de23a75524775e727bf9eb45407cf39,
   0xc656827fc9a799176f294cec6cd5598b,
   0x6de1f1486fa54f9275f8eb5373b8518d,
   0xae87dff00ff11b68a68ed5fb03fc1567,
   0x1651a8cd0244beda1a5da4c10640bade,
   0xa573c29fa176c498a97fce93a572c09c,
   0x101112131415161718191a1b1c1d1e1f,
   0x000102030405060708090a0b0c0d0e0f]

/-- The 48 bytes of key wrap after each of its 30 decryptions: the integrity value and five blocks. -/
def wrap0 : List Nat :=
  [0x2e9610a3bd7ff2769972144d64f9972a6af89614cf55a2e2516d0eb76b58903b7fb32b9c431935dc0f1146cc0ad2db77,
   0x7a6880e78627abc69972144d64f9972a6af89614cf55a2e2516d0eb76b58903b7fb32b9c431935dc42d3fbbf0ef11d69,
   0xbb1befc951a383c69972144d64f9972a6af89614cf55a2e2516d0eb76b58903b959fd1c8b1b2128e42d3fbbf0ef11d69,
   0x6f3dcd00076c74779972144d64f9972a6af89614cf55a2e27cfdddab5ea4c5a4959fd1c8b1b2128e42d3fbbf0ef11d69,
   0x2517095df501a14a9972144d64f9972af9b9445f9039ad467cfdddab5ea4c5a4959fd1c8b1b2128e42d3fbbf0ef11d69,
   0x2f55bc511a0898e9ad95e04a68a4f360f9b9445f9039ad467cfdddab5ea4c5a4959fd1c8b1b2128e42d3fbbf0ef11d69,
   0x783801bb0ec399c8ad95e04a68a4f360f9b9445f9039ad467cfdddab5ea4c5a4959fd1c8b1b2128e1fc62bd1f4858e63,
   0xa64f20d079defdcbad95e04a68a4f360f9b9445f9039ad467cfdddab5ea4c5a4f8aeff59957f45c01fc62bd1f4858e63,
   0xa45b1f3d8e317562ad95e04a68a4f360f9b9445f9039ad46b7329ea2d4a5604ff8aeff59957f45c01fc62bd1f4858e63,
   0x19e6b1e5f5cb028aad95e04a68a4f3608e7cf06e005920adb7329ea2d4a5604ff8aeff59957f45c01fc62bd1f4858e63,
   0x7f43a83eaaff0e5b4831308a889a2c4a8e7cf06e005920adb7329ea2d4a5604ff8aeff59957f45c01fc62bd1f4858e63,
   0xe830a02342a095664831308a889a2c4a8e7cf06e005920adb7329ea2d4a5604ff8aeff59957f45c0103b37c9b25e090b,
   0x2370d038d7bd6d094831308a889a2c4a8e7cf06e005920adb7329ea2d4a5604f1db30f466ab53eaf103b37c9b25e090b,
   0x5165caaae50894384831308a889a2c4a8e7cf06e005920adf0885b1001b1ef121db30f466ab53eaf103b37c9b25e090b,
   0x9069595b14daaa3b4831308a889a2c4a872b934602f582f5f0885b1001b1ef121db30f466ab53eaf103b37c9b25e090b,
   0x9808eded77b4951a148b2414c9d342a6872b934602f582f5f0885b1001b1ef121db30f466ab53eaf103b37c9b25e090b,
   0xca6c41ddfde3b5f5148b2414c9d342a6872b934602f582f5f0885b1001b1ef121db30f466ab53eaf7825584213450f92,
   0x54cebc08286264da148b2414c9d342a6872b934602f582f5f0885b1001b1ef12018982dc4252a8e97825584213450f92,
   0xdc777eac129b5d7d148b2414c9d342a6872b934602f582f589e7ac97facdff05018982dc4252a8e97825584213450f92,
   0xe2271076d8dc3732148b2414c9d342a674a2956b0a0ec88389e7ac97facdff05018982dc4252a8e97825584213450f92,
   0x388bbbf80e04bbaac2b5cc8a70622ee074a2956b0a0ec88389e7ac97facdff05018982dc4252a8e97825584213450f92,
   0xd2341aefa188ce6ec2b5cc8a70622ee074a2956b0a0ec88389e7ac97facdff05018982dc4252a8e99a08939e5330a507,
   0xb3dfd0352e4d7640c2b5cc8a70622ee074a2956b0a0ec88389e7ac97facdff05b3d7338a6eb66cb89a08939e5330a507,
   0x321bb6b3ec62e8d6c2b5cc8a70622ee074a2956b0a0ec88335a6851a1c1323f4b3d7338a6eb66cb89a08939e5330a507,
   0xa9fed06dfa121a5dc2b5cc8a70622ee022b29eaa61680ecc35a6851a1c1323f4b3d7338a6eb66cb89a08939e5330a507,
   0x87cd4325f67244b3740925896b848a8922b29eaa61680ecc35a6851a1c1323f4b3d7338a6eb66cb89a08939e5330a507,
   0x6cf6614f2f4966c7740925896b848a8922b29eaa61680ecc35a6851a1c1323f4b3d7338a6eb66cb8191a1b1c00000000,
   0x84c3a285ccbde068740925896b848a8922b29eaa61680ecc35a6851a1c1323f41112131415161718191a1b1c00000000,
   0x4ef7c5caa2c405a7740925896b848a8922b29eaa61680ecc090a0b0c0d0e0f101112131415161718191a1b1c00000000,
   0x6f7fdf0f31e5b504740925896b848a890102030405060708090a0b0c0d0e0f101112131415161718191a1b1c00000000,
   0xa6a6a6a6a6a6a6a601030000000000000102030405060708090a0b0c0d0e0f101112131415161718191a1b1c00000000]

def state0 (i : Nat) : List Byte × List (List Byte) :=
  let n := wrap0.getD i 0
  (natBE 8 (n / 2 ^ 320), (List.range 5).map (fun j => natBE 8 (n / 2 ^ (64 * (4 - j)))))

theorem rks0_eq : (roundKeys kek0).reverse = rks0.map (natBE 16) := by decide +kernel

/-- One decryption of the unwrapping, on numbers. -/
def step0 (p : List Byte × List (List Byte)) (t : Nat) : List Byte × List (List Byte) :=
  let b := ofNats (rounds16 ((rks0.drop 1).map (fun k => toNats (natBE 16 k)))
    (List.zipWith (· ^^^ ·) (toNats (xorB p.1 (natBE 8 (t + 1)) ++ p.2.getD (t % 5) [])) (toNats (natBE 16 (rks0.headD 0)))))
  (b.take 8, p.2.set (t % 5) (b.drop 8))

theorem chain0 : ∀ i : Fin 30, step0 (state0 i) (29 - i) = state0 (i + 1) := by decide +kernel

theorem foldl_chain {α : Type} (f : α → Nat → α) (d : Nat → α) (n : Nat) (h : ∀ i, i < n → f (d i) (n - 1 - i) = d (i + 1)) :
    (List.range n).reverse.foldl f (d 0) = d n := by
  have : ∀ m k, k + m = n → (List.range m).reverse.foldl f (d k) = d n := by
    intro m
    induction m with
    | zero => intro k e; simp [show k = n by omega]
    | succ m ih =>
      intro k e
      have e2 : n - 1 - k = m := by omega
      have e3 := h k (by omega)
      rw [e2] at e3
      rw [List.range_succ, List.reverse_append]
      simpa [e3] using ih (k + 1) (by omega)
  exact this n 0 (by omega)

def wrapWs : List Word := bytesWords (natBE 48 (wrap0.headD 0))

/-- The unwrapping of the wrapped key. -/
theorem test_unwrap : keyUnwrap kek0 ((wordBytes wrapWs).take ((8 + 16 + 12 + 7) / 8 * 8 + 8)) = some plain0 := by
  have e : (wordBytes wrapWs).take ((8 + 16 + 12 + 7) / 8 * 8 + 8) = natBE 48 (wrap0.headD 0) := by decide +kernel
  have hk : ∀ x ∈ rks0.map (natBE 16), x.length = 16 := by decide +kernel
  have d0 : ((natBE 48 (wrap0.headD 0)).take 8, chunks 8 6 ((natBE 48 (wrap0.headD 0)).drop 8)) = state0 0 := by decide +kernel
  have l8 : ∀ i : Fin 30, (state0 i).1.length = 8 ∧ ∀ j : Fin 5, ((state0 i).2.getD j []).length = 8 := by decide +kernel
  have c : chunks 8 6 ((natBE 48 (wrap0.headD 0)).drop 8) = (state0 0).2 := congrArg Prod.snd d0
  rw [e]
  unfold keyUnwrap
  rw [show (natBE 48 (wrap0.headD 0)).length / 8 = 6 by decide, c]
  rw [show (natBE 48 (wrap0.headD 0)).take 8 = (state0 0).1 from congrArg Prod.fst d0]
  have n5 : (state0 0).2.length = 5 := by decide
  simp only [n5]
  have h := foldl_chain (fun (p : List Byte × List (List Byte)) t =>
    let b := aesDec kek0 (xorB p.1 (natBE 8 (t + 1)) ++ p.2.getD (t % 5) [])
    (b.take 8, p.2.set (t % 5) (b.drop 8))) state0 30 (by
      intro i hi
      have l := l8 ⟨i, hi⟩
      have e1 := l.2 ⟨(30 - 1 - i) % 5, Nat.mod_lt _ (by decide)⟩
      have h16 : (xorB (state0 i).1 (natBE 8 (30 - 1 - i + 1)) ++ (state0 i).2.getD ((30 - 1 - i) % 5) []).length = 16 := by
        simp only [List.length_append, xorB, List.length_zipWith, l.1, e1]
        simp [natBE]
      have := chain0 ⟨i, hi⟩
      rw [← this]
      simp only [step0]
      rw [aesDec_rounds kek0 _ _ rks0_eq hk _ h16]
      rfl)
  have z : (List.range (6 * 5)).reverse.foldl (fun (p : List Byte × List (List Byte)) t =>
    let b := aesDec kek0 (xorB p.1 (natBE 8 (t + 1)) ++ p.2.getD (t % 5) [])
    (b.take 8, p.2.set (t % 5) (b.drop 8))) ((state0 0).1, (state0 0).2) = state0 30 := h
  rw [z]
  decide +kernel

/-! ## Witnesses: commands of hosts -/

def vfS : State := { runS with hif := { runS.hif with vfEn := true, numVfs := 1 } }
def confS : State := { runS with adm := { runS.adm with confs := [(2, ⟨0, 120, 3600, 0⟩)] } }

/-- A profile block: stream 0 receives Opus, 8 media ticks of jitter. -/
def profWs : List Word :=
  [0x01000000, 0, 0, 0, 0, 0, 0, 0, 0xB0010000, 0x01801804, 0, 0, 64, 0x0032012C, 0x00080000, 2400] ++ List.replicate 32 0

def lay3 : LayoutAdm :=
  { conf := 1, item := { owner := 0, jobs := [], counts := [], sport := 0 }, w := 640, h := 360, period := 40, codec := 0x10, cprof := 0
    depth := 0, live := true }
def layS : State := { runS with adm := { runS.adm with layouts := [(3, lay3)] } }

def freeS : State := { runS with net := {} }

/-- A bind block of IPv4 on port 0. -/
def bindWs : List Word :=
  [0x01000000, 0x13881771, 0, 0, 0, 0x0A000001, 0, 0, 0, 0x0A000002, 0, 0, 0x777, 0, 0, 0, 0x888, 0, 1] ++ List.replicate 13 0

def sub9 : Sub :=
  { owner := 0, src := 20, dst := 20, outSsrc := 0x999, seqStart := 0, ptEn := false, ptOut := 0, ddIn := 0, ddOut := 0, fmIn := 0
    fmOut := 0, pause := false, kpFir := false, prio := 0, capS := 0, capT := 0, live := true }
def subS : State := { runS with fwd := { runS.fwd with subs := [(9, sub9)] } }

/-- The point G of P-256, least significant word first of each four bytes (R184). -/
def peerKey : List Word := bytesWords (natBE 32 p256G.1 ++ natBE 32 p256G.2)

def mst8 : KeySlot := { owner := 0, session := false, suite := 1, key := zeros 16, salt := zeros 14 }
def kekS : State := { runS with key := { runS.key with keks := [(0, kek0)] } }
def keyS : State := { runS with key := { runS.key with slots := [(8, mst8)] } }
def cipS : State :=
  { runS with cip := { runS.cip with tx := [(20, { slot := none })], rx := [(20, { slot := none })] } }

def tone1 : Tone := { fn := 0, osc := [], cadence := [(none, 0)], left := none, replace := false, start := 90 }
def toneS : State := { runS with aud := { runS.aud with tones := [(busTgt 1 3, tone1)] } }
def medS : State :=
  let s := flds runS [(HIF_RING_EN 0 64, 1), (HIF_RING_EN 0 66, 1), (HIF_RING_DIR 0 66, 1)]
  { s with aud := { s.aud with media := [(1, { point := some (.audio 1 5 0 4096), live := true })] } }

/-- A program image of one code word. -/
def imgWs : List Word := [0x01000001, 0, 0x00280028, 64, 0, 0, 0, 0] ++ List.replicate 8 0 ++ [0x12345678]
def prog7 : BProg :=
  { owner := 0, code := List.replicate 32 0x12345678, ximg := [], yimg := [], xwin := 8192, ywin := 8192, cycMax := 64, studio := 1024, xferMax := 1024
    inOfs := 0, outOfs := 0, entry := 0, sam := false }
def progS : State :=
  { runS with
    brs := { runS.brs with progs := [(7, prog7)] }
    aud := { runS.aud with legs := [(5, { conf := 1, home := some 5 })] } }
def inst20 : BInst := { prog := 7, core := 160, params := [0, 0, 0, 0], live := true }
def instS : State := { progS with brs := { progS.brs with insts := [(20, inst20)] } }

theorem test_met_GenericCommandsComplete :
  (∃ (s : State) (h : CmdHdr), Passes s h {}) ∧
  (∃ (s : State) (h : CmdHdr), Passes s h {}) ∧
  (∃ (s : State) (h : CmdHdr) (code : BitVec 16), Passes s h { reserved := !eventCodes.contains code } ∧ unmaskable code = false) ∧
  (∃ (s : State) (h : CmdHdr) (code : BitVec 16), Passes s h { reserved := !eventCodes.contains code } ∧ unmaskable code = false ∧ (fnOf s
    h.fn.toNat).masked.contains code = false) ∧
  (∃ (s : State) (h : CmdHdr) (f : BitVec 6), Passes s h { fn0 := true, reserved := f = 0 } ∧ fnExists s f.toNat = true) :=
  ⟨⟨runS, hdr, by decide⟩,
   ⟨runS, hdr, by decide⟩,
   ⟨runS, hdr, EV_FWD_LAYER, by decide +kernel⟩,
   ⟨runS, hdr, EV_FWD_LAYER, by decide +kernel⟩,
   ⟨vfS, hdr, 1, by decide +kernel⟩⟩

theorem test_met_AdmissionCommandsComplete :
  (∃ (s : State) (h : CmdHdr) (c : BitVec 12), Passes s h {} ∧ tget s.adm.confs c.toNat = none) ∧
  (∃ (s : State) (h : CmdHdr) (c : BitVec 12) (x : Conf), Passes s h {} ∧ tget s.adm.confs c.toNat = some x ∧ x.owner = h.fn.toNat ∧
    confHolds s c.toNat = false) ∧
  (∃ (s : State) (h : CmdHdr) (c : BitVec 12) (leg : BitVec 14) (addr : BitVec 64) (ws : List Word) (x : Conf), Passes s h
    { misaligned := addr.toNat % 64 ≠ 0 } ∧ admOpen s = true ∧ tget s.adm.confs c.toNat = some x ∧ x.owner = h.fn.toNat ∧ tget s.adm.legs
    leg.toNat = none ∧ profileChecks s c.toNat x ws (parseProfile ws) = none ∧ capacityCheck s h.fn.toNat (allItems s) (legItem s
    h.fn.toNat leg.toNat (parseProfile ws) (allItems s) []) none = none) ∧
  (∃ (s : State) (h : CmdHdr) (c : BitVec 12) (leg : BitVec 14) (addr : BitVec 64) (ws : List Word) (x : Conf) (l : Leg), Passes s h
    { misaligned := addr.toNat % 64 ≠ 0 } ∧ tget s.adm.confs c.toNat = some x ∧ x.owner = h.fn.toNat ∧ tget s.adm.legs leg.toNat = some l
    ∧ l.item.owner = h.fn.toNat ∧ l.item.releasing = false ∧ l.conf = c.toNat ∧ profileChecks s c.toNat x ws (parseProfile ws) = none ∧
    (!admOpen s && chargesMore (legItem s h.fn.toNat leg.toNat (parseProfile ws) (otherItems s leg.toNat) l.item.jobs) l.item) = false ∧
    capacityCheck s h.fn.toNat (otherItems s leg.toNat) (legItem s h.fn.toNat leg.toNat (parseProfile ws) (otherItems s leg.toNat)
    l.item.jobs) (poolCheck s leg.toNat (parseProfile ws)) = none) ∧
  (∃ (s : State) (h : CmdHdr) (leg : BitVec 14) (l : Leg), Passes s h {} ∧ legFor s h.fn.toNat leg.toNat = .ok l) ∧
  (∃ (s : State) (h : CmdHdr) (hd : BitVec 16) (l : Leg), Passes s h { reserved := hd.toNat % 4 = 3 } ∧ legFor s h.fn.toNat (hd.toNat / 4)
    = .ok l) ∧
  (∃ (s : State) (h : CmdHdr) (f : BitVec 6) (r : BitVec 4) (v : BitVec 11), Passes s h { fn0 := true, reserved := 1024 < v.toNat } ∧
    fnPeak s f.toNat r.toNat ≤ v.toNat ∧ (List.range 64).foldl (fun a g => if g = f.toNat then a else a + shareSet s g r.toNat) 0 +
    v.toNat ≤ 1024) ∧
  (∃ (s : State) (h : CmdHdr) (id : BitVec 9) (c : BitVec 12) (w ht : BitVec 16) (per : BitVec 12) (codec cprof : BitVec 8) (depth :
    BitVec 1) (x : Conf), Passes s h { reserved := (vidCap codec.toNat cprof.toNat).isNone } ∧ admOpen s = true ∧ tget s.adm.confs c.toNat
    = some x ∧ x.owner = h.fn.toNat ∧ tget s.adm.layouts id.toNat = none ∧ vidOk true codec.toNat cprof.toNat depth.toNat w.toNat ht.toNat
    = true ∧ per.toNat ≠ 0 ∧ 3600 % per.toNat = 0 ∧ per.toNat ≤ x.vidPmax ∧ cdiv (w.toNat * ht.toNat) per.toNat ≤ 625000 ∧ capacityCheck s
    h.fn.toNat (allItems s) (layoutItem h.fn.toNat id.toNat w.toNat ht.toNat per.toNat codec.toNat depth.toNat) none = none) ∧
  (∃ (s : State) (h : CmdHdr) (id : BitVec 9) (l : LayoutAdm), Passes s h {} ∧ tget s.adm.layouts id.toNat = some l ∧ l.item.owner =
    h.fn.toNat ∧ l.item.releasing = false) :=
  ⟨⟨runS, hdr, 4095, by decide +kernel⟩,
   ⟨confS, hdr, 2, ⟨0, 120, 3600, 0⟩, by decide +kernel⟩,
   ⟨runS, hdr, 1, 6, 64, profWs, ⟨0, 120, 3600, 0⟩, by decide +kernel⟩,
   ⟨runS, hdr, 1, 5, 64, profWs, ⟨0, 120, 3600, 0⟩, leg5, by decide +kernel⟩,
   ⟨runS, hdr, 5, leg5, by decide, rfl⟩,
   ⟨runS, hdr, 20, leg5, by decide, rfl⟩,
   ⟨runS, hdr, 1, 2, 0, by decide +kernel⟩,
   ⟨runS, hdr, 3, 1, 640, 360, 40, 0x10, 0, 0, ⟨0, 120, 3600, 0⟩, by decide +kernel⟩,
   ⟨layS, hdr, 3, lay3, by decide +kernel⟩⟩

theorem test_met_NetworkCommandsComplete :
  (∃ (s : State) (h : CmdHdr) (hd : BitVec 16) (addr : BitVec 64) (ws : List Word) (l : Leg), Passes s h
    { reserved := hd.toNat % 4 = 3, misaligned := addr.toNat % 64 ≠ 0 } ∧ legIn s (hd.toNat / 4) = some l ∧ ((l.prof.rec' (hd.toNat %
    4)).rxEn || (l.prof.rec' (hd.toNat % 4)).txEn) = true ∧ l.item.owner = h.fn.toNat ∧ bindCheck s hd.toNat ws (parseBind ws) (rxLimit
    (l.prof.rec' (hd.toNat % 4))) = none) ∧
  (∃ (s : State) (h : CmdHdr) (hd : BitVec 16) (b : Bound), Passes s h { reserved := hd.toNat % 4 = 3 } ∧ boundFor s h.fn.toNat hd.toNat =
    .ok b) ∧
  (∃ (s : State) (h : CmdHdr) (p u : BitVec 2) (addr : BitVec 64), Passes s h { fn0 := true, misaligned := addr.toNat % 64 ≠ 0 } ∧
    subportOk s p.toNat u.toNat = true) ∧
  (∃ (s : State) (h : CmdHdr) (hd : BitVec 16) (run : BitVec 4) (b : Bound), Passes s h { reserved := hd.toNat % 4 = 3 || run = 0 } ∧
    boundFor s h.fn.toNat hd.toNat = .ok b ∧ (recOf s hd.toNat).rxEn = true) ∧
  (∃ (s : State) (h : CmdHdr) (hd : BitVec 16) (b : Bound), Passes s h { reserved := hd.toNat % 4 = 3 } ∧ boundFor s h.fn.toNat hd.toNat =
    .ok b ∧ (recOf s hd.toNat).rxEn = true) :=
  ⟨⟨freeS, hdr, 20, 128, bindWs, leg5, by decide +kernel⟩,
   ⟨runS, hdr, 20, bnd20, by decide, rfl⟩,
   ⟨runS, hdr, 0, 0, 64, by decide +kernel⟩,
   ⟨runS, hdr, 20, 15, bnd20, by decide, rfl, by decide⟩,
   ⟨runS, hdr, 20, bnd20, by decide, rfl, by decide⟩⟩

theorem test_met_ForwardingCommandsComplete :
  (∃ (s : State) (h : CmdHdr) (id : BitVec 20) (src dst : BitVec 16) (ssrc ofs : BitVec 32) (sq : BitVec 16) (ptEn : Bool) (pt : BitVec 7)
    (di do' fi fo : BitVec 4) (pause fir : Bool) (prio : BitVec 3) (cs ct : BitVec 2), Passes s h
    { reserved := src.toNat % 4 = 3 || dst.toNat % 4 = 3 || [di, do', fi, fo].contains 15 || ct = 3 } ∧ subSetCheck s h.fn.toNat id.toNat
    { owner := h.fn.toNat, src := src.toNat, dst := dst.toNat, outSsrc := ssrc, seqStart := sq.toNat, ptEn := ptEn, ptOut := pt.toNat,
        ddIn := di.toNat, ddOut := do'.toNat, fmIn := fi.toNat, fmOut := fo.toNat, pause := pause, kpFir := fir, prio := prio.toNat, capS
        := cs.toNat, capT := ct.toNat, ofs := ofs, kind := srcKind s src.toNat } = none) ∧
  (∃ (s : State) (h : CmdHdr) (id : BitVec 20) (x : Sub), Passes s h {} ∧ subFor s h.fn.toNat id.toNat = .ok x) ∧
  (∃ (s : State) (h : CmdHdr) (id : BitVec 20) (ct : BitVec 2) (x : Sub), Passes s h { reserved := ct = 3 } ∧ subFor s h.fn.toNat id.toNat
    = .ok x) ∧
  (∃ (s : State) (h : CmdHdr) (leg : BitVec 14) (l : Leg), Passes s h {} ∧ fwdLegFor s h.fn.toNat leg.toNat = .ok l) ∧
  (∃ (s : State) (h : CmdHdr) (i : BitVec 2) (hd : BitVec 16) (l : Leg) (b : Bound), Passes s h { reserved := hd.toNat % 4 = 3 } ∧
    fwdLegFor s h.fn.toNat (hd.toNat / 4) = .ok l ∧ tget s.net.bound hd.toNat = some b ∧ b.gone = false ∧ b.blk.valid.testBit i.toNat =
    true) ∧
  (∃ (s : State) (h : CmdHdr) (em : BitVec 2) (leg : BitVec 14) (line : BitVec 32) (l : Leg), Passes s h
    { reserved := em = 3 || (line ≠ 0 && (decide (line.toNat < 64) || decide (400000000 < line.toNat))) } ∧ fwdLegFor s h.fn.toNat
    leg.toNat = .ok l) :=
  ⟨⟨runS, hdr, 1048575, 20, 20, 0x999, 0, 65535, true, 96, 0, 0, 0, 0, false, false, 7, 0, 0, by decide +kernel⟩,
   ⟨subS, hdr, 9, sub9, by decide, rfl⟩,
   ⟨subS, hdr, 9, 2, sub9, by decide, rfl⟩,
   ⟨runS, hdr, 5, leg5, by decide, rfl⟩,
   ⟨runS, hdr, 0, 21, leg5, bnd21, by decide, rfl, by decide +kernel⟩,
   ⟨runS, hdr, 1, 5, 64, leg5, by decide, rfl⟩⟩

theorem test_met_KeyCommandsComplete :
  (∃ (s : State) (h : CmdHdr) (addr : BitVec 64), Passes s h { modes := keyModes, misaligned := addr.toNat % 64 ≠ 0 }) ∧
  (∃ (s : State) (h : CmdHdr) (addr : BitVec 64) (ws : List Word), Passes s h { modes := keyModes, misaligned := addr.toNat % 64 ≠ 0 } ∧
    p256Valid (be (wordBytes ws) 0 32) (be (wordBytes ws) 32 32) = true) ∧
  (∃ (s : State) (h : CmdHdr) (suite : BitVec 8) (slot : BitVec 16) (addr : BitVec 64) (ws : List Word) (su : Suite) (kek p : List Byte),
    Passes s h { modes := keyModes, misaligned := addr.toNat % 64 ≠ 0 } ∧ suiteOf suite.toNat = some su ∧ tget s.key.slots slot.toNat =
    none ∧ tget s.key.keks h.fn.toNat = some kek ∧ slotOver s h.fn.toNat = false ∧ keyUnwrap kek ((wordBytes ws).take ((8 + su.keyLen +
    su.saltLen + 7) / 8 * 8 + 8)) = some p ∧ be p 0 1 = 1 ∧ be p 1 1 = suite.toNat ∧ be p 2 6 = 0 ∧ be p (8 + su.keyLen + su.saltLen) ((8
    + su.keyLen + su.saltLen + 7) / 8 * 8 - (8 + su.keyLen + su.saltLen)) = 0) ∧
  (∃ (s : State) (h : CmdHdr) (ms ss : BitVec 16) (m : KeySlot) (su : Suite), Passes s h { modes := keyModes } ∧ tget s.key.slots ms.toNat
    = some m ∧ m.owner = h.fn.toNat ∧ m.session = false ∧ tget s.key.slots ss.toNat = none ∧ suiteOf m.suite = some su ∧ slotOver s
    h.fn.toNat = false) ∧
  (∃ (s : State) (h : CmdHdr) (slot : BitVec 16) (k : KeySlot), Passes s h { modes := keyModes } ∧ tget s.key.slots slot.toNat = some k ∧
    k.owner = h.fn.toNat ∧ k.erase = false ∧ slotBound s slot.toNat = false) :=
  ⟨⟨runS, hdr, 0xffffffffffffffc0, by decide⟩,
   ⟨runS, hdr, 64, peerKey, by decide +kernel⟩,
   ⟨kekS, hdr, 3, 65535, 64, wrapWs, ⟨16, 12, 16, 16, true⟩, kek0, plain0, by decide, rfl, by decide, by decide, by decide, test_unwrap,
     by decide +kernel⟩,
   ⟨keyS, hdr, 8, 9, mst8, ⟨16, 14, 10, 10, false⟩, by decide, by decide, by decide, by decide, by decide, rfl, by decide⟩,
   ⟨keyS, hdr, 8, mst8, by decide +kernel⟩⟩

theorem test_met_CipherCommandsComplete :
  (∃ (s : State) (h : CmdHdr) (clear : Bool) (w : BitVec 3) (dir : Bool) (hd slot : BitVec 16), Passes s h
    { reserved := hd.toNat % 4 = 3 || (clear && slot ≠ 0) || (dir && w ≠ 0) || decide (4 < w.toNat), modes := [3, 4, 5] } ∧ cipBindCheck s
    h.fn.toNat clear dir hd.toNat slot.toNat = none) ∧
  (∃ (s : State) (h : CmdHdr) (dir : Bool) (hd : BitVec 16), Passes s h { reserved := hd.toNat % 4 = 3, modes := [3, 4, 5] } ∧
    streamForeign s h.fn.toNat hd.toNat = false ∧ isBound s hd.toNat = true ∧ dirEnabled s hd.toNat dir = true ∧ (dirBind s hd.toNat
    dir).isSome = true) ∧
  (∃ (s : State) (h : CmdHdr) (hd : BitVec 16) (addr : BitVec 64) (d : TxDir), Passes s h
    { reserved := hd.toNat % 4 = 3, modes := keyModes, misaligned := addr.toNat % 64 ≠ 0 } ∧ streamForeign s h.fn.toNat hd.toNat = false ∧
    isBound s hd.toNat = true ∧ dirEnabled s hd.toNat true = true ∧ tget s.cip.tx hd.toNat = some d) ∧
  (∃ (s : State) (h : CmdHdr) (hd : BitVec 16) (addr : BitVec 64) (d : RxDir), Passes s h
    { reserved := hd.toNat % 4 = 3, modes := keyModes, misaligned := addr.toNat % 64 ≠ 0 } ∧ streamForeign s h.fn.toNat hd.toNat = false ∧
    isBound s hd.toNat = true ∧ dirEnabled s hd.toNat false = true ∧ tget s.cip.rx hd.toNat = some d) :=
  ⟨⟨runS, hdr, true, 4, false, 20, 0, by decide +kernel⟩,
   ⟨cipS, hdr, true, 20, by decide +kernel⟩,
   ⟨cipS, hdr, 20, 64, {slot := none}, by decide +kernel⟩,
   ⟨cipS, hdr, 20, 64, {slot := none}, by decide +kernel⟩⟩

theorem test_met_AudioCommandsComplete :
  (∃ (s : State) (h : CmdHdr) (leg : BitVec 14) (contrib listen minus : BitVec 4) (dtx : Bool) (r : StreamRec), Passes s h
    { modes := audModes } ∧ audFor s h.fn.toNat leg.toNat = .ok r ∧ (contrib ≠ 0 → r.rxDec = true) ∧ (listen ≠ 0 ∨ minus ≠ 0 → r.txEn =
    true) ∧ (dtx = true → r.txEn = true ∧ hasDtx r.codec = true)) ∧
  (∃ (s : State) (h : CmdHdr) (conf : BitVec 12) (n : BitVec 7), Passes s h
    { modes := audModes, reserved := n = 0 || decide (64 < n.toNat) } ∧ audConfFor s h.fn.toNat conf.toNat = .ok ()) ∧
  (∃ (s : State) (h : CmdHdr) (leg : BitVec 14) (r : StreamRec), Passes s h { modes := audModes } ∧ audFor s h.fn.toNat leg.toNat = .ok r) ∧
  (∃ (s : State) (h : CmdHdr) (leg : BitVec 14) (thr ratio att rel makeup ceil limRel : BitVec 16) (r : StreamRec), Passes s h
    { modes := audModes, reserved := decide (960 < thr.toNat) || decide (ratio.toNat < 10) || decide (200 < ratio.toNat) || att = 0 ||
        decide (1000 < att.toNat) || decide (rel.toNat < 10) || decide (5000 < rel.toNat) || decide (240 < makeup.toNat) || decide (240 <
        ceil.toNat) || limRel = 0 || decide (5000 < limRel.toNat) } ∧ audFor s h.fn.toNat leg.toNat = .ok r ∧ r.txEn = true) ∧
  (∃ (s : State) (h : CmdHdr) (onBus replace : Bool) (bus : BitVec 2) (id : BitVec 14) (tone : BitVec 8) (onT offT f1 f2 l1 l2 : BitVec
    16) (tgt : Nat) (os : List Osc) (cad : List (Option Nat × Nat)) (once : Bool), Passes s h
    { modes := audModes, reserved := toneReserved tone.toNat onT.toNat offT.toNat f1.toNat f2.toNat l1.toNat l2.toNat || (onBus &&
        (replace || decide (4096 ≤ id.toNat))) } ∧ toneFor s h.fn.toNat onBus bus.toNat id.toNat = .ok tgt ∧ (tgt ∈ toneTargets s ∨
    (toneTargets s).length < 4096) ∧ toneSpec tone.toNat onT.toNat offT.toNat f1.toNat f2.toNat l1.toNat l2.toNat = some (os, cad, once)) ∧
  (∃ (s : State) (h : CmdHdr) (onBus : Bool) (bus : BitVec 2) (id : BitVec 14) (tgt : Nat), Passes s h
    { modes := audModes, reserved := onBus && decide (4096 ≤ id.toNat) } ∧ toneFor s h.fn.toNat onBus bus.toNat id.toNat = .ok tgt ∧ thas
    s.aud.tones tgt = true) ∧
  (∃ (s : State) (h : CmdHdr) (leg : BitVec 14) (r : StreamRec), Passes s h { modes := audModes } ∧ audFor s h.fn.toNat leg.toNat = .ok r) ∧
  (∃ (s : State) (h : CmdHdr) (m : BitVec 6) (point : BitVec 2) (id : BitVec 14) (bus : BitVec 2) (gain : BitVec 16) (p : MPoint), Passes
    s h
    { modes := audModes, reserved := point = 3 || (point = 2 && !mediaCaps s (mediaKey h.fn.toNat m.toNat)) || (point = 0 && decide (4096
        ≤ id.toNat)) } ∧ mediaPointFor s h.fn.toNat point.toNat id.toNat bus.toNat gain.toNat = .ok p ∧ bit s (HIF_RING_EN h.fn.toNat
    (mediaQ m.toNat)) = true ∧ (mediaOf s (mediaKey h.fn.toNat m.toNat)).point = none) ∧
  (∃ (s : State) (h : CmdHdr) (m : BitVec 6) (pt id bus gain : Nat), Passes s h { modes := audModes } ∧ (mediaOf s (mediaKey h.fn.toNat
    m.toNat)).point = some (.audio pt id bus gain)) :=
  ⟨⟨runS, hdr, 5, 15, 15, 0, true, opusRec, by decide, rfl, by decide +kernel⟩,
   ⟨runS, hdr, 1, 64, by decide, rfl⟩,
   ⟨runS, hdr, 5, opusRec, by decide, rfl⟩,
   ⟨runS, hdr, 5, 960, 200, 1000, 5000, 240, 240, 5000, opusRec, by decide, rfl, by decide⟩,
   ⟨runS, hdr, true, false, 3, 1, 0, 0, 0, 350, 440, 0, 0, busTgt 1 3, _, _, _, by decide, rfl, by decide, rfl⟩,
   ⟨toneS, hdr, true, 3, 1, busTgt 1 3, by decide, rfl, by decide⟩,
   ⟨runS, hdr, 5, opusRec, by decide, rfl⟩,
   ⟨medS, hdr, 0, 0, 1, 3, 0xffff, .audio 0 1 3 65535, by decide, rfl, by decide +kernel⟩,
   ⟨medS, hdr, 1, 1, 5, 0, 4096, by decide +kernel⟩⟩

theorem test_met_BrushCommandsComplete :
  (∃ (s : State) (h : CmdHdr) (prog : BitVec 8) (addr : BitVec 64) (ws : List Word), Passes s h
    { modes := audModes, misaligned := addr.toNat % 64 ≠ 0 } ∧ thas s.brs.progs prog.toNat = false ∧ headerOk ws (parseImage h.fn.toNat
    ws) = true ∧ (parseImage h.fn.toNat ws).code.length ≤ storeFree s) ∧
  (∃ (s : State) (h : CmdHdr) (prog : BitVec 8) (p : BProg), Passes s h { modes := audModes } ∧ tget s.brs.progs prog.toNat = some p ∧
    p.owner = h.fn.toNat ∧ s.brs.insts.any (fun i => i.2.prog = prog.toNat) = false) ∧
  (∃ (s : State) (h : CmdHdr) (prog : BitVec 8) (pt : BitVec 2) (leg : BitVec 14) (l : Leg) (p : BProg) (c xb yb : Nat), Passes s h
    { modes := audModes, reserved := pt = 3 } ∧ legIn s leg.toNat = some l ∧ pointOk pt.toNat (l.prof.rec' 0) = true ∧ l.item.owner =
    h.fn.toNat ∧ tget s.brs.progs prog.toNat = some p ∧ p.owner = h.fn.toNat ∧ thas s.brs.insts (4 * leg.toNat + pt.toNat) = false ∧
    admOpen s = true ∧ capacityCheck s h.fn.toNat (allItems s) (instItem h.fn.toNat pt.toNat p) none = none ∧ groupFits s (groupItems s
    (homeOf s leg.toNat) ++ [instItem h.fn.toNat pt.toNat p]) = true ∧ coreBest s ((((List.range 32).map (fun c => 32 * homeOf s leg.toNat
    + c)).filter (fun c => coreRoom s c p)).filter (fun c => coreMem s c p)) = some c ∧ p.studio ≤ studioFree s ∧ winBase s c p false =
    some xb ∧ winBase s c p true = some yb) ∧
  (∃ (s : State) (h : CmdHdr) (pt : BitVec 2) (leg : BitVec 14) (i : BInst), Passes s h { modes := audModes, reserved := pt = 3 } ∧
    instFor s h.fn.toNat pt.toNat leg.toNat = .ok i) ∧
  (∃ (s : State) (h : CmdHdr) (pt : BitVec 2) (leg : BitVec 14) (i : BInst), Passes s h { modes := audModes, reserved := pt = 3 } ∧
    instFor s h.fn.toNat pt.toNat leg.toNat = .ok i) :=
  ⟨⟨runS, hdr, 255, 64, imgWs, by decide +kernel⟩,
   ⟨progS, hdr, 7, prog7, by decide +kernel⟩,
   ⟨progS, hdr, 7, 2, 5, leg5, prog7, 160, 8192, 8192, by decide +kernel⟩,
   ⟨instS, hdr, 0, 5, inst20, by decide, rfl⟩,
   ⟨instS, hdr, 0, 5, inst20, by decide, rfl⟩⟩

def dec3 : DecCtx :=
  { owner := 0, hd := 21, engine := 0, px := 5760, units := 10, kpFir := false, opS := 0, opT := 0, holds := 2, dpbN := 4, live := true }
def enc2 : EncCtx :=
  { owner := 0, own := true, item := 5, layout := 3, engine := 0, cengine := 0, px := 5760, units := 170, w := 640, h := 360, period := 40, codec := 0x10, cprof := 0, ten := false, sLay := 1, tLay := 1, ext := 0, pt := 96, keyInt := 0, tsOfs := 0
    live := true }
def poolS : State := { runS with vid := { runS.vid with pool := 500000 } }

/-- A plate of 2 by 2 samples. -/
def img1 : PlateImg := { w := 2, h := 2, y := [0, 0, 0, 0], c := [0, 0], a := [0, 0, 0, 0], mtx := 1, full := false }
def fill0 : Layer :=
  { kind := 2, hideDmg := false, selfHide := false, src := 0, x := 0, y := 0, w := 2, h := 2, cx := 0, cy := 0, cw := 0, ch := 0
    alpha := 255, fence := 0 }

/-- Decode context 3 of stream 21, encode context 2 of leg 5, layout 3 with layer 0 and group 4 staged, plate 9. -/
def vidS : State :=
  let s := flds layS [(HIF_RING_EN 0 64, 1), (HIF_RING_EN 0 65, 1), (HIF_RING_DIR 0 64, 1)]
  { s with
    vid := { dec := [(3, dec3)], enc := [(2, enc2)], pool := 500000 }
    cnv := { layouts := [(3, { layers := [(0, fill0)], groups := [{ group := 4, changes := [⟨1, some fill0⟩] }] })]
             plates := [(9, { owner := 0, img := some img1 })] }
    aud := { s.aud with media := [(2, { point := some (.videoDec 3 640 360 false), live := true })] } }

/-- One element of 2 by 2 pixels at the origin (R329). -/
def elemWs : List Word := [0x1000, 0, 0x00020002, 0, 8, 0, 0, 0]

def mshOn : MshCfg := { en := true, w := 1, tree := true, exp := false, wake := false, node := 2 }

/-- Port 1 of the Meash in force with its group up, an export and an import. -/
def mshS : State :=
  let s := flds runS [(MSH_GROUP_UP 1, 1)]
  { s with msh := { ports := [(1, { cfg := mshOn, live := mshOn })], exports := [(77, { hd := 20, dst := 3 })], imports := [(78, 22)] } }

/-- A stream that a leg only forwards, and the same stream imported. -/
def relLeg : Leg := { leg5 with prof := { prof with recs := [opusRec, avcRec, { avcRec with txEn := false }] } }
def relS : State :=
  let s := flds mshS [(SPQ_POOL_UNITS, 64)]
  { s with adm := { s.adm with legs := [(5, relLeg)] } }
def impS : State :=
  { relS with net := { relS.net with bound := relS.net.bound ++ [(22, { blk := { blk 0 0 with port := 4 }, order := 2 })] } }

/-- An empty Glaze image. -/
def glazeWs : List Word := [0x01000000, 0x94160000, 0, 0]

def inMode (m : Nat) : State := { setFld runS SYS_MODE m with adm := {} }

theorem newCtx_dec (s : State) (key : Nat) (h : s.vid.dec = []) :
    newCtx s false key = some (Config.ctxPick key s.clk.cyc % 4096) := by
  unfold newCtx
  rw [if_neg (by decide), h]
  exact Laws.tfree_nil 4095 _

theorem newCtx_enc (s : State) (key : Nat) (h : s.vid.enc = []) :
    newCtx s true key = some (Config.ctxPick (65536 + key) s.clk.cyc % 1024) := by
  unfold newCtx
  rw [if_pos rfl, h]
  exact Laws.tfree_nil 1023 _

theorem test_met_VideoCommandsComplete :
  (∃ (s : State) (h : CmdHdr) (opS opT : BitVec 2) (holds : BitVec 3) (dpb : BitVec 5) (hd : BitVec 16) (l : Leg) (e k : Nat), Passes s h
    { modes := audModes, reserved := hd.toNat % 4 = 3 || dpbReserved s hd.toNat dpb.toNat } ∧ legIn s (hd.toNat / 4) = some l ∧
    l.item.owner = h.fn.toNat ∧ (l.prof.rec' (hd.toNat % 4)).rxEn = true ∧ (l.prof.rec' (hd.toNat % 4)).rxDec = true ∧ isVideo
    (l.prof.rec' (hd.toNat % 4)).codec = true ∧ (tget s.net.bound hd.toNat).any (fun b => !b.gone) = true ∧ s.vid.dec.any (fun p => p.2.hd
    = hd.toNat) = false ∧ ((l.prof.rec' (hd.toNat % 4)).codec ≠ 0x12 → opS.toNat = 0 ∧ opT.toNat = 0) ∧ (dpbOf (l.prof.rec' (hd.toNat %
    4)).codec dpb.toNat + 1 + (holds.toNat + 1)) * decBufUnits (l.prof.rec' (hd.toNat % 4)) ≤ poolLeft s ∧ pickEngine (decLoad s)
    (engineLimit s 1250000) (cdiv ((l.prof.rec' (hd.toNat % 4)).rxW * (l.prof.rec' (hd.toNat % 4)).rxH) (l.prof.rec' (hd.toNat % 4)).pRx)
    16 = some e ∧ newCtx s false hd.toNat = some k) ∧
  (∃ (s : State) (h : CmdHdr) (ctx : BitVec 12), Passes s h { modes := audModes } ∧ ctxOwner s h.fn.toNat false ctx.toNat = none) ∧
  (∃ (s : State) (h : CmdHdr) (own : Bool) (id : BitVec 14) (topW topH : BitVec 16) (sl tl : BitVec 2) (ext : BitVec 4) (pt : BitVec 7)
    (keyInt : BitVec 16) (ts : BitVec 32) (lay w ht p codec cprof depth e c k : Nat) (x : EncCtx), Passes s h
    { modes := audModes, reserved := !own && decide (512 ≤ id.toNat) } ∧ encTarget s h.fn.toNat own id.toNat = .ok (lay, w, ht, p, codec,
    cprof, depth) ∧ x =
    { owner := h.fn.toNat, own := own, item := id.toNat, layout := lay, engine := e, cengine := c, px := cdiv (w * ht) p, units := 2 *
        compBufUnits topW.toNat topH.toNat (depth = 1), w := topW.toNat, h := topH.toNat, period := p, codec := codec, cprof := cprof, ten
        := decide (depth = 1), sLay := sl.toNat + 1, tLay := tl.toNat + 1, ext := ext.toNat, pt := pt.toNat, keyInt := keyInt.toNat, tsOfs
        := ts } ∧ s.vid.enc.any (fun q => q.2.own = own && q.2.item = id.toNat) = false ∧ encParamBad { x with engine := 0, cengine := 0 }
    w ht = false ∧ x.units ≤ poolLeft s ∧ pickEngine (encLoad s) (engineLimit s 625000) x.px 16 = some e ∧ pickEngine (cnvLoad s)
    (engineLimit s 2500000) (compPx { x with engine := 0, cengine := 0 }) 4 = some c ∧ newCtx s true (2 * id.toNat + if own then 1 else 0)
    = some k) ∧
  (∃ (s : State) (h : CmdHdr) (ctx : BitVec 10), Passes s h { modes := audModes } ∧ ctxOwner s h.fn.toNat true ctx.toNat = none) ∧
  (∃ (s : State) (h : CmdHdr) (ctx : BitVec 10) (kbps cap : BitVec 32) (pct : BitVec 8) (mult : BitVec 4) (x : EncCtx), Passes s h
    { modes := audModes, reserved := decide (pct.toNat < 100) || mult = 0 } ∧ ctxOwner s h.fn.toNat true ctx.toNat = none ∧ tget s.vid.enc
    ctx.toNat = some x ∧ capTooLow x ⟨kbps.toNat, cap.toNat, pct.toNat, mult.toNat⟩ (tickCap s x) = false) ∧
  (∃ (s : State) (h : CmdHdr) (ctx : BitVec 10), Passes s h { modes := audModes } ∧ ctxOwner s h.fn.toNat true ctx.toNat = none) ∧
  (∃ (s : State) (h : CmdHdr) (m : BitVec 6) (ctx : BitVec 12) (w ht : BitVec 16) (x : EncCtx), Passes s h
    { modes := audModes, reserved := decide (1024 ≤ ctx.toNat) } ∧ ctxOwner s h.fn.toNat true ctx.toNat = none ∧ tget s.vid.enc ctx.toNat
    = some x ∧ x.w = w.toNat ∧ x.h = ht.toNat ∧ bit s (HIF_RING_EN h.fn.toNat (mediaQ m.toNat)) = true ∧ mediaCaps s (mediaKey h.fn.toNat
    m.toNat) = true ∧ (mediaOf s (mediaKey h.fn.toNat m.toNat)).point = none) ∧
  (∃ (s : State) (h : CmdHdr) (point : BitVec 2) (m : BitVec 6) (ctx : BitVec 12) (w ht : BitVec 16), Passes s h
    { modes := audModes, reserved := point = 3 } ∧ point.toNat < 2 ∧ ctxOwner s h.fn.toNat false ctx.toNat = none ∧ (ctxRec s
    ctx.toNat).rxW = w.toNat ∧ (ctxRec s ctx.toNat).rxH = ht.toNat ∧ bit s (HIF_RING_EN h.fn.toNat (mediaQ m.toNat)) = true ∧ mediaCaps s
    (mediaKey h.fn.toNat m.toNat) = decide (point ≠ 0) ∧ (mediaOf s (mediaKey h.fn.toNat m.toNat)).point = none) ∧
  (∃ (s : State) (h : CmdHdr) (m : BitVec 6) (c w ht : Nat) (ten enc : Bool), Passes s h { modes := audModes } ∧ (mediaOf s (mediaKey
    h.fn.toNat m.toNat)).point = some (if enc then .videoEnc c w ht ten else .videoDec c w ht ten)) ∧
  (∃ (s : State) (h : CmdHdr) (ctx : BitVec 12) (x : EncCtx), Passes s h { modes := audModes, reserved := decide (1024 ≤ ctx.toNat) } ∧
    ctxOwner s h.fn.toNat true ctx.toNat = none ∧ tget s.vid.enc ctx.toNat = some x) ∧
  (∃ (s : State) (h : CmdHdr) (ctx : BitVec 12) (x : DecCtx), Passes s h { modes := audModes } ∧ ctxOwner s h.fn.toNat false ctx.toNat =
    none ∧ tget s.vid.dec ctx.toNat = some x) :=
  ⟨⟨poolS, hdr, 0, 0, 7, 16, 21, leg5, 0, _, by (iterate 11 refine ⟨by decide +kernel, ?_⟩); exact newCtx_dec poolS _ rfl⟩,
   ⟨vidS, hdr, 3, by decide +kernel⟩,
   ⟨poolS, hdr, true, 5, 640, 360, 0, 0, 0, 96, 0, 0, 0, 640, 360, 40, 0x10, 0, 0, 0, 0, _, _, by decide +kernel, rfl, rfl,
     by decide +kernel, by decide +kernel, by decide +kernel, by decide +kernel, by decide +kernel, newCtx_enc poolS _ rfl⟩,
   ⟨vidS, hdr, 2, by decide +kernel⟩,
   ⟨vidS, hdr, 2, 1000, 400000000, 100, 1, enc2, by decide +kernel⟩,
   ⟨vidS, hdr, 2, by decide +kernel⟩,
   ⟨vidS, hdr, 0, 2, 640, 360, enc2, by decide +kernel⟩,
   ⟨vidS, hdr, 0, 1, 3, 640, 360, by decide +kernel⟩,
   ⟨vidS, hdr, 2, 3, 640, 360, false, false, by decide +kernel⟩,
   ⟨vidS, hdr, 2, enc2, by decide +kernel⟩,
   ⟨vidS, hdr, 3, dec3, by decide +kernel⟩⟩

theorem test_met_CanvasCommandsComplete :
  (∃ (s : State) (h : CmdHdr) (id : BitVec 9) (mtx : BitVec 2) (a : LayoutAdm), Passes s h { modes := audModes, reserved := mtx = 3 } ∧
    layoutFor s h.fn.toNat id.toNat = .ok a) ∧
  (∃ (s : State) (h : CmdHdr) (kind : BitVec 2) (hideDmg selfHide : Bool) (g : BitVec 4) (i : BitVec 6) (id : BitVec 9) (src : BitVec 32)
    (x y w ht cx cy cw ch : BitVec 16) (alpha : BitVec 8) (fence : BitVec 2) (a : LayoutAdm) (l : Layer), Passes s h
    { modes := audModes, reserved := layerReserved kind.toNat src.toNat x.toNat y.toNat w.toNat ht.toNat cx.toNat cy.toNat cw.toNat
        ch.toNat fence.toNat } ∧ l = ⟨kind.toNat, hideDmg, selfHide, src.toNat, x.toNat, y.toNat, w.toNat, ht.toNat, cx.toNat, cy.toNat,
    cw.toNat, ch.toNat, alpha.toNat, fence.toNat⟩ ∧ layoutFor s h.fn.toNat id.toNat = .ok a ∧ (l.kind = 0 → ∃ d, tget s.vid.dec l.src =
    some d ∧ d.gone = false ∧ d.owner = h.fn.toNat) ∧ (l.kind = 1 → ∃ p, tget s.cnv.plates l.src = some p ∧ p.gone = false ∧ p.owner =
    h.fn.toNat) ∧ stagedCheck (layoutOf s id.toNat) g.toNat i.toNat = none ∧ geometryOk s a l = true ∧ demandCheck s (stageLayer (fresh s)
    id.toNat g.toNat ⟨i.toNat, some l⟩) id.toNat l = none) ∧
  (∃ (s : State) (h : CmdHdr) (g : BitVec 4) (i : BitVec 6) (id : BitVec 9) (a : LayoutAdm), Passes s h { modes := audModes } ∧ layoutFor
    s h.fn.toNat id.toNat = .ok a ∧ stagedCheck (layoutOf s id.toNat) g.toNat i.toNat = none ∧ (thas (layoutOf s id.toNat).layers i.toNat
    || (layoutOf s id.toNat).groups.any (fun g => g.changes.any (fun c => c.layer = i.toNat))) = true) ∧
  (∃ (s : State) (h : CmdHdr) (g : BitVec 4) (id : BitVec 9) (a : LayoutAdm) (x : CnvGroup), Passes s h
    { modes := audModes, reserved := g = 0 } ∧ layoutFor s h.fn.toNat id.toNat = .ok a ∧ (layoutOf s id.toNat).groups.find? (fun y =>
    y.group = g.toNat) = some x ∧ x.flipAt = none) ∧
  (∃ (s : State) (h : CmdHdr) (k : BitVec 12) (w ht : BitVec 16) (mtx : BitVec 2) (count : BitVec 5) (addr : BitVec 64) (ws : List Word)
    (p : Plate), Passes s h
    { modes := audModes, reserved := mtx = 3 || count = 0 || decide (16 < count.toNat), misaligned := addr.toNat % 64 ≠ 0 } ∧ p = (tget
    s.cnv.plates k.toNat).getD { owner := h.fn.toNat } ∧ p.owner = h.fn.toNat ∧ p.loading = none ∧ p.gone = false ∧ w.toNat % 2 = 0 ∧
    ht.toNat % 2 = 0 ∧ 2 ≤ w.toNat ∧ 2 ≤ ht.toNat ∧ w.toNat ≤ 8192 ∧ ht.toNat ≤ 8192 ∧ (List.range count.toNat).all (elemOk ws w.toNat
    ht.toNat) = true ∧ plateUnits w.toNat ht.toNat ≤ varnishFree s) ∧
  (∃ (s : State) (h : CmdHdr) (k : BitVec 12) (p : Plate), Passes s h { modes := audModes } ∧ tget s.cnv.plates k.toNat = some p ∧ p.gone
    = false ∧ p.owner = h.fn.toNat ∧ p.loading = none ∧ plateNamed s k.toNat = false) :=
  ⟨⟨vidS, hdr, 3, 2, lay3, by decide +kernel, rfl⟩,
   ⟨vidS, hdr, 0, false, false, 4, 63, 3, 3, 0, 0, 640, 360, 0, 0, 0, 0, 255, 2, lay3, _, by decide +kernel, rfl, rfl, (fun _ => ⟨dec3,
     by decide +kernel⟩), (fun e => absurd e (by decide)), by decide +kernel⟩,
   ⟨vidS, hdr, 4, 1, 3, lay3, by decide +kernel, rfl, by decide +kernel⟩,
   ⟨vidS, hdr, 4, 3, lay3, _, by decide +kernel, rfl, rfl, rfl⟩,
   ⟨runS, hdr, 4095, 2, 2, 0, 1, 64, elemWs, _, by decide +kernel, rfl, rfl, rfl, rfl, by decide +kernel⟩,
   ⟨vidS, hdr, 9, _, by decide +kernel, rfl, rfl, rfl, rfl, by decide +kernel⟩⟩

theorem test_met_TimeCommandsComplete :
  (∃ (s : State) (h : CmdHdr) (v : BitVec 64) (set : Bool) (n : BitVec 30), Passes s h
    { fn0 := true, reserved := if set then decide (2 ^ 48 ≤ v.toNat) else decide (n ≠ 0), modes := if outOfService s then [] else
        timeModes } ∧ stepInRange s set v n = true ∧ s.ptp.servo = false ∧ s.ptp.staged = none ∧ bit s PTP_STEP_USED = false) ∧
  (∃ (s : State) (h : CmdHdr) (v : BitVec 64) (set : Bool) (n : BitVec 30), Passes s h
    { fn0 := true, reserved := if set then decide (2 ^ 48 ≤ v.toNat) else decide (n ≠ 0), modes := if outOfService s then [] else
        timeModes } ∧ stepInRange s set v n = true ∧ s.ptp.staged = none ∧ (set = true ∨ v ≠ 0)) ∧
  (∃ (s : State) (h : CmdHdr), Passes s h { fn0 := true, modes := if outOfService s then [] else timeModes } ∧ stepInRange s false 0 0 =
    true ∧ s.ptp.staged = none) ∧
  (∃ (s : State) (h : CmdHdr) (r : BitVec 32), Passes s h { fn0 := true, modes := if outOfService s then [] else timeModes } ∧
    (r.toInt.natAbs : Int) ≤ RMAX ∧ s.ptp.servo = false) ∧
  (∃ (s : State) (h : CmdHdr) (src : BitVec 2) (ports : BitVec 4) (domain : BitVec 8) (prio stepNs : BitVec 32) (lockCnt : BitVec 8)
    (lockNs : BitVec 16), Passes s h { fn0 := true, reserved := decide (2 ≤ src.toNat), modes := timeModes } ∧ 1000 ≤ stepNs.toNat ∧
    stepNs.toNat ≤ 1000000000 ∧ lockCnt ≠ 0 ∧ lockNs ≠ 0 ∧ (servoPrios prio).contains 0 = false ∧ (List.range 4).any (fun p =>
    ports.getLsbD p && !subportOk s p 0) = false ∧ 24 ≤ domain.toNat ∧ domain.toNat ≤ 43) ∧
  (∃ (s : State) (h : CmdHdr), Passes s h { modes := timeModes }) :=
  ⟨⟨runS, hdr, 0, true, 999999999, by decide +kernel⟩,
   ⟨runS, hdr, 0, true, 0, by decide +kernel⟩,
   ⟨runS, hdr, by decide +kernel⟩,
   ⟨runS, hdr, 100000, by decide +kernel⟩,
   ⟨runS, hdr, 1, 1, 24, 0x01010101, 1000, 1, 1, by decide +kernel⟩,
   ⟨runS, hdr, by decide +kernel⟩⟩

theorem test_met_MeashCommandsComplete :
  (∃ (s : State) (h : CmdHdr) (w : BitVec 2), Passes s h { fn0 := true, reserved := w = 3, modes := timeModes }) ∧
  (∃ (s : State) (h : CmdHdr) (m : BitVec 2), Passes s h { fn0 := true, modes := timeModes } ∧ (mshPort s m.toNat).cfg.en = true) ∧
  (∃ (s : State) (h : CmdHdr) (hd : BitVec 16) (r : BitVec 20) (x : StreamRec), Passes s h
    { reserved := hd.toNat % 4 = 3, modes := timeModes } ∧ mshStream s h.fn.toNat hd.toNat (fun r => r.rxEn) = .ok x ∧ (thas s.msh.exports
    r.toNat || thas s.msh.imports r.toNat) = false) ∧
  (∃ (s : State) (h : CmdHdr) (hd : BitVec 16) (r : BitVec 20) (x : StreamRec) (e : Export), Passes s h
    { reserved := hd.toNat % 4 = 3, modes := timeModes } ∧ mshStream s h.fn.toNat hd.toNat (fun r => r.rxEn) = .ok x ∧ tget s.msh.exports
    r.toNat = some e ∧ e.hd = hd.toNat ∧ e.gone = false) ∧
  (∃ (s : State) (h : CmdHdr) (hd : BitVec 16) (r : BitVec 20) (x : StreamRec), Passes s h
    { reserved := hd.toNat % 4 = 3, modes := timeModes } ∧ mshStream s h.fn.toNat hd.toNat (fun r => r.rxEn && r.rxFwd && !r.txEn) = .ok x
    ∧ thas s.net.bound hd.toNat = false ∧ (thas s.msh.exports r.toNat || thas s.msh.imports r.toNat) = false ∧ queueLimit x ≤ poolFree s) ∧
  (∃ (s : State) (h : CmdHdr) (hd : BitVec 16) (r : BitVec 20) (x : StreamRec) (b : Bound), Passes s h
    { reserved := hd.toNat % 4 = 3, modes := timeModes } ∧ mshStream s h.fn.toNat hd.toNat (fun r => r.rxEn && r.rxFwd && !r.txEn) = .ok x
    ∧ tget s.msh.imports r.toNat = some hd.toNat ∧ isBound s hd.toNat = true ∧ tget s.net.bound hd.toNat = some b) ∧
  (∃ (s : State) (h : CmdHdr), Passes s h { fn0 := true, modes := timeModes }) ∧
  (∃ (s : State) (h : CmdHdr) (m : BitVec 2) (req lane : BitVec 4), Passes s h
    { fn0 := true, modes := timeModes, reserved := !([0x0, 0x7, 0xd, 0xf].contains req.toNat) || (if req = 0 ∨ req = 0xf then decide (lane
        ≠ 15) else decide (7 < lane.toNat)) } ∧ (mshPort s m.toNat).cfg.en = true ∧ (req = 0 ∨ apsPrio req.toNat ≤ apsPrio (mshPort s
    m.toNat).force.1)) ∧
  (∃ (s : State) (h : CmdHdr) (m : BitVec 2), Passes s h { modes := timeModes } ∧ (mshPort s m.toNat).live.en = true) ∧
  (∃ (s : State) (h : CmdHdr) (mask : BitVec 4), Passes s h { fn0 := true, modes := timeModes } ∧ (∀ m ∈ [0, 1, 2, 3].filter (fun m =>
    mask.getLsbD m), (mshPort s m).live.en = true ∧ mshUp s m = false)) ∧
  (∃ (s : State) (h : CmdHdr) (en : Bool) (w : BitVec 2) (tree exp wake : Bool) (node : BitVec 5) (c : MshCfg), Passes s h
    { fn0 := true, reserved := w = 3, modes := timeModes } ∧ c =
    { en := en, w := 2 * 2 ^ w.toNat, tree := tree, exp := exp, wake := wake, node := node.toNat }) ∧
  (∃ (s : State) (h : CmdHdr) (m : BitVec 2), Passes s h { fn0 := true, modes := timeModes } ∧ (mshPort s m.toNat).cfg.en = true) ∧
  (∃ (s : State) (h : CmdHdr) (hd : BitVec 16) (l : Leg), Passes s h { reserved := hd.toNat % 4 = 3, modes := timeModes } ∧ legIn s
    (hd.toNat / 4) = some l ∧ l.item.owner = h.fn.toNat ∧ (l.prof.rec' (hd.toNat % 4)).rxEn = true) ∧
  (∃ (s : State) (h : CmdHdr) (hd : BitVec 16) (l : Leg), Passes s h { reserved := hd.toNat % 4 = 3, modes := timeModes } ∧ legIn s
    (hd.toNat / 4) = some l ∧ l.item.owner = h.fn.toNat ∧ (l.prof.rec' (hd.toNat % 4)).rxEn = true ∧ (l.prof.rec' (hd.toNat % 4)).rxFwd =
    true ∧ (l.prof.rec' (hd.toNat % 4)).txEn = false) ∧
  (∃ (s : State) (h : CmdHdr), Passes s h { fn0 := true, modes := timeModes }) ∧
  (∃ (s : State) (h : CmdHdr) (m : BitVec 2) (req lane : BitVec 4), Passes s h
    { fn0 := true, modes := timeModes, reserved := !([0x0, 0x7, 0xd, 0xf].contains req.toNat) || (if req = 0 ∨ req = 0xf then decide (lane
        ≠ 15) else decide (7 < lane.toNat)) } ∧ (mshPort s m.toNat).cfg.en = true ∧ (req = 0 ∨ apsPrio req.toNat ≤ apsPrio (mshPort s
    m.toNat).force.1)) ∧
  (∃ (s : State) (h : CmdHdr) (m : BitVec 2), Passes s h { modes := timeModes } ∧ (mshPort s m.toNat).live.en = true) ∧
  (∃ (s : State) (h : CmdHdr) (mask : BitVec 4), Passes s h { fn0 := true, modes := timeModes } ∧ (∀ m, m < 4 → mask.getLsbD m = true →
    (mshPort s m).live.en = true ∧ mshUp s m = false)) :=
  ⟨⟨runS, hdr, 2, by decide +kernel⟩,
   ⟨mshS, hdr, 1, by decide +kernel⟩,
   ⟨mshS, hdr, 20, 1048575, _, by decide +kernel, rfl, by decide +kernel⟩,
   ⟨mshS, hdr, 20, 77, _, _, by decide +kernel, rfl, rfl, rfl, rfl⟩,
   ⟨relS, hdr, 22, 80, _, by decide +kernel, rfl, by decide +kernel⟩,
   ⟨impS, hdr, 22, 78, _, _, by decide +kernel, rfl, rfl, by decide +kernel, rfl⟩,
   ⟨runS, hdr, by decide +kernel⟩,
   ⟨mshS, hdr, 1, 0xd, 7, by decide +kernel⟩,
   ⟨mshS, hdr, 1, by decide +kernel⟩,
   ⟨{ mshS with regs := runS.regs }, hdr, 2, by decide +kernel⟩,
   ⟨runS, hdr, true, 2, true, false, true, 31, _, by decide +kernel, rfl⟩,
   ⟨mshS, hdr, 1, by decide +kernel⟩,
   ⟨mshS, hdr, 20, leg5, by decide +kernel⟩,
   ⟨relS, hdr, 22, relLeg, by decide +kernel⟩,
   ⟨runS, hdr, by decide +kernel⟩,
   ⟨mshS, hdr, 1, 0xd, 7, by decide +kernel⟩,
   ⟨mshS, hdr, 1, by decide +kernel⟩,
   ⟨{ mshS with regs := runS.regs }, hdr, 2, by decide +kernel⟩⟩

/-- A route of its own to export, an export to withdraw; a stream to import, an import to withdraw. -/
theorem test_met_MeashHostStreams :
    (thas mshS.msh.exports 80 = false ∧ thas mshS.msh.imports 80 = false) ∧
    (∃ e, tget mshS.msh.exports 77 = some e ∧ e.hd = 20 ∧ e.gone = false) ∧
    (thas relS.net.bound 22 = false ∧ thas relS.msh.exports 80 = false ∧ thas relS.msh.imports 80 = false ∧
      queueLimit (relLeg.prof.rec' (22 % 4)) ≤ poolFree relS) ∧
    tget impS.msh.imports 78 = some 22 ∧ isBound impS 22 = true :=
  ⟨by decide +kernel, ⟨_, rfl, by decide +kernel⟩, by decide +kernel⟩

theorem test_met_MemoryCalibrationCommandsComplete :
  (∃ (s : State) (h : CmdHdr) (t : BitVec 4), Passes s h { fn0 := true, modes := memModes } ∧ t.toNat ≤ 10 ∧ s.mem.sweep = none ∧ targetOn
    s t.toNat = true) ∧
  (∃ (s : State) (h : CmdHdr) (t : BitVec 4) (m row : BitVec 11), Passes s h { fn0 := true, modes := memModes } ∧ m.toNat < macrosOf
    t.toNat ∧ row.toNat < rowsOf t.toNat ∧ targetOn s t.toNat = true ∧ s.mem.repairs.length < 256 ∧ s.mem.repairs.contains (t.toNat,
    m.toNat, row.toNat) = false) ∧
  (∃ (s : State) (h : CmdHdr), Passes s h { fn0 := true, modes := memModes }) ∧
  (∃ (s : State) (h : CmdHdr), Passes s h { fn0 := true, modes := memModes }) ∧
  (∃ (s : State) (h : CmdHdr) (addr : BitVec 64), Passes s h { fn0 := true, modes := memModes, misaligned := addr.toNat % 64 ≠ 0 }) ∧
  (∃ (s : State) (h : CmdHdr) (addr : BitVec 64) (ws : List Word), Passes s h
    { fn0 := true, modes := calModes, misaligned := addr.toNat % 64 ≠ 0 } ∧ glazeCheck1 ws = none ∧ firstIdx glazeBadItem (glazeEntries
    ws) = none ∧ glazeDup (glazeEntries ws) = none ∧ firstIdx (glazeBadDelta (fresh s)) (glazeEntries ws) = none ∧ firstIdx (glazeBadMap
    (fresh s)) (glazeEntries ws) = none) ∧
  (∃ (s : State) (h : CmdHdr), Passes s h { fn0 := true, modes := calModes }) ∧
  (∃ (s : State) (h : CmdHdr) (addr : BitVec 64), Passes s h { fn0 := true, modes := calModes, misaligned := addr.toNat % 64 ≠ 0 }) ∧
  (∃ (s : State) (h : CmdHdr) (cls : BitVec 8) (first count : BitVec 16) (addr : BitVec 64), Passes s h
    { fn0 := true, modes := calModes, misaligned := addr.toNat % 64 ≠ 0 } ∧ calItems cls.toNat ≠ 0 ∧ first.toNat + count.toNat ≤ calCount
    cls.toNat ∧ first.toNat < calCount cls.toNat) ∧
  (∃ (s : State) (h : CmdHdr) (cls : BitVec 8) (i : BitVec 16) (addr : BitVec 64), Passes s h
    { fn0 := true, modes := calModes, misaligned := addr.toNat % 64 ≠ 0 } ∧ i.toNat < calCount cls.toNat) :=
  ⟨⟨runS, hdr, 10, by decide +kernel⟩,
   ⟨runS, hdr, 0, 0, 0, by decide +kernel⟩,
   ⟨runS, hdr, by decide +kernel⟩,
   ⟨runS, hdr, by decide +kernel⟩,
   ⟨runS, hdr, 64, by decide +kernel⟩,
   ⟨runS, hdr, 64, glazeWs, by decide +kernel⟩,
   ⟨runS, hdr, by decide +kernel⟩,
   ⟨runS, hdr, 64, by decide +kernel⟩,
   ⟨runS, hdr, 7, 0, 1, 64, by decide +kernel⟩,
   ⟨runS, hdr, 7, 0, 64, by decide +kernel⟩⟩

theorem test_met_PowerCommandsComplete :
  (∃ (s : State) (h : CmdHdr), Passes s h { fn0 := true, modes := reqModes } ∧ s.pwr.trans = none ∧ mode s = 5) ∧
  (∃ (s : State) (h : CmdHdr), Passes s h { fn0 := true, modes := reqModes } ∧ s.pwr.trans = none ∧ mode s = 6) ∧
  (∃ (s : State) (h : CmdHdr), Passes s h { fn0 := true, modes := reqModes } ∧ s.pwr.trans = none ∧ (mode s = 3 ∨ mode s = 4)) ∧
  (∃ (s : State) (h : CmdHdr), Passes s h { fn0 := true, modes := reqModes } ∧ s.pwr.trans = none ∧ mode s = 5 ∧ notEmpty s = false) ∧
  (∃ (s : State) (h : CmdHdr), Passes s h { fn0 := true, modes := reqModes } ∧ s.pwr.trans = none ∧ (mode s = 5 ∨ mode s = 6) ∧ notEmpty s
    = false ∧ wakeEnabled s = true) ∧
  (∃ (s : State) (h : CmdHdr) (addr : BitVec 64), Passes s h { fn0 := true, modes := pwrModes, misaligned := addr.toNat % 64 ≠ 0 }) ∧
  (∃ (s : State) (h : CmdHdr) (v : BitVec 16), Passes s h { fn0 := true, modes := pwrModes } ∧ (v = 0 ∨ 12 ≤ v.toNat)) ∧
  (∃ (s : State) (h : CmdHdr), Passes s h { fn0 := true, modes := pwrModes }) :=
  ⟨⟨inMode 5, hdr, by decide +kernel⟩,
   ⟨inMode 6, hdr, by decide +kernel⟩,
   ⟨inMode 4, hdr, by decide +kernel⟩,
   ⟨inMode 5, hdr, by decide +kernel⟩,
   ⟨setFld (inMode 6) PWR_WAKE_EN_PCIE 1, hdr, by decide +kernel⟩,
   ⟨runS, hdr, 64, by decide +kernel⟩,
   ⟨runS, hdr, 12, by decide +kernel⟩,
   ⟨runS, hdr, by decide +kernel⟩⟩

theorem test_met_RefusalsOfChapters3To9HaveNoEffect :
  (∃ (s : State) (h : CmdHdr) (code : BitVec 16), Passes s h { reserved := !eventCodes.contains code } ∧ unmaskable code = true) ∧
  (∃ (s : State) (h : CmdHdr) (f : BitVec 6), Passes s h { fn0 := true, reserved := f = 0 } ∧ fnExists s f.toNat = false) ∧
  (∃ (s : State) (h : CmdHdr) (addr : BitVec 64) (dma : Dma), Passes s h { misaligned := addr.toNat % 64 ≠ 0, dmaFailed := dma.isNone } ∧
    admOpen s = false) ∧
  (∃ (s : State) (h : CmdHdr) (conf : BitVec 12) (addr : BitVec 64) (dma : Dma), Passes s h
    { misaligned := addr.toNat % 64 ≠ 0, dmaFailed := dma.isNone } ∧ admOpen s = true ∧ tget s.adm.confs conf.toNat = none) ∧
  (∃ (s : State) (h : CmdHdr) (conf : BitVec 12) (c : Conf), Passes s h {} ∧ tget s.adm.confs conf.toNat = some c ∧ c.owner ≠ h.fn.toNat) ∧
  (∃ (s : State) (h : CmdHdr) (conf : BitVec 12) (c : Conf), Passes s h {} ∧ tget s.adm.confs conf.toNat = some c ∧ c.owner = h.fn.toNat ∧
    confHolds s conf.toNat = true) ∧
  (∃ (s : State) (h : CmdHdr) (f : BitVec 6) (r : BitVec 4) (v : BitVec 11), Passes s h { fn0 := true, reserved := 1024 < v.toNat } ∧
    v.toNat < fnPeak s f.toNat r.toNat) ∧
  (∃ (s : State) (h : CmdHdr) (id : BitVec 9), Passes s h {} ∧ tget s.adm.layouts id.toNat = none) ∧
  (∃ (s : State) (h : CmdHdr) (hd : BitVec 16) (addr : BitVec 64) (dma : Dma), Passes s h
    { reserved := hd.toNat % 4 = 3, misaligned := addr.toNat % 64 ≠ 0, dmaFailed := dma.isNone } ∧ legIn s (hd.toNat / 4) = none) ∧
  (∃ (s : State) (h : CmdHdr) (hd : BitVec 16), Passes s h { reserved := hd.toNat % 4 = 3 } ∧ streamForeign s h.fn.toNat hd.toNat = true) ∧
  (∃ (s : State) (h : CmdHdr) (hd : BitVec 16), Passes s h { reserved := hd.toNat % 4 = 3 } ∧ streamForeign s h.fn.toNat hd.toNat = false
    ∧ tget s.net.bound hd.toNat = none) ∧
  (∃ (s : State) (h : CmdHdr) (id : BitVec 20), Passes s h {} ∧ tget s.fwd.subs id.toNat = none) ∧
  (∃ (s : State) (h : CmdHdr) (id : BitVec 20) (x : Sub), Passes s h {} ∧ tget s.fwd.subs id.toNat = some x ∧ x.owner ≠ h.fn.toNat) ∧
  (∃ (s : State) (h : CmdHdr) (hd : BitVec 16), Passes s h { reserved := hd.toNat % 4 = 3 } ∧ legIn s (hd.toNat / 4) = none) ∧
  (∃ (s : State) (h : CmdHdr) (slot : BitVec 16), Passes s h { modes := keyModes } ∧ tget s.key.slots slot.toNat = none) ∧
  (∃ (s : State) (h : CmdHdr) (slot : BitVec 16) (k : KeySlot), Passes s h { modes := keyModes } ∧ tget s.key.slots slot.toNat = some k ∧
    k.owner = h.fn.toNat ∧ k.erase = false ∧ slotBound s slot.toNat = true) ∧
  (∃ (s : State) (h : CmdHdr) (dir : Bool) (hd : BitVec 16), Passes s h { reserved := hd.toNat % 4 = 3, modes := [3, 4, 5] } ∧
    streamForeign s h.fn.toNat hd.toNat = false ∧ isBound s hd.toNat = true ∧ dirEnabled s hd.toNat dir = true ∧ dirBind s hd.toNat dir =
    none) ∧
  (∃ (s : State) (h : CmdHdr) (bus : BitVec 2) (id : BitVec 14), Passes s h { modes := audModes } ∧ toneFor s h.fn.toNat false bus.toNat
    id.toNat = .ok (sinkTgt id.toNat) ∧ thas s.aud.tones (sinkTgt id.toNat) = false) ∧
  (∃ (s : State) (h : CmdHdr) (prog : BitVec 8), Passes s h { modes := audModes } ∧ tget s.brs.progs prog.toNat = none) ∧
  (∃ (s : State) (h : CmdHdr) (prog : BitVec 8) (p : BProg), Passes s h { modes := audModes } ∧ tget s.brs.progs prog.toNat = some p ∧
    p.owner = h.fn.toNat ∧ s.brs.insts.any (fun i => i.2.prog = prog.toNat) = true) :=
  ⟨⟨runS, hdr, EV_GEN_RING_ERR, by decide +kernel⟩,
   ⟨runS, hdr, 63, by decide +kernel⟩,
   ⟨setFld runS ADM_HOST_CLOSE 1, hdr, 64, some [], by decide +kernel⟩,
   ⟨runS, hdr, 4095, 64, some [], by decide +kernel⟩,
   ⟨{ runS with adm := { runS.adm with confs := [(2, ⟨3, 120, 3600, 0⟩)] } }, hdr, 2, _, by decide +kernel, rfl, by decide +kernel⟩,
   ⟨runS, hdr, 1, _, by decide +kernel, rfl, by decide +kernel⟩,
   ⟨{ runS with adm := { runS.adm with legs := [(5, { leg5 with item := { leg5.item with counts := [(9, 1)] } })] } }, hdr, 0, 9, 0,
     by decide +kernel⟩,
   ⟨runS, hdr, 511, by decide +kernel⟩,
   ⟨runS, hdr, 36, 64, some [], by decide +kernel⟩,
   ⟨{ runS with adm := { runS.adm with legs := [(5, { leg5 with item := { leg5.item with owner := 3 } })] } }, hdr, 20,
     by decide +kernel⟩,
   ⟨freeS, hdr, 20, by decide +kernel⟩,
   ⟨runS, hdr, 9, by decide +kernel⟩,
   ⟨{ subS with fwd := { subS.fwd with subs := [(9, { sub9 with owner := 3 })] } }, hdr, 9, _, by decide +kernel, rfl, by decide +kernel⟩,
   ⟨runS, hdr, 36, by decide +kernel⟩,
   ⟨runS, hdr, 8, by decide +kernel⟩,
   ⟨{ keyS with cip := { keyS.cip with tx := [(20, { slot := some 8 })] } }, hdr, 8, _, by decide +kernel, rfl, by decide +kernel⟩,
   ⟨runS, hdr, true, 20, by decide +kernel⟩,
   ⟨runS, hdr, 0, 5, by decide +kernel, rfl, by decide +kernel⟩,
   ⟨runS, hdr, 7, by decide +kernel⟩,
   ⟨instS, hdr, 7, _, by decide +kernel, rfl, by decide +kernel⟩⟩

theorem test_met_RefusalsOfChapters10To16HaveNoEffect :
  (∃ (s : State) (h : CmdHdr) (dpb : BitVec 5) (hd : BitVec 16), Passes s h
    { modes := audModes, reserved := hd.toNat % 4 = 3 || dpbReserved s hd.toNat dpb.toNat } ∧ legIn s (hd.toNat / 4) = none) ∧
  (∃ (s : State) (h : CmdHdr) (ctx : BitVec 12) (st : BitVec 16), Passes s h { modes := audModes } ∧ ctxOwner s h.fn.toNat false ctx.toNat
    = some st) ∧
  (∃ (s : State) (h : CmdHdr) (group : BitVec 4) (layout : BitVec 9) (l : LayoutAdm), Passes s h
    { modes := audModes, reserved := group = 0 } ∧ layoutFor s h.fn.toNat layout.toNat = .ok l ∧ (layoutOf s layout.toNat).groups.find?
    (fun g => g.group = group.toNat) = none) ∧
  (∃ (s : State) (h : CmdHdr) (plate : BitVec 12), Passes s h { modes := audModes } ∧ tget s.cnv.plates plate.toNat = none) ∧
  (∃ (s : State) (h : CmdHdr) (r : BitVec 32), Passes s h { fn0 := true, modes := if outOfService s then [] else timeModes } ∧ RMAX <
    r.toInt.natAbs) ∧
  (∃ (s : State) (h : CmdHdr) (r : BitVec 32), Passes s h { fn0 := true, modes := if outOfService s then [] else timeModes } ∧
    r.toInt.natAbs ≤ RMAX ∧ s.ptp.servo = true) ∧
  (∃ (s : State) (h : CmdHdr) (m : BitVec 2), Passes s h { modes := timeModes } ∧ (mshPort s m.toNat).live.en = false) ∧
  (∃ (s : State) (h : CmdHdr) (k : BitVec 4), Passes s h { fn0 := true, modes := memModes } ∧ 10 < k.toNat) ∧
  (∃ (s : State) (h : CmdHdr) (k : BitVec 4), Passes s h { fn0 := true, modes := memModes } ∧ k.toNat ≤ 10 ∧ s.mem.sweep.isSome = true) ∧
  (∃ (s : State) (h : CmdHdr) (cls : BitVec 8) (idx : BitVec 16) (addr : BitVec 64), Passes s h
    { fn0 := true, modes := calModes, misaligned := addr.toNat % 64 ≠ 0 } ∧ calCount cls.toNat ≤ idx.toNat) ∧
  (∃ (s : State) (h : CmdHdr) (v : BitVec 16), Passes s h { fn0 := true, modes := pwrModes } ∧ v ≠ 0 ∧ v.toNat < 12) ∧
  (∃ (s : State) (h : CmdHdr), Passes s h { fn0 := true, modes := reqModes } ∧ s.pwr.trans = none ∧ mode s = 5 ∧ notEmpty s = true) :=
  ⟨⟨runS, hdr, 7, 36, by decide +kernel⟩,
   ⟨runS, hdr, 3, VID_ST_CTX_UNKNOWN, by decide +kernel⟩,
   ⟨layS, hdr, 4, 3, lay3, by decide +kernel, rfl, by decide +kernel⟩,
   ⟨runS, hdr, 9, by decide +kernel⟩,
   ⟨runS, hdr, 0x7fffffff, by decide +kernel⟩,
   ⟨{ runS with ptp := { runS.ptp with servo := true } }, hdr, 0, by decide +kernel⟩,
   ⟨runS, hdr, 1, by decide +kernel⟩,
   ⟨runS, hdr, 11, by decide +kernel⟩,
   ⟨{ runS with mem := { runS.mem with sweep := some ⟨hdr, 10, true⟩ } }, hdr, 10, by decide +kernel⟩,
   ⟨runS, hdr, 0, 65535, 64, by decide +kernel⟩,
   ⟨runS, hdr, 11, by decide +kernel⟩,
   ⟨{ inMode 5 with adm := runS.adm }, hdr, by decide +kernel⟩⟩

/-! ## Witnesses: events of the clock and of the network -/

/-- `s` in tick 101, whose number the cycle of 24 shares with leg 5. -/
def at101 (s : State) : State := { s with easel := { s.easel with now := 101 } }

def netS : State := flds runS [(NET_LINK_UP 0, 1), (NET_HPA_EN 0, 1)]
def egr0 : Egr := { port := 0, sub := 0, launch := 84200000, leg := 5, ord := 0, kind := 0, handle := 20, bytes := zeros 64 }
def emitS : State :=
  { netS with
    net := { netS.net with egress := [egr0] }
    easel := { netS.easel with work := false, worked := true, emit := some 100, emitEndCyc := some (10 ^ 9) } }

def fwdS : State :=
  { subS with
    fwd := { subS.fwd with subs := [(9, { sub9 with hold := 2 ^ 32, upSince := some 0 })], kps := [(84, { sentAt := some 0 })] }
    easel := { subS.easel with now := 10 ^ 9 } }

def overS : State := { runS with cip := { runS.cip with rx := [(20, { slot := some 1, old := some (none, 100) })] } }

/-! ## Witnesses: events of audio, of the cores and of video -/

def aud5 : AudLeg := { conf := 1, home := some 5, pend := [[1]] }
def audS : State := { runS with aud := { runS.aud with legs := [(5, aud5)] } }
def mixS : State := { at101 runS with aud := { runS.aud with legs := [(5, aud5)], confs := [(1, { mixedAt := some 101 })] } }

def route0 : Route := { contrib := 15, listen := 0, minus := 0, force := false, dtx := false, cGain := [0, 0, 0, 0], lGain := [0, 0, 0, 0] }

/-- Leg 5 selected on bus 0 with a low score, leg 6 with a high one that has led for a long time. -/
def spkS : State :=
  { runS with
    adm := { runS.adm with legs := [(5, leg5), (6, leg5)] }
    aud := { runS.aud with
             legs := [(5, { aud5 with route := some route0, score := -9000 }), (6, { aud5 with route := some route0, score := 0 })]
             confs := [(1, { sel := [[5], [], [], []], win := [(24, 2 ^ 32)], peers := [(2, { expected := true, missed := 2 ^ 32 })] })] } }

def silS : State :=
  { runS with
    regs := mset regReset runS.regs AUD_GRP_GATED.addr 32
    aud := { runS.aud with legs := [(5, { aud5 with quiet := true, quietRun := 2 ^ 32 }), (6, { aud5 with quiet := false })] } }

/-- Instance 20 on core 160, whose invocation `r` runs. -/
def coreS (r : BRun) : State := { instS with brs := { instS.brs with cores := [(160, { run := some r })] } }

def pic0 : EncPic := { start := 100, no := 0, per := 40, buf := 0, key := true, tid := 0, tNom := 0, bPic := 0, tickCap := 0, fPkt := 0 }
def encS : State :=
  { vidS with
    vid := { vidS.vid with enc := [(2, { enc2 with pic := some pic0, keyInt := 1, lastKey := some 99 }),
                                   (4, { enc2 with own := false, item := 3, period := 4 })] }
    cnv := { vidS.cnv with
             comps := [(2, { bound := some 100 }), (4, { held := [(0, { pic := some { w := 2, h := 2, ten := false, tick := 0 }, n := 65535 })] })]
             layouts := [(3, { groups := [{ group := 4, changes := [], flipAt := some 90, waits := 65535 }] })]
             plates := [(9, { owner := 0, loading := some (hdr, img1, 1) })] }
    easel := { vidS.easel with now := 100 } }

/-! ## Witnesses: the host interface and time -/

def drainS : State := flds runS [(HIF_RING_STATE 0 0, 2)]
def ringS : State :=
  let s := flds runS [(HIF_RING_STATE 0 0, 1)]
  { s with hif := { s.hif with fns := [(0, { rings := [(0, { hostIdx := 1 }), (16, { held := 2 ^ 32 })], fetch := [(0, 1)] })], reads := [(0, 0)] } }
def resetS : State := { setFld runS (HIF_FN_STATE 0) 2 with hif := { runS.hif with fns := [(0, { reset := some 1, resetEnd := 100 })] } }
def entS : State :=
  let s := flds medS [(HIF_RING_EN 0 65, 1)]
  { s with aud := { s.aud with media := [(1, { ents := [{ idx := 0, ws := [], data := [], frm := 0, st := some 0 }] })] } }

def ptpS : State :=
  { runS with ptp := { runS.ptp with master := some 0, anns := [(0, ⟨6, 33, 0, 128, 0, 0, 0, 37, 0⟩)] } }
def ppsS : State := flds runS [(PPS_OUT_EN, 1), (PPS_IN_EN, 1)]
def missS : State := { runS with net := { runS.net with egress := [{ egr0 with kind := 4 }] } }

/-! ## Witnesses: the Meash -/

/-- A marker of the lane frame: pattern, multiframe count, lane, and its CRC (R364). -/
def markBytes (mfc lane : Nat) : List Byte :=
  let x := natBE 1 mfc ++ natBE 1 lane ++ zeros 2
  natBE 6 AM_PAT ++ x ++ natBE 2 (crc16 x)

def laneS (st : Nat) (x : Lane) : State :=
  let s := flds mshS [(MSH_AM_STATE 1 0, st)]
  { s with msh := { s.msh with lanes := [(16, x)] } }

/-- A unit body closed by its CRC (R372). -/
def unit (b : List Byte) : List Byte := b ++ natBE 4 (crc32 b)

def portS (p : MshPort) : State := { mshS with msh := { mshS.msh with ports := [(1, { p with cfg := mshOn, live := mshOn })] } }

/-- The tick lock in state `st`, port 1 being the one the device follows. -/
def followS (st : Nat) : State :=
  let s := flds mshS [(TIK_SRC, 1), (MSH_TICK_PORT, 1), (MSH_TICK_LOCK 1, st)]
  { s with msh := { s.msh with okRun := 2 ^ 32, badRun := 2 ^ 32 } }

/-! ## Witnesses: memory, power and reset -/

def stk (x : Stack) (p : Pc) : State := { setFld runS (MEM_SPARE_PC 0) 31 with mem := { runS.mem with hbmStacks := [(0, x)], pcs := [(0, p)] } }
def slots0 : List Nat := [0, 1, 2]

def upS (m : Nat) (u : PowerUp) (rails : Nat) : State :=
  let s := setFld State.reset SYS_MODE m
  { s with pwr := { s.pwr with cold := false, up := some u, rails := rails, wake := some (3, 0) } }

/-- The sensor's record lists a trim of 0, so that readings are exact. -/
def hotS : State := { runS with cal := { runS.cal with live := [(calKey 5 0, List.replicate 24 0)] } }

theorem test_met_TickEventsComplete :
  (∃ (s : State), s.easel.running = true ∧ s.easel.stopAt = none ∧ (s.easel.issued = true → s.easel.emitted = true) ∧ s.ptp.staged = none
    ∧ s.msh.adopt = none ∧ (s.easel.follow = true → fld s TIK_SRC ≠ 0)) ∧
  (∃ (s : State), s.easel.issued = true ∧ s.easel.worked = false ∧ s.easel.gather = false) ∧
  (∃ (s : State), s.easel.issued = true ∧ s.easel.emitted = false ∧ s.easel.worked = true ∧ s.easel.work = false ∧ s.easel.emit = none) ∧
  (∃ (s : State), s.easel.gather = true) ∧
  (∃ (s : State), s.easel.work = true) ∧
  (∃ (s : State) (n : Nat), s.easel.emit = some n ∧ s.pwr.shutAt = none) ∧
  (∃ (s : State), s.easel.running = true ∧ s.easel.issued = true ∧ s.easel.latched = false) ∧
  (∃ (s : State) (p : PtpStep), s.ptp.staged = some p) ∧
  (∃ (s : State), bit s TIK_OUT_EN = true ∧ s.easel.running = true ∧ s.easel.holding = false ∧ s.easel.stopAt = none ∧ s.easel.issued =
    true ∧ s.easel.now < s.easel.outDone ∧ s.ptp.staged = none ∧ s.msh.adopt = none ∧ (s.easel.follow = true → fld s TIK_SRC ≠ 0) ∧
    s.easel.outDone ≤ s.easel.next ∧ s.easel.outFirst ≤ s.easel.due ∧ outSelects s s.easel.next = true) :=
  ⟨⟨{ State.reset with easel := { running := true } }, by decide +kernel⟩,
   ⟨{ runS with easel := { runS.easel with work := false } }, by decide +kernel⟩,
   ⟨{ runS with easel := { runS.easel with work := false, worked := true } }, by decide +kernel⟩,
   ⟨{ runS with easel := { runS.easel with gather := true } }, by decide +kernel⟩,
   ⟨runS, by decide +kernel⟩,
   ⟨emitS, 100, by decide +kernel⟩,
   ⟨runS, by decide +kernel⟩,
   ⟨{ runS with ptp := { runS.ptp with staged := some ⟨84166666, some 0, 0, false, false⟩ } }, ⟨84166666, some 0, 0, false, false⟩,
     by decide +kernel⟩,
   ⟨{ setFld runS TIK_OUT_EN 1 with easel := { runS.easel with outDone := 101 } }, by decide +kernel⟩⟩

theorem test_met_NetworkEventsComplete :
  (∃ (s : State) (p u : BitVec 2), linkUp s p.toNat u.toNat = true ∧ s.net.rxFrames < 250000) ∧
  (∃ (s : State) (hd : BitVec 16) (b : Bound), tget s.net.bound hd.toNat = some b) ∧
  (∃ (s : State) (p u : BitVec 2), linkUp s p.toNat u.toNat = true) ∧
  (∃ (s : State) (p u : BitVec 2), (fld s (NET_LINK_UP p.toNat)).testBit u.toNat = false ∧ subportOk s p.toNat u.toNat = true ∧ ctlOn s =
    true ∧ domOn s 3 = true) ∧
  (∃ (s : State) (f : BitVec 6) (ws : List Word), bit s (NET_HPA_EN f.toNat) = true ∧ fld s (NET_HPA_STATE f.toNat) ≠ 3 ∧ fld s
    (HIF_FN_STATE f.toNat) = 1 ∧ hostIdxValid false (ws.getD 0 0) (hpaOf s f.toNat).rxHost (hpaOf s f.toNat).rxDev (hpaRxN s f.toNat) =
    true ∧ hostIdxValid true (ws.getD 1 0) (hpaOf s f.toNat).txHost (hpaOf s f.toNat).txDev (hpaTxN s f.toNat) = true) ∧
  (∃ (s : State) (f : BitVec 6), bit s (NET_HPA_EN f.toNat) = true ∧ fld s (NET_HPA_STATE f.toNat) ≠ 3 ∧ fld s (HIF_FN_STATE f.toNat) = 1) ∧
  (∃ (s t : State) (p : BitVec 2) (u : TxRead) (e : Egr) (b : List Byte), nextFrame s p.toNat u.sub.toNat = some e ∧ (if e.kind = 4 then
    launchPs s e < (e.launch + 2000) * 1000 else emitShut (advanceTo (fresh s) (cdiv (launchPs s e) 1000)) = false) ∧ linkUp s e.port
    e.sub = true ∧ frameOut (advanceTo (fresh s) (cdiv (launchPs s e) 1000)) e = (t, some b) ∧ eccBad s u.hits [4] = false) :=
  ⟨⟨netS, 0, 0, by decide +kernel⟩,
   ⟨runS, 20, bnd20, by decide +kernel⟩,
   ⟨netS, 0, 0, by decide +kernel⟩,
   ⟨runS, 0, 0, by decide +kernel⟩,
   ⟨netS, 0, [0, 0], by decide +kernel⟩,
   ⟨netS, 0, by decide +kernel⟩,
   ⟨emitS, _, 0, ⟨0, []⟩, egr0, _, by decide +kernel, by decide +kernel, by decide +kernel, rfl, by decide +kernel⟩⟩

theorem test_met_ForwardingCipherEventsComplete :
  (∃ (s : State) (leg : BitVec 14), (liveProf s leg.toNat).isSome = true ∧ curTick s % 24 = leg.toNat % 24 ∧ (estOf s leg.toNat).updAt ≠
    some (curTick s) ∧ s.pwr.fwStop = false) ∧
  (∃ (s : State) (id : BitVec 20) (x : Sub), tget s.fwd.subs id.toNat = some x ∧ fld s FWD_UP_HOLD ≤ x.hold ∧ s.pwr.fwStop = false) ∧
  (∃ (s : State) (id : BitVec 20) (x : Sub) (t : Nat), tget s.fwd.subs id.toNat = some x ∧ x.upSince = some t ∧ t + fld s FWD_KP_WAIT ≤
    curTick s ∧ x.live = true) ∧
  (∃ (s : State) (hd : BitVec 16) (i : BitVec 2) (r : KpReq) (t : Nat), tget s.fwd.kps (4 * hd.toNat + i.toNat) = some r ∧ r.sentAt = some
    t ∧ t + fld s FWD_KP_GAP ≤ curTick s) ∧
  (∃ (s : State) (hd : BitVec 16) (d : RxDir) (o : Option Nat) (e : Nat), tget s.cip.rx hd.toNat = some d ∧ d.old = some (o, e) ∧ e ≤
    curTick s) ∧
  (∃ (s : State), ctlOn s = true) ∧
  (∃ (s : State), ctlOn s = true ∧ s.cip.entFail = true) ∧
  (∃ (s : State), ctlOn s = true ∧ s.cip.entFail = false) :=
  ⟨⟨at101 runS, 5, by decide +kernel⟩,
   ⟨fwdS, 9, _, rfl, by decide +kernel⟩,
   ⟨fwdS, 9, _, _, rfl, rfl, by decide +kernel⟩,
   ⟨fwdS, 21, 0, _, _, rfl, rfl, by decide +kernel⟩,
   ⟨overS, 20, _, _, _, rfl, rfl, by decide +kernel⟩,
   ⟨runS, by decide +kernel⟩,
   ⟨{ runS with cip := { runS.cip with entFail := true } }, by decide +kernel⟩,
   ⟨runS, by decide +kernel⟩⟩

theorem test_met_AudioEventsComplete :
  (∃ (s : State) (hd : BitVec 16), hd.toNat % 4 = 0 ∧ s.easel.work = true ∧ legMixed s (hd.toNat / 4) = false ∧ (audLeg s (hd.toNat /
    4)).quiet = false ∧ (audLeg s (hd.toNat / 4)).pend ≠ [] ∧ (audRec s (hd.toNat / 4)).rxDec = true) ∧
  (∃ (s : State), s.easel.work = true) ∧
  (∃ (s : State) (hd : BitVec 16) (hits : List EccHit) (l : AudLeg) (r : StreamRec), l = audLeg s (hd.toNat / 4) ∧ r = audRec s (hd.toNat
    / 4) ∧ hd.toNat % 4 = 0 ∧ s.easel.work = true ∧ legMixed s (hd.toNat / 4) = true ∧ l.sinkIn = none ∧ encodeDue s (hd.toNat / 4) = true
    ∧ eccBad s hits [0, 1, 10] = false) ∧
  (∃ (s : State) (hd : BitVec 16) (hits : List EccHit), hd.toNat % 4 = 0 ∧ s.easel.work = true ∧ legMixed s (hd.toNat / 4) = true ∧
    (audLeg s (hd.toNat / 4)).sinkIn = none ∧ encodeDue s (hd.toNat / 4) = true ∧ eccBad s hits [0, 1, 10] = true) ∧
  (∃ (s : State) (c : BitVec 12) (b : BitVec 2) (l w : Nat) (above : Bool), swapPair s c.toNat b.toNat = some (l, w, above) ∧ fld s
    AUD_AS_HOLD ≤ (tget (audConf s c.toNat).win (4 * l + b.toNat)).getD 0) ∧
  (∃ (s : State) (c : BitVec 12) (ms : List (Nat × AudLeg)) (p : Nat × AudLeg), ms = (confLegs s c.toNat).filter (fun p => ((audConf s
    c.toNat).sel.getD 0 []).contains p.1) ∧ (if ((audConf s c.toNat).dom.map (fun d => ms.any (fun p => p.1 = d))).getD false then highest
    (ms.filter (fun p => decide (fld s AUD_DS_HOLD ≤ (tget (audConf s c.toNat).domWin p.1).getD 0))) else highest ms) = some p) ∧
  (∃ (s : State) (c : BitVec 12) (n : BitVec 5) (p : Peer), tget (audConf s c.toNat).peers n.toNat = some p ∧ p.expected = true ∧ fld s
    MSH_PART_FORGET ≤ p.missed) ∧
  (∃ (s : State) (leg : BitVec 14) (l : AudLeg), tget s.aud.legs leg.toNat = some l ∧ l.quiet = true ∧ fld s PWR_SIL_HOLD ≤ l.quietRun) ∧
  (∃ (s : State) (g : BitVec 4), groupGated s g.toNat = true ∧ s.aud.legs.any (fun p => p.2.home = some g.toNat && (!p.2.quiet ||
    wakesNext s p.1 p.2)) = true) :=
  ⟨⟨audS, 20, by decide +kernel⟩,
   ⟨audS, by decide +kernel⟩,
   ⟨mixS, 20, [], _, _, rfl, rfl, by decide +kernel⟩,
   ⟨mixS, 20, [⟨1, 0, 1, 3, 0⟩], by decide +kernel⟩,
   ⟨spkS, 1, 0, 6, 5, true, by decide +kernel⟩,
   ⟨spkS, 1, _, _, rfl, rfl⟩,
   ⟨spkS, 1, 2, _, rfl, by decide +kernel⟩,
   ⟨silS, 5, _, rfl, by decide +kernel⟩,
   ⟨silS, 5, by decide +kernel⟩⟩

theorem test_met_BrushEventsComplete :
  (∃ (s u : State) (leg : BitVec 14) (pt : BitVec 2) (i : BInst) (p : BProg) (xs : List Int), tget s.brs.insts (4 * leg.toNat + pt.toNat)
    = some i ∧ tget s.brs.progs i.prog = some p ∧ i.live = true ∧ i.suspended = false ∧ (coreOf s i.core).run = none ∧ i.invAt ≠ some
    (curTick s) ∧ (audLeg s ((4 * leg.toNat + pt.toNat) / 4)).quiet = false ∧ s.easel.work = true ∧ u = (if (4 * leg.toNat + pt.toNat) % 4
    = 1 then fresh s else if (audLeg s ((4 * leg.toNat + pt.toNat) / 4)).pend = [] then audPrep (fresh s) ((4 * leg.toNat + pt.toNat) / 4)
    else fresh s) ∧ pointInput u (4 * leg.toNat + pt.toNat) = some xs) ∧
  (∃ (s : State) (c : BitVec 9) (r : BRun) (t : BXfer) (rest : List BXfer) (i : BInst), (coreOf s c.toNat).run = some r ∧ r.xfers = t ::
    rest ∧ tget s.brs.insts r.key = some i ∧ r.stall = none) ∧
  (∃ (s : State) (c : BitVec 9) (r : BRun) (w : BStall), (coreOf s c.toNat).run = some r ∧ r.stall = some w ∧ (coreOf (cycles (fresh s)
    (w.since + 80 * fld s SCH_WAIT_TO - s.clk.cyc)) c.toNat).run = some r) ∧
  (∃ (s : State) (c : BitVec 9) (r : BRun) (i : BInst) (p : BProg), (coreOf s c.toNat).run = some r ∧ tget s.brs.insts r.key = some i ∧
    tget s.brs.progs i.prog = some p ∧ p.cycMax + 200 ≤ r.cyc + (r.stall.map (fun x => waitCycles s x.since)).getD 0) ∧
  (∃ (s : State) (leg : BitVec 14) (pt : BitVec 2) (i : BInst), tget s.brs.insts (4 * leg.toNat + pt.toNat) = some i ∧ i.suspended = false
    ∧ fld s SCH_FAULT_SUSPEND ≤ i.consec) :=
  ⟨⟨{ instS with aud := { instS.aud with legs := [(5, { conf := 1, home := some 5, raw := [7] })] } }, _, 5, 0, _, _, _, rfl, rfl,
     by decide +kernel, by decide +kernel, by decide +kernel, by decide +kernel, by decide +kernel, by decide +kernel, rfl, rfl⟩,
   ⟨coreS { key := 20, xfers := [⟨true, 0, 0, false, 1⟩] }, 160, _, _, _, _, rfl, rfl, rfl, rfl⟩,
   ⟨coreS { key := 20, stall := some { op := .wait, two := false, since := 100000 } }, 160, _, _, rfl, rfl, rfl⟩,
   ⟨coreS { key := 20, cyc := 264 }, 160, _, _, _, rfl, rfl, rfl, by decide +kernel⟩,
   ⟨{ instS with brs := { instS.brs with insts := [(20, { inst20 with consec := 2 ^ 32 })] } }, 5, 0, _, rfl, by decide +kernel⟩⟩

theorem test_met_VideoCanvasEventsComplete :
  (∃ (s : State) (c : BitVec 12) (x : DecCtx), tget s.vid.dec c.toNat = some x ∧ s.easel.work = true ∧ x.live = true ∧ x.ranAt ≠ some
    (curTick s) ∧ decTurn s c.toNat x = true) ∧
  (∃ (s : State) (c : BitVec 10) (x : EncCtx) (p : EncPic) (j : Nat), tget s.vid.enc c.toNat = some x ∧ sliceDue s x = some j ∧ x.pic =
    some p ∧ s.easel.work = true ∧ x.live = true ∧ encTurn s c.toNat x = true) ∧
  (∃ (s : State) (c : BitVec 10) (x : EncCtx) (t : Nat), tget s.vid.enc c.toNat = some x ∧ x.lastKey = some t ∧ x.live = true ∧ x.keyInt ≠
    0 ∧ t + x.keyInt ≤ curTick s + 1 ∧ x.reqs.any (fun r => r.reason = 3) = false) ∧
  (∃ (s : State) (k : BitVec 10) (x : EncCtx) (c : Comp) (j : Nat), tget s.vid.enc k.toNat = some x ∧ tget s.cnv.comps k.toNat = some c ∧
    compDue s c = some j ∧ s.easel.work = true ∧ x.live = true) ∧
  (∃ (s : State) (k : BitVec 10) (x : EncCtx) (c : Comp), tget s.vid.enc k.toNat = some x ∧ tget s.cnv.comps k.toNat = some c ∧
    boundaryDue s k.toNat x = true) ∧
  (∃ (s : State) (id : BitVec 9) (g : CnvGroup), (layoutOf s id.toNat).groups.filter (fun g => g.flipAt.isSome && decide (fld s
    CNV_FLIP_TO ≤ g.waits)) = [g]) ∧
  (∃ (s : State) (id : BitVec 9) (i : BitVec 6) (k : Nat) (x : EncCtx) (c : Comp) (h : Held), s.vid.enc.find? (fun p => !p.2.own &&
    p.2.layout = id.toNat && p.2.live) = some (k, x) ∧ tget s.cnv.comps k = some c ∧ tget c.held i.toNat = some h ∧ h.pic.isSome = true ∧
    h.stale = false ∧ fld s CNV_STALE_FRAMES ≤ h.n) ∧
  (∃ (s : State) (k : BitVec 12) (p : Plate) (h : CmdHdr) (img : PlateImg) (n : Nat), tget s.cnv.plates k.toNat = some p ∧ p.loading =
    some (h, img, n) ∧ s.pwr.fwStop = false) :=
  ⟨⟨vidS, 3, _, rfl, by decide +kernel⟩,
   ⟨encS, 2, _, _, _, rfl, rfl, rfl, by decide +kernel⟩,
   ⟨encS, 2, _, _, rfl, rfl, by decide +kernel⟩,
   ⟨encS, 2, _, _, _, rfl, rfl, rfl, by decide +kernel⟩,
   ⟨{ encS with easel := { encS.easel with now := 103 } }, 4, _, _, rfl, rfl, by decide +kernel⟩,
   ⟨encS, 3, { group := 4, changes := [], flipAt := some 90, waits := 65535 }, by decide +kernel⟩,
   ⟨encS, 3, 0, _, _, _, _, rfl, rfl, rfl, by decide +kernel⟩,
   ⟨encS, 9, _, _, _, _, rfl, rfl, rfl⟩⟩

theorem test_met_HostInterfaceEventsComplete :
  (∃ (s : State) (q : BitVec 7), ringExists q.toNat = true ∧ answers s 0x110000 = true) ∧
  (∃ (s : State) (f : BitVec 6) (q : BitVec 7), q.toNat < 16 ∧ fld s (HIF_RING_STATE f.toNat q.toNat) = 2 ∧ s.hif.waiting.any (fun w =>
    w.h.fn = f && w.h.ring.toNat = q.toNat) = false ∧ s.hif.running.any (fun h => h.fn = f && h.ring.toNat = q.toNat) = false ∧ (fnOf s
    f.toNat).heldCpls.any (fun c => c.2.h.fn = f && c.2.h.ring.toNat = q.toNat) = false) ∧
  (∃ (s : State) (f : BitVec 6), answers s 0x110000 = true ∧ resetting s f.toNat = false) ∧
  (∃ (s : State) (f : BitVec 6), f ≠ 0 ∧ fnExists s f.toNat = true ∧ ctlOn s = true) ∧
  (∃ (s : State), ctlOn s = true) ∧
  (∃ (s : State), s.hif.vfEn = true ∧ ctlOn s = true) ∧
  (∃ (s : State), answers s 0x110000 = true) ∧
  (∃ (s : State) (f : BitVec 6), resetting s f.toNat = true ∧ (fnOf s f.toNat).resetEnd ≤ curTick s ∧ s.hif.running.any (fun h => h.fn =
    f) = false ∧ fld s (HIF_FN_STATE f.toNat) ≠ 3 ∧ s.pwr.fwStop = false) ∧
  (∃ (s : State) (f : BitVec 6) (q : BitVec 4) (r : Ring), fetches s = true ∧ resetting s f.toNat = false ∧ fetchNext s f.toNat = some
    q.toNat ∧ r = ringOf s f.toNat q.toNat) ∧
  (∃ (s : State) (f : BitVec 6) (q : BitVec 4), fetches s = true ∧ resetting s f.toNat = false ∧ fetchNext s f.toNat = some q.toNat) ∧
  (∃ (s : State), fetches s = true ∧ s.easel.issued = true ∧ s.hif.poll < 2 ^ fld s HIF_DB_POLL_RATE) ∧
  (∃ (s : State) (f : BitVec 6) (l : BitVec 3), s.hif.reads.contains (f.toNat, l.toNat) = true ∧ resetting s f.toNat = false ∧ fetches s =
    true) ∧
  (∃ (s : State) (f : BitVec 6) (q : BitVec 7), 16 ≤ q.toNat ∧ q.toNat ≤ 32 ∧ (ringOf s f.toNat q.toNat).stalled = false ∧ fld s
    HIF_HOST_SERVICE_TICKS < (ringOf s f.toNat q.toNat).held ∧ resetting s f.toNat = false) ∧
  (∃ (s : State) (f : BitVec 6), s.easel.running = true ∧ s.easel.issued = true ∧ (fnOf s f.toNat).modAt ≠ some (curTick s)) ∧
  (∃ (s : State) (f m : BitVec 6) (r : MRing) (e : MEnt) (st : BitVec 16), r = mediaOf s (mediaKey f.toNat m.toNat) ∧ mediaDone r = some
    (e, st) ∧ resetting s f.toNat = false ∧ bit s (HIF_RING_EN f.toNat (mediaQ m.toNat)) = true ∧ fld s (HIF_RING_STATE f.toNat (mediaQ
    m.toNat)) ≠ 3) :=
  ⟨⟨runS, 127, by decide +kernel⟩,
   ⟨drainS, 0, 0, by decide +kernel⟩,
   ⟨runS, 0, by decide +kernel⟩,
   ⟨vfS, 1, by decide +kernel⟩,
   ⟨runS, by decide +kernel⟩,
   ⟨vfS, by decide +kernel⟩,
   ⟨runS, by decide +kernel⟩,
   ⟨resetS, 0, by decide +kernel⟩,
   ⟨ringS, 0, 0, _, by decide +kernel, by decide +kernel, by decide +kernel, rfl⟩,
   ⟨ringS, 0, 0, by decide +kernel⟩,
   ⟨runS, by decide +kernel⟩,
   ⟨ringS, 0, 0, by decide +kernel⟩,
   ⟨ringS, 0, 16, by decide +kernel⟩,
   ⟨runS, 63, by decide +kernel⟩,
   ⟨entS, 0, 1, _, _, _, rfl, rfl, by decide +kernel⟩⟩

theorem test_met_TimeEventsComplete :
  (∃ (s : State) (ofs : BitVec 19) (p l : Nat), s.ptp.master = some p ∧ s.pwr.fwStop = false ∧ s.clk.running = true ∧ s.ptp.reqAt = none ∧
    reqLaunch (fresh s) ofs.toNat = some l) ∧
  (∃ (s : State) (p : Nat) (a : Announce), s.ptp.master = some p ∧ tget s.ptp.anns p = some a) ∧
  (∃ (s : State), (fld s PTP_STATE = 1 ∨ fld s PTP_STATE = 2)) ∧
  (∃ (s : State), fld s PTP_STATE = 3) ∧
  (∃ (s : State) (n : Nat), bit s PPS_OUT_EN = true ∧ s.clk.running = true ∧ (bit s PPS_SQUELCH && bit s PTP_UNCERTAIN) = false ∧
    s.ptp.ppsStep = false ∧ s.ptp.staged = none ∧ n = (max (ns s + fld s PTP_PPS_ADV) s.ptp.ppsFrom + 999999999) / 1000000000) ∧
  (∃ (s : State) (falling : Bool), bit s PPS_IN_EN = true ∧ bit s PPS_IN_EDGE = falling ∧ s.clk.running = true ∧ (s.ptp.ppsEdge = true →
    s.ptp.ppsAt + 900000000 ≤ localNs s)) ∧
  (∃ (s : State), bit s PPS_IN_EN = true ∧ s.ptp.ppsLost = false) ∧
  (∃ (s : State) (e : Egr), earliest (s.net.egress.filter (fun e => e.kind = 4 && (!linkUp s e.port e.sub || decide (e.launch + 2000 ≤ ns
    s)))) = some e) :=
  ⟨⟨ptpS, 0, _, _, rfl, rfl, rfl, rfl, rfl⟩,
   ⟨ptpS, _, _, rfl, rfl⟩,
   ⟨setFld runS PTP_STATE 1, by decide +kernel⟩,
   ⟨setFld runS PTP_STATE 3, by decide +kernel⟩,
   ⟨ppsS, _, by decide +kernel, by decide +kernel, by decide +kernel, by decide +kernel, by decide +kernel, rfl⟩,
   ⟨ppsS, false, by decide +kernel⟩,
   ⟨ppsS, by decide +kernel⟩,
   ⟨missS, _, rfl⟩⟩

theorem test_met_MeashLaneEventsComplete :
  (∃ (s : State) (m : BitVec 2) (l : BitVec 4) (b : List Byte) (delay unc sym : BitVec 16) (x : Lane), ctlOn s = true ∧ (mshPort s
    m.toNat).live.en = true ∧ (l.toNat < (mshPort s m.toNat).live.w ∨ l.toNat = 8) ∧ x = laneFec (fresh s)
    { laneOf s m.toNat l.toNat with delay := delay.toNat, buf := (laneOf s m.toNat l.toNat).buf ++ b } unc.toNat sym.toNat) ∧
  (∃ (s : State) (m l : Nat) (x : Lane) (b : List Byte), x = laneOf s m l ∧ b = sl x.buf x.ofs 16) ∧
  (∃ (s : State) (m : BitVec 2) (l : BitVec 4), l.toNat ≤ 8 ∧ fld s (MSH_AM_STATE m.toNat l.toNat) = 1 ∧ fld s MSH_AM_N ≤ (laneOf s
    m.toNat l.toNat).cnt) ∧
  (∃ (s : State) (m : BitVec 2) (l : BitVec 4), l.toNat ≤ 8 ∧ fld s (MSH_AM_STATE m.toNat l.toNat) = 2 ∧ fld s MSH_AM_M ≤ (laneOf s
    m.toNat l.toNat).bad) ∧
  (∃ (s : State) (m : BitVec 2) (l : BitVec 4) (a : List (BitVec 8)), (laneOf s m.toNat l.toNat).multi = [a, a, a] ∧ l.toNat ≤ 8) ∧
  (∃ (s : State) (m : BitVec 2) (l : BitVec 3) (t : Nat), (laneOf s m.toNat l.toNat).sfSince = some t ∧ (laneOf s m.toNat l.toNat).sfOn =
    false ∧ (laneOf s m.toNat l.toNat).sdSince = none) ∧
  (∃ (s : State) (m : BitVec 2), (mshPort s m.toNat).live.w ≤ (mshPort s m.toNat).force.2 ∧ (mshPort s m.toNat).sel ≠ none) ∧
  (∃ (s : State) (m : BitVec 2) (l t : Nat), (mshPort s m.toNat).wtr = some (l, t)) :=
  ⟨⟨laneS 2 {}, 1, 8, [], 0, 0, 0, _, by decide +kernel, by decide +kernel, by decide +kernel, rfl⟩,
   ⟨laneS 0 {}, 1, 0, _, _, rfl, rfl⟩,
   ⟨laneS 1 { cnt := 2 ^ 32 }, 1, 0, by decide +kernel⟩,
   ⟨laneS 2 { bad := 2 ^ 32 }, 1, 0, by decide +kernel⟩,
   ⟨laneS 2 { multi := [[1], [1], [1]] }, 1, 0, _, rfl, by decide +kernel⟩,
   ⟨laneS 2 { sfSince := some 0 }, 1, 0, _, rfl, by decide +kernel⟩,
   ⟨portS { sel := some 0 }, 1, by decide +kernel⟩,
   ⟨portS { wtr := some (0, 0) }, 1, _, _, rfl⟩⟩

/-- Lane 0 of port 1 in state `st`, whose next bytes are the marker of multiframe `mfc` on lane `phy`, after marker 5 of lane 3. -/
def markS (st mfc phy : Nat) : State := laneS st { buf := markBytes mfc phy ++ zeros 4, mfc := 5, phy := 3 }

/-- The 16 bytes that the next test of the lane reads. -/
def mark (s : State) : List Byte := sl (laneOf s 1 0).buf (laneOf s 1 0).ofs 16

/-- A marker found, a byte that begins none, a marker confirmed, one of another lane, one of another multiframe. -/
theorem test_met_MeashLaneTest :
    (fld (markS 0 9 7) (MSH_AM_STATE 1 0) = 0 ∧ be (mark (markS 0 9 7)) 0 6 = AM_PAT ∧
      crc16 (sl (mark (markS 0 9 7)) 6 4) = be (mark (markS 0 9 7)) 10 2) ∧
    (fld (laneS 0 { buf := zeros 16 }) (MSH_AM_STATE 1 0) = 0 ∧ be (mark (laneS 0 { buf := zeros 16 })) 0 6 ≠ AM_PAT) ∧
    (fld (markS 1 6 3) (MSH_AM_STATE 1 0) = 1 ∧ be (mark (markS 1 6 3)) 0 6 = AM_PAT ∧
      crc16 (sl (mark (markS 1 6 3)) 6 4) = be (mark (markS 1 6 3)) 10 2 ∧ be (mark (markS 1 6 3)) 6 1 = (5 + 1) % 256 ∧
      be (mark (markS 1 6 3)) 7 1 % 16 = 3) ∧
    (fld (markS 1 6 2) (MSH_AM_STATE 1 0) = 1 ∧ be (mark (markS 1 6 2)) 7 1 % 16 ≠ 3) ∧
    (fld (markS 2 9 3) (MSH_AM_STATE 1 0) = 2 ∧ be (mark (markS 2 9 3)) 6 1 ≠ (5 + 1) % 256) := by decide +kernel

theorem test_met_MeashUnitEventsComplete :
  (∃ (s : State) (m : BitVec 2) (body : List Byte), mshUp s m.toNat = true ∧ (mshPort s m.toNat).held.getD 0 0 + unitBlocks body ≤ vcSize
    0 ∧ unitCrcOk body = true ∧ body.length = 660) ∧
  (∃ (s : State) (m : BitVec 2) (body : List Byte), mshUp s m.toNat = true ∧ (mshPort s m.toNat).held.getD 2 0 + unitBlocks body ≤ vcSize
    2 ∧ unitCrcOk body = true ∧ 13 + be body 11 2 + 4 ≤ body.length) ∧
  (∃ (s : State) (m : BitVec 2) (body : List Byte), mshUp s m.toNat = true ∧ (mshPort s m.toNat).held.getD 1 0 + unitBlocks body ≤ vcSize
    1 ∧ unitCrcOk body = true) ∧
  (∃ (s : State) (m : BitVec 2) (body : List Byte), mshUp s m.toNat = true ∧ unitCrcOk body = true ∧ body.length = 10 ∧ (∀ v ∈ [0, 1, 2],
    ([be body 0 2, be body 2 2, be body 4 2].getD v 0 + 65536 - (mshPort s m.toNat).sent.getD v 0) % 65536 ≤ vcSize v)) ∧
  (∃ (s : State) (m : BitVec 2), mshUp s m.toNat = true) ∧
  (∃ (s : State) (m : BitVec 2) (t : Nat) (b : List (BitVec 8)) (r : List (Nat × List (BitVec 8))), (mshPort s m.toNat).qm = (t, b) :: r) ∧
  (∃ (s : State), s.easel.issued = true) ∧
  (∃ (s : State) (m : BitVec 2) (body : List Byte) (n : Nat) (rx : Int), mshUp s m.toNat = true ∧ s.easel.issued = true ∧ unitCrcOk body =
    true ∧ body.length = 21 ∧ n = be body 0 8 ∧ rx = (s.clk.t : Int) / 2 ^ 45 - ownStart8 s n ∧ -(2 ^ 31) < rx ∧ rx < 2 ^ 31 ∧ fld s
    TIK_SRC ≠ 1) ∧
  (∃ (s t : State) (m : BitVec 2) (body : List Byte) (n : Nat) (rx : Int), mshUp s m.toNat = true ∧ s.easel.issued = true ∧ unitCrcOk body
    = true ∧ body.length = 21 ∧ n = be body 0 8 ∧ rx = (s.clk.t : Int) / 2 ^ 45 - ownStart8 s n ∧ -(2 ^ 31) < rx ∧ rx < 2 ^ 31 ∧ fld s
    TIK_SRC = 1 ∧ m.toNat = fld s MSH_TICK_PORT ∧ (be body 16 1).testBit 7 = true ∧ BitVec.ofNat 32 (be body 12 4) = (0x80000000 : Word) ∧
    t = setMshPort (fresh s) m.toNat
    { mshPort s m.toNat with rx := ((n, rx) :: (mshPort s m.toNat).rx.filter (fun q => q.1 ≠ n)).take 3, skip := (mshPort s m.toNat).skip
        - 1 }) ∧
  (∃ (s t : State) (m : BitVec 2) (body : List Byte) (n : Nat) (rx phi d : Int), mshUp s m.toNat = true ∧ s.easel.issued = true ∧
    unitCrcOk body = true ∧ body.length = 21 ∧ n = be body 0 8 ∧ rx = (s.clk.t : Int) / 2 ^ 45 - ownStart8 s n ∧ -(2 ^ 31) < rx ∧ rx < 2 ^
    31 ∧ fld s TIK_SRC = 1 ∧ m.toNat = fld s MSH_TICK_PORT ∧ (mshPort s m.toNat).skip = 0 ∧ t = setMshPort (fresh s) m.toNat
    { mshPort s m.toNat with rx := ((n, rx) :: (mshPort s m.toNat).rx.filter (fun q => q.1 ≠ n)).take 3, skip := 0 } ∧ markerPhase t
    m.toNat n rx (BitVec.ofNat 32 (be body 8 4)).toInt (BitVec.ofNat 32 (be body 12 4)) = some (phi, d)) ∧
  (∃ (s : State) (m : Nat), m = fld s MSH_TICK_PORT ∧ fld s TIK_SRC = 1 ∧ fld s (MSH_TICK_LOCK m) = 1 ∧ fld s MSH_TLOCK_N ≤ s.msh.okRun) ∧
  (∃ (s : State) (m : Nat), m = fld s MSH_TICK_PORT ∧ fld s TIK_SRC = 1 ∧ fld s (MSH_TICK_LOCK m) = 2 ∧ 3 ≤ s.msh.badRun) ∧
  (∃ (s : State) (m : BitVec 2) (bs : List (BitVec 16 × BitVec 16)), 6 ≤ bs.foldl (fun n b => if 6 ≤ n then n else if decide (48 ≤
    b.1.toNat) && decide (b.1.toNat ≤ 80) && decide (48 ≤ b.2.toNat) && decide (b.2.toNat ≤ 80) then n + 1 else 0) 0 ∧ ((tget s.msh.ports
    m.toNat).map (·.live.wake)).getD false = true) ∧
  (∃ (s : State) (m : BitVec 2) (t : Nat), (mshPort s m.toNat).waking = some t) :=
  ⟨⟨mshS, 1, unit (zeros 656), by decide +kernel, by decide +kernel, unitCrcOk_append _, by decide +kernel⟩,
   ⟨mshS, 1, unit (zeros 13), by decide +kernel, by decide +kernel, unitCrcOk_append _, by decide +kernel⟩,
   ⟨mshS, 1, unit [], by decide +kernel, by decide +kernel, unitCrcOk_append _⟩,
   ⟨mshS, 1, unit (zeros 6), by decide +kernel, unitCrcOk_append _, by decide +kernel⟩,
   ⟨mshS, 1, by decide +kernel⟩,
   ⟨portS { qm := [(0, [])] }, 1, _, _, _, rfl⟩,
   ⟨runS, by decide +kernel⟩,
   ⟨mshS, 1, unit (natBE 8 runS.easel.now ++ zeros 9), _, _, by decide +kernel, by decide +kernel, unitCrcOk_append _, by decide +kernel,
     rfl, rfl, by decide +kernel⟩,
   ⟨followS 0, _, 1, unit (natBE 8 runS.easel.now ++ zeros 4 ++ [0x80, 0, 0, 0, 0x80]), _, _, by decide +kernel, by decide +kernel,
     unitCrcOk_append _, by decide +kernel, rfl, rfl, by decide +kernel, by decide +kernel, by decide +kernel, by decide +kernel,
     by decide +kernel, by decide +kernel, rfl⟩,
   ⟨{ followS 0 with msh := { (followS 0).msh with ports := [(1, { cfg := mshOn, live := mshOn, tx := [(99, 0)] })] } }, _, 1, unit (natBE
     8 runS.easel.now ++ zeros 9), _, _, _, _, by decide +kernel, by decide +kernel, unitCrcOk_append _, by decide +kernel, rfl, rfl,
     by decide +kernel, by decide +kernel, by decide +kernel, by decide +kernel, by decide +kernel, rfl, rfl⟩,
   ⟨followS 1, 1, by decide +kernel⟩,
   ⟨followS 2, 1, by decide +kernel⟩,
   ⟨{ mshS with msh := { mshS.msh with ports := [(1, { cfg := mshOn, live := { mshOn with wake := true } })] } }, 1, List.replicate 6 (48,
     80), by decide +kernel⟩,
   ⟨portS { waking := some 0 }, 1, _, rfl⟩⟩

theorem test_met_MemoryEventsComplete :
  (∃ (s : State) (w : SweepRun), s.mem.sweep = some w ∧ s.pwr.fwStop = false) ∧
  (∃ (s : State) (k : BitVec 2), domOn s DOM_MEM = true ∧ (stackOf s k.toNat).tempAt.isSome = true ∧ (fld s MEM_HOT_C : Int) <
    (BitVec.ofNat 8 (fld s (MEM_TEMP k.toNat))).toInt ∧ bit s (MEM_REF_HALF k.toNat) = false) ∧
  (∃ (s : State) (k : BitVec 2), domOn s DOM_MEM = true ∧ s.easel.running = true ∧ (stackOf s k.toNat).tempAt = none) ∧
  (∃ (s : State) (k : BitVec 2) (p : BitVec 5), (pcOf s (32 * k.toNat + p.toNat)).at' + fld s MEM_RETRAIN_TICKS ≤ curTick s ∧ retrains s
    k.toNat p.toNat = true ∧ (pcOf s (32 * k.toNat + p.toNat)).step = 0) ∧
  (∃ (s : State) (st : BitVec 2) (p : BitVec 5) (cand : List (BitVec 16)) (k : Nat) (x : Pc), k = 32 * st.toNat + p.toNat ∧ x = pcOf s k ∧
    x.step = 1 ∧ x.pieceAt ≠ some (curTick s, segNow s) ∧ mode s = 3 ∧ s.easel.running = true ∧ settingIn s k 1 (cand.map (·.toInt)) =
    false ∧ x.pieces + 1 < 32) ∧
  (∃ (s : State) (st : BitVec 2) (p : BitVec 5) (x : Stack), x = stackOf s st.toNat ∧ pcFailed s st.toNat p.toNat = true ∧
    x.slots.contains p.toNat = true ∧ fld s (MEM_SPARE_STATE st.toNat) = 0 ∧ fld s (MEM_SPARE_PC st.toNat) < 32) ∧
  (∃ (s : State) (st : BitVec 2) (m : Migration), (stackOf s st.toNat).mig = some m ∧ m.chunk < slotChunks ∧ domOn s DOM_MEM = true ∧
    chunkHits s st.toNat m [] = []) ∧
  (∃ (s : State) (st : BitVec 2) (m : Migration), (stackOf s st.toNat).mig = some m ∧ slotChunks ≤ m.chunk) ∧
  (∃ (s : State), s.mem.leakAt + fld s ECC_LEAK_TICKS ≤ curTick s) ∧
  (∃ (s : State) (k : BitVec 4) (synd : BitVec 8) (addr : BitVec 34), (EccHit.mk k 0 0 synd addr).ok = true ∧ fld s ECC_CE_THRESH ≤ fld s
    (ECC_BUCKET k.toNat)) ∧
  (∃ (s t : State) (msh : Bool) (lane : BitVec 6) (v h v0 h0 : BitVec 16) (c : Nat), c = (if msh then 2 else 1) ∧ trims s = true ∧ segNow
    s = 3 ∧ tget s.cal.slotAt (calKey c lane.toNat) ≠ some (curTick s) ∧ lane.toNat < calCount c ∧ v0.toNat ≤ v.toNat ∧ h0.toNat ≤ h.toNat
    ∧ t = { fresh s with cal := { s.cal with slotAt := tset s.cal.slotAt (calKey c lane.toNat) (curTick s) } }) ∧
  (∃ (s t : State), trims s = true ∧ curTick s % 1200 = 600 ∧ segNow s = 3 ∧ tget s.cal.slotAt (calKey 5 0) ≠ some (curTick s) ∧ t =
    { fresh s with cal := { s.cal with slotAt := tset s.cal.slotAt (calKey 5 0) (curTick s) } }) :=
  ⟨⟨{ runS with mem := { runS.mem with sweep := some ⟨hdr, 10, true⟩ } }, _, rfl, rfl⟩,
   ⟨{ flds runS [(MEM_TEMP 0, 127)] with mem := (stk { tempAt := some 0 } {}).mem }, 0, by decide +kernel⟩,
   ⟨runS, 3, by decide +kernel⟩,
   ⟨{ stk { slots := slots0 } {} with easel := { runS.easel with now := 2 ^ 33 } }, 0, 0, by decide +kernel⟩,
   ⟨stk {} { step := 1 }, 0, 0, [], _, _, rfl, rfl, by decide +kernel⟩,
   ⟨stk { slots := slots0 } { fail := true }, 0, 0, _, rfl, by decide +kernel⟩,
   ⟨stk { mig := some { slot := 0, failed := 0 } } {}, 0, _, rfl, by decide +kernel⟩,
   ⟨stk { mig := some { slot := 0, failed := 0, chunk := 786432 } } {}, 0, _, rfl, by decide +kernel⟩,
   ⟨{ runS with easel := { runS.easel with now := 2 ^ 33 } }, by decide +kernel⟩,
   ⟨flds runS [(ECC_CE_THRESH, 1), (ECC_BUCKET 10, 1)], 10, 1, 0, by decide +kernel⟩,
   ⟨{ runS with clk := { runS.clk with t := 83733333 * 2 ^ 48 } }, _, true, 35, 5, 5, 5, 5, _, rfl, by decide +kernel, by decide +kernel,
     by decide +kernel, by decide +kernel, by decide +kernel, by decide +kernel, rfl⟩,
   ⟨{ runS with clk := { runS.clk with t := 83733333 * 2 ^ 48 }, easel := { runS.easel with now := 600 } }, _, by decide +kernel,
     by decide +kernel, by decide +kernel, by decide +kernel, rfl⟩⟩

theorem test_met_ResetEventsComplete :
  (∃ (s : State), s.pwr.cold = true ∧ s.pwr.pins = 0) ∧
  (∃ (s : State), s.pwr.cold = true ∧ s.pwr.pins ≠ 0) ∧
  (∃ (s : State) (w : BitVec 32), 1000 ≤ w.toNat ∧ s.pwr.cold = true) ∧
  (∃ (s : State) (w : BitVec 32) (taken : Bool), 100 ≤ w.toNat ∧ (w.toNat < 1000 → taken = true) ∧ s.pwr.cold = false) ∧
  (∃ (s : State) (w : BitVec 32) (taken : Bool), 100 ≤ w.toNat ∧ (w.toNat < 1000 → taken = true) ∧ s.pwr.cold = false) ∧
  (∃ (s : State), s.pwr.pins ≠ 0 ∧ s.pwr.cold = false) ∧
  (∃ (s : State) (u : PowerUp) (i : Nat), s.pwr.up = some u ∧ u.waits = false ∧ u.kind ≠ 1 ∧ (u.kind = 3 → s.pwr.good ≠ 63) ∧ s.pwr.lower
    = none ∧ lowRail s.pwr.rails = some i) ∧
  (∃ (s : State) (u : PowerUp), s.pwr.up = some u ∧ u.waits = false ∧ u.kind = 0 ∧ s.pwr.lower = none ∧ lowRail s.pwr.rails = none ∧
    s.pwr.pins = 0) ∧
  (∃ (s : State) (u : PowerUp), s.pwr.up = some u ∧ u.waits = false ∧ u.kind = 3 ∧ s.pwr.good ≠ 63 ∧ s.pwr.lower = none ∧ lowRail
    s.pwr.rails = none) ∧
  (∃ (s : State) (left i j : Nat), s.pwr.lower = some left ∧ topRail s.pwr.rails left = some i ∧ topRail (s.pwr.rails - 2 ^ i) left = some
    j) ∧
  (∃ (s : State) (i : BitVec 3), (s.pwr.good &&& s.pwr.rails).testBit i.toNat = true) ∧
  (∃ (s : State) (src : BitVec 3) (u : PowerUp), s.pwr.up = some u ∧ u.waits = false ∧ u.fails < 3 ∧ s.pwr.lower = none ∧ mayFail s u
    src.toNat = true) ∧
  (∃ (s : State) (src : BitVec 3) (u : PowerUp), s.pwr.up = some u ∧ u.waits = false ∧ 3 ≤ u.fails ∧ s.pwr.lower = none ∧ mayFail s u
    src.toNat = true) ∧
  (∃ (s : State) (u : PowerUp) (i : Nat), s.pwr.up = some u ∧ u.waits = true ∧ s.pwr.lower = none ∧ u.kind ≠ 1 ∧ lowRail s.pwr.rails =
    some i) ∧
  (∃ (s : State) (u : PowerUp), s.pwr.up = some u ∧ u.waits = true ∧ s.pwr.lower = none ∧ u.kind = 3 ∧ lowRail s.pwr.rails = none) ∧
  (∃ (s : State) (len : BitVec 32) (svn : BitVec 8), mode s = 1 ∧ fld s CTL_BOOT_STATE = 1 ∧ domOn s 2 = true ∧ 65536 ≤ len.toNat ∧
    len.toNat ≤ 6291456 ∧ Config.svnFloor.toNat ≤ svn.toNat) ∧
  (∃ (s : State), mode s = 1 ∧ fld s CTL_BOOT_STATE = 0) ∧
  (∃ (s : State), 1 ≤ mode s ∧ mode s ≤ 6) ∧
  (∃ (s : State), mode s = 2 ∧ s.pwr.trained = false ∧ domOn s DOM_MEM = true) ∧
  (∃ (s : State), mode s = 2 ∧ s.pwr.trained = true ∧ bit s SYS_ST_SETUP = true) :=
  ⟨⟨State.reset, by decide +kernel⟩,
   ⟨{ State.reset with pwr := { pins := 1 } }, by decide +kernel⟩,
   ⟨State.reset, 1000, by decide +kernel⟩,
   ⟨runS, 1000, false, by decide +kernel⟩,
   ⟨runS, 100, true, by decide +kernel⟩,
   ⟨{ State.reset with pwr := { cold := false, pins := 1 } }, by decide +kernel⟩,
   ⟨upS 0 ⟨0, 0, 1, 0, false⟩ 31, _, _, rfl, by decide +kernel, by decide +kernel, by decide +kernel, by decide +kernel, rfl⟩,
   ⟨upS 0 ⟨0, 0, 1, 0, false⟩ 63, _, rfl, by decide +kernel⟩,
   ⟨upS 1 ⟨3, 0, 1, 1, false⟩ 63, _, rfl, by decide +kernel⟩,
   ⟨{ runS with pwr := { rails := 63, lower := some 1 } }, _, _, _, rfl, rfl, rfl⟩,
   ⟨{ runS with pwr := { runS.pwr with rails := 63, good := 63 } }, 5, by decide +kernel⟩,
   ⟨upS 0 ⟨0, 0, 1, 2, false⟩ 31, 4, _, rfl, by decide +kernel⟩,
   ⟨upS 0 ⟨0, 0, 1, 3, false⟩ 31, 4, _, rfl, by decide +kernel⟩,
   ⟨upS 0 ⟨0, 0, 1, 1, true⟩ 31, _, _, rfl, by decide +kernel, by decide +kernel, by decide +kernel, rfl⟩,
   ⟨upS 2 ⟨3, 63, 7, 1, true⟩ 63, _, rfl, by decide +kernel⟩,
   ⟨flds State.reset [(SYS_MODE, 1), (CTL_BOOT_STATE, 1), (PWR_DOM_ON, 7)], 65536, 255, by decide +kernel, by decide +kernel,
     by decide +kernel, by decide +kernel, by decide +kernel, (by have := Config.svnFloor.isLt; simp; omega)⟩,
   ⟨flds State.reset [(SYS_MODE, 1)], by decide +kernel⟩,
   ⟨runS, by decide +kernel⟩,
   ⟨flds State.reset [(SYS_MODE, 2), (PWR_DOM_ON, 1023)], by decide +kernel⟩,
   ⟨{ flds State.reset [(SYS_MODE, 2), (SYS_ST_SETUP, 1)] with pwr := { trained := true } }, by decide +kernel⟩⟩

theorem test_met_PowerEventsComplete :
  (∃ (s : State) (e : Nat) (h : CmdHdr), s.pwr.trans = some ⟨6, e, some h⟩ ∧ mode s = 6 ∧ s.pwr.fwStop = false) ∧
  (∃ (s : State) (t : Trans) (u : PowerUp), s.pwr.trans = some t ∧ s.pwr.up = some u ∧ t.target = 3 ∧ mode s = 6 ∧ u.kind = 1 ∧ u.waits =
    false ∧ t.tick ≤ curTick s ∧ s.pwr.fwStop = false) ∧
  (∃ (s : State) (e : Nat), s.easel.stopAt = some e ∧ s.pwr.saved = false ∧ s.easel.emit = none ∧ (s.easel.issued = true → outOfService s
    = true)) ∧
  (∃ (s : State), s.pwr.saved = true ∧ s.clk.running = true) ∧
  (∃ (s : State) (p : BitVec 2), (fld s PWR_WAKE_EN_ETH).testBit p.toNat = true) ∧
  (∃ (s : State), bit s PWR_WAKE_EN_PCIE = true) ∧
  (∃ (s : State), bit s PWR_WAKE_EN_TIMER = true ∧ fld s PWR_SLEEP_TIMER ≠ 0 ∧ s.clk.running = false) ∧
  (∃ (s : State) (u : PowerUp) (src port : Nat), s.pwr.up = some u ∧ s.pwr.wake = some (src, port) ∧ mode s = 7 ∧ u.kind = 2 ∧ u.waits =
    false ∧ s.pwr.good = 63) ∧
  (∃ (s : State), s.pwr.woken = true ∧ s.clk.running = false) ∧
  (∃ (s : State), domOn s 1 = true) ∧
  (∃ (s : State) (raw : List (BitVec 16)) (v : Int) (i : Nat), s.easel.running = true ∧ s.pwr.tempAt = none ∧ mode s ≠ 1 ∧ hottest
    ((List.range (min raw.length 24)).map (fun i => (raw.getD i 0).toInt + (liveOf s 5 0).getD i 0)) = some (v, i)) ∧
  (∃ (s : State) (t : Int), fld s PWR_THERM_STATE = 0 ∧ t < fld s PWR_WARN_C ∧ s.pwr.hot < 2) ∧
  (∃ (s : State) (e : Nat), s.pwr.critAt = some e ∧ e + fld s PWR_CRIT_DRAIN ≤ curTick s) ∧
  (∃ (s : State), s.pwr.rails.testBit 3 = true) ∧
  (∃ (s : State), reqModes.contains (mode s) = true ∧ s.pwr.fwStop = false ∧ (∀ n, s.pwr.pmbusAt = some n → n + 1200 ≤ curTick s)) ∧
  (∃ (s : State), domOn s 2 = true) :=
  ⟨⟨{ inMode 6 with pwr := { runS.pwr with trans := some ⟨6, 100, some hdr⟩ } }, _, _, rfl, by decide +kernel⟩,
   ⟨{ upS 6 ⟨1, 63, 63, 0, false⟩ 63 with pwr := { (upS 6 ⟨1, 63, 63, 0, false⟩ 63).pwr with trans := some ⟨3, 0, none⟩ } }, _, _, rfl,
     rfl, by decide +kernel⟩,
   ⟨{ runS with easel := { stopAt := some 100 } }, _, rfl, by decide +kernel⟩,
   ⟨{ runS with pwr := { runS.pwr with saved := true } }, by decide +kernel⟩,
   ⟨setFld runS PWR_WAKE_EN_ETH 8, 3, by decide +kernel⟩,
   ⟨setFld runS PWR_WAKE_EN_PCIE 1, by decide +kernel⟩,
   ⟨flds State.reset [(PWR_WAKE_EN_TIMER, 1), (PWR_SLEEP_TIMER, 1)], by decide +kernel⟩,
   ⟨{ upS 7 ⟨2, 8, 1, 0, false⟩ 63 with pwr := { (upS 7 ⟨2, 8, 1, 0, false⟩ 63).pwr with good := 63 } }, _, _, _, rfl, rfl,
     by decide +kernel⟩,
   ⟨{ State.reset with pwr := { woken := true } }, by decide +kernel⟩,
   ⟨runS, by decide +kernel⟩,
   ⟨hotS, [1600], _, _, by decide +kernel, by decide +kernel, by decide +kernel, rfl⟩,
   ⟨runS, -40, by decide +kernel⟩,
   ⟨{ runS with pwr := { runS.pwr with critAt := some 0 }, easel := { runS.easel with now := 2 ^ 33 } }, _, rfl, by decide +kernel⟩,
   ⟨{ runS with pwr := { runS.pwr with rails := 8 } }, by decide +kernel⟩,
   ⟨runS, by decide +kernel⟩,
   ⟨runS, by decide +kernel⟩⟩

/-! ## Witnesses: the rules -/

theorem test_met_StepRunsFrontCommand : ({ runS with pending := [.workOpen, .emitOpen] } : State).pending = .workOpen :: [.emitOpen] := rfl

/-- The clock runs in one state and not in the other, with no port of the Meash in use; a port that has not sent yet, one whose next
frame is not due, one whose frame is. -/
theorem test_met_StepIdlesOneCycle :
    runS.pending = [] ∧ (∀ m, m < 4 → (mshPort runS m).live.en = false) ∧ runS.clk.running = true ∧ State.reset.pending = [] ∧
    State.reset.clk.running = false ∧ ((mshPort (portS {}) 1).live.en = true ∧ (portS {}).clk.running = true ∧
      (mshPort (portS {}) 1).txFrom = none ∧ (mshPort (portS {}) 1).waking = none) ∧
    ((mshPort (portS { txFrom := some 100000, txN := 1 }) 1).txFrom = some 100000 ∧
      32125 * ((portS { txFrom := some 100000, txN := 1 }).clk.cyc - 100000) < 4227072 * 1) ∧
    ((mshPort (portS { txFrom := some 0, txN := 1 }) 1).live.en = true ∧
      4227072 * 1 ≤ 32125 * ((portS { txFrom := some 0, txN := 1 }).clk.cyc - 0)) := by decide +kernel

theorem test_met_StepKeepsQueueWf : QueueWf { runS with pending := [.phaseEnd 2, .linkUp 3 3] } ∧ QueueWf runS := by decide

theorem test_met_StepKeepsStoresCanon : StoresCanon runS ∧ StoresCanon State.reset ∧
    (∃ t, step { runS with pending := [.workOpen] } = .next t) := ⟨by decide +kernel, by decide, ⟨_, rfl⟩⟩

theorem test_met_DescriptorRoundTrip :
    (∃ h op a x, encodeCmd (.genNop hdr) = some (h, op, a, x)) ∧
    (∃ h op a x, encodeCmd (.keyImport hdr 3 65535 64 (some wrapWs)) = some (h, op, a, x)) := ⟨⟨_, _, _, _, rfl⟩, ⟨_, _, _, _, rfl⟩⟩

/-- The last nanosecond of a second; its last tick; its last group of three. -/
theorem test_met_TickNumbersAndStarts : 999999999 < 1000000000 ∧ 1199 < 1200 ∧ 399 < 400 := by decide

/-- The least and the greatest ring. -/
theorem test_met_RingSlotAndPhase : (0 ≤ 16 ∧ 1 = 2 ^ 0) ∧ (16 ≤ 16 ∧ 65536 = 2 ^ 16) := by decide

/-- One field of each access type, with values written that are legal and reserved; a bit of no field; a register with an RWL field
while locked. -/
theorem test_met_RegisterFieldsByAccessType :
    (∃ r, regAt 0x110000 = some r ∧ (∃ f ∈ r.fields, f.acc = .wo) ∧ (∃ f ∈ r.fields, f.acc = .rw) ∧
      (∃ j, j < 32 ∧ ∀ f ∈ r.fields, j < f.lo ∨ f.hi < j)) ∧
    (∃ r, regAt 0x4 = some r ∧ (∃ f ∈ r.fields, f.acc = .ro) ∧ (∃ f ∈ r.fields, f.acc = .rof) ∧
      (∃ f ∈ r.fields, f.acc = .rwl ∧ f.least ≤ 1 ∧ 1 ≤ f.most ∧ f.most < 2)) ∧
    (∃ r, regAt 0x28 = some r ∧ ∃ f ∈ r.fields, f.acc = .rw1c) ∧ (∃ r, regAt PWR_WAKE_EN_ETH.addr = some r ∧ ∃ f ∈ r.fields, f.acc = .rws) ∧
    (∃ r, regAt 0x1200010 = some r ∧ ∃ f ∈ r.fields, f.acc = .rwsc) ∧
    (∃ r, regAt 0x4 = some r ∧ answers runS 0x4 = true ∧ bit runS SYS_LOCKED = true ∧ r.hasRwl = true) :=
  ⟨⟨_, rfl, by decide, by decide, 30, by decide, by decide⟩, ⟨_, rfl, by decide, by decide, by decide⟩, ⟨_, rfl, by decide⟩,
   ⟨_, rfl, by decide⟩, ⟨_, rfl, by decide⟩, ⟨_, rfl, by decide +kernel, by decide +kernel, by decide⟩⟩

theorem test_met_RegistersAtReset :
    (∃ r, regAt 0x301400 = some r ∧ (∃ f ∈ r.fields, f.rst = 0x400) ∧ (∃ j, j < 32 ∧ ∀ f ∈ r.fields, j < f.lo ∨ f.hi < j)) :=
  ⟨_, rfl, by decide, 31, by decide, by decide⟩

def hdr1 : CmdHdr := { hdr with fn := 1 }

/-- A function that is not served; one command for each check of R94; a command that all let through. -/
theorem test_met_RefusedCommandsHaveNoEffect :
    unserved resetS 0 = true ∧ unserved runS 0 = false ∧ (({ reserved := true } : Pre).status runS hdr = some GEN_ST_RESERVED ∧
      GEN_ST_RESERVED ≠ GEN_ST_DMA) ∧ ({ dmaFailed := true } : Pre).status runS hdr = some GEN_ST_DMA ∧
    (layoutOfOp 0xffff [] = none ∧ (∃ l, layoutOfOp 0x0104 [] = some l ∧ l.fn0 = true) ∧ reservedClear [0, 1] [] = false) ∧
    (({ fn0 := true } : Pre).fn0 = true ∧ hdr1.fn ≠ 0) ∧
    (({ fn0 := true, reserved := true } : Pre).fn0 = true → hdr.fn = 0) ∧
    (mode runS ∉ ({ modes := [4, 5] } : Pre).modes ∧ mode runS ∈ ({ modes := [3] } : Pre).modes) :=
  ⟨by decide, by decide, by decide, by decide, ⟨by decide, ⟨_, rfl, by decide⟩, by decide⟩, by decide, by decide, by decide⟩

/-- Completion ring 16 and event ring 32 of two entries each, at 4 KiB and 8 KiB. -/
def cplS : State :=
  flds runS [(HIF_RING_EN 0 16, 1), (HIF_RING_STATE 0 16, 1), (HIF_RING_LOG2 0 16, 1), (HIF_RING_BASE_LO 0 16, 1),
    (HIF_RING_EN 0 32, 1), (HIF_RING_STATE 0 32, 1), (HIF_RING_LOG2 0 32, 1), (HIF_RING_BASE_LO 0 32, 2)]

theorem test_met_CompletionEntryWritten :
    resetting cplS 0 = false ∧ cplRing cplS hdr = 16 ∧ (fnOf cplS 0).heldCpls.all (fun p => p.1 ≠ 16) = true ∧
    ringOpen cplS 0 16 = true ∧ ringSize cplS 0 16 = 2 := by decide +kernel

def heldS (n : Nat) : State :=
  { runS with hif := { runS.hif with fns := [(0, { heldEvts := List.replicate n ⟨0, 0, 0, 0, 0, 0, 0, 0⟩ })] } }

/-- A function being reset; a disabled code, an enabled one and one that cannot be disabled; an event written at once; one more held; the
33rd lost; space after a loss. -/
theorem test_met_EventsNumberedHeldLost :
    (resetting resetS 0 = true ∧ resetting runS 0 = false) ∧
    (({ masked := [EV_FWD_LAYER] } : Fn).masked.contains EV_FWD_LAYER = true ∧ unmaskable EV_FWD_LAYER = false ∧
      (fnOf runS 0).masked.contains EV_FWD_LAYER = false ∧ unmaskable EV_GEN_RING_ERR = true) ∧
    ((fnOf cplS 0).heldEvts = [] ∧ (fnOf cplS 0).lostFirst = none ∧ ringOpen cplS 0 32 = true ∧ ringSize cplS 0 32 = 2) ∧
    ((fnOf (heldS 31) 0).heldEvts.length < 32 ∧ (fnOf (heldS 31) 0).heldEvts ≠ [] ∧ ringOpen runS 0 32 = false) ∧
    32 ≤ (fnOf (heldS 32) 0).heldEvts.length ∧
    ((fnOf { cplS with hif := { cplS.hif with fns := [(0, { lostFirst := some 7 })] } } 0).lostFirst = some 7 ∧
      ringOpen { cplS with hif := { cplS.hif with fns := [(0, { lostFirst := some 7 })] } } 0 32 = true) := by decide +kernel

/-- Half a unit over an even and over an odd value, and one more than half. -/
theorem test_met_BrushRounding :
    ((4194304 : Int) = 4194304 % 2 ^ 23 ∧ ¬(2 ^ 22 < (4194304 : Int) ∨ ((4194304 : Int) = 2 ^ 22 ∧ (4194304 : Int) / 2 ^ 23 % 2 = 1))) ∧
    ((4194304 : Int) = 12582912 % 2 ^ 23 ∧ (4194304 : Int) = 2 ^ 22 ∧ (12582912 : Int) / 2 ^ 23 % 2 = 1) ∧
    ((4194305 : Int) = 4194305 % 2 ^ 23 ∧ 2 ^ 22 < (4194305 : Int)) := by decide

theorem test_met_BrushAccumulatorReduction :
    ({} : BBank).a.length = 4 ∧ ({ sam := true } : BBank).a.length = 4 ∧ ({} : BBank).sam = false ∧ ({ sam := true } : BBank).sam = true ∧
    -(2 ^ 55) ≤ (2 ^ 55 - 1 : Int) ∧ 2 ^ 55 - 1 < (2 ^ 55 : Int) ∧ (-(2 ^ 55) - 1 : Int) < -(2 ^ 55) := by decide

def loop9 (lc : Nat) : BLoop := ⟨lc, 2, 9⟩

/-- The loop goes on; it ends alone; two end together; it does not end here; the deepest stacks. -/
theorem test_met_BrushLoopsAndCalls :
    (({ loops := [loop9 2] } : BBank).loops = loop9 2 :: [] ∧ (loop9 2).le = 9 ∧ 1 < (loop9 2).lc) ∧
    (({ loops := [loop9 1] } : BBank).loops = [loop9 1] ∧ (loop9 1).lc ≤ 1) ∧
    (({ loops := [loop9 1, loop9 5] } : BBank).loops = loop9 1 :: loop9 5 :: [] ∧ (loop9 5).le = 9) ∧
    (({ loops := [loop9 1, ⟨5, 2, 12⟩] } : BBank).loops = loop9 1 :: ⟨5, 2, 12⟩ :: [] ∧ (⟨5, 2, 12⟩ : BLoop).le ≠ 9) ∧ (loop9 2).le ≠ 8 ∧
    (({ loops := List.replicate 4 (loop9 2), calls := List.replicate 8 1 } : BBank).loops.length ≤ 4 ∧
      ({ loops := List.replicate 4 (loop9 2), calls := List.replicate 8 1 } : BBank).calls.length ≤ 8 ∧
      BOp.nop.fault { loops := List.replicate 4 (loop9 2), calls := List.replicate 8 1 } { key := 20 } prog7 = none) := by decide

/-- A buffer of ten words at 100 whose pointer stands on the last, stepped by a whole length; no buffer. -/
def modBank : BBank :=
  { p := [109, 0, 0, 0, 0, 0, 0, 0], el := [10, 0, 0, 0, 0, 0, 0, 0], pl := [10, 0, 0, 0, 0, 0, 0, 0], b := [100, 0, 0, 0, 0, 0, 0, 0] }

/-- The buffer of R251's example at its step 3, whose length 32 is pending. -/
def foldBank : BBank :=
  { p := [0x101, 0, 0, 0, 0, 0, 0, 0], el := [40, 0, 0, 0, 0, 0, 0, 0], pl := [32, 0, 0, 0, 0, 0, 0, 0], b := [0x100, 0, 0, 0, 0, 0, 0, 0] }

theorem test_met_BrushModuloAddressing :
    (modBank.p.length = 8 ∧ (modBank.rp 0).toNat = 109 ∧ modBank.rel 0 = 10 ∧ modBank.rb 0 = 100 ∧ modBank.rpl 0 = 10 ∧
      100 ≤ 109 ∧ 109 < 100 + 10 ∧ 100 + 10 ≤ 16384 ∧ -(10 : Int) ≤ 10) ∧
    (foldBank.p.length = 8 ∧ foldBank.el.length = 8 ∧ foldBank.rel 0 = 40 ∧ foldBank.rpl 0 = 32 ∧ foldBank.rb 0 = 0x100 ∧
      ((foldBank.rp 0).toNat : Int) + -3 < 0x100) ∧
    ((foldBank.rb 0 : Int) ≤ (foldBank.rp 0).toNat + 5 ∧ ((foldBank.rp 0).toNat : Int) + 5 < foldBank.rb 0 + foldBank.rel 0) ∧
    (modBank.p.length = 8 ∧ modBank.rel 7 = 0) ∧ (modBank.pl.length = 8 ∧ modBank.el.length = 8 ∧ modBank.b.length = 8) := by decide

/-- A session slot bound for sending on stream 20, whose SSRC has sent index 5. -/
def sendS : State :=
  { runS with
    key := { runS.key with slots := [(9, { mst8 with session := true, keys := List.replicate 6 (zeros 20) })] }
    cip := { runS.cip with tx := [(20, { slot := some 9, recs := [{ ssrc := 0x111, roc0 := 0, started := true, sl := 5, h := some 5 }] })] } }

/-- A packet leaves, and one whose index does not rise is refused; the first packet of an SSRC without a record leaves. -/
theorem test_met_TransmitIndicesRise : ∃ d e, tget sendS.cip.tx 20 = some d ∧ d.slot = some 9 ∧
    e = (d.recs.find? (fun x => x.ssrc = 0x111)).getD { ssrc := 0x111, roc0 := 0 } ∧ e.started = true ∧
    (txSrtp sendS 20 0x111 6 (zeros 12) []).2.isSome = true ∧ (txSrtp sendS 20 0x111 5 (zeros 12) []).2 = none ∧
    d.recs.find? (fun x => x.ssrc = 0x222) = none ∧ (txSrtp sendS 20 0x222 5 (zeros 12) []).2.isSome = true :=
  ⟨_, _, rfl, rfl, rfl, rfl, by decide +kernel, by decide +kernel, rfl, by decide +kernel⟩

theorem test_met_BrushStateKeepsShape : BrushWf runS ∧ BrushWf (coreS { key := 20 }) ∧
    (∃ t, exec (.taskArrival 5 0) instS = .next t) ∧ (∃ t, exec (.xferComplete 160 [] []) (coreS { key := 20 }) = .next t) :=
  ⟨by decide, by decide, ⟨_, rfl⟩, ⟨_, rfl⟩⟩

theorem test_met_StepKeepsBrushWf : BrushWf instS ∧ BrushWf (coreS { key := 20 }) ∧
    (∃ t, step { coreS { key := 20 } with pending := [.xferComplete 160 [] []] } = .next t) := ⟨by decide, by decide, ⟨_, rfl⟩⟩

/-- Vector 0 of function 0: moderated by 100 ticks or 2 entries, its mask bit clear or set. -/
def vecS (cnt : Nat) (mask : Word) : State :=
  let s := flds runS [(HIF_VEC_MOD_TICKS 0 0, 100), (HIF_VEC_MOD_CNT 0 0, 2)]
  { s with hif := { s.hif with msix := [(12, mask)], msixCtl := [(0, 0x80000000)], fns := [(0, { vecs := [(0, { pending := true, count := cnt })] })] } }

theorem test_met_InterruptModeration :
    (resetting (vecS 1 0) 0 = false ∧ fld (vecS 1 0) (HIF_VEC_MOD_CNT 0 0) ≤ (vecOf (vecS 1 0) 0 0).count + 1 ∧
      vecMasked (vecS 1 0) 0 0 = false) ∧
    (fld (vecS 1 1) (HIF_VEC_MOD_CNT 0 0) ≤ (vecOf (vecS 1 1) 0 0).count + 1 ∧ vecMasked (vecS 1 1) 0 0 = true) ∧
    (fld (vecS 0 0) (HIF_VEC_MOD_TICKS 0 0) ≠ 0 ∧ (vecOf (vecS 0 0) 0 0).count + 1 < fld (vecS 0 0) (HIF_VEC_MOD_CNT 0 0)) := by decide +kernel

/-! ## Witnesses: clears, reads, register writes -/

theorem test_met_CounterClearsComplete :
    2 ≤ mode (inMode 2) ∧ mode (inMode 2) ≤ 6 ∧ 2 ≤ mode (inMode 6) ∧ mode (inMode 6) ≤ 6 ∧
    (10 : BitVec 4).toNat ≤ 10 ∧ ¬ (11 : BitVec 4).toNat ≤ 10 := by decide

theorem test_met_LatchingReadsComplete : 2 ≤ mode (inMode 2) ∧ 1 ≤ mode (inMode 1) ∧ mode (inMode 6) ≤ 6 := by decide

/-- The test access port about to capture the identification register. -/
def idS : State := { runS with jtag := { st := .capDr, ir := .idcode } }

theorem test_met_RegisterWritesComplete :
    (ctlOn idS = true ∧ idS.jtag.st = .capDr ∧ idS.jtag.ir = .idcode) ∧ (0x3fffffc : BitVec 26).toNat % 4 = 0 ∧ (0x3fffff8 : BitVec 26).toNat % 8 = 0 ∧
    (¬((8 : BitVec 4) = 4 ∧ (4 : BitVec 26).toNat % 4 = 0) ∧ ¬((8 : BitVec 4) = 8 ∧ (4 : BitVec 26).toNat % 8 = 0) ∧
      2 ≤ mode runS ∧ mode runS ≤ 6) ∧
    mode (inMode 0) = 0 ∧ mode (inMode 7) = 7 ∧ (3 ≤ mode runS ∧ mode runS ≤ 6) ∧ (3 ≤ mode (inMode 6) ∧ mode (inMode 6) ≤ 6) := by decide

/-! ## Witnesses: the instructions of the cores -/

def run0 : BRun := { key := 20 }
def bref0 : BrushRef := ⟨160, false, 0, []⟩

/-- A loop and a call in progress; A1 beyond 46 bits. -/
def bank0 : BBank := { pc := 3, loops := [loop9 3], calls := [7], a := [0, BitVec.ofInt 56 (2 ^ 47), 0, 0], flg := { zero := true } }

def issS : State := { instS with brs := { instS.brs with cores := [(160, { act := bank0, run := some run0 })] } }

def atX : BEa := ⟨false, 0, .at'⟩
def atY : BEa := ⟨true, 7, .revO⟩

theorem test_met_BrushMoveInstructionsComplete :
    (∀ op ∈ [BOp.move (.l 7) (.d 0), .move (.a 3) (.a 1), .ldi (.a 1) 0xffffff, .ldh 7 atX, .ldl 0 atY, .sth 1 atX, .stl 1 atY, .ldbus 3 atX,
      .stbus 1 atY, .movd false 0 1, .movd true 0 1], Issues issS bref0 op run0 inst20 prog7) ∧ ∀ n, BReg.d 0 ≠ .a n :=
  ⟨by decide +kernel, fun _ h => nomatch h⟩

theorem test_met_BrushMultiplyInstructionsComplete :
    ∀ op ∈ [BOp.mul false 3 7 7, .mla false 0 0 0, .mls 0 1 2, .mul true 0 1 2, .mla true 0 1 2, .mlam false 0 atX atY, .mlam true 0 atX atY,
      .mla2 0 1 atX 0 2 atY], Issues issS bref0 op run0 inst20 prog7 := by decide +kernel

theorem test_met_BrushAccumulatorInstructionsComplete :
    (∀ op ∈ [BOp.add 0 0, .sub 3 0, .neg 1, .abs 1, .clr 0, .cmp 0 1, .shl 0 24, .shl 0 1, .shr 0 24, .shr 0 1, .rndc 0, .sat 0, .sat 1,
      .cls 0 1], Issues issS bref0 op run0 inst20 prog7) ∧
    beyond (bank0.ra 0).toInt = false ∧ beyond (bank0.ra 1).toInt = true := by decide +kernel

theorem test_met_BrushDataInstructionsComplete :
    ∀ op ∈ [BOp.addd 0 0 0, .subd 7 0 1, .and 0 1 2, .or 0 1 2, .xor 0 1 2, .not 0 1, .lsl 0 1 31, .lsr 0 1 0, .asrd 0 1 31, .cmpd 0 7,
      .lea 0 .revO], Issues issS bref0 op run0 inst20 prog7 := by decide +kernel

/-- Besides the instructions: a condition that holds, one that does not, both kinds of count, a loop that ends elsewhere. -/
theorem test_met_BrushControlInstructionsComplete :
    (∀ op ∈ [BOp.br 31, .brCond .eq 0, .brCond .ne 0, .call 9, .ret, .loop (.imm 65535) 9, .loop (.reg 0) 9, .leave, .clrf, .nop],
      Issues issS bref0 op run0 inst20 prog7) ∧
    bank0.flg.test .eq = true ∧ bank0.flg.test .ne = false ∧ bank0.calls = 7 :: [] ∧ bank0.count (.imm 65535) ≠ 0 ∧
    bank0.count (.reg 0) = 0 ∧ (loop9 3).le ≠ brushAfter bref0 issS ∧ bank0.loops = loop9 3 :: [] := by decide +kernel

theorem test_met_BrushTaskInstructionsComplete :
    ∀ op ∈ [BOp.xferR 0 0 false 1024, .xferW 1 7 true 1, .wait, .sig, .halt], Issues issS bref0 op run0 inst20 prog7 := by decide +kernel

/-! ## The checks of WellFormed refuse ill-formed commands -/

def badHit : List EccHit := [⟨11, 0, 1, 3, 0⟩]
def ill (c : Instr) : Bool := !c.wf

theorem test_wf_hits :
    ([.tickStart [] [] badHit [], .audioDecode 0 [] none badHit, .audioEncode 0 [] false badHit, .xferComplete 0 [] badHit,
      .videoDecodeSlice 0 [] badHit, .videoEncodeSlice 0 [] [] [] badHit, .canvasSlice 0 badHit ⟨[], none⟩ [], .sweepComplete 0 0 badHit,
      .migrationChunk 0 badHit, .nop ⟨0, false, 0, badHit⟩, .halt ⟨0, false, 0, badHit⟩] : List Instr).all ill = true := by decide

theorem test_wf_ranges :
    ([.phaseEnd 3, .doorbellLineRead 0 7 none [], .doorbellLineRead 0 0 (some (List.replicate 15 0)) [],
      .descriptorFetch 0 0 (some (List.replicate 17 0)) none none none, .hostStall 0 34, .ringDrainDone 0 63, .hifRingEn 0 34 true,
      .laneFrameReceive 0 9 [] 0 0 0, .amLock 0 9, .amLoss 0 15, .traceAccept 0 9, .bucketOverflow 11 0 0, .eccClr 11, .railFault 6,
      .tempReading (List.replicate 23 0), .registerWrite ⟨.bar0, 0, 0, 0, false⟩, .registerWrite ⟨.bar0, 0, 9, 0, true⟩,
      .delayReqSend 500000] : List Instr).all ill = true := by decide

theorem test_wf_accepts :
    ([.phaseEnd 2, .doorbellLineRead 63 6 (some (List.replicate 16 0)) [], .hostStall 0 33, .hifRingEn 0 127 true,
      .laneFrameReceive 3 8 [] 0 0 0, .bucketOverflow 10 1 0, .railFault 5, .registerWrite ⟨.bar0, 0, 8, 0, true⟩,
      .delayReqSend 499999] : List Instr).all Instr.wf = true := by decide

/-! ## Descriptor words written from the tables of R118 and of the command tables: one command of each family -/

def noData : CmdData := ⟨none, none, none⟩

/-- GEN_EVENT_MASK, ADM_LEG_RELEASE, NET_JB_SET, FWD_SUB_CLEAR, KEY_DERIVE, CIP_UNBIND. -/
theorem test_words_streams :
    decodeCmd hdr 0x0103 [0x80000281] noData = some (.genEventMask hdr true 0x0281) ∧
    decodeCmd hdr 0x0205 [0x00002003] noData = some (.admLegRelease hdr 0x2003) ∧
    decodeCmd hdr 0x0304 [0x80000014, 3] noData = some (.netJbSet hdr true 0x14 3) ∧
    decodeCmd hdr 0x0311 [0xABCDE] noData = some (.fwdSubClear hdr 0xABCDE) ∧
    decodeCmd hdr 0x0403 [0x1234, 0x5678] noData = some (.keyDerive hdr 0x1234 0x5678) ∧
    decodeCmd hdr 0x0406 [0x00010014] noData = some (.cipUnbind hdr true 0x14) := by decide

/-- BRS_TASK_BIND, VID_ENC_RATE, CNV_GROUP_FLIP, PTP_RATE, MSH_APS_CMD, MEM_SOFT_REPAIR, CAL_LIVE_READ, PWR_SIL_HOLD_SET. -/
theorem test_words_units :
    decodeCmd hdr 0x0603 [0x07020005, 1, 2, 3, 0xffffff] noData = some (.brsTaskBind hdr 7 2 5 1 2 3 0xffffff) ∧
    decodeCmd hdr 0x0705 [0x3ff, 1000, 65536, 0x0000640f] noData = some (.vidEncRate hdr 0x3ff 1000 65536 100 15) ∧
    decodeCmd hdr 0x0804 [0x0f0001ff] noData = some (.cnvGroupFlip hdr 15 0x1ff) ∧
    decodeCmd hdr 0x0a03 [0x0000000c, 0xd7] noData = some (.mshApsCmd hdr 3 0xd 7) ∧
    decodeCmd hdr 0x0b02 [0x0000000a, 0x7ff, 5] noData = some (.memSoftRepair hdr 10 0x7ff 5) ∧
    decodeCmd hdr 0x0c03 [0x07000002, 3, 64, 1] noData = some (.calLiveRead hdr 7 2 3 0x100000040) ∧
    decodeCmd hdr 0x0d03 [12] noData = some (.pwrSilHoldSet hdr 12) := by decide

/-! ## The spec's worked examples -/

/-- Leg 1,000's camera is stream handle 4,001 (R13). -/
theorem test_handle : 1000 * 4 + 1 = 0x0fa1 := by decide

/-- R22's table at j = 1, and R21 on the nanosecond before a boundary and on it. -/
theorem test_tick_boundaries :
    tickStartNs 3 = 2500000 ∧ tickStartNs 4 = 3333333 ∧ tickStartNs 5 = 4166666 ∧ tickLen 5 = 833334 ∧
    tickOf 4166665 = 4 ∧ tickOf 4166666 = 5 ∧ tickOf 1000000000 = 1200 := by decide

/-- The example after R85: indices 37, 130 and 100 in a ring of 64 entries. -/
theorem test_ring_slots :
    ringSlot 37 64 = 37 ∧ passPhase 37 64 = 1 ∧ ringSlot 130 64 = 2 ∧ passPhase 130 64 = 1 ∧ ringSlot 100 64 = 36 ∧ passPhase 100 64 = 0 := by
  decide

/-- The table of R141: single-cell items at occupancy 0, 1 and the limit (here 2), and a flush. -/
theorem test_queue_cycle :
    let c (x : Byte) : SpillCell := ⟨true, true, [x]⟩
    let r (cells : List SpillCell) (push pop flush : Bool) :=
      let y := CellQ.cycle 2 true (if push then some (c 9, 1) else none) pop flush { cells := cells }
      (y.2.1, y.2.2, y.1.occupied)
    r [] true true false = (some .accepted, some .empty, 1) ∧
    r [c 1] true true false = (some .accepted, some (.cell (c 1)), 1) ∧
    r [c 1, c 2] true true false = (some .full, some (.cell (c 1)), 1) ∧
    r [c 1, c 2] true false false = (some .full, none, 2) ∧
    r [c 1, c 2] true true true = (some .flushed, some .flushed, 0) := by decide

/-- The host's index 38 of the example of one command: valid with 37 commands completed. -/
theorem test_producer_index : hostIdxValid true 38 37 37 64 = true ∧ hostIdxValid true 102 37 37 64 = false := by decide

/-- The G.711 example of R138: packet 1 anchors at B + 17, packet 2 is assigned B + 29. -/
theorem test_jitter_assign :
    let b := 2101481481000
    (jbAssign 8000 5 12 2 0 {} 16000 (b + 3)).tick = b + 17 ∧ (jbAssign 8000 5 12 2 0 {} 16000 (b + 3)).resync = some 0 ∧
    (jbAssign 8000 5 12 2 (b + 17) { set := true, a := b + 17, ts := 16000 } 16080 (b + 15)).tick = b + 29 := by decide

/-- P0, EL0 and PL0 in the example of R251, and O0 = −3. -/
def modAt (p : BitVec 14) (el : BitVec 15) : BBank :=
  { p := p :: List.replicate 7 0, o := 0xfffd :: List.replicate 7 0, el := el :: List.replicate 7 0, pl := 32 :: List.replicate 7 0
    b := 0x0100 :: List.replicate 7 0 }

theorem test_modulo_example :
    ((modAt 0x0107 40).step 0 .addO).p.headD 0 = 0x0104 ∧ ((modAt 0x0107 40).step 0 .addO).el.headD 0 = 40 ∧
    ((modAt 0x0101 40).step 0 .addO).p.headD 0 = 0x0106 ∧ ((modAt 0x0101 40).step 0 .addO).el.headD 0 = 32 ∧
    ((modAt 0x0106 32).step 0 .addO).p.headD 0 = 0x0103 ∧ ((modAt 0x0106 32).step 0 .addO).el.headD 0 = 32 := by decide

/-- R245: the product of the two least operands is 2^46, +1.0, and sets HR. -/
theorem test_product : prod 0x800000 0x800000 = 2 ^ 46 ∧ (({} : BBank).acc 0 (2 ^ 46)).flg.hr = true ∧
    (({} : BBank).acc 0 (2 ^ 46)).flg.wrap = false := by decide

/-- R246 and R247: from 2^55 − 2^22 the rounded copy of an accumulator overflows, and with SAM 0 it falls to the negative end. -/
theorem test_movd_r :
    reduce56 false (roundAcc (2 ^ 55 - 2 ^ 22)) = (BitVec.ofInt 56 (-(2 ^ 55)), true) ∧
    (satMove (-(2 ^ 55))).1 = 0x800000 := by decide +kernel

/-- R62: a demand of 1 is twice a limit of one half and a third above one of three quarters, in hundredths of a per cent. -/
theorem test_excess : excessOf 1024 512 = 10000 ∧ excessOf 1024 768 = 3334 := by decide

/-! ## Steps -/

/-- The state after a step, or the state itself. -/
def after (s : State) : State :=
  match step s with
  | .next t => t
  | _ => s

/-- The command in front of the queue of a device in RUN. -/
def front (c : Instr) : State := { runS with pending := [c] }

/-- GEN_NOP completes OK in slot 0 of completion ring 16: STATUS 0, TAG, opcode, index 7. -/
theorem test_step_nop :
    let t := after { cplS with pending := [.genNop hdr] }
    t.pending = [] ∧ hostWord t 0x1000 = 0x00001234 ∧ hostWord t 0x1004 = 0x01010007 := by decide +kernel

/-- ADM_CONF_OPEN of a conference that is open, and of one that is not. -/
theorem test_step_conf_open :
    (after (front (.admConfOpen hdr 1 120 3600 0))).adm.confs.length = 1 ∧
    (after (front (.admConfOpen hdr 2 120 3600 0))).adm.confs.length = 2 := by decide +kernel

/-- An unaligned access sets SYS_ST_ACCESS (R493). -/
theorem test_step_unaligned : bit (after (front (.registerWrite ⟨.bar0, 2, 4, 0, false⟩))) SYS_ST_ACCESS = true := by decide +kernel

/-- R483: through Capture-DR, the first bit of the identification code stands at TDO. -/
theorem test_step_jtag : (after { idS with pending := [.registerWrite ⟨.jtag, 0, 4, 0, false⟩] }).jtag.sh.head? = some true := by
  decide +kernel

/-- A read of a register sets SYS_ST_UNMAPPED where no register is (R493): rings 34 to 63 have none (R113). -/
theorem test_step_read_unmapped : bit (after (front (.registerWrite ⟨.bar0, 0x110320, 4, 0, true⟩))) SYS_ST_UNMAPPED = true := by
  decide +kernel

/-- An empty queue: one cycle of 800 MHz. -/
theorem test_step_idle : (after runS).clk.cyc = 100001 ∧ (after runS).pending = [] := by decide +kernel

end Sys2Proof.Tests
end

/-!
The tick grid of R21 and R22. A second holds 1,200 ticks of 2,500,000 / 3 ns each, exactly, so both formulas hold across seconds without
being split at them; there they are a Galois connection, which is the inverse that the text after R22 states.
-/
namespace Sys2Proof.Machine

/-- R22 across seconds: 1,200 ticks of 2,500,000 / 3 ns are one second, so the split at seconds changes nothing. -/
theorem tickStartNs_eq_div (n : Nat) : tickStartNs n = n * 2500000 / 3 := by
  have hn : n * 2500000 = n % 1200 * 2500000 + n / 1200 * 1000000000 * 3 := by omega
  rw [tickStartNs, hn, Nat.add_mul_div_right _ _ (by decide), Nat.add_comm]

/-- R21 across seconds, likewise. -/
theorem tickOf_eq_div (t : Nat) : tickOf t = (3 * t + 2) / 2500000 := by
  have ht : 3 * t + 2 = 3 * (t % 1000000000) + 2 + t / 1000000000 * 1200 * 2500000 := by omega
  rw [tickOf, ht, Nat.add_mul_div_right _ _ (by decide), Nat.add_comm]

/-- Tick `n` starts no later than `t` exactly when the tick of `t` is `n` or a later one. A rounded-down third of
`n * 2500000` is at most `t` when `n * 2500000` is at most `3 * t + 2`: this is the 2 of R21. -/
theorem tickStartNs_le_iff (n t : Nat) : tickStartNs n ≤ t ↔ n ≤ tickOf t := by
  rw [tickStartNs_eq_div, tickOf_eq_div, Nat.le_div_iff_mul_le (by decide), ← Nat.lt_succ_iff, Nat.div_lt_iff_lt_mul (by decide)]
  omega

/-- R21: seconds and nanoseconds of a time give its tick. -/
theorem tickOf_of_second (S n : Nat) : tickOf (S * 1000000000 + n) = S * 1200 + (3 * n + 2) / 2500000 := by
  rw [tickOf_eq_div]
  omega

/-- R22: the start of tick `k` of second `S`. -/
theorem tickStartNs_of_second (S k : Nat) : tickStartNs (S * 1200 + k) = S * 1000000000 + k * 2500000 / 3 := by
  rw [tickStartNs_eq_div]
  omega

/-- R22's grid in threes: three ticks take 2,500,000 ns, and tick `r` from the first of them starts at `r` thirds of that, rounded down. -/
theorem tickStartNs_of_thirds (q r : Nat) : tickStartNs (3 * q + r) = 2500000 * q + r * 2500000 / 3 := by
  rw [tickStartNs_eq_div]
  omega

/-- R22's table: the start of tick `3 * j + r` of second `S`. -/
theorem tickStartNs_of_second_thirds (S j r : Nat) :
    tickStartNs (S * 1200 + (3 * j + r)) = S * 1000000000 + (2500000 * j + r * 2500000 / 3) := by
  rw [tickStartNs_of_second]
  omega

/-- R22: a tick ends where the next one starts; the third tick of three makes up for the rounding of the other two. -/
theorem tickStartNs_add_tickLen (n : Nat) : tickStartNs n + tickLen n = tickStartNs (n + 1) := by
  obtain ⟨q, r, hr, rfl⟩ : ∃ q r, r < 3 ∧ 3 * q + r = n := ⟨n / 3, n % 3, Nat.mod_lt _ (by decide), Nat.div_add_mod n 3⟩
  have hmod : (3 * q + r) % 3 = r := by omega
  have hlen : r * 2500000 / 3 + (if r = 2 then 833334 else 833333) = (r + 1) * 2500000 / 3 := by
    match r, hr with
    | 0, _ => rfl
    | 1, _ => rfl
    | 2, _ => rfl
  rw [Nat.add_assoc (3 * q), tickStartNs_of_thirds, tickStartNs_of_thirds, tickLen, hmod, Nat.add_assoc, hlen]

/-- The tick of a time is the one whose start it has reached and whose end it has not. -/
theorem tickOf_eq_iff (t n : Nat) : tickOf t = n ↔ tickStartNs n ≤ t ∧ t < tickStartNs (n + 1) := by
  rw [← Nat.not_le, tickStartNs_le_iff, tickStartNs_le_iff]
  omega

/-- Settles O8: each formula by the division it makes, the inverse by the two being a Galois connection (`tickStartNs_le_iff`). -/
theorem tickNumbersAndStarts : Obligations.TickNumbersAndStarts :=
  ⟨fun S n _ => tickOf_of_second S n,
   fun S k _ => ⟨tickStartNs_of_second S k, by omega⟩,
   fun S j _ => ⟨tickStartNs_of_second_thirds S j 0, tickStartNs_of_second_thirds S j 1, tickStartNs_of_second_thirds S j 2⟩,
   fun n => ⟨tickStartNs_add_tickLen n, rfl⟩,
   tickOf_eq_iff⟩

end Sys2Proof.Machine

/-!
Slot and pass phase of R85. Adding 1 to a 32-bit index carries into its quotient by the ring size exactly when the slot is the last one.
The wrap at 2^32 changes neither the slot nor the phase because twice the ring size divides 2^32: the phase needs the quotient's parity,
so R85's "S divides 2^32" alone would not keep it.
-/
namespace Sys2Proof.Machine

/-- The pass phase is the parity of the lap `floor(i / S)`, turned over. -/
theorem passPhase_eq_sub (i : BitVec 32) (n : Nat) : passPhase i n = 1 - i.toNat / n % 2 := by
  rw [passPhase]
  split <;> omega

theorem passPhase_eq_one_iff (i : BitVec 32) (n : Nat) : passPhase i n = 1 ↔ i.toNat / n % 2 = 0 := by
  rw [passPhase_eq_sub]
  omega

theorem passPhase_eq_zero_iff (i : BitVec 32) (n : Nat) : passPhase i n = 0 ↔ i.toNat / n % 2 = 1 := by
  rw [passPhase_eq_sub]
  omega

/-- Two laps of every ring of R83 fit a whole number of times into the range of an index. -/
theorem two_laps_dvd {k : Nat} (hk : k ≤ 16) : 2 ^ k * 2 ∣ 2 ^ 32 :=
  Nat.pow_dvd_pow 2 (show k + 1 ≤ 32 by omega)

/-- The slot of the next index is that of the next number, also where the index wraps. -/
theorem ringSlot_add_one {n : Nat} (hn : n * 2 ∣ 2 ^ 32) (i : BitVec 32) : ringSlot (i + 1) n = (i.toNat + 1) % n := by
  rw [ringSlot, BitVec.toNat_add]
  exact Nat.mod_mod_of_dvd _ (Nat.dvd_trans (Nat.dvd_mul_right n 2) hn)

/-- The pass phase of the next index is that of the next number, also where the index wraps. -/
theorem passPhase_add_one {n : Nat} (hn : n * 2 ∣ 2 ^ 32) (i : BitVec 32) : passPhase (i + 1) n = 1 - (i.toNat + 1) / n % 2 := by
  have hlap : (i + 1).toNat / n % 2 = (i.toNat + 1) / n % 2 := by
    rw [← Nat.mod_mul_right_div_self, ← Nat.mod_mul_right_div_self (i.toNat + 1), BitVec.toNat_add]
    exact congrArg (· / n) (Nat.mod_mod_of_dvd _ hn)
  rw [passPhase_eq_sub, hlap]

/-- Before the last slot of a lap, the next index takes the next slot and keeps the phase. -/
theorem ring_add_one_in_lap {n : Nat} (hn : n * 2 ∣ 2 ^ 32) (i : BitVec 32) (h : ringSlot i n + 1 < n) :
    ringSlot (i + 1) n = ringSlot i n + 1 ∧ passPhase (i + 1) n = passPhase i n := by
  have hnext : i.toNat % n + 1 + n * (i.toNat / n) = i.toNat + 1 := by
    rw [Nat.add_right_comm, Nat.mod_add_div]
  obtain ⟨hdiv, hmod⟩ := (Nat.div_mod_unique (Nat.zero_lt_of_lt h)).mpr ⟨hnext, h⟩
  rw [ringSlot_add_one hn, passPhase_add_one hn, passPhase_eq_sub, hdiv, hmod, ringSlot]
  exact ⟨rfl, rfl⟩

/-- After the last slot of a lap, the next index takes slot 0 and turns the phase over. -/
theorem ring_add_one_next_lap {n : Nat} (hn : n * 2 ∣ 2 ^ 32) (i : BitVec 32) (h : ringSlot i n + 1 = n) :
    ringSlot (i + 1) n = 0 ∧ passPhase (i + 1) n = 1 - passPhase i n := by
  have hpos : 0 < n := h ▸ Nat.succ_pos _
  have hnext : 0 + n * (i.toNat / n + 1) = i.toNat + 1 := by
    calc 0 + n * (i.toNat / n + 1)
      _ = n * (i.toNat / n) + n := by rw [Nat.zero_add, Nat.mul_succ]
      _ = n * (i.toNat / n) + (i.toNat % n + 1) := congrArg _ h.symm
      _ = i.toNat + 1 := by rw [← Nat.add_assoc, Nat.div_add_mod]
  obtain ⟨hdiv, hmod⟩ := (Nat.div_mod_unique hpos).mpr ⟨hnext, hpos⟩
  rw [ringSlot_add_one hn, passPhase_add_one hn, passPhase_eq_sub, hdiv, hmod]
  omega

/-- Settles O9: the next index stays in its lap or begins the next one, and neither case sees the wrap (`two_laps_dvd`). -/
theorem ringSlotAndPhase : Obligations.RingSlotAndPhase := by
  rintro i k n hk rfl
  have hlaps := two_laps_dvd hk
  exact ⟨rfl, passPhase_eq_one_iff i _, passPhase_eq_zero_iff i _, ring_add_one_in_lap hlaps i, ring_add_one_next_lap hlaps i⟩

end Sys2Proof.Machine

/-!
Convergent rounding of R247. The value sits `f = A % 2^23` above the multiple of 2^23 below it and `2^23 - f` under the next one; rounding
goes to the nearer of the two, and at `f = 2^22` to the one whose quotient is even. So the result is a multiple of 2^23 no further than
2^22 away.
-/
namespace Sys2Proof.Machine

/-- R247: past the half, or at the half over an odd quotient, the next multiple of 2^23. -/
theorem roundAcc_of_up {A : Int} (h : 2 ^ 22 < A % 2 ^ 23 ∨ (A % 2 ^ 23 = 2 ^ 22 ∧ A / 2 ^ 23 % 2 = 1)) :
    roundAcc A = A - A % 2 ^ 23 + 2 ^ 23 :=
  if_pos h

/-- R247: otherwise the multiple of 2^23 at or below the value. -/
theorem roundAcc_of_down {A : Int} (h : ¬(2 ^ 22 < A % 2 ^ 23 ∨ (A % 2 ^ 23 = 2 ^ 22 ∧ A / 2 ^ 23 % 2 = 1))) :
    roundAcc A = A - A % 2 ^ 23 :=
  if_neg h

/-- What rounding can do: up only from the half on, down only to the half. -/
theorem roundAcc_cases (A : Int) :
    (roundAcc A = A - A % 2 ^ 23 + 2 ^ 23 ∧ 2 ^ 22 ≤ A % 2 ^ 23) ∨ (roundAcc A = A - A % 2 ^ 23 ∧ A % 2 ^ 23 ≤ 2 ^ 22) := by
  by_cases h : 2 ^ 22 < A % 2 ^ 23 ∨ (A % 2 ^ 23 = 2 ^ 22 ∧ A / 2 ^ 23 % 2 = 1)
  · exact .inl ⟨roundAcc_of_up h, h.elim Int.le_of_lt fun hhalf => Int.le_of_eq hhalf.1.symm⟩
  · exact .inr ⟨roundAcc_of_down h, Int.not_lt.mp fun hlt => h (.inl hlt)⟩

/-- The rounded value has A[22:0] = 0. -/
theorem roundAcc_emod (A : Int) : roundAcc A % 2 ^ 23 = 0 := by
  have hfloor : (A - A % 2 ^ 23) % 2 ^ 23 = 0 := Int.emod_eq_zero_of_dvd (Int.dvd_self_sub_emod)
  obtain ⟨hr, -⟩ | ⟨hr, -⟩ := roundAcc_cases A
  · rw [hr, Int.add_emod_right, hfloor]
  · rw [hr, hfloor]

/-- Rounding moves a value by no more than half of 2^23, either way. -/
theorem roundAcc_sub_bounds (A : Int) : -(2 ^ 22) ≤ roundAcc A - A ∧ roundAcc A - A ≤ 2 ^ 22 := by
  have hnonneg : 0 ≤ A % 2 ^ 23 := Int.emod_nonneg A (by decide)
  have hlt : A % 2 ^ 23 < 2 ^ 23 := Int.emod_lt_of_pos A (by decide)
  obtain ⟨hr, hhalf⟩ | ⟨hr, hhalf⟩ := roundAcc_cases A
  · rw [hr]
    omega
  · rw [hr]
    omega

/-- MOVD.R moves the rounded copy, reduced under R245 and saturated under R246, to its D register and to no other. -/
theorem run_movdR_d (k : BBank) (i : BInst) (d : BitVec 3) (n : BitVec 2) :
    ((BOp.movd true d n).run k i).1.d = k.d.set d.toNat (satMove (reduce56 k.sam (roundAcc (k.ra n).toInt)).1.toInt).1 := by
  simp only [BOp.run, BBank.wd, if_true]

/-- Settles O17: the two branches of R247, its result by `roundAcc_emod`, its distance by `roundAcc_sub_bounds`; RNDC, MUL.R and MLA.R
round before they write, MOVD.R rounds the copy it moves. -/
theorem brushRounding : Obligations.BrushRounding := by
  refine ⟨?_, fun k i n d x y => ⟨rfl, rfl, rfl, run_movdR_d k i d n⟩⟩
  rintro A _ rfl
  obtain ⟨hlower, hupper⟩ := roundAcc_sub_bounds A
  exact ⟨roundAcc_of_up, roundAcc_of_down, roundAcc_emod A, by omega, by omega⟩

end Sys2Proof.Machine

/-!
The shape of a register bank (R243): the lengths of its register files and both stacks. No instruction changes a length, and only the control
group changes the stacks, so what a bank's order asks (`BankWf`) is read off the shape before and after.
-/
namespace Sys2Proof.Machine

/-- The lengths of the register files, and the stacks. -/
def BBank.shape (k : BBank) : (Nat × Nat × Nat × Nat × Nat × Nat × Nat) × List BLoop × List (BitVec 16) :=
  ((k.d.length, k.a.length, k.p.length, k.o.length, k.el.length, k.pl.length, k.b.length), k.loops, k.calls)

/-- The lengths that a bank in order has. -/
def bankLens : Nat × Nat × Nat × Nat × Nat × Nat × Nat := (8, 4, 8, 8, 8, 8, 8)

theorem bankWf_iff_shape (k : BBank) :
    BankWf k ↔ k.shape.1 = bankLens ∧ k.shape.2.1.length ≤ 4 ∧ k.shape.2.2.length ≤ 8 := by
  simp only [BankWf, BBank.shape, bankLens, Prod.mk.injEq, and_assoc]

theorem bankWf_default : BankWf {} := by decide

@[simp] theorem shape_wd (k : BBank) (n : BitVec 3) (v : BitVec 24) : (k.wd n v).shape = k.shape := by simp [BBank.shape, BBank.wd]
@[simp] theorem shape_wa (k : BBank) (n : BitVec 2) (v : BitVec 56) : (k.wa n v).shape = k.shape := by simp [BBank.shape, BBank.wa]
@[simp] theorem shape_wp (k : BBank) (n : BitVec 3) (v : Nat) : (k.wp n v).shape = k.shape := by simp [BBank.shape, BBank.wp]
@[simp] theorem shape_flg (k : BBank) (f : BFlags) : ({ k with flg := f } : BBank).shape = k.shape := rfl
/-- The first part of the shape does not depend on where execution goes on. -/
@[simp] theorem shape_pc (k : BBank) (a : BitVec 16) : ({ k with pc := a } : BBank).shape = k.shape := rfl
@[simp] theorem shape_acc (k : BBank) (n : BitVec 2) (x : Int) : (k.acc n x).shape = k.shape := shape_wa k n _
@[simp] theorem shape_accFlags (k : BBank) (x : Int) : (k.accFlags x).shape = k.shape := rfl
@[simp] theorem shape_dFlags (k : BBank) (v : BitVec 24) (c : Option Bool) : (k.dFlags v c).shape = k.shape := rfl

@[simp] theorem shape_wl (k : BBank) (n : BitVec 3) (v : BitVec 15) : (k.wl n v).shape = k.shape := by
  simp only [BBank.shape, BBank.wl]
  split <;> split <;> simp

@[simp] theorem shape_write (k : BBank) (r : BReg) (v : BitVec 24) : (k.write r v).shape = k.shape := by
  cases r with
  | d n => exact shape_wd ..
  | a n => exact shape_wa ..
  | p n => exact shape_wp ..
  | o n => simp [BBank.write, BBank.shape]
  | l n => exact shape_wl ..

@[simp] theorem shape_postMod (k : BBank) (n : BitVec 3) (m : Int) : (k.postMod n m).shape = k.shape := by
  have hel : ({ k with el := k.el.set n.toNat (k.pl.getD n.toNat 0) } : BBank).shape = k.shape := by simp [BBank.shape]
  unfold BBank.postMod
  extract_lets el p b q wrapped q1 el' q2
  split
  · exact shape_wp ..
  · split
    · exact (shape_wp ..).trans hel
    · exact shape_wp ..

@[simp] theorem shape_step (k : BBank) (p : BitVec 3) (m : BMode) : (k.step p m).shape = k.shape := by
  cases m with
  | revO =>
    simp only [BBank.step]
    split
    · exact shape_postMod ..
    · exact shape_wp ..
  | _ => simp [BBank.step]

/-- The pointers of an instruction's memory operands step without changing the shape. -/
@[simp] theorem shape_steps (k : BBank) (ms : List (BEa × Bool)) : (ms.foldl (fun k m => k.step m.1.p m.1.m) k).shape = k.shape := by
  induction ms generalizing k with
  | nil => rfl
  | cons m ms ih => exact (ih _).trans (shape_step ..)

/-- The effect of an instruction on registers leaves the shape. -/
@[simp] theorem shape_run (op : BOp) (k : BBank) (i : BInst) : (op.run k i).1.shape = k.shape := by
  cases op with
  | move d r => cases d <;> cases r <;> simp [BOp.run]
  | sat n =>
    simp only [BOp.run]
    split <;> simp
  | _ => simp [BOp.run]

/-- The loop-end test never adds a loop. -/
theorem loopEnd_length (le : Nat) (ls : List BLoop) : (loopEnd le ls).1.length ≤ ls.length := by
  induction ls with
  | nil => exact Nat.le_refl _
  | cons l r ih =>
    simp only [loopEnd]
    split
    · exact Nat.le_refl _
    · split
      · exact Nat.le_refl _
      · exact Nat.le_succ_of_le ih

/-- Falling through to the next instruction keeps the registers and the calls, and adds no loop. -/
theorem shape_fall (k : BBank) (nx : Nat) :
    (k.fall nx).shape.1 = k.shape.1 ∧ (k.fall nx).loops.length ≤ k.loops.length ∧ (k.fall nx).calls = k.calls := by
  cases hk : k.loops with
  | nil => simp [BBank.fall, hk, BBank.shape]
  | cons l r =>
    by_cases hl : l.le = nx
    · simp only [BBank.fall, hk, hl, if_true]
      exact ⟨rfl, loopEnd_length nx (l :: r), trivial⟩
    · simp [BBank.fall, hk, hl, BBank.shape]

/-! ## Where control instructions go, and when they fault (R252 to R255) -/

theorem flow_brCond (k : BBank) (c : BCond) (t : BitVec 16) (nx : Nat) :
    (BOp.brCond c t).flow k nx = if k.flg.test c then ({ k with pc := t }, true) else (k.fall nx, false) := rfl

theorem flow_loop (k : BBank) (n : BCount) (e : BitVec 16) (nx : Nat) :
    (BOp.loop n e).flow k nx =
      if k.count n = 0 then
        if (k.loops.head?.map (fun l => decide (l.le = nx))).getD false then (k.fall nx, true) else ({ k with pc := e }, true)
      else ({ k with loops := ⟨k.count n, nx, e.toNat⟩ :: k.loops, pc := BitVec.ofNat 16 nx }, true) := rfl

theorem flow_leave_nil {k : BBank} (h : k.loops = []) (nx : Nat) : BOp.leave.flow k nx = (k.fall nx, false) := by
  have hm : BOp.leave.flow k nx = match k.loops with
      | [] => (k.fall nx, false)
      | l :: r => ({ k with loops := r, pc := BitVec.ofNat 16 l.le }, true) := rfl
  rw [hm, h]

theorem flow_leave_cons {k : BBank} {l : BLoop} {r : List BLoop} (h : k.loops = l :: r) (nx : Nat) :
    BOp.leave.flow k nx = ({ k with loops := r, pc := BitVec.ofNat 16 l.le }, true) := by
  have hm : BOp.leave.flow k nx = match k.loops with
      | [] => (k.fall nx, false)
      | l :: r => ({ k with loops := r, pc := BitVec.ofNat 16 l.le }, true) := rfl
  rw [hm, h]

theorem fault_loop (k : BBank) (r : BRun) (p : BProg) (n : BCount) (e : BitVec 16) :
    (BOp.loop n e).fault k r p = if 4 ≤ k.loops.length then some 3 else none := rfl

theorem fault_call (k : BBank) (r : BRun) (p : BProg) (t : BitVec 16) :
    (BOp.call t).fault k r p = if 8 ≤ k.calls.length then some 4 else none := rfl

theorem fault_ret (k : BBank) (r : BRun) (p : BProg) : BOp.ret.fault k r p = if k.calls = [] then some 4 else none := rfl

/-- Where an instruction that raises no fault of depth (R254) goes on, the registers are as before and the stacks within their depths. -/
theorem shape_flow (op : BOp) (k : BBank) (nx : Nat) (hl : k.loops.length ≤ 4) (hc : k.calls.length ≤ 8)
    (hloop : ∀ n e, op = .loop n e → k.loops.length < 4) (hcall : ∀ t, op = .call t → k.calls.length < 8) :
    (op.flow k nx).1.shape.1 = k.shape.1 ∧ (op.flow k nx).1.loops.length ≤ 4 ∧ (op.flow k nx).1.calls.length ≤ 8 := by
  have hfall : (k.fall nx).shape.1 = k.shape.1 ∧ (k.fall nx).loops.length ≤ 4 ∧ (k.fall nx).calls.length ≤ 8 := by
    obtain ⟨h1, h2, h3⟩ := shape_fall k nx
    exact ⟨h1, Nat.le_trans h2 hl, h3 ▸ hc⟩
  cases op with
  | br t => exact ⟨rfl, hl, hc⟩
  | brCond c t =>
    rw [flow_brCond]
    split
    · exact ⟨rfl, hl, hc⟩
    · exact hfall
  | call t => exact ⟨rfl, hl, hcall t rfl⟩
  | ret =>
    have htail : k.calls.tail.length ≤ 8 := by rw [List.length_tail]; omega
    exact ⟨rfl, hl, htail⟩
  | loop n e =>
    rw [flow_loop]
    split
    · split
      · exact hfall
      · exact ⟨rfl, hl, hc⟩
    · exact ⟨rfl, hloop n e rfl, hc⟩
  | leave =>
    cases hk : k.loops with
    | nil =>
      rw [flow_leave_nil hk]
      exact hfall
    | cons l r =>
      rw [flow_leave_cons hk]
      rw [hk] at hl
      exact ⟨rfl, Nat.le_of_succ_le hl, hc⟩
  | _ => exact hfall

/-- What an instruction without a fault finds of the stacks: room for what it pushes (R254). -/
theorem room_of_fault_none {op : BOp} {k : BBank} {r : BRun} {p : BProg} (hf : op.fault k r p = none) :
    (∀ n e, op = .loop n e → k.loops.length < 4) ∧ ∀ t, op = .call t → k.calls.length < 8 := by
  constructor
  · rintro n e rfl
    simpa [fault_loop] using hf
  · rintro t rfl
    simpa [fault_call] using hf

theorem loops_eq_of_shape {k k' : BBank} (h : k'.shape = k.shape) : k'.loops = k.loops := congrArg (fun x => x.2.1) h
theorem calls_eq_of_shape {k k' : BBank} (h : k'.shape = k.shape) : k'.calls = k.calls := congrArg (fun x => x.2.2) h

/-- An instruction without a fault keeps its core's active bank in order. -/
theorem bankWf_flow {op : BOp} {k k2 : BBank} {r : BRun} {p : BProg} (nx : Nat) (hf : op.fault k r p = none) (hs : k2.shape = k.shape)
    (hk : BankWf k) : BankWf (op.flow k2 nx).1 := by
  obtain ⟨hlens, hl, hc⟩ := (bankWf_iff_shape k).mp hk
  obtain ⟨hloop, hcall⟩ := room_of_fault_none hf
  have hl2 := loops_eq_of_shape hs
  have hc2 := calls_eq_of_shape hs
  obtain ⟨f1, f2, f3⟩ := shape_flow op k2 nx (hl2 ▸ hl) (hc2 ▸ hc) (fun n e h => hl2 ▸ hloop n e h) (fun t h => hc2 ▸ hcall t h)
  exact (bankWf_iff_shape _).mpr ⟨f1.trans (hs ▸ hlens), f2, f3⟩

/-! ## Windows and the studio region -/

/-- The windows and the studio region of a bound task are in canonical form. -/
abbrev InstWf (i : BInst) : Prop := mcanon zeroWord i.x = true ∧ mcanon zeroWord i.y = true ∧ mcanon zeroWord i.studio = true

theorem instWf_setWord {i : BInst} (hi : InstWf i) (y : Bool) (a : Nat) (w : Word) : InstWf (i.setWord y a w) := by
  obtain ⟨hx, hy, hs⟩ := hi
  cases y with
  | false => exact ⟨Laws.mcanon_mset hx, hy, hs⟩
  | true => exact ⟨hx, Laws.mcanon_mset hy, hs⟩

theorem instWf_setWords {i : BInst} (hi : InstWf i) (y : Bool) (a : Nat) (ws : List Word) : InstWf (i.setWords y a ws) := by
  induction ws generalizing i a with
  | nil => exact hi
  | cons w r ih => exact ih (instWf_setWord hi y a w) _

theorem instWf_foldl {α : Type} {g : BInst → α → BInst} (hg : ∀ i a, InstWf i → InstWf (g i a)) (l : List α) {i : BInst} (hi : InstWf i) :
    InstWf (l.foldl g i) := by
  induction l generalizing i with
  | nil => exact hi
  | cons a l ih => exact ih (hg i a hi)

theorem instWf_xferMove (bad : List Nat) {i : BInst} (hi : InstWf i) (t : BXfer) : InstWf (xferMove bad i t) := by
  unfold xferMove
  split
  · exact instWf_foldl (fun i j hi => instWf_setWord hi ..) _ hi
  · refine instWf_foldl (fun i j hi => ?_) _ hi
    obtain ⟨hx, hy, hs⟩ := hi
    exact ⟨hx, hy, Laws.mcanon_mset hs⟩

/-- Transfers that complete at an abandonment keep the bound task in order. -/
theorem instWf_xfers {i : BInst} (hi : InstWf i) (ts : List BXfer) : InstWf (ts.foldl xferDo i) :=
  instWf_foldl (fun _ t hi => instWf_xferMove [] hi t) ts hi

theorem instWf_run (op : BOp) (k : BBank) {i : BInst} (hi : InstWf i) : InstWf (op.run k i).2 := by
  cases op with
  | move d r => cases d <;> cases r <;> exact hi
  | sth d e => exact instWf_setWord hi ..
  | stl d e => exact instWf_setWord hi ..
  | stbus n e => exact instWf_setWord hi ..
  | sat n =>
    simp only [BOp.run]
    split <;> exact hi
  | _ => exact hi

end Sys2Proof.Machine

/-!
What a step keeps. Both invariants of a step speak of four parts of the state only: the two stores of words, the Brush cores and the Brush
instances. `Keeps z s` says that in `s` these are in order wherever they are in `z`; each operation of the model has one rule, that it keeps
what the state it starts from keeps, and a step is made of operations.
-/
namespace Sys2Proof.Machine

/-- The stores of words and the Brush array's cores and instances are in order wherever those of `z` are. -/
def Kept (z : State) (regs hostMem : Table Word) (cores : Table BCore) (insts : Table BInst) : Prop :=
  (StoresCanon z → mcanon regReset regs = true ∧ mcanon (fun _ => 0) hostMem = true) ∧
  (BrushWf z → (∀ p ∈ cores, BankWf p.2.act ∧ BankWf p.2.idle) ∧ ∀ p ∈ insts, InstWf p.2)

/-- State `s` is in order wherever `z` is. -/
abbrev Keeps (z s : State) : Prop := Kept z s.regs s.hostMem s.brs.cores s.brs.insts

/-- The two banks of a core are in order wherever the state `z` is. -/
def BanksOk (z : State) (act idle : BBank) : Prop := BrushWf z → BankWf act ∧ BankWf idle

/-- The windows and the studio region of a bound task are in order wherever the state `z` is. -/
def WinsOk (z : State) (x y studio : Table Word) : Prop :=
  BrushWf z → mcanon zeroWord x = true ∧ mcanon zeroWord y = true ∧ mcanon zeroWord studio = true

/-- Whatever state an outcome leads to is in order wherever `z` is. -/
def OutKeeps (z : State) (o : Host.Outcome State Fault Refusal) : Prop := ∀ t, o = .next t → Keeps z t

theorem keeps_refl (s : State) : Keeps s s := ⟨id, id⟩

/-! ## Tables -/

theorem forall_tset {α : Type} {P : α → Prop} {t : Table α} (h : ∀ p ∈ t, P p.2) (k : Nat) {v : α} (hv : P v) :
    ∀ p ∈ tset t k v, P p.2 := by
  induction t with
  | nil => simpa [tset] using hv
  | cons q t ih =>
    unfold tset
    grind

theorem forall_tdel {α : Type} {P : α → Prop} {t : Table α} (h : ∀ p ∈ t, P p.2) (k : Nat) : ∀ p ∈ tdel t k, P p.2 := by
  induction t with
  | nil => exact h
  | cons q t ih =>
    unfold tdel
    grind

theorem of_tget {α : Type} {P : α → Prop} {t : Table α} (h : ∀ p ∈ t, P p.2) {k : Nat} {v : α} (hv : tget t k = some v) : P v := by
  induction t with
  | nil => simp [tget] at hv
  | cons q t ih =>
    unfold tget at hv
    grind

theorem forall_tmod {α : Type} {P : α → Prop} {t : Table α} (h : ∀ p ∈ t, P p.2) (k : Nat) {f : α → α} (hf : ∀ v, P v → P (f v)) :
    ∀ p ∈ tmod t k f, P p.2 := by
  unfold tmod
  split
  · exact h
  · next v hv => exact forall_tset h k (hf v (of_tget h hv))

theorem tabove_filter {α : Type} {i : Nat} {t : Table α} (f : Nat × α → Bool) (hs : tsorted t = true) (h : tabove i t = true) :
    tabove i (t.filter f) = true := by
  induction t with
  | nil => rfl
  | cons q t ih =>
    simp only [tsorted, Bool.and_eq_true] at hs
    simp only [tabove, decide_eq_true_eq] at h
    rw [List.filter_cons]
    split
    · simpa [tabove] using h
    · exact ih hs.2 (Laws.tabove_le (Nat.le_of_lt h) hs.1)

theorem tsorted_filter {α : Type} {t : Table α} (f : Nat × α → Bool) (h : tsorted t = true) : tsorted (t.filter f) = true := by
  induction t with
  | nil => rfl
  | cons q t ih =>
    simp only [tsorted, Bool.and_eq_true] at h
    rw [List.filter_cons]
    split
    · simpa [tsorted] using ⟨tabove_filter f h.2 h.1, ih h.2⟩
    · exact ih h.2

/-- Entries taken out of a store leave it in canonical form. -/
theorem mcanon_filter {d : Nat → Word} {t : Table Word} (f : Nat × Word → Bool) (h : mcanon d t = true) : mcanon d (t.filter f) = true := by
  simp only [mcanon, Bool.and_eq_true, List.all_eq_true] at h ⊢
  exact ⟨tsorted_filter f h.1, fun p hp => h.2 p (List.mem_filter.1 hp).1⟩

/-- A store built by writes is in canonical form. -/
theorem mcanon_foldl_mset {α : Type} {d : Nat → Word} (k : α → Nat) (v : α → Word) (l : List α) {t : Table Word} (h : mcanon d t = true) :
    mcanon d (l.foldl (fun u p => mset d u (k p) (v p)) t) = true := by
  induction l generalizing t with
  | nil => exact h
  | cons p l ih => exact ih (Laws.mcanon_mset h)

variable {z s : State}

/-! ## Rules of the operations that write one of the four parts -/

theorem setReg_keeps (hk : Keeps z s) (a w) : Keeps z (setReg s a w) :=
  ⟨fun hz => ⟨Laws.mcanon_mset (hk.1 hz).1, (hk.1 hz).2⟩, hk.2⟩

theorem setFld_keeps (hk : Keeps z s) (f v) : Keeps z (setFld s f v) := setReg_keeps hk ..

theorem setBit_keeps (hk : Keeps z s) (f) : Keeps z (setBit s f) := setReg_keeps hk ..

theorem bump_keeps (hk : Keeps z s) (f n) : Keeps z (bump s f n) := setReg_keeps hk ..

theorem hostWrite_keeps (hk : Keeps z s) (a w) : Keeps z (hostWrite s a w) :=
  ⟨fun hz => ⟨(hk.1 hz).1, Laws.mcanon_mset (hk.1 hz).2⟩, hk.2⟩

theorem hostWrites_keeps (hk : Keeps z s) (a ws) : Keeps z (hostWrites s a ws) := by
  induction ws generalizing s a with
  | nil => exact hk
  | cons w ws ih => exact ih (hostWrite_keeps hk a w) _

theorem setCore_keeps (hk : Keeps z s) (c) {x : BCore} (hx : BanksOk z x.act x.idle) : Keeps z (setCore s c x) :=
  ⟨hk.1, fun hz => ⟨forall_tset (P := fun y : BCore => BankWf y.act ∧ BankWf y.idle) (hk.2 hz).1 c (hx hz), (hk.2 hz).2⟩⟩

theorem setInst_keeps (hk : Keeps z s) (k) {i : BInst} (hi : WinsOk z i.x i.y i.studio) : Keeps z (setInst s k i) :=
  ⟨hk.1, fun hz => ⟨(hk.2 hz).1, forall_tset (P := InstWf) (hk.2 hz).2 k (hi hz)⟩⟩

/-- The core with a number, listed or not, has its banks in order. -/
theorem coreOf_banksOk (hk : Keeps z s) (c : Nat) : BanksOk z (coreOf s c).act (coreOf s c).idle := by
  intro hz
  unfold coreOf
  cases hc : tget s.brs.cores c with
  | none => exact ⟨bankWf_default, bankWf_default⟩
  | some x => exact of_tget (P := fun y : BCore => BankWf y.act ∧ BankWf y.idle) (hk.2 hz).1 hc

theorem tget_winsOk (hk : Keeps z s) {k : Nat} {i : BInst} (hi : tget s.brs.insts k = some i) : WinsOk z i.x i.y i.studio :=
  fun hz => of_tget (P := InstWf) (hk.2 hz).2 hi

theorem winsOk_setWords {i : BInst} (hi : WinsOk z i.x i.y i.studio) (y a ws) :
    WinsOk z (i.setWords y a ws).x (i.setWords y a ws).y (i.setWords y a ws).studio :=
  fun hz => instWf_setWords (hi hz) y a ws

theorem winsOk_xferMove {i : BInst} (hi : WinsOk z i.x i.y i.studio) (bad t) :
    WinsOk z (xferMove bad i t).x (xferMove bad i t).y (xferMove bad i t).studio :=
  fun hz => instWf_xferMove bad (hi hz) t

theorem winsOk_xfers {i : BInst} (hi : WinsOk z i.x i.y i.studio) (ts : List BXfer) :
    WinsOk z (ts.foldl xferDo i).x (ts.foldl xferDo i).y (ts.foldl xferDo i).studio :=
  fun hz => instWf_xfers (hi hz) ts

theorem winsOk_run {i : BInst} (hi : WinsOk z i.x i.y i.studio) (op : BOp) (k) :
    WinsOk z (op.run k i).2.x (op.run k i).2.y (op.run k i).2.studio :=
  fun hz => instWf_run op k (hi hz)

theorem winsOk_nil : WinsOk z [] [] [] := fun _ => ⟨rfl, rfl, rfl⟩

/-- Taking a bound task out keeps the rest in order. -/
theorem tdel_insts_kept {r m : Table Word} {c : Table BCore} {i : Table BInst} (hk : Kept z r m c i) (k : Nat) : Kept z r m c (tdel i k) :=
  ⟨hk.1, fun hz => ⟨(hk.2 hz).1, forall_tdel (hk.2 hz).2 k⟩⟩

/-- A change of a bound task that is not one of its windows keeps the array in order. -/
theorem tmod_insts_kept {r m : Table Word} {c : Table BCore} {i : Table BInst} (hk : Kept z r m c i) (k : Nat) {f : BInst → BInst}
    (hf : ∀ v, (f v).x = v.x ∧ (f v).y = v.y ∧ (f v).studio = v.studio) : Kept z r m c (tmod i k f) := by
  refine ⟨hk.1, fun hz => ⟨(hk.2 hz).1, forall_tmod (P := InstWf) (hk.2 hz).2 k (fun v hv => ?_)⟩⟩
  obtain ⟨hx, hy, hs⟩ := hf v
  exact ⟨hx ▸ hv.1, hy ▸ hv.2.1, hs ▸ hv.2.2⟩

/-- Cores that lose their state are at the values of reset. -/
theorem no_cores_kept {r m : Table Word} {c : Table BCore} {i : Table BInst} (hk : Kept z r m c i) : Kept z r m [] i :=
  ⟨hk.1, fun hz => ⟨fun _ hp => absurd hp (List.not_mem_nil), (hk.2 hz).2⟩⟩

theorem ite_keeps {c : Prop} [Decidable c] {t u : State} (ht : Keeps z t) (hu : Keeps z u) : Keeps z (if c then t else u) := by
  split
  · exact ht
  · exact hu

theorem foldl_keeps {α : Type} {g : State → α → State} (hk : Keeps z s) (hg : ∀ t a, Keeps z t → Keeps z (g t a)) (l : List α) :
    Keeps z (l.foldl g s) := by
  induction l generalizing s with
  | nil => exact hk
  | cons a l ih => exact ih (hg s a hk)

/-- A fold that carries a value beside the state. -/
theorem foldl_fst_keeps {α β : Type} {g : State × β → α → State × β} {p : State × β} (hk : Keeps z p.1)
    (hg : ∀ q a, Keeps z q.1 → Keeps z (g q a).1) (l : List α) : Keeps z (l.foldl g p).1 := by
  induction l generalizing p with
  | nil => exact hk
  | cons a l ih => exact ih (hg p a hk)

/-! ## Rules of the forms that every meaning has -/

theorem next_keeps (hk : Keeps z s) : OutKeeps z (.next s) := by
  rintro t ⟨⟩
  exact hk

theorem act_keeps {k : State → State} (hk : Keeps z (k { s with out := [] })) : OutKeeps z (act k s) :=
  next_keeps hk

/-- The same, for a meaning that is taken apart by its text: the fresh state is a variable. -/
theorem act_fresh_keeps {f : State → State} (hk : Keeps z s) (hf : ∀ t, Keeps z t → Keeps z (f t)) : OutKeeps z (act f s) :=
  act_keeps (hf { s with out := [] } hk)

theorem meant_keeps (hk : Keeps z s) {o} (ho : OutKeeps z o) : Keeps z (meant s o) := by
  cases o with
  | next t => exact ho t rfl
  | fault _ => exact hk
  | refused _ => exact hk

end Sys2Proof.Machine

/-!
The rules of the model's operations, in the order of the model's text: each keeps what the state it starts from keeps, because it is made of
operations that do. Rows whose meaning stores nothing in the four parts, or only through such operations, follow by congruence alone; a rule
with a written-out proof is one whose operation folds over a list or touches a Brush core or bound task.
-/
namespace Sys2Proof.Machine

-- Some hundreds of rules: one after another, so that they do not all wait in threads of their own.
set_option Elab.async false

variable {z s : State}

/-! ## The named operations every meaning is built from -/

theorem emitOut_keeps (hk : Keeps z s) (m) : Keeps z (emitOut s m) := by
  grind [emitOut]

theorem cycles_keeps (hk : Keeps z s) (k) : Keeps z (cycles s k) := by
  grind [cycles]

theorem advanceTo_keeps (hk : Keeps z s) (t) : Keeps z (advanceTo s t) := by
  grind [advanceTo, cycles_keeps]

theorem advanceLocal_keeps (hk : Keeps z s) (n) : Keeps z (advanceLocal s n) := by
  grind [advanceLocal, cycles_keeps]

theorem toEmitEnd_keeps (hk : Keeps z s) : Keeps z (toEmitEnd s) := by
  grind [toEmitEnd, cycles_keeps, advanceTo_keeps]

theorem setFn_keeps (hk : Keeps z s) (f x) : Keeps z (setFn s f x) := by
  grind [setFn]

theorem setRing_keeps (hk : Keeps z s) (f q r) : Keeps z (setRing s f q r) := by
  grind [setRing, setFn_keeps]

theorem fnWrites_keeps (hk : Keeps z s) (f a ws) : Keeps z (fnWrites s f a ws) := by
  grind [fnWrites, hostWrites_keeps]

theorem setVec_keeps (hk : Keeps z s) (f v x) : Keeps z (setVec s f v x) := by
  grind [setVec, setFn_keeps]

theorem sendMsi_keeps (hk : Keeps z s) (f v) : Keeps z (sendMsi s f v) := by
  grind [sendMsi, emitOut_keeps, setVec_keeps]

theorem vecIrq_keeps (hk : Keeps z s) (f v now) : Keeps z (vecIrq s f v now) := by
  grind [vecIrq, setVec_keeps, sendMsi_keeps]

theorem ringIrq_keeps (hk : Keeps z s) (f q now) : Keeps z (ringIrq s f q now) := by
  grind [ringIrq, vecIrq_keeps]

theorem sendErrVec_keeps (hk : Keeps z s) (f) : Keeps z (sendErrVec s f) := by
  grind [sendErrVec, sendMsi_keeps]

theorem setAer_keeps (hk : Keeps z s) (f o w) : Keeps z (setAer s f o w) := by
  grind [setAer]

theorem aerErr_keeps (hk : Keeps z s) (f b) : Keeps z (aerErr s f b) := by
  grind [aerErr, emitOut_keeps, setAer_keeps]

theorem dmaErr_keeps (hk : Keeps z s) (f) : Keeps z (dmaErr s f) := by
  grind [dmaErr, setBit_keeps, aerErr_keeps]

theorem pushEntry_keeps (hk : Keeps z s) (f q ws irqNow) : Keeps z (pushEntry s f q ws irqNow) := by
  grind [pushEntry, hostWrites_keeps, setRing_keeps, ringIrq_keeps]

theorem writeLost_keeps (hk : Keeps z s) (f) : Keeps z (writeLost s f) := by
  grind [writeLost, setFn_keeps, pushEntry_keeps]

theorem drainEvts_keeps (hk : Keeps z s) (f n) : Keeps z (drainEvts s f n) := by
  fun_induction drainEvts s f n <;> grind [setFn_keeps, pushEntry_keeps, writeLost_keeps]

theorem raise_keeps (hk : Keeps z s) (f code source p0 p1 p2 p3) : Keeps z (raise s f code source p0 p1 p2 p3) := by
  grind [raise, setBit_keeps, bump_keeps, setFn_keeps, pushEntry_keeps]

theorem writeCpl_keeps (hk : Keeps z s) (cq c) : Keeps z (writeCpl s cq c) := by
  grind [writeCpl, setRing_keeps, pushEntry_keeps]

theorem drainCpls_keeps (hk : Keeps z s) (f cq n) : Keeps z (drainCpls s f cq n) := by
  fun_induction drainCpls s f cq n <;> grind [setFn_keeps, writeCpl_keeps]

theorem complete_keeps (hk : Keeps z s) (h op st res) : Keeps z (complete s h op st res) := by
  grind [complete, setFn_keeps, writeCpl_keeps]

theorem command_keeps (hk : Keeps z s) (h op p) {k : State → State × Res} (hc : ∀ t, Keeps z t → Keeps z (k t).1) :
    Keeps z (command h op p k s) := by
  unfold command
  split
  · exact hk
  · split
    · split
      · exact complete_keeps (dmaErr_keeps hk _) ..
      · exact complete_keeps hk ..
    · exact complete_keeps (hc s hk) ..

theorem commandLong_keeps (hk : Keeps z s) (h op p) {k : State → State × Option Res} (hc : ∀ t, Keeps z t → Keeps z (k t).1) :
    Keeps z (commandLong h op p k s) := by
  have hks := hc s hk
  unfold commandLong
  split
  · exact hk
  · split
    · split
      · exact complete_keeps (dmaErr_keeps hk _) ..
      · exact complete_keeps hk ..
    · split
      · next heq =>
        rw [heq] at hks
        exact complete_keeps hks ..
      · next heq =>
        rw [heq] at hks
        exact hks

theorem stage_keeps (hk : Keeps z s) (e c) : Keeps z (stage s e c) := by
  grind [stage]

theorem stageEnd_keeps (hk : Keeps z s) (e c) : Keeps z (stageEnd s e c) := by
  grind [stageEnd]

/-! ## Admission -/

theorem raiseEnabled_keeps (hk : Keeps z s) (f n code p0) : Keeps z (raiseEnabled s f n code p0) := by
  fun_induction raiseEnabled s f n code p0 <;> grind [raise_keeps]

theorem admRefresh_keeps (hk : Keeps z s) : Keeps z (admRefresh s) := by
  grind [admRefresh, setFld_keeps, raiseEnabled_keeps]

theorem audEnsure_keeps (hk : Keeps z s) (leg conf it p first) : Keeps z (audEnsure s leg conf it p first) := by
  grind [audEnsure]

theorem legCommit_keeps (hk : Keeps z s) (leg cid c it p prev addr) : Keeps z (legCommit s leg cid c it p prev addr).1 := by
  unfold legCommit
  dsimp only
  repeat' split
  all_goals grind [hostWrites_keeps, stage_keeps, audEnsure_keeps]

theorem legAdmit_keeps (hk : Keeps z s) (h cid leg addr ws) : Keeps z (legAdmit h cid leg addr ws s).1 := by
  grind [legAdmit, legCommit_keeps]

theorem legModify_keeps (hk : Keeps z s) (h cid leg addr ws) : Keeps z (legModify h cid leg addr ws s).1 := by
  grind [legModify, legCommit_keeps]

theorem legRelease_keeps (hk : Keeps z s) (leg e) : Keeps z (legRelease s leg e) := by
  grind [legRelease, stage_keeps, stageEnd_keeps]

theorem layoutRelease_keeps (hk : Keeps z s) (id e) : Keeps z (layoutRelease s id e) := by
  grind [layoutRelease, stage_keeps, stageEnd_keeps]

theorem execAdmConfOpen_keeps (hk : Keeps z s) (h conf audPmax vidPmax hops) :
    OutKeeps z (execAdmConfOpen h conf audPmax vidPmax hops s) := by
  grind [execAdmConfOpen, act_keeps, command_keeps]

theorem confClose_keeps (hk : Keeps z s) (c) : Keeps z (confClose s c) := by
  grind [confClose, stage_keeps]

theorem execAdmConfClose_keeps (hk : Keeps z s) (h conf) : OutKeeps z (execAdmConfClose h conf s) := by
  grind [execAdmConfClose, act_keeps, command_keeps, confClose_keeps]

theorem execAdmLegAdmit_keeps (hk : Keeps z s) (h conf leg addr dma) : OutKeeps z (execAdmLegAdmit h conf leg addr dma s) := by
  grind [execAdmLegAdmit, act_keeps, command_keeps, legAdmit_keeps]

theorem execAdmLegModify_keeps (hk : Keeps z s) (h conf leg addr dma) : OutKeeps z (execAdmLegModify h conf leg addr dma s) := by
  grind [execAdmLegModify, act_keeps, command_keeps, legModify_keeps]

theorem execAdmLegRelease_keeps (hk : Keeps z s) (h leg) : OutKeeps z (execAdmLegRelease h leg s) := by
  grind [execAdmLegRelease, act_keeps, command_keeps, legRelease_keeps]

theorem setPolice_keeps (hk : Keeps z s) (hd p) : Keeps z (setPolice s hd p) := by
  grind [setPolice]

theorem execAdmLegStats_keeps (hk : Keeps z s) (h clr hd) : OutKeeps z (execAdmLegStats h clr hd s) := by
  grind [execAdmLegStats, act_keeps, command_keeps, setPolice_keeps]

theorem execAdmFnBudgetSet_keeps (hk : Keeps z s) (h f r v) : OutKeeps z (execAdmFnBudgetSet h f r v s) := by
  grind [execAdmFnBudgetSet, act_keeps, command_keeps, stage_keeps, foldl_keeps]

theorem layoutAdmit_keeps (hk : Keeps z s) (h id cid w ht per codec cprof depth) :
    Keeps z (layoutAdmit h id cid w ht per codec cprof depth s).1 := by
  grind [layoutAdmit, stage_keeps]

theorem execAdmLayoutAdmit_keeps (hk : Keeps z s) (h id conf w ht per codec cprof depth) :
    OutKeeps z (execAdmLayoutAdmit h id conf w ht per codec cprof depth s) := by
  grind [execAdmLayoutAdmit, act_keeps, command_keeps, layoutAdmit_keeps]

theorem execAdmLayoutRelease_keeps (hk : Keeps z s) (h id) : OutKeeps z (execAdmLayoutRelease h id s) := by
  grind [execAdmLayoutRelease, act_keeps, command_keeps, layoutRelease_keeps]

theorem hostClose_keeps (hk : Keeps z s) (v) : Keeps z (hostClose v s) := by
  grind [hostClose, setFld_keeps, admRefresh_keeps]

theorem execAdmHostClose_keeps (hk : Keeps z s) (v) : OutKeeps z (execAdmHostClose v s) := by
  grind [execAdmHostClose, act_keeps, hostClose_keeps]

/-! ## Memory errors as reads find them -/

theorem masksApply_keeps (hk : Keeps z s) : Keeps z (masksApply s) := by
  grind [masksApply]

theorem eccLog_keeps (hk : Keeps z s) (kind target synd addr) : Keeps z (eccLog s kind target synd addr) := by
  grind [eccLog]

theorem bucketOverflow_keeps (hk : Keeps z s) (t synd addr) : Keeps z (bucketOverflow s t synd addr) := by
  grind [bucketOverflow, setFld_keeps, setBit_keeps, raise_keeps, eccLog_keeps]

theorem eccCe_keeps (hk : Keeps z s) (t synd addr) : Keeps z (eccCe s t synd addr) := by
  have h1 : Keeps z (setBit (bump s (ECC_CE_CNT t) 1) ECC_ST_CE) := setBit_keeps (bump_keeps hk ..) ..
  exact ite_keeps (bucketOverflow_keeps h1 ..) (setFld_keeps h1 ..)

theorem ueEvt_keeps (hk : Keeps z s) (t kind) : Keeps z (ueEvt s t kind) := by
  grind [ueEvt, raise_keeps]

theorem pcUe_keeps (hk : Keeps z s) (t addr) : Keeps z (pcUe s t addr) := by
  grind [pcUe]

theorem poisonSet_keeps (hk : Keeps z s) (t a on) : Keeps z (poisonSet s t a on) := by
  grind [poisonSet]

theorem countUe_keeps (hk : Keeps z s) (t k) : Keeps z (countUe s t k) := by
  grind [countUe, setBit_keeps, bump_keeps]

theorem eccHit_keeps (hk : Keeps z s) (e) : Keeps z (eccHit s e) := by
  grind [eccHit, eccCe_keeps, eccLog_keeps, ueEvt_keeps, pcUe_keeps, poisonSet_keeps, countUe_keeps]

theorem eccHits_keeps (hk : Keeps z s) (es) : Keeps z (eccHits s es) := by
  grind [eccHits, eccHit_keeps, foldl_keeps]

/-! ## Mode changes -/

theorem setPwr_keeps (hk : Keeps z s) (p) : Keeps z (setPwr s p) := by
  grind [setPwr]

theorem setMode_keeps (hk : Keeps z s) (m cause) : Keeps z (setMode s m cause) := by
  grind [setMode, setFld_keeps, raise_keeps, admRefresh_keeps]

theorem enterRun_keeps (hk : Keeps z s) (cause) : Keeps z (enterRun s cause) := by
  grind [enterRun, setPwr_keeps, setMode_keeps]

theorem degrade_keeps (hk : Keeps z s) (closed) : Keeps z (degrade s closed) := by
  grind [degrade, admRefresh_keeps, setPwr_keeps, setMode_keeps]

theorem alertSet_keeps (hk : Keeps z s) (r on) : Keeps z (alertSet s r on) := by
  grind [alertSet, setPwr_keeps]

/-! ## Gesso records and their vote -/

theorem setLive_keeps (hk : Keeps z s) (c i v) : Keeps z (setLive s c i v) := by
  grind [setLive]

theorem gessoPut_keeps (hk : Keeps z s) (c i copies) : Keeps z (gessoPut s c i copies) := by
  grind [gessoPut, setBit_keeps, bump_keeps, raise_keeps]

theorem gessoAll_keeps (hk : Keeps z s) (g) : Keeps z (gessoAll s g) := by
  grind [gessoAll, gessoPut_keeps, foldl_keeps]

theorem glazePut_keeps (hk : Keeps z s) (e) : Keeps z (glazePut s e) := by
  grind [glazePut, setLive_keeps]

theorem glazeApply_keeps (hk : Keeps z s) (flash) : Keeps z (glazeApply s flash) := by
  grind [glazeApply, emitOut_keeps, setFld_keeps, setBit_keeps, raise_keeps, glazePut_keeps, foldl_keeps]

theorem stacksInit_keeps (hk : Keeps z s) : Keeps z (stacksInit s) := by
  grind [stacksInit, setFld_keeps, foldl_keeps]

theorem linkTrain_keeps (hk : Keeps z s) (c i) : Keeps z (linkTrain s c i) := by
  grind [linkTrain, setLive_keeps]

theorem trimItemPut_keeps {t : State} (ht : Keeps z t) (s c i k v key) : Keeps z (trimItem.put s c i k v t key) := by
  grind [trimItem.put, raise_keeps]

theorem trimItem_keeps (hk : Keeps z s) (c i k v) : Keeps z (trimItem s c i k v) := by
  grind [trimItem, trimItemPut_keeps, setBit_keeps, setLive_keeps]

/-! ## Media security -/

theorem setSlot_keeps (hk : Keeps z s) (k x) : Keeps z (setSlot s k x) := by
  grind [setSlot]

theorem unwrapFail_keeps (hk : Keeps z s) : Keeps z (unwrapFail s) := by
  grind [unwrapFail, setBit_keeps, bump_keeps]

theorem overlapsEnd_keeps (hk : Keeps z s) (c) : Keeps z (overlapsEnd s c) := by
  grind [overlapsEnd]

theorem keyResetFn_keeps (hk : Keeps z s) (f) : Keeps z (keyResetFn s f) := by
  grind [keyResetFn, overlapsEnd_keeps]

theorem keyResetAll_keeps (hk : Keeps z s) : Keeps z (keyResetAll s) := by
  grind [keyResetAll, overlapsEnd_keeps]

theorem writeDevPub_keeps (hk : Keeps z s) (addr) : Keeps z (writeDevPub s addr) := by
  grind [writeDevPub, hostWrites_keeps]

theorem execKeyKekInfo_keeps (hk : Keeps z s) (h addr) : OutKeeps z (execKeyKekInfo h addr s) := by
  grind [execKeyKekInfo, act_keeps, command_keeps, writeDevPub_keeps]

theorem execKekAgree_keeps (hk : Keeps z s) (h addr dma) : OutKeeps z (execKekAgree h addr dma s) := by
  grind [execKekAgree, act_keeps, command_keeps, writeDevPub_keeps]

theorem keyImport_keeps (hk : Keeps z s) (h suite slot wrapped) : Keeps z (keyImport h suite slot wrapped s).1 := by
  have hfail : Keeps z (unwrapFail s) := unwrapFail_keeps hk
  unfold keyImport
  dsimp only
  repeat' split
  all_goals grind [setSlot_keeps]

theorem execKeyImport_keeps (hk : Keeps z s) (h suite slot addr dma) : OutKeeps z (execKeyImport h suite slot addr dma s) := by
  grind [execKeyImport, act_keeps, command_keeps, keyImport_keeps]

theorem execKeyDerive_keeps (hk : Keeps z s) (h master sess) : OutKeeps z (execKeyDerive h master sess s) := by
  unfold execKeyDerive
  refine act_keeps (command_keeps (s := { s with out := [] }) hk _ _ _ fun t ht => ?_)
  dsimp only
  repeat' split
  all_goals grind [setSlot_keeps]

theorem execKeyErase_keeps (hk : Keeps z s) (h slot) : OutKeeps z (execKeyErase h slot s) := by
  grind [execKeyErase, act_keeps, command_keeps, stage_keeps, stageEnd_keeps, setSlot_keeps]

theorem keyEraseApply_keeps (hk : Keeps z s) (slot) : Keeps z (keyEraseApply s slot) := by
  grind [keyEraseApply, overlapsEnd_keeps]

theorem keyUnitApply_keeps (hk : Keeps z s) (slot) : Keeps z (keyUnitApply s slot) := by
  grind [keyUnitApply]

theorem spendSlot_keeps (hk : Keeps z s) (send k) : Keeps z (spendSlot s send k) := by
  grind [spendSlot]

theorem execCipBind_keeps (hk : Keeps z s) (h keep clear rplW dir hd slot txRoc txSeq roc0 roc1 roc2 roc3 tcpIdx) :
    OutKeeps z (execCipBind h keep clear rplW dir hd slot txRoc txSeq roc0 roc1 roc2 roc3 tcpIdx s) := by
  grind [execCipBind, act_keeps, command_keeps, stage_keeps, spendSlot_keeps]

theorem execCipUnbind_keeps (hk : Keeps z s) (h dir hd) : OutKeeps z (execCipUnbind h dir hd s) := by
  grind [execCipUnbind, act_keeps, command_keeps, stage_keeps]

theorem cipRxApply_keeps (hk : Keeps z s) (hd slot w keep rocs) : Keeps z (cipRxApply s hd slot w keep rocs) := by
  grind [cipRxApply]

theorem txDeliver_keeps (hk : Keeps z s) (hd ssrc) : Keeps z (txDeliver s hd ssrc) := by
  grind [txDeliver]

theorem cipTxApply_keeps (hk : Keeps z s) (hd slot keep roc seq tcp) : Keeps z (cipTxApply s hd slot keep roc seq tcp) := by
  grind [cipTxApply]

theorem cipUnbindApply_keeps (hk : Keeps z s) (hd send) : Keeps z (cipUnbindApply s hd send) := by
  grind [cipUnbindApply]

theorem tryKeys_keeps (hk : Keeps z s) (d moved f) : Keeps z (tryKeys s d moved f).1 := by
  grind [tryKeys, setBit_keeps, bump_keeps]

theorem setRx_keeps (hk : Keeps z s) (hd d) : Keeps z (setRx s hd d) := by
  grind [setRx]

theorem cntMod_keeps (hk : Keeps z s) (k f) : Keeps z (cntMod s k f) := by
  grind [cntMod]

theorem rxOk_keeps (hk : Keeps z s) (hd second) : Keeps z (rxOk s hd second) := by
  grind [rxOk, cntMod_keeps]

theorem txOk_keeps (hk : Keeps z s) (hd) : Keeps z (txOk s hd) := by
  grind [txOk, cntMod_keeps]

theorem rxAuthFail_keeps (hk : Keeps z s) (hd) : Keeps z (rxAuthFail s hd) := by
  grind [rxAuthFail, setBit_keeps, bump_keeps, cntMod_keeps]

theorem rxReplay_keeps (hk : Keeps z s) (hd) : Keeps z (rxReplay s hd) := by
  grind [rxReplay, setBit_keeps, bump_keeps, cntMod_keeps]

theorem rxSrtp_keeps (hk : Keeps z s) (hd i sq ssrc hdr body) : Keeps z (rxSrtp s hd i sq ssrc hdr body).1 := by
  grind [rxSrtp, tryKeys_keeps, setRx_keeps, rxOk_keeps, rxAuthFail_keeps, rxReplay_keeps]

theorem rxSrtcp_keeps (hk : Keeps z s) (hd pkt) : Keeps z (rxSrtcp s hd pkt).1 := by
  unfold rxSrtcp
  dsimp only
  repeat' split
  all_goals grind [tryKeys_keeps, setRx_keeps, rxOk_keeps, rxAuthFail_keeps, rxReplay_keeps]

theorem setTx_keeps (hk : Keeps z s) (hd d) : Keeps z (setTx s hd d) := by
  grind [setTx]

theorem rekeyEvt_keeps (hk : Keeps z s) (hd cause ssrc idx) : Keeps z (rekeyEvt s hd cause ssrc idx) := by
  grind [rekeyEvt, raise_keeps, cntMod_keeps]

theorem txRefused_keeps (hk : Keeps z s) (hd) : Keeps z (txRefused s hd) := by
  grind [txRefused, bump_keeps, cntMod_keeps]

theorem txRefuse_keeps (hk : Keeps z s) (hd cause ssrc idx) : Keeps z (txRefuse s hd cause ssrc idx) := by
  grind [txRefuse, setBit_keeps, rekeyEvt_keeps, txRefused_keeps]

theorem txSrtp_keeps (hk : Keeps z s) (hd ssrc sq hdr pay) : Keeps z (txSrtp s hd ssrc sq hdr pay).1 := by
  unfold txSrtp
  dsimp only
  repeat' split
  all_goals grind [txOk_keeps, setTx_keeps, rekeyEvt_keeps, txRefused_keeps, txRefuse_keeps]

theorem txSrtcp_keeps (hk : Keeps z s) (hd pkt) : Keeps z (txSrtcp s hd pkt).1 := by
  unfold txSrtcp
  dsimp only
  repeat' split
  all_goals grind [txOk_keeps, setTx_keeps, rekeyEvt_keeps, txRefused_keeps, txRefuse_keeps]

theorem txRetire_keeps (hk : Keeps z s) (hd ssrc) : Keeps z (txRetire s hd ssrc) := by
  grind [txRetire, setTx_keeps]

theorem cntClear_keeps (hk : Keeps z s) (k clr) : Keeps z (cntClear s k clr) := by
  grind [cntClear, cntMod_keeps]

theorem execCipStats_keeps (hk : Keeps z s) (h clr i dir hd addr) : OutKeeps z (execCipStats h clr i dir hd addr s) := by
  grind [execCipStats, act_keeps, hostWrites_keeps, command_keeps, cntClear_keeps]

theorem execRxOverlapEnd_keeps (hk : Keeps z s) (hd) : OutKeeps z (execRxOverlapEnd hd s) := by
  grind [execRxOverlapEnd, act_keeps, setRx_keeps]

theorem execReseed_keeps (hk : Keeps z s) (pass) : OutKeeps z (execReseed pass s) := by
  grind [execReseed, act_keeps, setFld_keeps, raise_keeps]

theorem execEntropyHealthFail_keeps (hk : Keeps z s) : OutKeeps z (execEntropyHealthFail s) := by
  grind [execEntropyHealthFail, act_keeps, setFld_keeps, setBit_keeps, raise_keeps]

/-! ## The operations of the network side that several chapters share -/

theorem stat_keeps (hk : Keeps z s) (p u i n) : Keeps z (stat s p u i n) := by
  grind [stat]

theorem setBound_keeps (hk : Keeps z s) (hd b) : Keeps z (setBound s hd b) := by
  grind [setBound]

theorem raiseLeg_keeps (hk : Keeps z s) (hd code source p0 p1 p2 p3) : Keeps z (raiseLeg s hd code source p0 p1 p2 p3) := by
  grind [raiseLeg, raise_keeps]

theorem policeFill_keeps (hk : Keeps z s) (hd) : Keeps z (policeFill s hd) := by
  grind [policeFill, setPolice_keeps]

theorem policeEvt_keeps (hk : Keeps z s) (hd) : Keeps z (policeEvt s hd) := by
  grind [policeEvt, setPolice_keeps, raiseLeg_keeps]

theorem policed_keeps (hk : Keeps z s) (hd p u) : Keeps z (policed s hd p u) := by
  grind [policed, setPolice_keeps, stat_keeps, policeEvt_keeps]

theorem countLate_keeps (hk : Keeps z s) (hd p u) : Keeps z (countLate s hd p u) := by
  grind [countLate, setPolice_keeps, stat_keeps, policeEvt_keeps]

theorem countAccepted_keeps (hk : Keeps z s) (hd n) : Keeps z (countAccepted s hd n) := by
  grind [countAccepted, setPolice_keeps]

theorem police_keeps (hk : Keeps z s) (hd n) : ∀ t, police s hd n = some t → Keeps z t := by
  grind [police, setPolice_keeps]

theorem resyncEvt_keeps (hk : Keeps z s) (hd i cause a) : Keeps z (resyncEvt s hd i cause a) := by
  grind [resyncEvt, raiseLeg_keeps]

theorem setHpa_keeps (hk : Keeps z s) (f x) : Keeps z (setHpa s f x) := by
  grind [setHpa]

theorem hpaDrop_keeps (hk : Keeps z s) (f p u) : Keeps z (hpaDrop s f p u) := by
  grind [hpaDrop, bump_keeps, raise_keeps, stat_keeps, setHpa_keeps]

theorem hpaIrq_keeps (hk : Keeps z s) (f) : Keeps z (hpaIrq s f) := by
  grind [hpaIrq, vecIrq_keeps]

theorem hpaDeliver_keeps (hk : Keeps z s) (f p u reason handle ts frame) : Keeps z (hpaDeliver s f p u reason handle ts frame) := by
  grind [hpaDeliver, hostWrites_keeps, stat_keeps, setHpa_keeps, hpaDrop_keeps, hpaIrq_keeps]

theorem hpaSent_keeps (hk : Keeps z s) (f i w3) : Keeps z (hpaSent s f i w3) := by
  grind [hpaSent, hostWrite_keeps, setHpa_keeps, hpaIrq_keeps]

theorem hpaStop_keeps (hk : Keeps z s) (f which) : Keeps z (hpaStop s f which) := by
  grind [hpaStop, setFld_keeps, raise_keeps]

theorem schedule'_keeps (hk : Keeps z s) (e) : Keeps z (schedule' s e) := by
  grind [schedule', stat_keeps]

theorem rtpFrame_keeps (hk : Keeps z s) (hd ssrc sq hdr pay) : Keeps z (rtpFrame s hd ssrc sq hdr pay).1 := by
  grind [rtpFrame, txSrtp_keeps]

theorem sendRtcp_keeps (hk : Keeps z s) (hd pkt kp) : Keeps z (sendRtcp s hd pkt kp).1 := by
  grind [sendRtcp, txSrtcp_keeps, schedule'_keeps]

/-! ## Forwarding by layers -/

theorem setSub_keeps (hk : Keeps z s) (id x) : Keeps z (setSub s id x) := by
  grind [setSub]

theorem setSrc_keeps (hk : Keeps z s) (hd x) : Keeps z (setSrc s hd x) := by
  grind [setSrc]

theorem kpRequest_keeps (hk : Keeps z s) (hd i) : Keeps z (kpRequest s hd i).1 := by
  grind [kpRequest]

theorem kpSend_keeps (hk : Keeps z s) (hd i) : Keeps z (kpSend s hd i) := by
  grind [kpSend, sendRtcp_keeps]

theorem kpSent_keeps (hk : Keeps z s) (k fir) : Keeps z (kpSent s k fir) := by
  grind [kpSent, bump_keeps]

theorem kpSendAll_keeps (hk : Keeps z s) (xs) : Keeps z (kpSendAll s xs) := by
  fun_induction kpSendAll s xs <;> grind [kpSend_keeps]

theorem layerEvt_keeps (hk : Keeps z s) (id sub reason old new) : Keeps z (layerEvt s id sub reason old new) := by
  grind [layerEvt, raise_keeps]

theorem fwdRelease_keeps (hk : Keeps z s) (hd p) : Keeps z (fwdRelease s hd p) := by
  grind [fwdRelease, setBit_keeps, raiseLeg_keeps, setSrc_keeps, kpRequest_keeps, foldl_keeps]

theorem askWait_keeps (hk : Keeps z s) (id old) : Keeps z (askWait s id old) := by
  grind [askWait, setSub_keeps, kpRequest_keeps]

theorem fwdPacket_keeps (hk : Keeps z s) (id fr p) : Keeps z (fwdPacket s id fr p).1 := by
  unfold fwdPacket
  split
  · exact hk
  · next sub hsub =>
    extract_lets +onlyGivenNames codec absent w s1 s2
    have h1 : Keeps z s1 := setSub_keeps hk ..
    have h2 : Keeps z s2 := ite_keeps h1 (askWait_keeps h1 ..)
    clear_value w s1 s2
    extract_lets +onlyGivenNames s3
    have h3 : Keeps z s3 := by
      unfold s3
      split
      · exact layerEvt_keeps h2 ..
      · exact h2
    clear_value s3
    dsimp only
    split
    · exact h3
    · split
      · exact setBit_keeps (bump_keeps (setSub_keeps h3 ..) ..) _
      · split
        · exact setSub_keeps h3 ..
        · exact setSub_keeps (setSub_keeps h3 ..) ..

theorem fwdPackets_keeps (hk : Keeps z s) (id rel xs) : Keeps z (fwdPackets s id rel xs).1 := by
  fun_induction fwdPackets s id rel xs <;> grind [fwdPacket_keeps]

theorem firstTarget_keeps (hk : Keeps z s) (id) : Keeps z (firstTarget s id) := by
  grind [firstTarget, setSub_keeps, askWait_keeps]

theorem fwdCands_keeps (hk : Keeps z s) (xs) : Keeps z (fwdCands s xs).1 := by
  fun_induction fwdCands s xs <;> grind [fwdPackets_keeps, firstTarget_keeps]

theorem setEst_keeps (hk : Keeps z s) (leg x) : Keeps z (setEst s leg x) := by
  grind [setEst]

theorem limitDrop_keeps (hk : Keeps z s) (leg) : Keeps z (limitDrop s leg) := by
  grind [limitDrop, setBit_keeps, bump_keeps, raiseLeg_keeps, setEst_keeps]

theorem fwdFrame_keeps (hk : Keeps z s) (c ord) : Keeps z (fwdFrame s c ord).1 := by
  grind [fwdFrame, rtpFrame_keeps, setSub_keeps]

theorem fwdTake_keeps (hk : Keeps z s) (leg bytes pkts ord xs) : Keeps z (fwdTake s leg bytes pkts ord xs).1 := by
  fun_induction fwdTake s leg bytes pkts ord xs <;> grind [limitDrop_keeps, fwdFrame_keeps]

theorem forwardLeg_keeps (hk : Keeps z s) (leg ord) : Keeps z (forwardLeg s leg ord).1 := by
  grind [forwardLeg, fwdCands_keeps, fwdTake_keeps]

theorem relaySr_keeps (hk : Keeps z s) (xs) : Keeps z (relaySr s xs) := by
  fun_induction relaySr s xs <;> grind [sendRtcp_keeps]

theorem takeFeedback_keeps (hk : Keeps z s) (leg p) : Keeps z (takeFeedback s leg p) := by
  grind [takeFeedback, setEst_keeps]

theorem fwdRtcp_keeps (hk : Keeps z s) (hd p) : Keeps z (fwdRtcp s hd p) := by
  grind [fwdRtcp, kpRequest_keeps, takeFeedback_keeps, foldl_keeps]

theorem logLaunch_keeps (hk : Keeps z s) (e t) : Keeps z (logLaunch s e t) := by
  grind [logLaunch, setEst_keeps]

theorem estUpdate_keeps (hk : Keeps z s) (leg) : Keeps z (estUpdate s leg) := by
  grind [estUpdate, raiseLeg_keeps, setEst_keeps, foldl_keeps]

theorem takeTarget_keeps (hk : Keeps z s) (x) : Keeps z (takeTarget s x) := by
  grind [takeTarget, stage_keeps, setSub_keeps]

theorem execEstUpdate_keeps (hk : Keeps z s) (leg) : OutKeeps z (execEstUpdate leg s) := by
  grind [execEstUpdate, act_keeps, setEst_keeps, estUpdate_keeps, takeTarget_keeps, foldl_keeps]

theorem execUpHoldReached_keeps (hk : Keeps z s) (id) : OutKeeps z (execUpHoldReached id s) := by
  grind [execUpHoldReached, act_keeps, stage_keeps, setSub_keeps]

theorem subTargetApply_keeps (hk : Keeps z s) (id tgt reason) : Keeps z (subTargetApply s id tgt reason) := by
  grind [subTargetApply, setSub_keeps, askWait_keeps]

theorem subBegin_keeps (hk : Keeps z s) (id sub reason) : Keeps z (subBegin s id sub reason) := by
  grind [subBegin, setSub_keeps, kpRequest_keeps]

theorem subStartApply_keeps (hk : Keeps z s) (id) : Keeps z (subStartApply s id) := by
  grind [subStartApply, txDeliver_keeps, setSub_keeps, subBegin_keeps]

theorem subCapApply_keeps (hk : Keeps z s) (id pause kpFir prio capS capT) :
    Keeps z (subCapApply s id pause kpFir prio capS capT) := by
  grind [subCapApply, setSub_keeps, layerEvt_keeps, subTargetApply_keeps, subBegin_keeps]

theorem subStopApply_keeps (hk : Keeps z s) (id) : Keeps z (subStopApply s id) := by
  grind [subStopApply, txRetire_keeps, setSub_keeps, layerEvt_keeps]

theorem subGoneApply_keeps (hk : Keeps z s) (id) : Keeps z (subGoneApply s id) := by
  grind [subGoneApply]

theorem subRemove_keeps (hk : Keeps z s) (id e rel) : Keeps z (subRemove s id e rel) := by
  grind [subRemove, stage_keeps, stageEnd_keeps, setSub_keeps]

theorem subRemoveAll_keeps (hk : Keeps z s) (e c) : Keeps z (subRemoveAll s e c) := by
  grind [subRemoveAll, subRemove_keeps, foldl_keeps]

theorem paceApply_keeps (hk : Keeps z s) (leg emode line init max) : Keeps z (paceApply s leg emode line init max) := by
  grind [paceApply, setEst_keeps]

theorem estStart_keeps (hk : Keeps z s) (leg) : Keeps z (estStart s leg) := by
  grind [estStart, setEst_keeps]

theorem execFwdSubSet_keeps (hk : Keeps z s)
    (h id src dst ssrc tsOfs seqStart ptEn ptOut ddIn ddOut fmIn fmOut pause kpFir prio capS capT) :
    OutKeeps z (execFwdSubSet h id src dst ssrc tsOfs seqStart ptEn ptOut ddIn ddOut fmIn fmOut pause kpFir prio capS capT s)
    := by
  grind [execFwdSubSet, act_keeps, command_keeps, stage_keeps, setSub_keeps]

theorem execFwdSubClear_keeps (hk : Keeps z s) (h id) : OutKeeps z (execFwdSubClear h id s) := by
  grind [execFwdSubClear, act_keeps, command_keeps, subRemove_keeps]

theorem execFwdSubCap_keeps (hk : Keeps z s) (h id pause kpFir prio capS capT) :
    OutKeeps z (execFwdSubCap h id pause kpFir prio capS capT s) := by
  grind [execFwdSubCap, act_keeps, command_keeps, stage_keeps]

theorem execFwdEstRead_keeps (hk : Keeps z s) (h leg) : OutKeeps z (execFwdEstRead h leg s) := by
  grind [execFwdEstRead, act_keeps, command_keeps]

theorem execFwdKeyPicReq_keeps (hk : Keeps z s) (h i hd) : OutKeeps z (execFwdKeyPicReq h i hd s) := by
  grind [execFwdKeyPicReq, act_keeps, command_keeps, kpRequest_keeps]

theorem execFwdPaceSet_keeps (hk : Keeps z s) (h emode leg line init max) :
    OutKeeps z (execFwdPaceSet h emode leg line init max s) := by
  grind [execFwdPaceSet, act_keeps, command_keeps, stage_keeps]

theorem execKpWaitExpiry_keeps (hk : Keeps z s) (id) : OutKeeps z (execKpWaitExpiry id s) := by
  grind [execKpWaitExpiry, act_keeps, setSub_keeps, kpRequest_keeps]

/-! ## Time-unit operations that several chapters share -/

theorem setPtp_keeps (hk : Keeps z s) (p) : Keeps z (setPtp s p) := by
  grind [setPtp]

theorem tsWrite_keeps (hk : Keeps z s) (ws) : Keeps z (tsWrite s ws) := by
  grind [tsWrite, setBit_keeps, bump_keeps, setFn_keeps, pushEntry_keeps]

theorem tsDrain_keeps (hk : Keeps z s) : Keeps z (tsDrain s) := by
  grind [tsDrain, setPtp_keeps, tsWrite_keeps, foldl_keeps]

theorem tsFlush_keeps (hk : Keeps z s) : Keeps z (tsFlush s) := by
  grind [tsFlush, setPtp_keeps, tsWrite_keeps, foldl_keeps]

theorem tsEntry_keeps (hk : Keeps z s) (kind id port sub t) : Keeps z (tsEntry s kind id port sub t) := by
  grind [tsEntry, setPtp_keeps, tsWrite_keeps, tsDrain_keeps]

theorem tickLower_keeps (hk : Keeps z s) : Keeps z (tickLower s) := by
  grind [tickLower, emitOut_keeps]

theorem ppsLower_keeps (hk : Keeps z s) : Keeps z (ppsLower s) := by
  grind [ppsLower, emitOut_keeps, setPtp_keeps]

theorem tickCut_keeps (hk : Keeps z s) : Keeps z (tickCut s) := by
  grind [tickCut, tickLower_keeps]

theorem ppsCut_keeps (hk : Keeps z s) : Keeps z (ppsCut s) := by
  grind [ppsCut, ppsLower_keeps]

theorem ptpState_keeps (hk : Keeps z s) (st) : Keeps z (ptpState s st) := by
  grind [ptpState, setFld_keeps, raise_keeps]

theorem stepEvt_keeps (hk : Keeps z s) (servo epoch off last) : Keeps z (stepEvt s servo epoch off last) := by
  grind [stepEvt, raise_keeps]

theorem openEpoch_keeps (hk : Keeps z s) : Keeps z (openEpoch s) := by
  grind [openEpoch, setFld_keeps, ptpState_keeps]

theorem epochStart_keeps (hk : Keeps z s) : Keeps z (epochStart s) := by
  grind [epochStart, setFld_keeps, stepEvt_keeps, openEpoch_keeps]

theorem stageStep_keeps (hk : Keeps z s) (abs off servo epoch) : Keeps z (stageStep s abs off servo epoch) := by
  grind [stageStep, setFld_keeps, setPtp_keeps]

theorem servo_keeps (hk : Keeps z s) (theta) : Keeps z (servo s theta) := by
  unfold servo
  extract_lets big s1 s2 quiet s3 t1 s4 i r run t2 s5 s6
  have h1 : Keeps z s1 := stageStep_keeps hk ..
  have h3 : Keeps z s3 := ite_keeps (setBit_keeps hk _) hk
  have h4 : Keeps z s4 := ite_keeps (raise_keeps (setPtp_keeps h3 _) ..) h3
  have h5 : Keeps z s5 := setReg_keeps (setPtp_keeps h4 _) ..
  have h6 : Keeps z s6 := ite_keeps (ptpState_keeps h5 _) h5
  exact ite_keeps (ptpState_keeps (setPtp_keeps h1 _) _)
    (ite_keeps (ptpState_keeps (setFld_keeps h6 ..) _) (ite_keeps (ptpState_keeps h6 _) h6))

theorem measurement_keeps (hk : Keeps z s) (theta mpd id) : Keeps z (measurement s theta mpd id) := by
  grind [measurement, raise_keeps, setPtp_keeps, servo_keeps]

theorem holdover_keeps (hk : Keeps z s) : Keeps z (holdover s) := by
  grind [holdover, setPtp_keeps, ptpState_keeps]

theorem selectMaster_keeps (hk : Keeps z s) : Keeps z (selectMaster s) := by
  grind [selectMaster, setPtp_keeps]

theorem syncMeasure_keeps (hk : Keeps z s) (p sq t2 gen t1) : Keeps z (syncMeasure s p sq t2 gen t1) := by
  grind [syncMeasure, measurement_keeps]

theorem announceRx_keeps (hk : Keeps z s) (p b) : Keeps z (announceRx s p b) := by
  grind [announceRx, setPtp_keeps, selectMaster_keeps]

theorem syncRx_keeps (hk : Keeps z s) (p t2 b) : Keeps z (syncRx s p t2 b) := by
  grind [syncRx, setPtp_keeps, tsEntry_keeps, syncMeasure_keeps]

theorem followUpRx_keeps (hk : Keeps z s) (p b) : Keeps z (followUpRx s p b) := by
  grind [followUpRx, setPtp_keeps, syncMeasure_keeps]

theorem delayRespRx_keeps (hk : Keeps z s) (p b) : Keeps z (delayRespRx s p b) := by
  grind [delayRespRx, setPtp_keeps]

theorem ptpRx_keeps (hk : Keeps z s) (p u dst tags t b) : Keeps z (ptpRx s p u dst tags t b) := by
  grind [ptpRx, bump_keeps, announceRx_keeps, syncRx_keeps, followUpRx_keeps, delayRespRx_keeps]

theorem delayReqSent_keeps (hk : Keeps z s) (p sq t3) : Keeps z (delayReqSent s p sq t3) := by
  grind [delayReqSent, setPtp_keeps, tsEntry_keeps]

/-! ## Network ports and stream binding -/

theorem streamBind_keeps (hk : Keeps z s) (h hd ws) : Keeps z (streamBind h hd ws s).1 := by
  grind [streamBind, stage_keeps, setBound_keeps]

theorem execNetStreamBind_keeps (hk : Keeps z s) (h hd addr dma) : OutKeeps z (execNetStreamBind h hd addr dma s) := by
  grind [execNetStreamBind, act_keeps, command_keeps, streamBind_keeps]

theorem streamRelease_keeps (hk : Keeps z s) (hd e) : Keeps z (streamRelease s hd e) := by
  grind [streamRelease, stage_keeps, stageEnd_keeps, setBound_keeps, subRemoveAll_keeps]

theorem execNetStreamUnbind_keeps (hk : Keeps z s) (h hd) : OutKeeps z (execNetStreamUnbind h hd s) := by
  grind [execNetStreamUnbind, act_keeps, command_keeps, streamRelease_keeps]

theorem fecCounted_keeps (hk : Keeps z s) (p u) : Keeps z (fecCounted s p u) := by
  grind [fecCounted, stat_keeps]

theorem execNetPortStats_keeps (hk : Keeps z s) (h clr p u addr) : OutKeeps z (execNetPortStats h clr p u addr s) := by
  grind [execNetPortStats, act_keeps, hostWrites_keeps, command_keeps, fecCounted_keeps]

theorem execNetJbSet_keeps (hk : Keeps z s) (h reanchor hd run) : OutKeeps z (execNetJbSet h reanchor hd run s) := by
  grind [execNetJbSet, act_keeps, command_keeps, stage_keeps]

theorem netBindApply_keeps (hk : Keeps z s) (hd) : Keeps z (netBindApply s hd) := by
  grind [netBindApply]

theorem netUnbindApply_keeps (hk : Keeps z s) (hd) : Keeps z (netUnbindApply s hd) := by
  grind [netUnbindApply, cipUnbindApply_keeps]

theorem netGoneApply_keeps (hk : Keeps z s) (hd) : Keeps z (netGoneApply s hd) := by
  grind [netGoneApply, countAccepted_keeps]

theorem jbLateApply_keeps (hk : Keeps z s) (hd n) : Keeps z (jbLateApply s hd n) := by
  grind [jbLateApply]

theorem jbReanchorApply_keeps (hk : Keeps z s) (hd) : Keeps z (jbReanchorApply s hd) := by
  grind [jbReanchorApply]

theorem execLateRunReached_keeps (hk : Keeps z s) (hd i) : OutKeeps z (execLateRunReached hd i s) := by
  grind [execLateRunReached, act_keeps, setBound_keeps]

theorem linkEvt_keeps (hk : Keeps z s) (p u up) : Keeps z (linkEvt s p u up) := by
  grind [linkEvt, setFld_keeps, raise_keeps]

theorem linkDrop_keeps (hk : Keeps z s) (p u) : Keeps z (linkDrop s p u) := by
  grind [linkDrop, setFld_keeps, stat_keeps, hpaSent_keeps, linkEvt_keeps, foldl_keeps]

theorem execLinkDown_keeps (hk : Keeps z s) (p u) : OutKeeps z (execLinkDown p u s) := by
  grind [execLinkDown, act_keeps, linkDrop_keeps]

theorem subTrain_keeps (hk : Keeps z s) (p u) : Keeps z (subTrain s p u) := by
  grind [subTrain, linkTrain_keeps, foldl_keeps]

theorem execLinkUp_keeps (hk : Keeps z s) (p u) : OutKeeps z (execLinkUp p u s) := by
  grind [execLinkUp, act_keeps, setFld_keeps, linkEvt_keeps, subTrain_keeps]

theorem hpaTake_keeps (hk : Keeps z s) (f rx tx slots) : Keeps z (hpaTake s f rx tx slots) := by
  grind [hpaTake, setHpa_keeps, hpaStop_keeps]

theorem execHpaControlRead_keeps (hk : Keeps z s) (f line slots) : OutKeeps z (execHpaControlRead f line slots s) := by
  grind [execHpaControlRead, act_keeps, dmaErr_keeps, hpaTake_keeps]

theorem protectFrame_keeps (hk : Keeps z s) (hd f) : Keeps z (protectFrame s hd f).1 := by
  grind [protectFrame, txSrtcp_keeps]

theorem frameOut_keeps (hk : Keeps z s) (e) : Keeps z (frameOut s e).1 := by
  grind [frameOut, protectFrame_keeps]

theorem frameSent_keeps (hk : Keeps z s) (e t b) : Keeps z (frameSent s e t b) := by
  grind [frameSent, emitOut_keeps, stat_keeps, hpaSent_keeps, kpSent_keeps, logLaunch_keeps, delayReqSent_keeps]

theorem execPacketLaunch_keeps (hk : Keeps z s) (p u) : OutKeeps z (execPacketLaunch p u s) := by
  unfold execPacketLaunch
  refine act_keeps ?_
  dsimp only
  (repeat' split) <;> grind [act_keeps, advanceTo_keeps, eccHits_keeps, hpaSent_keeps, frameOut_keeps, frameSent_keeps]

/-! ## Overruns -/

theorem ovrCount_keeps (hk : Keeps z s) (phase) : Keeps z (ovrCount s phase) := by
  unfold ovrCount
  dsimp only
  repeat' split
  all_goals grind [setBit_keeps, bump_keeps]

theorem ovrEvt_keeps (hk : Keeps z s) (key f source p0) : Keeps z (ovrEvt s key f source p0) := by
  grind [ovrEvt, raise_keeps]

theorem overrun_keeps (hk : Keeps z s) (hd phase kind) : Keeps z (overrun s hd phase kind) := by
  grind [overrun, setPolice_keeps, ovrCount_keeps, ovrEvt_keeps]

theorem overrunLayout_keeps (hk : Keeps z s) (id kind) : Keeps z (overrunLayout s id kind) := by
  grind [overrunLayout, ovrCount_keeps, ovrEvt_keeps]

theorem setMedia_keeps (hk : Keeps z s) (k r) : Keeps z (setMedia s k r) := by
  grind [setMedia]

theorem mediaGapEvt_keeps (hk : Keeps z s) (k on missed) : Keeps z (mediaGapEvt s k on missed) := by
  grind [mediaGapEvt, raise_keeps]

theorem mediaGapEnd_keeps (hk : Keeps z s) (k) : Keeps z (mediaGapEnd s k) := by
  grind [mediaGapEnd, setMedia_keeps, mediaGapEvt_keeps]

theorem mediaGap_keeps (hk : Keeps z s) (k got) : Keeps z (mediaGap s k got) := by
  unfold mediaGap
  dsimp only
  repeat' split
  all_goals grind [setMedia_keeps, mediaGapEvt_keeps, mediaGapEnd_keeps]

theorem mediaPull_keeps (hk : Keeps z s) (k n g) : Keeps z (mediaPull s k n g).1 := by
  grind [mediaPull, setMedia_keeps, mediaGap_keeps]

theorem mediaPush_keeps (hk : Keeps z s) (k n xs) : Keeps z (mediaPush s k n xs) := by
  grind [mediaPush, fnWrites_keeps, setMedia_keeps, mediaGap_keeps]

theorem mediaPost_keeps (hk : Keeps z s) (k i es) : Keeps z (mediaPost s k i es) := by
  grind [mediaPost, setMedia_keeps]

theorem mediaFinish_keeps (hk : Keeps z s) (f m) : Keeps z (mediaFinish s f m) := by
  grind [mediaFinish, hostWrites_keeps, setRing_keeps, ringIrq_keeps, setMedia_keeps]

theorem execMediaEntryFinish_keeps (hk : Keeps z s) (f m) : OutKeeps z (execMediaEntryFinish f m s) := by
  grind [execMediaEntryFinish, act_keeps, mediaFinish_keeps]

theorem mediaBindApply_keeps (hk : Keeps z s) (k) : Keeps z (mediaBindApply s k) := by
  grind [mediaBindApply, setMedia_keeps]

theorem mediaEnd_keeps (hk : Keeps z s) (k all) : Keeps z (mediaEnd s k all) := by
  grind [mediaEnd, setMedia_keeps, mediaGapEnd_keeps]

theorem mediaUnbindApply_keeps (hk : Keeps z s) (k) : Keeps z (mediaUnbindApply s k) := by
  grind [mediaUnbindApply, mediaEnd_keeps]

/-! ## The mixing fabric -/

theorem setAudLeg_keeps (hk : Keeps z s) (leg x) : Keeps z (setAudLeg s leg x) := by
  grind [setAudLeg]

theorem setAudConf_keeps (hk : Keeps z s) (c x) : Keeps z (setAudConf s c x) := by
  grind [setAudConf]

theorem audPrep_keeps (hk : Keeps z s) (leg) : Keeps z (audPrep s leg) := by
  grind [audPrep, setAudLeg_keeps]

theorem audMeasure_keeps (hk : Keeps z s) (leg) : Keeps z (audMeasure s leg) := by
  grind [audMeasure, setAudLeg_keeps]

theorem audUnmeasured_keeps (hk : Keeps z s) (leg) : Keeps z (audUnmeasured s leg) := by
  grind [audUnmeasured, setAudLeg_keeps]

theorem selectBus_keeps (hk : Keeps z s) (c b) : Keeps z (selectBus s c b) := by
  grind [selectBus, setAudConf_keeps]

theorem domUpdate_keeps (hk : Keeps z s) (c) : Keeps z (domUpdate s c) := by
  grind [domUpdate, setAudConf_keeps, foldl_keeps]

theorem selectAll_keeps (hk : Keeps z s) : Keeps z (selectAll s) := by
  grind [selectAll, selectBus_keeps, domUpdate_keeps, foldl_keeps]

theorem execActiveSpeakerSwap_keeps (hk : Keeps z s) (conf bus) : OutKeeps z (execActiveSpeakerSwap conf bus s) := by
  grind [execActiveSpeakerSwap, act_keeps, setAudConf_keeps]

theorem execDominantSpeakerChange_keeps (hk : Keeps z s) (conf) : OutKeeps z (execDominantSpeakerChange conf s) := by
  grind [execDominantSpeakerChange, act_keeps, raise_keeps, setAudConf_keeps]

theorem peerOpen_keeps (hk : Keeps z s) (c node n h) : Keeps z (peerOpen s c node n h) := by
  grind [peerOpen, setBit_keeps, bump_keeps, raise_keeps, setAudConf_keeps]

theorem peersOpen_keeps (hk : Keeps z s) (n) : Keeps z (peersOpen s n) := by
  grind [peersOpen, peerOpen_keeps, foldl_keeps]

theorem execPartForget_keeps (hk : Keeps z s) (conf node) : OutKeeps z (execPartForget conf node s) := by
  grind [execPartForget, act_keeps, raise_keeps, setAudConf_keeps]

theorem contribAll_keeps (hk : Keeps z s) (n c) : Keeps z (contribAll s n c) := by
  grind [contribAll, setAudLeg_keeps, foldl_keeps]

theorem toneDone_keeps (hk : Keeps z s) (tgt t reason) : Keeps z (toneDone s tgt t reason) := by
  grind [toneDone, raise_keeps]

theorem toneEnd_keeps (hk : Keeps z s) (tgt reason) : Keeps z (toneEnd s tgt reason) := by
  grind [toneEnd, toneDone_keeps]

theorem endingDrop_keeps (hk : Keeps z s) (tgt) : Keeps z (endingDrop s tgt) := by
  grind [endingDrop]

theorem tonePlayApply_keeps (hk : Keeps z s) (tgt t) : Keeps z (tonePlayApply s tgt t) := by
  grind [tonePlayApply, toneEnd_keeps]

theorem toneTick_keeps (hk : Keeps z s) (tgt) : Keeps z (toneTick s tgt).1 := by
  grind [toneTick, toneDone_keeps]

theorem injectSum_keeps (hk : Keeps z s) (n gain acc xs) : Keeps z (injectSum s n gain acc xs).1 := by
  fun_induction injectSum s n gain acc xs <;> grind [mediaPull_keeps]

theorem localSum_keeps (hk : Keeps z s) (n c b) : Keeps z (localSum s n c b).1 := by
  grind [localSum, toneTick_keeps, injectSum_keeps, foldl_keeps]

theorem mixBuses_keeps (hk : Keeps z s) (n c) : Keeps z (mixBuses s n c).1 := by
  have h1 (l : List Nat) : Keeps z (l.foldl (fun (r : State × List (List Int)) b =>
      ((localSum r.1 n c b).1, r.2 ++ [(localSum r.1 n c b).2])) (s, [])).1 :=
  by
    refine foldl_fst_keeps (p := (s, [])) hk (fun q b hq => ?_) l
    exact localSum_keeps hq ..
  have h2 : Keeps z ([0, 1, 2, 3].foldl (fun (r : State × List (List Int)) b =>
      ((localSum r.1 n c b).1, r.2 ++ [(localSum r.1 n c b).2])) (s, [])).1 := h1 _
  unfold mixBuses
  dsimp only
  generalize [0, 1, 2, 3].foldl (fun (r : State × List (List Int)) b =>
      ((localSum r.1 n c b).1, r.2 ++ [(localSum r.1 n c b).2])) (s, []) = q at h2 ⊢
  split
  · exact h2
  · exact setAudConf_keeps (ite_keeps h2 (setBit_keeps (bump_keeps h2 ..) _)) ..

theorem sinkInput_keeps (hk : Keeps z s) (n leg totals hops) : Keeps z (sinkInput s n leg totals hops).1 := by
  grind [sinkInput, setAudLeg_keeps, toneTick_keeps, injectSum_keeps]

theorem clipEvt_keeps (hk : Keeps z s) (leg k) : Keeps z (clipEvt s leg k) := by
  grind [clipEvt, setBit_keeps, bump_keeps, raiseLeg_keeps, setAudLeg_keeps]

theorem sinkPut_keeps (hk : Keeps z s) (leg ys) : Keeps z (sinkPut s leg ys) := by
  grind [sinkPut, mediaPush_keeps, setAudLeg_keeps, foldl_keeps]

theorem sinkFinish_keeps (hk : Keeps z s) (leg xs) : Keeps z (sinkFinish s leg xs) := by
  grind [sinkFinish, setAudLeg_keeps, clipEvt_keeps, sinkPut_keeps]

theorem quietAll_keeps (hk : Keeps z s) : Keeps z (quietAll s) := by
  grind [quietAll, setAudLeg_keeps, foldl_keeps]

theorem execSilHoldReached_keeps (hk : Keeps z s) (leg) : OutKeeps z (execSilHoldReached leg s) := by
  grind [execSilHoldReached, act_keeps, setAudLeg_keeps]

theorem groupGate_keeps (hk : Keeps z s) (g) : Keeps z (groupGate s g) := by
  grind [groupGate, setFld_keeps, raise_keeps]

theorem groupsGate_keeps (hk : Keeps z s) : Keeps z (groupsGate s) := by
  grind [groupsGate, groupGate_keeps, foldl_keeps]

theorem groupWake_keeps (hk : Keeps z s) (g) : Keeps z (groupWake s g) := by
  grind [groupWake, setFld_keeps, raise_keeps]

theorem groupsWake_keeps (hk : Keeps z s) : Keeps z (groupsWake s) := by
  grind [groupsWake, groupWake_keeps, foldl_keeps]

theorem execGroupWake_keeps (hk : Keeps z s) (g) : OutKeeps z (execGroupWake g s) := by
  grind [execGroupWake, act_keeps, groupWake_keeps]

/-! ## Audio work of a tick -/

theorem decodeAudio_keeps (hk : Keeps z s) (leg pcm ns) : Keeps z (decodeAudio s leg pcm ns) := by
  grind [decodeAudio, setAudLeg_keeps, audPrep_keeps, audUnmeasured_keeps]

theorem decodeLost_keeps (hk : Keeps z s) (leg) : Keeps z (decodeLost s leg) := by
  grind [decodeLost, setAudLeg_keeps]

theorem execAudioDecode_keeps (hk : Keeps z s) (hd pcm ns hits) : OutKeeps z (execAudioDecode hd pcm ns hits s) := by
  grind [execAudioDecode, act_keeps, eccHits_keeps, decodeAudio_keeps, decodeLost_keeps]

theorem mixSinks_keeps (hk : Keeps z s) (n late totals hops legs) : Keeps z (mixSinks s n late totals hops legs) := by
  fun_induction mixSinks s n late totals hops legs <;> grind [setAudLeg_keeps, endingDrop_keeps, sinkInput_keeps, sinkFinish_keeps]

theorem mixCaptures_keeps (hk : Keeps z s) (n c totals) : Keeps z (mixCaptures s n c totals) := by
  grind [mixCaptures, mediaPush_keeps, foldl_keeps]

theorem mixConf_keeps (hk : Keeps z s) (late n c) : Keeps z (mixConf late s n c) := by
  unfold mixConf
  grind [setAudConf_keeps, contribAll_keeps, mixBuses_keeps, mixSinks_keeps, mixCaptures_keeps]

theorem measureAll_keeps (hk : Keeps z s) (unmeas) : Keeps z (measureAll unmeas s) := by
  grind [measureAll, audPrep_keeps, audMeasure_keeps, audUnmeasured_keeps, foldl_keeps]

theorem mixAll_keeps (hk : Keeps z s) (late unmeas) : Keeps z (mixAll late unmeas s) := by
  grind [mixAll, mixConf_keeps, measureAll_keeps, foldl_keeps]

theorem mixNote_keeps (hk : Keeps z s) (late) : Keeps z (mixNote s late) := by
  refine eccHits_keeps (foldl_keeps (foldl_keeps hk ?_ _) ?_ _) _ <;> exact fun _ _ ht => ht

theorem execMix_keeps (hk : Keeps z s) (late) : OutKeeps z (execMix late s) := by
  grind [execMix, act_keeps, mixAll_keeps, mixNote_keeps]

theorem execAudioEncode_keeps (hk : Keeps z s) (hd pay sid hits) : OutKeeps z (execAudioEncode hd pay sid hits s) := by
  grind [execAudioEncode, act_keeps, eccHits_keeps, setAudLeg_keeps]

theorem decodesEnd_keeps (hk : Keeps z s) (leg) : Keeps z (decodesEnd s leg) := by
  grind [decodesEnd, overrun_keeps, setAudLeg_keeps, foldl_keeps]

theorem measureEnd_keeps (hk : Keeps z s) (leg) : Keeps z (measureEnd s leg) := by
  grind [measureEnd, overrun_keeps, audMeasure_keeps, audUnmeasured_keeps]

theorem audioEnd_keeps (hk : Keeps z s) : Keeps z (audioEnd s) := by
  refine foldl_keeps hk (fun t p ht => ?_) _
  have h1 : Keeps z (measureEnd (audPrep (decodesEnd t p.1) p.1) p.1) := measureEnd_keeps (audPrep_keeps (decodesEnd_keeps ht _) _) _
  extract_lets leg s1 s2 s3
  have h2 : Keeps z s2 := sinkPut_keeps h1 ..
  have h3 : Keeps z s3 := ite_keeps (ite_keeps h2 (overrun_keeps h2 ..)) h1
  exact ite_keeps (overrun_keeps h3 ..) h3

theorem ownPacket_keeps (hk : Keeps z s) (hd marker pt ts pay ord) : Keeps z (ownPacket s hd marker pt ts pay ord).1 := by
  grind [ownPacket, txRefused_keeps, rtpFrame_keeps]

theorem ownAudio_keeps (hk : Keeps z s) (leg) : Keeps z (ownAudio s leg).1 := by
  grind [ownAudio, setAudLeg_keeps, ownPacket_keeps]

theorem routeStage_keeps (hk : Keeps z s) (leg r k) : Keeps z (routeStage s leg r k).1 := by
  grind [routeStage, setAudLeg_keeps]

theorem routesApply_keeps (hk : Keeps z s) : Keeps z (routesApply s) := by
  grind [routesApply, foldl_keeps]

theorem audStop_keeps (hk : Keeps z s) (leg) : Keeps z (audStop s leg) := by
  grind [audStop, mediaUnbindApply_keeps, setAudLeg_keeps, toneEnd_keeps, endingDrop_keeps, foldl_keeps]

theorem audBound_keeps (hk : Keeps z s) (hd) : Keeps z (audBound s hd) := by
  grind [audBound, setAudLeg_keeps]

theorem execAudRouteSet_keeps (hk : Keeps z s) (h leg contrib listen minus force dtx xf c0 c1 c2 c3 l0 l1 l2 l3) :
    OutKeeps z (execAudRouteSet h leg contrib listen minus force dtx xf c0 c1 c2 c3 l0 l1 l2 l3 s) := by
  grind [execAudRouteSet, act_keeps, command_keeps, routeStage_keeps]

theorem execAudBusSetting_keeps (hk : Keeps z s) (h bus conf n) : OutKeeps z (execAudBusSetting h bus conf n s) := by
  grind [execAudBusSetting, act_keeps, command_keeps, stage_keeps]

theorem execAudRouteClear_keeps (hk : Keeps z s) (h leg xf) : OutKeeps z (execAudRouteClear h leg xf s) := by
  grind [execAudRouteClear, act_keeps, command_keeps, routeStage_keeps]

theorem execAudSinkDyn_keeps (hk : Keeps z s) (h compEn limEn leg thr ratio att rel makeup ceil limRel) :
    OutKeeps z (execAudSinkDyn h compEn limEn leg thr ratio att rel makeup ceil limRel s) := by
  grind [execAudSinkDyn, act_keeps, command_keeps, stage_keeps]

theorem execAudTonePlay_keeps (hk : Keeps z s) (h onBus replace bus id tone rep onT offT f1 f2 l1 l2) :
    OutKeeps z (execAudTonePlay h onBus replace bus id tone rep onT offT f1 f2 l1 l2 s) := by
  grind [execAudTonePlay, act_keeps, command_keeps, stage_keeps]

theorem execAudToneStop_keeps (hk : Keeps z s) (h onBus bus id) : OutKeeps z (execAudToneStop h onBus bus id s) := by
  grind [execAudToneStop, act_keeps, command_keeps, stage_keeps]

theorem execAudLevels_keeps (hk : Keeps z s) (h clr leg) : OutKeeps z (execAudLevels h clr leg s) := by
  grind [execAudLevels, act_keeps, command_keeps, setAudLeg_keeps]

theorem execAudMediaBind_keeps (hk : Keeps z s) (h m point id bus gain) : OutKeeps z (execAudMediaBind h m point id bus gain s)
    := by
  grind [execAudMediaBind, act_keeps, command_keeps, stage_keeps, setMedia_keeps]

theorem execAudMediaUnbind_keeps (hk : Keeps z s) (h m) : OutKeeps z (execAudMediaUnbind h m s) := by
  grind [execAudMediaUnbind, act_keeps, command_keeps, stage_keeps]

/-! ## A Brush core -/

theorem pointDone_keeps (hk : Keeps z s) (k xs) : Keeps z (pointDone s k xs) := by
  grind [pointDone, setAudLeg_keeps, sinkFinish_keeps]

theorem abandon_keeps (hk : Keeps z s) (c cause) : Keeps z (abandon s c cause) := by
  unfold abandon
  split
  · exact hk
  · next r hr =>
    extract_lets +onlyGivenNames e s1
    have h1 : Keeps z s1 := setCore_keeps hk c (coreOf_banksOk hk c)
    clear_value s1
    split
    · exact h1
    · next i hi =>
      extract_lets +onlyGivenNames i1 i2 s2
      have hw : WinsOk z i2.x i2.y i2.studio := winsOk_xfers (tget_winsOk h1 hi) r.xfers
      have h2 : Keeps z s2 := setBit_keeps (bump_keeps h1 ..) _
      clear_value i1 i2 s2
      extract_lets s3 s4
      have h3 : Keeps z s3 := ite_keeps (setInst_keeps h2 _ hw)
        (raiseLeg_keeps (setInst_keeps (i := { i2 with faultSince := 0, faultAt := _ }) h2 _ hw) ..)
      clear_value s3
      have h4 : Keeps z s4 := ite_keeps (overrun_keeps h3 ..) h3
      exact ite_keeps h4 (pointDone_keeps h4 ..)

theorem abandonFetch_keeps (hk : Keeps z s) (c) : Keeps z (abandonFetch s c) := by
  unfold abandonFetch
  dsimp only
  repeat' split
  all_goals grind [setCore_keeps, setInst_keeps, pointDone_keeps, foldl_keeps, coreOf_banksOk, tget_winsOk, winsOk_setWords,
    winsOk_xfers, winsOk_xferMove]

theorem haltDone_keeps (hk : Keeps z s) (c r) {i : BInst} (hi : WinsOk z i.x i.y i.studio) (p) : Keeps z (haltDone s c r i p) := by
  have hk1 : Keeps z (setCore s c { coreOf s c with run := none }) := setCore_keeps hk c (coreOf_banksOk hk c)
  have hk2 (j : BInst) (hj : WinsOk z j.x j.y j.studio) (xs) :
      Keeps z (pointDone (setInst (setCore s c { coreOf s c with run := none }) r.key j) r.key xs) :=
    pointDone_keeps (setInst_keeps hk1 r.key hj) ..
  exact ite_keeps (hk2 { i with aborted := true, maxCyc := max i.maxCyc r.cyc } hi _)
    (hk2 { i with aborted := false, consec := 0, maxCyc := max i.maxCyc r.cyc } hi _)

theorem sigDo_keeps (hk : Keeps z s) (key k) : Keeps z (sigDo s key k) := by
  grind [sigDo, setBit_keeps, raiseLeg_keeps, setInst_keeps, coreOf_banksOk, tget_winsOk]

theorem brushOp_keeps (hk : Keeps z s) (c op two bad hits) : Keeps z (brushOp s c op two bad hits) := by
  have hb := coreOf_banksOk hk c
  have hk1 : Keeps z (eccHits s hits) := eccHits_keeps hk hits
  unfold brushOp
  dsimp only
  split
  · exact hk
  · next r hr =>
    split
    · exact hk
    · next i hi =>
      have hw := tget_winsOk hk hi
      split
      · exact hk
      · next p hp =>
        refine ite_keeps hk ?_
        split
        · exact abandon_keeps hk ..
        · next hf =>
          refine ite_keeps (setCore_keeps hk c hb) ?_
          have hk2 (nx r') : Keeps z (setInst (setCore (eccHits s hits) c { coreOf s c with
              act := (op.flow (op.mems.foldl (fun k m => k.step m.1.p m.1.m) (op.run (coreOf s c).act (op.clean (coreOf s c).act i bad)).1)
                nx).1
              run := some r' }) r.key (op.run (coreOf s c).act i).2) :=
  by
            refine setInst_keeps (setCore_keeps hk1 c fun hz => ?_) r.key (winsOk_run hw op _)
            exact ⟨bankWf_flow nx hf ((shape_steps _ _).trans (shape_run ..)) (hb hz).1, (hb hz).2⟩
          cases op with
          | halt => exact haltDone_keeps (hk2 _ _) _ _ (winsOk_run hw .halt _) _
          | sig => exact sigDo_keeps (hk2 _ _) ..
          | _ => exact hk2 _ _

theorem storeRewrite_keeps (hk : Keeps z s) (hits) : Keeps z (storeRewrite s hits) := by
  grind [storeRewrite, poisonSet_keeps, foldl_keeps]

theorem brushIssue_keeps (hk : Keeps z s) (b op) : Keeps z (brushIssue s b op) := by
  grind [brushIssue, eccHits_keeps, abandonFetch_keeps, brushOp_keeps, storeRewrite_keeps]

theorem xferComplete_keeps (hk : Keeps z s) (c bad hits) : Keeps z (xferComplete s c bad hits) := by
  unfold xferComplete
  dsimp only
  repeat' split
  all_goals grind [eccHits_keeps, setCore_keeps, setInst_keeps, brushOp_keeps, coreOf_banksOk, tget_winsOk, winsOk_setWords,
    winsOk_xfers, winsOk_xferMove]

theorem arrivalBank_wf (s : State) (p : BProg) (i : BInst) : BankWf (arrivalBank s p i) := by
  simp [BankWf, arrivalBank]

theorem arrive_keeps (hk : Keeps z s) (k) : Keeps z (arrive s k) := by
  unfold arrive
  split
  · exact hk
  · next i hi =>
    have hw := tget_winsOk hk hi
    have hb := coreOf_banksOk hk i.core
    split
    · exact hk
    · next p hp =>
      extract_lets core s1
      have h1 : Keeps z s1 := ite_keeps hk (ite_keeps (audPrep_keeps hk _) hk)
      refine ite_keeps hk ?_
      split
      · exact h1
      · next xs hx =>
        extract_lets bank j
        have h2 : Keeps z (setInst s1 k j) := setInst_keeps h1 k (winsOk_setWords hw _ _ _)
        exact setCore_keeps h2 i.core fun hz => ⟨arrivalBank_wf .., (hb hz).1⟩

/-! ## The Brush instructions -/

theorem execMove_keeps (hk : Keeps z s) (b dst src) : OutKeeps z (execMove b dst src s) := by
  grind [execMove, act_keeps, brushIssue_keeps]

theorem execLdi_keeps (hk : Keeps z s) (b dst imm) : OutKeeps z (execLdi b dst imm s) := by
  grind [execLdi, act_keeps, brushIssue_keeps]

theorem execLdH_keeps (hk : Keeps z s) (b d e) : OutKeeps z (execLdH b d e s) := by
  grind [execLdH, act_keeps, brushIssue_keeps]

theorem execLdL_keeps (hk : Keeps z s) (b d e) : OutKeeps z (execLdL b d e s) := by
  grind [execLdL, act_keeps, brushIssue_keeps]

theorem execStH_keeps (hk : Keeps z s) (b d e) : OutKeeps z (execStH b d e s) := by
  grind [execStH, act_keeps, brushIssue_keeps]

theorem execStL_keeps (hk : Keeps z s) (b d e) : OutKeeps z (execStL b d e s) := by
  grind [execStL, act_keeps, brushIssue_keeps]

theorem execLdbus_keeps (hk : Keeps z s) (b n e) : OutKeeps z (execLdbus b n e s) := by
  grind [execLdbus, act_keeps, brushIssue_keeps]

theorem execStbus_keeps (hk : Keeps z s) (b n e) : OutKeeps z (execStbus b n e s) := by
  grind [execStbus, act_keeps, brushIssue_keeps]

theorem execMovd_keeps (hk : Keeps z s) (b d n) : OutKeeps z (execMovd b d n s) := by
  grind [execMovd, act_keeps, brushIssue_keeps]

theorem execMovdR_keeps (hk : Keeps z s) (b d n) : OutKeeps z (execMovdR b d n s) := by
  grind [execMovdR, act_keeps, brushIssue_keeps]

theorem execMul_keeps (hk : Keeps z s) (b n x y) : OutKeeps z (execMul b n x y s) := by
  grind [execMul, act_keeps, brushIssue_keeps]

theorem execMla_keeps (hk : Keeps z s) (b n x y) : OutKeeps z (execMla b n x y s) := by
  grind [execMla, act_keeps, brushIssue_keeps]

theorem execMls_keeps (hk : Keeps z s) (b n x y) : OutKeeps z (execMls b n x y s) := by
  grind [execMls, act_keeps, brushIssue_keeps]

theorem execMulR_keeps (hk : Keeps z s) (b n x y) : OutKeeps z (execMulR b n x y s) := by
  grind [execMulR, act_keeps, brushIssue_keeps]

theorem execMlaR_keeps (hk : Keeps z s) (b n x y) : OutKeeps z (execMlaR b n x y s) := by
  grind [execMlaR, act_keeps, brushIssue_keeps]

theorem execMlaM_keeps (hk : Keeps z s) (b n x y) : OutKeeps z (execMlaM b n x y s) := by
  grind [execMlaM, act_keeps, brushIssue_keeps]

theorem execMlsM_keeps (hk : Keeps z s) (b n x y) : OutKeeps z (execMlsM b n x y s) := by
  grind [execMlsM, act_keeps, brushIssue_keeps]

theorem execMla2_keeps (hk : Keeps z s) (b n u x m v y) : OutKeeps z (execMla2 b n u x m v y s) := by
  grind [execMla2, act_keeps, brushIssue_keeps]

theorem execAdd_keeps (hk : Keeps z s) (b n m) : OutKeeps z (execAdd b n m s) := by
  grind [execAdd, act_keeps, brushIssue_keeps]

theorem execSub_keeps (hk : Keeps z s) (b n m) : OutKeeps z (execSub b n m s) := by
  grind [execSub, act_keeps, brushIssue_keeps]

theorem execNeg_keeps (hk : Keeps z s) (b n) : OutKeeps z (execNeg b n s) := by
  grind [execNeg, act_keeps, brushIssue_keeps]

theorem execAbs_keeps (hk : Keeps z s) (b n) : OutKeeps z (execAbs b n s) := by
  grind [execAbs, act_keeps, brushIssue_keeps]

theorem execClr_keeps (hk : Keeps z s) (b n) : OutKeeps z (execClr b n s) := by
  grind [execClr, act_keeps, brushIssue_keeps]

theorem execCmp_keeps (hk : Keeps z s) (b n m) : OutKeeps z (execCmp b n m s) := by
  grind [execCmp, act_keeps, brushIssue_keeps]

theorem execShl_keeps (hk : Keeps z s) (b n k) : OutKeeps z (execShl b n k s) := by
  grind [execShl, act_keeps, brushIssue_keeps]

theorem execShr_keeps (hk : Keeps z s) (b n k) : OutKeeps z (execShr b n k s) := by
  grind [execShr, act_keeps, brushIssue_keeps]

theorem execRndc_keeps (hk : Keeps z s) (b n) : OutKeeps z (execRndc b n s) := by
  grind [execRndc, act_keeps, brushIssue_keeps]

theorem execSat_keeps (hk : Keeps z s) (b n) : OutKeeps z (execSat b n s) := by
  grind [execSat, act_keeps, brushIssue_keeps]

theorem execCls_keeps (hk : Keeps z s) (b d n) : OutKeeps z (execCls b d n s) := by
  grind [execCls, act_keeps, brushIssue_keeps]

theorem execAddd_keeps (hk : Keeps z s) (b d x y) : OutKeeps z (execAddd b d x y s) := by
  grind [execAddd, act_keeps, brushIssue_keeps]

theorem execSubd_keeps (hk : Keeps z s) (b d x y) : OutKeeps z (execSubd b d x y s) := by
  grind [execSubd, act_keeps, brushIssue_keeps]

theorem execAnd_keeps (hk : Keeps z s) (b d x y) : OutKeeps z (execAnd b d x y s) := by
  grind [execAnd, act_keeps, brushIssue_keeps]

theorem execOr_keeps (hk : Keeps z s) (b d x y) : OutKeeps z (execOr b d x y s) := by
  grind [execOr, act_keeps, brushIssue_keeps]

theorem execXor_keeps (hk : Keeps z s) (b d x y) : OutKeeps z (execXor b d x y s) := by
  grind [execXor, act_keeps, brushIssue_keeps]

theorem execNot_keeps (hk : Keeps z s) (b d x) : OutKeeps z (execNot b d x s) := by
  grind [execNot, act_keeps, brushIssue_keeps]

theorem execLsl_keeps (hk : Keeps z s) (b d x k) : OutKeeps z (execLsl b d x k s) := by
  grind [execLsl, act_keeps, brushIssue_keeps]

theorem execLsr_keeps (hk : Keeps z s) (b d x k) : OutKeeps z (execLsr b d x k s) := by
  grind [execLsr, act_keeps, brushIssue_keeps]

theorem execAsrd_keeps (hk : Keeps z s) (b d x k) : OutKeeps z (execAsrd b d x k s) := by
  grind [execAsrd, act_keeps, brushIssue_keeps]

theorem execCmpd_keeps (hk : Keeps z s) (b x y) : OutKeeps z (execCmpd b x y s) := by
  grind [execCmpd, act_keeps, brushIssue_keeps]

theorem execLea_keeps (hk : Keeps z s) (b p m) : OutKeeps z (execLea b p m s) := by
  grind [execLea, act_keeps, brushIssue_keeps]

theorem execBr_keeps (hk : Keeps z s) (b t) : OutKeeps z (execBr b t s) := by
  grind [execBr, act_keeps, brushIssue_keeps]

theorem execBrCond_keeps (hk : Keeps z s) (b c t) : OutKeeps z (execBrCond b c t s) := by
  grind [execBrCond, act_keeps, brushIssue_keeps]

theorem execCall_keeps (hk : Keeps z s) (b t) : OutKeeps z (execCall b t s) := by
  grind [execCall, act_keeps, brushIssue_keeps]

theorem execRet_keeps (hk : Keeps z s) (b) : OutKeeps z (execRet b s) := by
  grind [execRet, act_keeps, brushIssue_keeps]

theorem execLoop_keeps (hk : Keeps z s) (b n e) : OutKeeps z (execLoop b n e s) := by
  grind [execLoop, act_keeps, brushIssue_keeps]

theorem execLeave_keeps (hk : Keeps z s) (b) : OutKeeps z (execLeave b s) := by
  grind [execLeave, act_keeps, brushIssue_keeps]

theorem execClrf_keeps (hk : Keeps z s) (b) : OutKeeps z (execClrf b s) := by
  grind [execClrf, act_keeps, brushIssue_keeps]

theorem execNop_keeps (hk : Keeps z s) (b) : OutKeeps z (execNop b s) := by
  grind [execNop, act_keeps, brushIssue_keeps]

theorem execXferR_keeps (hk : Keeps z s) (b d p y len) : OutKeeps z (execXferR b d p y len s) := by
  grind [execXferR, act_keeps, brushIssue_keeps]

theorem execXferW_keeps (hk : Keeps z s) (b d p y len) : OutKeeps z (execXferW b d p y len s) := by
  grind [execXferW, act_keeps, brushIssue_keeps]

theorem execWait_keeps (hk : Keeps z s) (b) : OutKeeps z (execWait b s) := by
  grind [execWait, act_keeps, brushIssue_keeps]

theorem execSig_keeps (hk : Keeps z s) (b) : OutKeeps z (execSig b s) := by
  grind [execSig, act_keeps, brushIssue_keeps]

theorem execHalt_keeps (hk : Keeps z s) (b) : OutKeeps z (execHalt b s) := by
  grind [execHalt, act_keeps, brushIssue_keeps]

/-! ## Brush programs and instances -/

theorem storesWrite_keeps (hk : Keeps z s) : Keeps z (storesWrite s) := by
  grind [storesWrite, foldl_keeps]

theorem progPut_keeps (hk : Keeps z s) (id p) : Keeps z (progPut s id p) := by
  grind [progPut, storesWrite_keeps, foldl_keeps]

theorem execBrsProgLoad_keeps (hk : Keeps z s) (h prog addr dma bad) : OutKeeps z (execBrsProgLoad h prog addr dma bad s) := by
  grind [execBrsProgLoad, act_keeps, command_keeps, progPut_keeps]

theorem execBrsProgUnload_keeps (hk : Keeps z s) (h prog) : OutKeeps z (execBrsProgUnload h prog s) := by
  grind [execBrsProgUnload, act_keeps, command_keeps]

theorem instFor_winsOk (hk : Keeps z s) {fn pt leg : Nat} {i : BInst} (hi : instFor s fn pt leg = .ok i) :
    WinsOk z i.x i.y i.studio := by
  unfold instFor at hi
  grind [tget_winsOk]

theorem taskBind_keeps (hk : Keeps z s) (h prog pt leg ps) : Keeps z (taskBind h prog pt leg ps s).1 := by
  have h1 (c : Nat) (x y) : Keeps z (setCore s c { coreOf s c with x := x, y := y }) := setCore_keeps hk c (coreOf_banksOk hk c)
  have h2 (c : Nat) (x y a) : Keeps z { setCore s c { coreOf s c with x := x, y := y } with adm := a } := h1 c x y
  have h3 (s : State) (hk : Keeps z s) (k : Nat) (i : BInst) (hi : WinsOk z i.x i.y i.studio) (xi yi : List Word) :
      Keeps z (setInst s k ((i.setWords false 0 xi).setWords true 0 yi)) :=
    setInst_keeps hk k (winsOk_setWords (winsOk_setWords hi _ _ _) _ _ _)
  unfold taskBind
  dsimp only
  repeat' split
  all_goals try exact hk
  next c _ _ =>
  exact stage_keeps (h3 _ (h2 c ..) _ { prog := _, core := _, params := _, xb := _, yb := _ } winsOk_nil ..) ..

theorem execBrsTaskBind_keeps (hk : Keeps z s) (h prog pt leg p0 p1 p2 p3) :
    OutKeeps z (execBrsTaskBind h prog pt leg p0 p1 p2 p3 s) := by
  grind [execBrsTaskBind, act_keeps, command_keeps, taskBind_keeps]

theorem instEnd_keeps (hk : Keeps z s) (k e) : Keeps z (instEnd s k e) := by
  grind [instEnd, stage_keeps, stageEnd_keeps, setInst_keeps, coreOf_banksOk, tget_winsOk]

theorem execBrsTaskUnbind_keeps (hk : Keeps z s) (h pt leg) : OutKeeps z (execBrsTaskUnbind h pt leg s) := by
  grind [execBrsTaskUnbind, act_keeps, command_keeps, instEnd_keeps]

theorem execBrsStats_keeps (hk : Keeps z s) (h clr pt leg) : OutKeeps z (execBrsStats h clr pt leg s) := by
  refine act_fresh_keeps hk fun s hk => command_keeps hk _ _ _ fun t ht => ?_
  split
  · exact ht
  · next i hi =>
    have hw := instFor_winsOk ht hi
    extract_lets w s1
    have h1 : Keeps z (setInst t (4 * leg.toNat + pt.toNat) { i with nInv := 0, nAband := 0, maxCyc := 0, sigDrop := 0 }) :=
      setInst_keeps ht _ hw
    exact ite_keeps h1 ht

theorem brsStartApply_keeps (hk : Keeps z s) (k) : Keeps z (brsStartApply s k) := tmod_insts_kept hk k fun _ => ⟨rfl, rfl, rfl⟩

theorem brsStopApply_keeps (hk : Keeps z s) (k) : Keeps z (brsStopApply s k) := tmod_insts_kept hk k fun _ => ⟨rfl, rfl, rfl⟩

theorem brsGoneApply_keeps (hk : Keeps z s) (k) : Keeps z (brsGoneApply s k) := by
  unfold brsGoneApply
  split
  · next i hi =>
    have hc := setCore_keeps (x := { coreOf s i.core with
      x := winGive (coreOf s i.core).x i.x i.xb, y := winGive (coreOf s i.core).y i.y i.yb }) hk i.core (coreOf_banksOk hk i.core)
    exact tdel_insts_kept hc k
  · exact tdel_insts_kept hk k

theorem execTaskArrival_keeps (hk : Keeps z s) (leg pt) : OutKeeps z (execTaskArrival leg pt s) := by
  grind [execTaskArrival, act_keeps, arrive_keeps]

theorem execXferComplete_keeps (hk : Keeps z s) (core bad hits) : OutKeeps z (execXferComplete core bad hits s) := by
  grind [execXferComplete, act_keeps, xferComplete_keeps]

theorem execWaitTimeout_keeps (hk : Keeps z s) (core) : OutKeeps z (execWaitTimeout core s) := by
  unfold execWaitTimeout
  refine act_keeps ?_
  dsimp only
  (repeat' split) <;> grind [act_keeps, cycles_keeps, setCore_keeps, abandon_keeps, coreOf_banksOk, tget_winsOk]

theorem execCycleBudgetReached_keeps (hk : Keeps z s) (core) : OutKeeps z (execCycleBudgetReached core s) := by
  grind [execCycleBudgetReached, act_keeps, setCore_keeps, abandon_keeps, coreOf_banksOk, tget_winsOk]

theorem execInstanceSuspend_keeps (hk : Keeps z s) (leg pt) : OutKeeps z (execInstanceSuspend leg pt s) := by
  grind [execInstanceSuspend, act_keeps, setBit_keeps, raiseLeg_keeps, setInst_keeps, coreOf_banksOk, tget_winsOk]

theorem brushEnd_keeps (hk : Keeps z s) : Keeps z (brushEnd s) := by
  grind [brushEnd, overrun_keeps, abandon_keeps, foldl_keeps]

/-! ## The calibration commands and the live-trim slots -/

theorem execCalGlazeLoad_keeps (hk : Keeps z s) (h clear addr dma) : OutKeeps z (execCalGlazeLoad h clear addr dma s) := by
  grind [execCalGlazeLoad, act_keeps, command_keeps]

theorem execCalGlazeRead_keeps (hk : Keeps z s) (h sel addr) : OutKeeps z (execCalGlazeRead h sel addr s) := by
  grind [execCalGlazeRead, act_keeps, hostWrites_keeps, command_keeps]

theorem execCalLiveRead_keeps (hk : Keeps z s) (h cls first count addr) : OutKeeps z (execCalLiveRead h cls first count addr s)
    := by
  grind [execCalLiveRead, act_keeps, hostWrites_keeps, command_keeps]

theorem execCalGessoRead_keeps (hk : Keeps z s) (h cls idx addr) : OutKeeps z (execCalGessoRead h cls idx addr s) := by
  grind [execCalGessoRead, act_keeps, hostWrites_keeps, command_keeps]

theorem trimSlot_keeps (hk : Keeps z s) (c i) : ∀ t, trimSlot s c i = some t → Keeps z t := by
  grind [trimSlot]

theorem execSerdesTrimSlot_keeps (hk : Keeps z s) (msh lane cand v h v0 h0) :
    OutKeeps z (execSerdesTrimSlot msh lane cand v h v0 h0 s) := by
  refine act_fresh_keeps hk fun s hk => ?_
  extract_lets c
  split
  · exact hk
  · next t ht =>
    have h1 : Keeps z t := trimSlot_keeps hk _ _ _ ht
    split
    · exact hk
    · extract_lets was t2
      refine (foldl_keeps h1 (fun u j hu => ?_) _ : Keeps z t2)
      split
      · exact trimItem_keeps hu ..
      · exact hu

theorem execSensorTrimSlot_keeps (hk : Keeps z s) (temps volts osc) : OutKeeps z (execSensorTrimSlot temps volts osc s) := by
  refine act_fresh_keeps hk fun s hk => ?_
  split
  · exact hk
  · next t ht =>
    have h1 : Keeps z t := by grind [trimSlot_keeps]
    extract_lets put
    have hput (c vs u) (hu : Keeps z u) : Keeps z (put c vs u) := foldl_keeps hu (fun v k hv => trimItem_keeps hv ..) _
    exact hput _ _ _ (hput _ _ _ (hput _ _ _ (advanceTo_keeps h1 _)))

/-! ## Video decode -/

theorem setDec_keeps (hk : Keeps z s) (k x) : Keeps z (setDec s k x) := by
  grind [setDec]

theorem decKp_keeps (hk : Keeps z s) (x) : Keeps z (decKp s x) := by
  grind [decKp, kpRequest_keeps]

theorem vidRelease_keeps (hk : Keeps z s) (hd rel) : Keeps z (vidRelease s hd rel) := by
  grind [vidRelease, setDec_keeps, foldl_keeps]

theorem vidFlush_keeps (hk : Keeps z s) (hd) : Keeps z (vidFlush s hd) := by
  grind [vidFlush, setDec_keeps, decKp_keeps]

theorem vidDamage_keeps (hk : Keeps z s) (k cause tick taint) : Keeps z (vidDamage s k cause tick taint) := by
  grind [vidDamage, setBit_keeps, bump_keeps, raise_keeps, setDec_keeps, decKp_keeps]

theorem vidDamages_keeps (hk : Keeps z s) (k tick cs) : Keeps z (vidDamages s k tick cs) := by
  grind [vidDamages, vidDamage_keeps, foldl_keeps]

theorem dropHead_keeps (hk : Keeps z s) (k) : Keeps z (dropHead s k) := by
  grind [dropHead]

theorem rejectHead_keeps (hk : Keeps z s) (k cause tick taint) : Keeps z (rejectHead s k cause tick taint) := by
  grind [rejectHead, setDec_keeps, decKp_keeps, vidDamage_keeps, dropHead_keeps]

theorem finishHead_keeps (hk : Keeps z s) (k f v bad cs) : Keeps z (finishHead s k f v bad cs) := by
  grind [finishHead, raise_keeps, setDec_keeps, vidDamages_keeps]

theorem boundHits_keeps (hk : Keeps z s) (v a b) : Keeps z (boundHits s v a b) := by
  grind [boundHits, setBit_keeps, bump_keeps]

theorem startHead_keeps (hk : Keeps z s) (k f v) : Keeps z (startHead s k f v) := by
  grind [startHead, vidDamage_keeps, rejectHead_keeps]

theorem decRun_keeps (hk : Keeps z s) (k px fs n) : Keeps z (decRun s k px fs n) := by
  fun_induction decRun s k px fs n <;> grind [setDec_keeps, dropHead_keeps, finishHead_keeps, boundHits_keeps, startHead_keeps]

theorem decErrors_keeps (hk : Keeps z s) (k hits) : Keeps z (decErrors s k hits) := by
  grind [decErrors, eccHits_keeps, rejectHead_keeps]

theorem execVideoDecodeSlice_keeps (hk : Keeps z s) (ctx facts hits) : OutKeeps z (execVideoDecodeSlice ctx facts hits s) := by
  grind [execVideoDecodeSlice, act_keeps, setDec_keeps, decRun_keeps, decErrors_keeps]

theorem abandonHead_keeps (hk : Keeps z s) (count k) : Keeps z (abandonHead count s k) := by
  unfold abandonHead
  split
  · exact hk
  · next x hx =>
    split
    · exact hk
    · next f q hf =>
      extract_lets +onlyGivenNames s1
      have h1 : Keeps z s1 := ite_keeps (overrun_keeps hk ..) hk
      clear_value s1
      split
      · exact dropHead_keeps h1 _
      · extract_lets +onlyGivenNames r
        split
        · exact finishHead_keeps h1 ..
        · extract_lets +onlyGivenNames s2
          have h2 : Keeps z s2 := ite_keeps (vidDamage_keeps h1 ..) h1
          clear_value s2
          split
          extract_lets +onlyGivenNames v e s3
          have h3 : Keeps z s3 := h2
          exact finishHead_keeps h3 ..

theorem abandonLate_keeps (hk : Keeps z s) (count k p n) : Keeps z (abandonLate count s k p n) := by
  fun_induction abandonLate count s k p n <;> grind [abandonHead_keeps]

theorem mediaPicture_keeps (hk : Keeps z s) (m pic) : Keeps z (mediaPicture s m pic) := by
  unfold mediaPicture
  dsimp only
  repeat' split
  all_goals grind [fnWrites_keeps, setMedia_keeps, mediaGap_keeps, foldl_keeps]

theorem decCapture_keeps (hk : Keeps z s) (k pic) : Keeps z (decCapture s k pic) := by
  grind [decCapture, mediaPicture_keeps, foldl_keeps]

theorem vidInject_keeps (hk : Keeps z s) : Keeps z (vidInject s) := by
  grind [vidInject, setMedia_keeps, mediaGap_keeps, foldl_keeps]

theorem decEnd_keeps (hk : Keeps z s) : Keeps z (decEnd s) := by
  grind [decEnd, abandonHead_keeps, abandonLate_keeps, decCapture_keeps, foldl_keeps]

theorem decSkip_keeps (hk : Keeps z s) (n k x) : Keeps z (decSkip n s k x) := by
  grind [decSkip, abandonHead_keeps, abandonLate_keeps, foldl_keeps]

theorem kpTimeouts_keeps (hk : Keeps z s) (hd i) : Keeps z (kpTimeouts s hd i) := by
  grind [kpTimeouts, raise_keeps, setSub_keeps, foldl_keeps]

theorem execKpGapEnd_keeps (hk : Keeps z s) (hd i) : OutKeeps z (execKpGapEnd hd i s) := by
  grind [execKpGapEnd, act_keeps, kpTimeouts_keeps]

/-! ## Video encode -/

theorem setEnc_keeps (hk : Keeps z s) (k x) : Keeps z (setEnc s k x) := by
  grind [setEnc]

theorem modEnc_keeps (hk : Keeps z s) (k f) : Keeps z (modEnc s k f) := by
  grind [modEnc]

theorem encLimits_keeps (hk : Keeps z s) (k) : Keeps z (encLimits s k) := by
  grind [encLimits, modEnc_keeps]

theorem encRateApply_keeps (hk : Keeps z s) (k r) : Keeps z (encRateApply s k r) := by
  grind [encRateApply, modEnc_keeps]

theorem keyRequest_keeps (hk : Keeps z s) (k reason) : Keeps z (keyRequest s k reason).1 := by
  grind [keyRequest, setEnc_keeps]

theorem encFeedback_keeps (hk : Keeps z s) (leg targets) : Keeps z (encFeedback s leg targets) := by
  grind [encFeedback, keyRequest_keeps, foldl_keeps]

theorem execKeyIntExpiry_keeps (hk : Keeps z s) (ctx) : OutKeeps z (execKeyIntExpiry ctx s) := by
  grind [execKeyIntExpiry, act_keeps, setEnc_keeps]

theorem encCapture_keeps (hk : Keeps z s) (k pic) : Keeps z (encCapture s k pic) := by
  grind [encCapture, mediaPicture_keeps, foldl_keeps]

theorem encStart_keeps (hk : Keeps z s) (n k) : Keeps z (encStart s n k) := by
  unfold encStart
  split
  · exact hk
  · next x hx =>
    split
    · exact hk
    · split
      · exact hk
      · next r hr =>
        extract_lets why key i tid b pic x' f s1
        have h1 : Keeps z s1 := encCapture_keeps (setEnc_keeps hk ..) ..
        clear_value s1 why
        cases why with
        | none => exact h1
        | some w => exact raise_keeps h1 ..

theorem encStartAll_keeps (hk : Keeps z s) : Keeps z (encStartAll s) := by
  grind [encStartAll, encStart_keeps, foldl_keeps]

theorem minModeEvt_keeps (hk : Keeps z s) (k) : Keeps z (minModeEvt s k) := by
  grind [minModeEvt, setBit_keeps, bump_keeps, raise_keeps, setEnc_keeps]

theorem picEnd_keeps (hk : Keeps z s) (k) : Keeps z (picEnd s k) := by
  grind [picEnd, setEnc_keeps, minModeEvt_keeps]

theorem encOut_keeps (hk : Keeps z s) (k p pkts) : Keeps z (encOut s k p pkts) := by
  grind [encOut, modEnc_keeps]

theorem vp8Out_keeps (hk : Keeps z s) (k) : Keeps z (vp8Out s k) := by
  grind [vp8Out, encOut_keeps]

theorem sliceLost_keeps (hk : Keeps z s) (k j) : Keeps z (sliceLost s k j) := by
  grind [sliceLost, modEnc_keeps, picEnd_keeps, vp8Out_keeps]

theorem encSlice_keeps (hk : Keeps z s) (k j x p blocks us ps) : Keeps z (encSlice s k j x p blocks us ps) := by
  grind [encSlice, setEnc_keeps, picEnd_keeps, encOut_keeps, vp8Out_keeps]

theorem execVideoEncodeSlice_keeps (hk : Keeps z s) (ctx blocks units params hits) :
    OutKeeps z (execVideoEncodeSlice ctx blocks units params hits s) := by
  grind [execVideoEncodeSlice, act_keeps, eccHits_keeps, sliceLost_keeps, encSlice_keeps]

theorem encEnd_keeps (hk : Keeps z s) : Keeps z (encEnd s) := by
  grind [encEnd, overrun_keeps, overrunLayout_keeps, sliceLost_keeps, foldl_keeps]

theorem txDrop_keeps (hk : Keeps z s) (leg) : Keeps z (txDrop s leg) := by
  grind [txDrop, setBit_keeps, bump_keeps, raiseLeg_keeps]

theorem encTake_keeps (hk : Keeps z s) (x leg bytes pkts ord xs) : Keeps z (encTake s x leg bytes pkts ord xs).1 := by
  fun_induction encTake s x leg bytes pkts ord xs <;> grind [txRefused_keeps, rtpFrame_keeps, txDrop_keeps]

theorem ownVideo_keeps (hk : Keeps z s) (leg) : Keeps z (ownVideo s leg).1 := by
  grind [ownVideo, encTake_keeps]

/-! ## Canvas composition -/

theorem setLayout_keeps (hk : Keeps z s) (id l) : Keeps z (setLayout s id l) := by
  grind [setLayout]

theorem setComp_keeps (hk : Keeps z s) (k c) : Keeps z (setComp s k c) := by
  grind [setComp]

theorem setPlate_keeps (hk : Keeps z s) (k p) : Keeps z (setPlate s k p) := by
  grind [setPlate]

theorem omitLayers_keeps (hk : Keeps z s) (k x c with' xs) : Keeps z (omitLayers s k x c with' xs).1 := by
  fun_induction omitLayers s k x c with' xs <;> grind [setBit_keeps, bump_keeps, raise_keeps]

theorem flipEvt_keeps (hk : Keeps z s) (id g done n) : Keeps z (flipEvt s id g done n) := by
  grind [flipEvt, raise_keeps]

theorem testFlip_keeps (hk : Keeps z s) (id n g) : Keeps z (testFlip s id n g) := by
  grind [testFlip, setLayout_keeps, flipEvt_keeps]

theorem execFlipTimeout_keeps (hk : Keeps z s) (layout) : OutKeeps z (execFlipTimeout layout s) := by
  grind [execFlipTimeout, act_keeps, setBit_keeps, bump_keeps, setLayout_keeps, flipEvt_keeps, foldl_keeps]

theorem staleEvt_keeps (hk : Keeps z s) (id i st) : Keeps z (staleEvt s id i st) := by
  grind [staleEvt, raise_keeps]

theorem latchLayer_keeps (hk : Keeps z s) (met x c i l) : Keeps z (latchLayer met s x c i l).1 := by
  grind [latchLayer, staleEvt_keeps]

theorem latchLayers_keeps (hk : Keeps z s) (met x c xs) : Keeps z (latchLayers met s x c xs).1 := by
  fun_induction latchLayers met s x c xs <;> grind [latchLayer_keeps]

theorem dropOldPlates_keeps (hk : Keeps z s) : Keeps z (dropOldPlates s) := by
  grind [dropOldPlates]

theorem compBoundary_keeps (hk : Keeps z s) (k x met) : Keeps z (compBoundary s k x met) := by
  grind [compBoundary, setComp_keeps, omitLayers_keeps, latchLayers_keeps, dropOldPlates_keeps]

theorem layoutBoundary_keeps (hk : Keeps z s) (k x) : Keeps z (layoutBoundary s k x) := by
  grind [layoutBoundary, testFlip_keeps, compBoundary_keeps, foldl_keeps]

theorem frameBoundary_keeps (hk : Keeps z s) (k x) : Keeps z (frameBoundary s k x) := by
  grind [frameBoundary, compBoundary_keeps, layoutBoundary_keeps]

theorem execFrameBoundary_keeps (hk : Keeps z s) (ctx) : OutKeeps z (execFrameBoundary ctx s) := by
  grind [execFrameBoundary, act_keeps, frameBoundary_keeps]

theorem execLayerStale_keeps (hk : Keeps z s) (layout layer) : OutKeeps z (execLayerStale layout layer s) := by
  unfold execLayerStale
  refine act_keeps ?_
  dsimp only
  (repeat' split) <;> grind [act_keeps, setComp_keeps, staleEvt_keeps]

theorem plateLost_keeps (hk : Keeps z s) (k n) : Keeps z (plateLost s k n) := by
  grind [plateLost, setBit_keeps, bump_keeps, raise_keeps, setPlate_keeps]

theorem canvasSlice_keeps (hk : Keeps z s) (k j x c skip bad stop) : Keeps z (canvasSlice s k j x c skip bad stop) := by
  unfold canvasSlice
  dsimp only
  repeat' split
  all_goals grind [setComp_keeps]

theorem cnvOverrun_keeps (hk : Keeps z s) (x) : Keeps z (cnvOverrun s x) := by
  grind [cnvOverrun, overrun_keeps, overrunLayout_keeps]

theorem execCanvasSlice_keeps (hk : Keeps z s) (ctx hits skip lost) : OutKeeps z (execCanvasSlice ctx hits skip lost s) := by
  unfold execCanvasSlice
  refine act_keeps ?_
  dsimp only
  (repeat' split) <;> grind [act_keeps, eccHits_keeps, plateLost_keeps, canvasSlice_keeps, cnvOverrun_keeps, foldl_keeps]

theorem cnvEnd_keeps (hk : Keeps z s) : Keeps z (cnvEnd s) := by
  grind [cnvEnd, canvasSlice_keeps, cnvOverrun_keeps, foldl_keeps]

theorem boundarySkip_keeps (hk : Keeps z s) (k n x) : Keeps z (boundarySkip s k n x) := by
  grind [boundarySkip, setComp_keeps]

theorem cnvSkip_keeps (hk : Keeps z s) (sk k x) : Keeps z (cnvSkip sk s k x) := by
  grind [cnvSkip, canvasSlice_keeps, foldl_keeps]

theorem encSkip_keeps (hk : Keeps z s) (sk k) : Keeps z (encSkip sk s k) := by
  grind [encSkip, sliceLost_keeps, foldl_keeps]

theorem ctxSkip_keeps (hk : Keeps z s) (sk n k x) : Keeps z (ctxSkip sk n s k x) := by
  unfold ctxSkip
  extract_lets s1 t s2 s3
  have h1 : Keeps z s1 := encSkip_keeps (cnvSkip_keeps hk ..) ..
  split
  · exact h1
  · have h2 : Keeps z s2 := ite_keeps (modEnc_keeps (cnvSkip_keeps (boundarySkip_keeps h1 ..) ..) ..) h1
    have h3 : Keeps z s3 := ite_keeps (encSkip_keeps (encStart_keeps h2 ..) ..) (modEnc_keeps h2 ..)
    exact cnvSkip_keeps (boundarySkip_keeps h3 ..) ..

theorem execCnvLayoutSet_keeps (hk : Keeps z s) (h layout mtx full bgY bgCb bgCr) :
    OutKeeps z (execCnvLayoutSet h layout mtx full bgY bgCb bgCr s) := by
  grind [execCnvLayoutSet, act_keeps, command_keeps, setLayout_keeps]

theorem stageLayer_keeps (hk : Keeps z s) (id g c) : Keeps z (stageLayer s id g c) := by
  grind [stageLayer, setLayout_keeps]

theorem layerSet_keeps (hk : Keeps z s) (f id i g l) : Keeps z (layerSet f id i g l s).1 := by
  grind [layerSet, stageLayer_keeps]

theorem execCnvLayerSet_keeps (hk : Keeps z s)
    (h kind hideDmg selfHide group layer layout src x y w ht cx cy cw ch alpha fence) :
    OutKeeps z (execCnvLayerSet h kind hideDmg selfHide group layer layout src x y w ht cx cy cw ch alpha fence s) := by
  grind [execCnvLayerSet, act_keeps, command_keeps, layerSet_keeps]

theorem execCnvLayerClear_keeps (hk : Keeps z s) (h group layer layout) : OutKeeps z (execCnvLayerClear h group layer layout s)
    := by
  grind [execCnvLayerClear, act_keeps, command_keeps, stageLayer_keeps]

theorem execCnvGroupFlip_keeps (hk : Keeps z s) (h group layout) : OutKeeps z (execCnvGroupFlip h group layout s) := by
  grind [execCnvGroupFlip, act_keeps, command_keeps, setLayout_keeps]

theorem execCnvVarnishLoad_keeps (hk : Keeps z s) (h plate w ht mtx full count addr dma imgs) :
    OutKeeps z (execCnvVarnishLoad h plate w ht mtx full count addr dma imgs s) := by
  grind [execCnvVarnishLoad, act_keeps, commandLong_keeps, setPlate_keeps]

theorem execPlateValid_keeps (hk : Keeps z s) (plate) : OutKeeps z (execPlateValid plate s) := by
  unfold execPlateValid
  refine act_keeps ?_
  dsimp only
  (repeat' split) <;> grind [act_keeps, complete_keeps, setPlate_keeps, dropOldPlates_keeps]

theorem execCnvVarnishDrop_keeps (hk : Keeps z s) (h plate) : OutKeeps z (execCnvVarnishDrop h plate s) := by
  grind [execCnvVarnishDrop, act_keeps, command_keeps, stage_keeps, setPlate_keeps]

theorem plateDropApply_keeps (hk : Keeps z s) (k) : Keeps z (plateDropApply s k) := by
  grind [plateDropApply]

theorem platesFree_keeps (hk : Keeps z s) : Keeps z (platesFree s) := by
  grind [platesFree]

theorem cnvSourceGone_keeps (hk : Keeps z s) (ctx) : Keeps z (cnvSourceGone s ctx) := by
  grind [cnvSourceGone, raise_keeps, foldl_keeps]

theorem cnvLayoutGone_keeps (hk : Keeps z s) (id) : Keeps z (cnvLayoutGone s id) := by
  grind [cnvLayoutGone]

/-! ## The VID commands -/

theorem decOpen_keeps (hk : Keeps z s) (f hd opS opT holds dpb fir) : Keeps z (decOpen f hd opS opT holds dpb fir s).1 := by
  grind [decOpen, stage_keeps, setDec_keeps]

theorem execVidDecOpen_keeps (hk : Keeps z s) (h kpFir opS opT holds dpb hd) :
    OutKeeps z (execVidDecOpen h kpFir opS opT holds dpb hd s) := by
  grind [execVidDecOpen, act_keeps, command_keeps, decOpen_keeps]

theorem vidClose_keeps (hk : Keeps z s) (enc k e) : Keeps z (vidClose s enc k e) := by
  grind [vidClose, stage_keeps, stageEnd_keeps, modEnc_keeps]

theorem execVidDecClose_keeps (hk : Keeps z s) (h ctx) : OutKeeps z (execVidDecClose h ctx s) := by
  grind [execVidDecClose, act_keeps, command_keeps, vidClose_keeps]

theorem encOpen_keeps (hk : Keeps z s) (f own id topW topH sl tl ext pt keyInt ts) :
    Keeps z (encOpen f own id topW topH sl tl ext pt keyInt ts s).1 := by
  grind [encOpen, stage_keeps, setEnc_keeps]

theorem execVidEncOpen_keeps (hk : Keeps z s) (h own id topW topH sl tl ext pt keyInt tsOfs) :
    OutKeeps z (execVidEncOpen h own id topW topH sl tl ext pt keyInt tsOfs s) := by
  grind [execVidEncOpen, act_keeps, command_keeps, encOpen_keeps]

theorem execVidEncClose_keeps (hk : Keeps z s) (h ctx) : OutKeeps z (execVidEncClose h ctx s) := by
  grind [execVidEncClose, act_keeps, command_keeps, vidClose_keeps]

theorem execVidEncRate_keeps (hk : Keeps z s) (h ctx kbps cap pct mult) : OutKeeps z (execVidEncRate h ctx kbps cap pct mult s)
    := by
  grind [execVidEncRate, act_keeps, command_keeps, stage_keeps]

theorem execVidKeyPic_keeps (hk : Keeps z s) (h ctx) : OutKeeps z (execVidKeyPic h ctx s) := by
  grind [execVidKeyPic, act_keeps, command_keeps, keyRequest_keeps]

theorem execVidMediaBind_keeps (hk : Keeps z s) (h point m ctx w ht) : OutKeeps z (execVidMediaBind h point m ctx w ht s) := by
  grind [execVidMediaBind, act_keeps, command_keeps, stage_keeps, setMedia_keeps]

theorem execVidMediaUnbind_keeps (hk : Keeps z s) (h m) : OutKeeps z (execVidMediaUnbind h m s) := by
  grind [execVidMediaUnbind, act_keeps, command_keeps, stage_keeps]

theorem execVidStats_keeps (hk : Keeps z s) (h clr enc ctx addr) : OutKeeps z (execVidStats h clr enc ctx addr s) := by
  grind [execVidStats, act_keeps, hostWrites_keeps, command_keeps, setDec_keeps, setEnc_keeps]

theorem execNetQueueFlush_keeps (hk : Keeps z s) (h hd) : OutKeeps z (execNetQueueFlush h hd s) := by
  grind [execNetQueueFlush, act_keeps, command_keeps, setBound_keeps, countAccepted_keeps, vidFlush_keeps]

theorem vidStartApply_keeps (hk : Keeps z s) (enc k) : Keeps z (vidStartApply s enc k) := by
  grind [vidStartApply, setDec_keeps, decKp_keeps, setEnc_keeps, setComp_keeps]

theorem vidStopApply_keeps (hk : Keeps z s) (enc k) : Keeps z (vidStopApply s enc k) := by
  grind [vidStopApply, mediaEnd_keeps, modEnc_keeps, dropOldPlates_keeps, cnvSourceGone_keeps, foldl_keeps]

theorem vidGoneApply_keeps (hk : Keeps z s) (enc k) : Keeps z (vidGoneApply s enc k) := by
  grind [vidGoneApply]

/-! ## Meash units, credits and queues -/

theorem setMshPort_keeps (hk : Keeps z s) (m x) : Keeps z (setMshPort s m x) := by
  grind [setMshPort]

theorem setLane_keeps (hk : Keeps z s) (m l x) : Keeps z (setLane s m l x) := by
  grind [setLane]

theorem unitOut_keeps (hk : Keeps z s) (m t v body) : Keeps z (unitOut s m t v body) := by
  grind [unitOut, emitOut_keeps, setMshPort_keeps]

theorem sendUnit_keeps (hk : Keeps z s) (m v t body) : Keeps z (sendUnit s m v t body) := by
  grind [sendUnit, setMshPort_keeps, unitOut_keeps]

theorem freeBlocks_keeps (hk : Keeps z s) (m v k) : Keeps z (freeBlocks s m v k) := by
  grind [freeBlocks, setMshPort_keeps]

theorem freeHeld_keeps (hk : Keeps z s) (m) : Keeps z (freeHeld s m) := by
  grind [freeHeld, setMshPort_keeps]

theorem unitErr_keeps (hk : Keeps z s) (m v k) : Keeps z (unitErr s m v k) := by
  grind [unitErr, setBit_keeps, bump_keeps, freeBlocks_keeps]

theorem creditErr_keeps (hk : Keeps z s) (m v isOver) : Keeps z (creditErr s m v isOver) := by
  grind [creditErr, setBit_keeps, bump_keeps, raise_keeps]

theorem pump0_keeps (hk : Keeps z s) (m xs) : Keeps z (pump0 s m xs).1 := by
  fun_induction pump0 s m xs <;> grind [sendUnit_keeps]

theorem pump2_keeps (hk : Keeps z s) (m xs) : Keeps z (pump2 s m xs).1 := by
  fun_induction pump2 s m xs <;> grind [sendUnit_keeps]

theorem pumpPort_keeps (hk : Keeps z s) (m) : Keeps z (pumpPort s m) := by
  grind [pumpPort, setMshPort_keeps, pump0_keeps, pump2_keeps]

theorem mediaDrop_keeps (hk : Keeps z s) : Keeps z (mediaDrop s) := by
  grind [mediaDrop, bump_keeps]

theorem mediaQueue_keeps (hk : Keeps z s) (m body) : Keeps z (mediaQueue s m body) := by
  grind [mediaQueue, setMshPort_keeps, pumpPort_keeps, mediaDrop_keeps, foldl_keeps]

theorem mediaRoute_keeps (hk : Keeps z s) (dst body) : Keeps z (mediaRoute s dst body) := by
  grind [mediaRoute, mediaDrop_keeps, mediaQueue_keeps]

theorem exportPkt_keeps (hk : Keeps z s) (hd x rtp) : Keeps z (exportPkt s hd x rtp) := by
  grind [exportPkt, mediaRoute_keeps, foldl_keeps]

theorem partialOut_keeps (hk : Keeps z s) (n m body) : Keeps z (partialOut s n m body) := by
  grind [partialOut, setMshPort_keeps, pumpPort_keeps]

theorem partialSend_keeps (hk : Keeps z s) (n) : Keeps z (partialSend s n) := by
  grind [partialSend, partialOut_keeps, foldl_keeps]

theorem partialEnd_keeps (hk : Keeps z s) (n) : Keeps z (partialEnd s n) := by
  grind [partialEnd, setBit_keeps, bump_keeps, setMshPort_keeps, foldl_keeps]

/-! ## Frames received -/

theorem jbPush_keeps (hk : Keeps z s) (hd p u k) : Keeps z (jbPush s hd p u k) := by
  grind [jbPush, stat_keeps, setBound_keeps, countLate_keeps, resyncEvt_keeps]

theorem rtpRx_keeps (hk : Keeps z s) (hd i p u ts pkt) : Keeps z (rtpRx s hd i p u ts pkt) := by
  unfold rtpRx
  dsimp only
  repeat' split
  all_goals grind [setPolice_keeps, rxSrtp_keeps, stat_keeps, policed_keeps, police_keeps, exportPkt_keeps, jbPush_keeps]

theorem toSocket_keeps (hk : Keeps z s) (hd k reason frame) : Keeps z (toSocket s hd k reason frame) := by
  grind [toSocket, hpaDeliver_keeps]

theorem rtcpRx_keeps (hk : Keeps z s) (hd b k) : Keeps z (rtcpRx s hd b k) := by
  grind [rtcpRx, rxSrtcp_keeps, stat_keeps, fwdRtcp_keeps, encFeedback_keeps, toSocket_keeps, foldl_keeps]

theorem socketRx_keeps (hk : Keeps z s) (on k) : Keeps z (socketRx s on k) := by
  unfold socketRx
  dsimp only
  repeat' split
  all_goals grind [stat_keeps, rtpRx_keeps, toSocket_keeps, rtcpRx_keeps]

theorem ipRx_keeps (hk : Keeps z s) (p u ts e frame) : Keeps z (ipRx s p u ts e frame) := by
  grind [ipRx, bump_keeps, stat_keeps, hpaDeliver_keeps, socketRx_keeps]

theorem frameRx_keeps (hk : Keeps z s) (p u frame) : Keeps z (frameRx s p u frame) := by
  grind [frameRx, stat_keeps, hpaDeliver_keeps, ptpRx_keeps, ipRx_keeps]

theorem execFrameReceive_keeps (hk : Keeps z s) (p u fcsOk frame) : OutKeeps z (execFrameReceive p u fcsOk frame s) := by
  grind [execFrameReceive, act_keeps, eccHits_keeps, stat_keeps, frameRx_keeps]

/-! ## The Easel's tick sequence -/

theorem easelMove_keeps (hk : Keeps z s) (base t8 held) : Keeps z (easelMove s base t8 held) := by
  unfold easelMove
  extract_lets n nxt sk e1 s1 e2 s2 s3 len s4 e3
  have h1 : Keeps z s1 := hk
  split
  · have h2 : Keeps z s2 := hk
    have h3 : Keeps z s3 := setBit_keeps (bump_keeps h2 ..) _
    exact raise_keeps h3 _ _ _ _ _ _ _
  · split
    · have h4 : Keeps z s4 := setBit_keeps (bump_keeps h1 ..) _
      have h5 : Keeps z { s4 with easel := { e3 with holding := true } } := h4
      exact raise_keeps (tickCut_keeps h5) ..
    · exact h1

theorem easelStep_keeps (hk : Keeps z s) (b t) : Keeps z (easelStep s b t) := by
  grind [easelStep, easelMove_keeps]

theorem shiftEgress_keeps (hk : Keeps z s) (d) : Keeps z (shiftEgress s d) := by
  grind [shiftEgress]

theorem shiftEasel_keeps (hk : Keeps z s) (d) : Keeps z (shiftEasel s d) := by
  grind [shiftEasel]

theorem stepApply_keeps (hk : Keeps z s) : Keeps z (stepApply s) := by
  unfold stepApply
  dsimp only
  repeat' split
  all_goals grind [advanceTo_keeps, tsFlush_keeps, tsEntry_keeps, stepEvt_keeps, easelStep_keeps, shiftEgress_keeps,
    shiftEasel_keeps]

theorem lineMove_keeps (hk : Keeps z s) (follow base) : Keeps z (lineMove s follow base) := by
  grind [lineMove, advanceTo_keeps, easelMove_keeps]

theorem adoptApply_keeps (hk : Keeps z s) : Keeps z (adoptApply s) := by
  grind [adoptApply, lineMove_keeps]

theorem boundaryStep_keeps (hk : Keeps z s) : Keeps z (boundaryStep s) := by
  grind [boundaryStep, stepApply_keeps]

theorem boundaryMoves_keeps (hk : Keeps z s) : Keeps z (boundaryMoves s) := by
  grind [boundaryMoves, adoptApply_keeps, boundaryStep_keeps]

theorem execStepApply_keeps (hk : Keeps z s) : OutKeeps z (execStepApply s) := by
  grind [execStepApply, act_keeps, stepApply_keeps]

/-! ## The time commands and the events of the time unit -/

theorem execPtpStep_keeps (hk : Keeps z s) (h newEpoch set v n) : OutKeeps z (execPtpStep h newEpoch set v n s) := by
  grind [execPtpStep, act_keeps, command_keeps, stepEvt_keeps, openEpoch_keeps, stageStep_keeps]

theorem execPtpRate_keeps (hk : Keeps z s) (h synced r) : OutKeeps z (execPtpRate h synced r s) := by
  grind [execPtpRate, act_keeps, setReg_keeps, setFld_keeps, command_keeps]

theorem servoSet_keeps (hk : Keeps z s) (en src ports domain dest prios stepNs lockCnt lockNs) :
    Keeps z (servoSet s en src ports domain dest prios stepNs lockCnt lockNs) := by
  grind [servoSet, setPtp_keeps, ptpState_keeps, selectMaster_keeps]

theorem execPtpServoCfg_keeps (hk : Keeps z s) (h en src ports domain dest prio stepNs lockCnt lockNs) :
    OutKeeps z (execPtpServoCfg h en src ports domain dest prio stepNs lockCnt lockNs s) := by
  grind [execPtpServoCfg, act_keeps, command_keeps, servoSet_keeps]

theorem execPtpStatus_keeps (hk : Keeps z s) (h) : OutKeeps z (execPtpStatus h s) := by
  grind [execPtpStatus, act_keeps, command_keeps]

theorem execDelayReqSend_keeps (hk : Keeps z s) (ofs) : OutKeeps z (execDelayReqSend ofs s) := by
  grind [execDelayReqSend, act_keeps, advanceLocal_keeps]

theorem execAnnounceTimeout_keeps (hk : Keeps z s) : OutKeeps z (execAnnounceTimeout s) := by
  unfold execAnnounceTimeout
  refine act_keeps ?_
  dsimp only
  (repeat' split) <;> grind [act_keeps, advanceLocal_keeps, setPtp_keeps, holdover_keeps, selectMaster_keeps]

theorem execMeasurementTimeout_keeps (hk : Keeps z s) : OutKeeps z (execMeasurementTimeout s) := by
  grind [execMeasurementTimeout, act_keeps, advanceLocal_keeps, holdover_keeps]

theorem execHoldoverLimit_keeps (hk : Keeps z s) : OutKeeps z (execHoldoverLimit s) := by
  grind [execHoldoverLimit, act_keeps, setFld_keeps, advanceLocal_keeps, ppsCut_keeps]

theorem ppsPulse_keeps (hk : Keeps z s) (n t) : Keeps z (ppsPulse s n t) := by
  grind [ppsPulse, emitOut_keeps, advanceTo_keeps, setPtp_keeps]

theorem execPpsOutPulse_keeps (hk : Keeps z s) : OutKeeps z (execPpsOutPulse s) := by
  grind [execPpsOutPulse, act_keeps, setPtp_keeps, ppsPulse_keeps]

theorem execPpsInEdge_keeps (hk : Keeps z s) (falling) : OutKeeps z (execPpsInEdge falling s) := by
  grind [execPpsInEdge, act_keeps, raise_keeps, setPtp_keeps, tsEntry_keeps, measurement_keeps]

theorem execPpsInLoss_keeps (hk : Keeps z s) : OutKeeps z (execPpsInLoss s) := by
  grind [execPpsInLoss, act_keeps, setBit_keeps, advanceLocal_keeps, raise_keeps, setPtp_keeps, holdover_keeps]

theorem execPtpLaunchMiss_keeps (hk : Keeps z s) : OutKeeps z (execPtpLaunchMiss s) := by
  grind [execPtpLaunchMiss, act_keeps, setBit_keeps, bump_keeps, advanceTo_keeps]

/-! ## The Meash ports -/

theorem laneEval_keeps (hk : Keeps z s) (m l lof) : Keeps z (laneEval s m l lof) := by
  grind [laneEval, setFld_keeps, raise_keeps, setLane_keeps]

theorem groupDown_keeps (hk : Keeps z s) (m) : Keeps z (groupDown s m) := by
  grind [groupDown, setFld_keeps, raise_keeps, setMshPort_keeps]

theorem groupEval_keeps (hk : Keeps z s) (m) : Keeps z (groupEval s m) := by
  unfold groupEval
  dsimp only
  repeat' split
  all_goals grind [emitOut_keeps, setFld_keeps, raise_keeps, setMshPort_keeps, groupDown_keeps]

theorem apsSettle_keeps (hk : Keeps z s) (m keep) : Keeps z (apsSettle s m keep) := by
  grind [apsSettle, setFld_keeps, raise_keeps, setMshPort_keeps]

theorem apsEval_keeps (hk : Keeps z s) (m) : Keeps z (apsEval s m) := by
  grind [apsEval, apsSettle_keeps]

theorem apsSelect_keeps (hk : Keeps z s) (m) : Keeps z (apsSelect s m) := by
  grind [apsSelect, setBit_keeps, setMshPort_keeps, groupEval_keeps]

theorem laneDone_keeps (hk : Keeps z s) (m l had) : Keeps z (laneDone s m l had) := by
  grind [laneDone, setMshPort_keeps, groupEval_keeps, apsEval_keeps]

theorem laneTo_keeps (hk : Keeps z s) (m l st lof) : Keeps z (laneTo s m l st lof) := by
  grind [laneTo, setFld_keeps, laneEval_keeps, laneDone_keeps]

theorem amLock_keeps (hk : Keeps z s) (m l) : Keeps z (amLock s m l) := by
  grind [amLock, setLane_keeps, laneTo_keeps]

theorem amLoss_keeps (hk : Keeps z s) (m l) : Keeps z (amLoss s m l) := by
  grind [amLoss, setFld_keeps, setLane_keeps, laneTo_keeps]

theorem laneDeliver_keeps (hk : Keeps z s) (m l) : Keeps z (laneDeliver s m l) := by
  grind [laneDeliver, setMshPort_keeps]

theorem laneTest_keeps (hk : Keeps z s) (m l) : Keeps z (laneTest s m l) := by
  grind [laneTest, setFld_keeps, setMshPort_keeps, setLane_keeps, laneDeliver_keeps]

theorem laneScan_keeps (hk : Keeps z s) (n m l) : Keeps z (laneScan n s m l) := by
  fun_induction laneScan n s m l <;> grind [amLock_keeps, amLoss_keeps, laneTest_keeps]

theorem execLaneFrameReceive_keeps (hk : Keeps z s) (m l b delay unc sym) :
    OutKeeps z (execLaneFrameReceive m l b delay unc sym s) := by
  grind [execLaneFrameReceive, act_keeps, setLane_keeps, laneEval_keeps, laneDone_keeps, laneScan_keeps]

theorem execAmLock_keeps (hk : Keeps z s) (m l) : OutKeeps z (execAmLock m l s) := by
  grind [execAmLock, act_keeps, amLock_keeps]

theorem execAmLoss_keeps (hk : Keeps z s) (m l) : OutKeeps z (execAmLoss m l s) := by
  grind [execAmLoss, act_keeps, amLoss_keeps]

theorem portFrames_keeps (hk : Keeps z s) (m) : Keeps z (portFrames s m) := by
  grind [portFrames, emitOut_keeps, setMshPort_keeps, foldl_keeps]

theorem portSend_keeps (hk : Keeps z s) (m) : Keeps z (portSend s m) := by
  grind [portSend, setMshPort_keeps, portFrames_keeps]

theorem mshStop_keeps (hk : Keeps z s) (m) : Keeps z (mshStop s m) := by
  grind [mshStop, setMshPort_keeps, groupDown_keeps]

theorem idle_keeps (hk : Keeps z s) : Keeps z (idle s) := by
  grind [idle, cycles_keeps, portSend_keeps, foldl_keeps]

theorem portEval_keeps (hk : Keeps z s) (m) : Keeps z (portEval s m) := by
  grind [portEval, laneEval_keeps, groupEval_keeps, apsEval_keeps, foldl_keeps]

theorem traceEval_keeps (hk : Keeps z s) (m) : Keeps z (traceEval s m) := by
  grind [traceEval, setFld_keeps, setBit_keeps, raise_keeps, portEval_keeps]

theorem execTraceAccept_keeps (hk : Keeps z s) (m l) : OutKeeps z (execTraceAccept m l s) := by
  grind [execTraceAccept, act_keeps, setFld_keeps, setLane_keeps, traceEval_keeps]

theorem execSfHoldoffExpiry_keeps (hk : Keeps z s) (m l) : OutKeeps z (execSfHoldoffExpiry m l s) := by
  grind [execSfHoldoffExpiry, act_keeps, advanceLocal_keeps, setLane_keeps, groupEval_keeps, apsEval_keeps]

theorem execApsSelect_keeps (hk : Keeps z s) (m) : OutKeeps z (execApsSelect m s) := by
  grind [execApsSelect, act_keeps, apsSelect_keeps]

theorem execWtrExpiry_keeps (hk : Keeps z s) (m) : OutKeeps z (execWtrExpiry m s) := by
  grind [execWtrExpiry, act_keeps, advanceLocal_keeps, setMshPort_keeps, apsEval_keeps, apsSelect_keeps]

theorem execMshPortCfg_keeps (hk : Keeps z s) (h m en width tree exp wake node) :
    OutKeeps z (execMshPortCfg h m en width tree exp wake node s) := by
  grind [execMshPortCfg, act_keeps, command_keeps, stage_keeps, setMshPort_keeps]

theorem skews_keeps (hk : Keeps z s) (m : Nat) (l : List Nat) :
    Keeps z (l.foldl (fun s l => setReg { s with msh := { s.msh with lanes := tdel s.msh.lanes (16 * m + l) } }
      (MSH_SKEW m l).addr (regReset (MSH_SKEW m l).addr)) s) :=
  foldl_keeps hk (fun t k ht => setReg_keeps (s := { t with msh := { t.msh with lanes := tdel t.msh.lanes (16 * m + k) } }) ht ..) l

theorem mshPortApply_keeps (hk : Keeps z s) (m c) : Keeps z (mshPortApply s m c) := by
  unfold mshPortApply
  extract_lets x s1 x1 s2 s3 s4
  split
  · exact traceEval_keeps (setMshPort_keeps hk ..) _
  · have h3 : Keeps z s3 := setFld_keeps (setFld_keeps (setFld_keeps (setMshPort_keeps (skews_keeps hk ..) ..) ..) ..) ..
    have h4 : Keeps z s4 := ite_keeps (foldl_keeps h3 (fun t l ht => ite_keeps (linkTrain_keeps ht ..) ht) _) h3
    exact groupEval_keeps h4 _

theorem execMshRouteSet_keeps (hk : Keeps z s) (h node m) : OutKeeps z (execMshRouteSet h node m s) := by
  grind [execMshRouteSet, act_keeps, command_keeps, stage_keeps]

theorem execMshStreamExport_keeps (hk : Keeps z s) (h hd relay dst remove) :
    OutKeeps z (execMshStreamExport h hd relay dst remove s) := by
  grind [execMshStreamExport, act_keeps, command_keeps, stage_keeps]

theorem execMshStreamImport_keeps (hk : Keeps z s) (h hd relay valid s0 s1 s2 s3 remove) :
    OutKeeps z (execMshStreamImport h hd relay valid s0 s1 s2 s3 remove s) := by
  unfold execMshStreamImport
  refine act_keeps (command_keeps (s := { s with out := [] }) hk _ _ _ fun t ht => ?_)
  dsimp only
  repeat' split
  all_goals grind [stage_keeps, setBound_keeps, streamRelease_keeps]

theorem execMshTraceSet_keeps (hk : Keeps z s) (h id) : OutKeeps z (execMshTraceSet h id s) := by
  grind [execMshTraceSet, act_keeps, command_keeps, stage_keeps]

theorem mshTraceApply_keeps (hk : Keeps z s) (id) : Keeps z (mshTraceApply s id) := by
  grind [mshTraceApply, traceEval_keeps, foldl_keeps]

theorem mshApsApply_keeps (hk : Keeps z s) (m req lane) : Keeps z (mshApsApply s m req lane) := by
  grind [mshApsApply, setMshPort_keeps, apsSettle_keeps, apsEval_keeps]

theorem execMshApsCmd_keeps (hk : Keeps z s) (h m req lane) : OutKeeps z (execMshApsCmd h m req lane s) := by
  grind [execMshApsCmd, act_keeps, command_keeps, stage_keeps, mshApsApply_keeps]

theorem execMshPeerStatus_keeps (hk : Keeps z s) (h m) : OutKeeps z (execMshPeerStatus h m s) := by
  grind [execMshPeerStatus, act_keeps, command_keeps]

theorem execMshWakeSend_keeps (hk : Keeps z s) (h mask) : OutKeeps z (execMshWakeSend h mask s) := by
  grind [execMshWakeSend, act_keeps, emitOut_keeps, command_keeps, setMshPort_keeps, foldl_keeps]

theorem execWakePatternSendEnd_keeps (hk : Keeps z s) (m) : OutKeeps z (execWakePatternSendEnd m s) := by
  grind [execWakePatternSendEnd, act_keeps, emitOut_keeps, advanceLocal_keeps, setMshPort_keeps]

theorem unitRx_keeps (hk : Keeps z s) (m v body cut good) {k : State → State} (hc : ∀ t, Keeps z t → Keeps z (k t)) :
    Keeps z (unitRx s m v body cut good k) := by
  unfold unitRx
  extract_lets n x
  split
  · exact hk
  · split
    · exact creditErr_keeps (freeBlocks_keeps hk ..) ..
    · split
      · exact unitErr_keeps hk ..
      · exact hc _ (freeBlocks_keeps hk ..)

theorem partialUse_keeps (hk : Keeps z s) (c origin n last bs) : Keeps z (partialUse s c origin n last bs) := by
  grind [partialUse, setBit_keeps, bump_keeps, setAudConf_keeps]

theorem partialRx_keeps (hk : Keeps z s) (m body) : Keeps z (partialRx s m body) := by
  grind [partialRx, partialOut_keeps, partialUse_keeps, foldl_keeps]

theorem execPartialUnitReceive_keeps (hk : Keeps z s) (m body cut) : OutKeeps z (execPartialUnitReceive m body cut s) := by
  grind [execPartialUnitReceive, act_keeps, unitRx_keeps, partialRx_keeps]

theorem mediaImport_keeps (hk : Keeps z s) (body) : Keeps z (mediaImport s body) := by
  grind [mediaImport, setPolice_keeps, policed_keeps, police_keeps, mediaDrop_keeps, exportPkt_keeps, jbPush_keeps]

theorem execMediaUnitReceive_keeps (hk : Keeps z s) (m body cut) : OutKeeps z (execMediaUnitReceive m body cut s) := by
  grind [execMediaUnitReceive, act_keeps, mediaRoute_keeps, unitRx_keeps, mediaImport_keeps]

theorem execControlUnitReceive_keeps (hk : Keeps z s) (m type vc body cut) :
    OutKeeps z (execControlUnitReceive m type vc body cut s) := by
  grind [execControlUnitReceive, act_keeps, unitRx_keeps]

theorem execCreditUnitReceive_keeps (hk : Keeps z s) (m body) : OutKeeps z (execCreditUnitReceive m body s) := by
  unfold execCreditUnitReceive
  refine act_keeps ?_
  dsimp only
  repeat' split
  all_goals grind [setBit_keeps, bump_keeps, setMshPort_keeps, creditErr_keeps, pumpPort_keeps]

theorem execCreditUnitSend_keeps (hk : Keeps z s) (m) : OutKeeps z (execCreditUnitSend m s) := by
  grind [execCreditUnitSend, act_keeps, unitOut_keeps, freeHeld_keeps]

theorem execMediaUnitTimeout_keeps (hk : Keeps z s) (m) : OutKeeps z (execMediaUnitTimeout m s) := by
  grind [execMediaUnitTimeout, act_keeps, advanceLocal_keeps, setMshPort_keeps, mediaDrop_keeps]

theorem markerSend_keeps (hk : Keeps z s) (ofs n m) : Keeps z (markerSend ofs n s m) := by
  grind [markerSend, setMshPort_keeps, unitOut_keeps]

theorem execTickMarkerSend_keeps (hk : Keeps z s) (ofs) : OutKeeps z (execTickMarkerSend ofs s) := by
  grind [execTickMarkerSend, act_keeps, advanceTo_keeps, markerSend_keeps, foldl_keeps]

theorem followMarker_keeps (hk : Keeps z s) (n phi t8) : Keeps z (followMarker s n phi t8) := by
  grind [followMarker, setFld_keeps]

theorem execTickMarkerReceive_keeps (hk : Keeps z s) (m body) : OutKeeps z (execTickMarkerReceive m body s) := by
  unfold execTickMarkerReceive
  refine act_keeps ?_
  dsimp only
  repeat' split
  all_goals grind [setReg_keeps, setBit_keeps, bump_keeps, setMshPort_keeps, followMarker_keeps]

theorem execTickLockAcquire_keeps (hk : Keeps z s) : OutKeeps z (execTickLockAcquire s) := by
  grind [execTickLockAcquire, act_keeps, setFld_keeps, raise_keeps]

theorem execTickLockLost_keeps (hk : Keeps z s) : OutKeeps z (execTickLockLost s) := by
  grind [execTickLockLost, act_keeps, setFld_keeps, setBit_keeps, raise_keeps]

/-! ## The memory commands and the events of the HBM controller and the error code -/

theorem execMemSweep_keeps (hk : Keeps z s) (h repair t) : OutKeeps z (execMemSweep h repair t s) := by
  grind [execMemSweep, act_keeps, commandLong_keeps]

theorem sweepWord_keeps (hk : Keeps z s) (repair e) : Keeps z (sweepWord repair s e) := by
  grind [sweepWord, eccHit_keeps]

theorem execSweepComplete_keeps (hk : Keeps z s) (read skipped hits) : OutKeeps z (execSweepComplete read skipped hits s) := by
  grind [execSweepComplete, act_keeps, complete_keeps, sweepWord_keeps, foldl_keeps]

theorem execMemSoftRepair_keeps (hk : Keeps z s) (h t m row) : OutKeeps z (execMemSoftRepair h t m row s) := by
  grind [execMemSoftRepair, act_keeps, command_keeps]

theorem execSoftRepairClearAll_keeps (hk : Keeps z s) (h t m row) : OutKeeps z (execSoftRepairClearAll h t m row s) := by
  grind [execSoftRepairClearAll, act_keeps, command_keeps]

theorem setStack_keeps (hk : Keeps z s) (st x) : Keeps z (setStack s st x) := by
  grind [setStack]

theorem execMemSpareStatus_keeps (hk : Keeps z s) (h) : OutKeeps z (execMemSpareStatus h s) := by
  grind [execMemSpareStatus, act_keeps, command_keeps]

theorem execMemErrLog_keeps (hk : Keeps z s) (h clr addr) : OutKeeps z (execMemErrLog h clr addr s) := by
  grind [execMemErrLog, act_keeps, hostWrites_keeps, command_keeps]

theorem execHbmRefresh_keeps (hk : Keeps z s) (st _p) : OutKeeps z (execHbmRefresh st _p s) := by
  grind [execHbmRefresh, act_keeps, setFld_keeps, setBit_keeps, raise_keeps]

theorem setPc_keeps (hk : Keeps z s) (k x) : Keeps z (setPc s k x) := by
  grind [setPc]

theorem retrainStart_keeps (hk : Keeps z s) (st p) : Keeps z (retrainStart s st p) := by
  grind [retrainStart, setPc_keeps]

theorem execHbmTempRead_keeps (hk : Keeps z s) (st temp) : OutKeeps z (execHbmTempRead st temp s) := by
  grind [execHbmTempRead, act_keeps, setFld_keeps, setStack_keeps, setPc_keeps, retrainStart_keeps, foldl_keeps]

theorem execRetrainInterval_keeps (hk : Keeps z s) (st p) : OutKeeps z (execRetrainInterval st p s) := by
  grind [execRetrainInterval, act_keeps, retrainStart_keeps]

theorem retrainEnd_keeps (hk : Keeps z s) (k outcome) : Keeps z (retrainEnd s k outcome) := by
  unfold retrainEnd
  dsimp only
  repeat' split
  all_goals grind [setBit_keeps, bump_keeps, raise_keeps, setPc_keeps]

theorem execRetrainPiece_keeps (hk : Keeps z s) (st p cand margin good) : OutKeeps z (execRetrainPiece st p cand margin good s)
    := by
  grind [execRetrainPiece, act_keeps, setLive_keeps, setPc_keeps, retrainEnd_keeps]

theorem wakeRetrain_keeps (hk : Keeps z s) (k) : Keeps z (wakeRetrain s k) := by
  grind [wakeRetrain, setLive_keeps, setPc_keeps, retrainEnd_keeps]

theorem spareEvt_keeps (hk : Keeps z s) (st state p poisoned) : Keeps z (spareEvt s st state p poisoned) := by
  grind [spareEvt, raise_keeps]

theorem execPcFail_keeps (hk : Keeps z s) (st p) : OutKeeps z (execPcFail st p s) := by
  unfold execPcFail
  refine act_keeps ?_
  dsimp only
  (repeat' split) <;> grind [act_keeps, setFld_keeps, setBit_keeps, degrade_keeps, setStack_keeps, setPc_keeps, spareEvt_keeps]

theorem migrateHit_keeps (hk : Keeps z s) (st e) : Keeps z (migrateHit s st e) :=
  ite_keeps (eccHit_keeps hk _)
    (setStack_keeps (ueEvt_keeps (eccLog_keeps (poisonSet_keeps (setBit_keeps (bump_keeps (countUe_keeps hk ..) ..) _) ..) ..) ..) ..)

theorem execMigrationChunk_keeps (hk : Keeps z s) (st hits) : OutKeeps z (execMigrationChunk st hits s) := by
  grind [execMigrationChunk, act_keeps, setStack_keeps, migrateHit_keeps, foldl_keeps]

theorem execMigrationEnd_keeps (hk : Keeps z s) (st) : OutKeeps z (execMigrationEnd st s) := by
  grind [execMigrationEnd, act_keeps, setFld_keeps, setStack_keeps, spareEvt_keeps]

theorem execBucketLeak_keeps (hk : Keeps z s) : OutKeeps z (execBucketLeak s) := by
  grind [execBucketLeak, act_keeps, setFld_keeps, foldl_keeps]

theorem execBucketOverflow_keeps (hk : Keeps z s) (t synd addr) : OutKeeps z (execBucketOverflow t synd addr s) := by
  grind [execBucketOverflow, act_keeps, eccCe_keeps]

theorem softRepairs_keeps (hk : Keeps z s) (l done) : Keeps z (softRepairs s l done).1 := by
  fun_induction softRepairs s l done <;> grind [eccLog_keeps]

theorem repairsApply_keeps (hk : Keeps z s) : Keeps z (repairsApply s) := by
  grind [repairsApply, setFld_keeps, softRepairs_keeps, foldl_keeps]

/-! ## The power manager -/

theorem warmRegs_canon (t : Table Word) : mcanon regReset (warmRegs t) = true := mcanon_foldl_mset _ _ t (Laws.mcanon_nil regReset)

theorem enterReset_keeps (hk : Keeps z s) (cause held) : Keeps z (enterReset s cause held) := by
  have hnew : Kept z (warmRegs s.regs) s.hostMem [] [] :=
    ⟨fun hz => ⟨warmRegs_canon _, (hk.1 hz).2⟩, fun _ => ⟨fun _ hp => absurd hp List.not_mem_nil, fun _ hp => absurd hp List.not_mem_nil⟩⟩
  unfold enterReset
  exact setFld_keeps (setFld_keeps hnew ..) ..

theorem lowerTo_keeps (hk : Keeps z s) (left) : Keeps z (lowerTo s left) := by
  grind [lowerTo, setPwr_keeps]

theorem bootRead_keeps (hk : Keeps z s) : Keeps z (bootRead s) := by
  grind [bootRead, emitOut_keeps]

theorem enterBoot_keeps (hk : Keeps z s) : Keeps z (enterBoot s) := by
  grind [enterBoot, setFld_keeps, setPwr_keeps, setMode_keeps, bootRead_keeps]

theorem domsUp_keeps (hk : Keeps z s) (doms) : Keeps z (domsUp s doms) := by
  grind [domsUp, setPwr_keeps]

theorem bringUp_keeps (hk : Keeps z s) : Keeps z (bringUp s) := by
  grind [bringUp, setPwr_keeps, enterBoot_keeps, domsUp_keeps]

theorem execColdReset_keeps (hk : Keeps z s) : OutKeeps z (execColdReset s) :=
  act_keeps ⟨fun hz => ⟨rfl, (hk.1 hz).2⟩, fun _ => ⟨fun _ hp => absurd hp List.not_mem_nil, fun _ hp => absurd hp List.not_mem_nil⟩⟩

theorem execColdResetEnd_keeps (hk : Keeps z s) : OutKeeps z (execColdResetEnd s) := by
  grind [execColdResetEnd, act_keeps, setPwr_keeps, bringUp_keeps]

theorem pinReset_keeps (hk : Keeps z s) (pin cause width taken) : Keeps z (pinReset s pin cause width taken) := by
  grind [pinReset, setPwr_keeps, enterReset_keeps]

theorem execPerstNAssert_keeps (hk : Keeps z s) (width taken) : OutKeeps z (execPerstNAssert width taken s) := by
  grind [execPerstNAssert, act_keeps, pinReset_keeps]

theorem execSysResetNAssert_keeps (hk : Keeps z s) (width taken) : OutKeeps z (execSysResetNAssert width taken s) := by
  grind [execSysResetNAssert, act_keeps, pinReset_keeps]

theorem execResetRelease_keeps (hk : Keeps z s) : OutKeeps z (execResetRelease s) := by
  grind [execResetRelease, act_keeps, setPwr_keeps, bringUp_keeps]

theorem execRailRaise_keeps (hk : Keeps z s) : OutKeeps z (execRailRaise s) := by
  grind [execRailRaise, act_keeps, setFld_keeps, setPwr_keeps, enterBoot_keeps]

theorem wakeStart_keeps (hk : Keeps z s) (src port) : Keeps z (wakeStart s src port) := by
  grind [wakeStart, setFld_keeps, setPwr_keeps]

theorem wakeLatch_keeps (hk : Keeps z s) (src port) : Keeps z (wakeLatch s src port) := by
  grind [wakeLatch, setPwr_keeps, wakeStart_keeps]

theorem execRailLower_keeps (hk : Keeps z s) : OutKeeps z (execRailLower s) := by
  unfold execRailLower
  refine act_keeps ?_
  dsimp only
  (repeat' split) <;> grind [act_keeps, setPwr_keeps, setMode_keeps, wakeStart_keeps]

theorem execRailFault_keeps (hk : Keeps z s) (i) : OutKeeps z (execRailFault i s) := by
  grind [execRailFault, act_keeps, setFld_keeps, setBit_keeps, alertSet_keeps, enterReset_keeps, lowerTo_keeps]

theorem wakeFault_keeps (hk : Keeps z s) (u src) : Keeps z (wakeFault s u src) := by
  have h1 : Keeps z (setFld (setBit (alertSet s 0 true) PWR_ST_WAKE_FAULT) PWR_FAULT_SRC src) :=
    setFld_keeps (setBit_keeps (alertSet_keeps hk ..) _) ..
  exact setFld_keeps (setFld_keeps (setFld_keeps (setPwr_keeps (lowerTo_keeps (enterReset_keeps h1 ..) _) _) ..) ..) ..

theorem execPowerupTimeout_keeps (hk : Keeps z s) (src) : OutKeeps z (execPowerupTimeout src s) := by
  grind [execPowerupTimeout, act_keeps, setFld_keeps, setPwr_keeps, lowerTo_keeps, wakeFault_keeps]

theorem execPowerupRetry_keeps (hk : Keeps z s) : OutKeeps z (execPowerupRetry s) := by
  grind [execPowerupRetry, act_keeps, setFld_keeps, setPwr_keeps]

theorem bootFail_keeps (hk : Keeps z s) (err) : Keeps z (bootFail s err) := by
  grind [bootFail, setFld_keeps, setBit_keeps, alertSet_keeps]

theorem easelStart_keeps (hk : Keeps z s) : Keeps z (easelStart s) := by
  grind [easelStart]

theorem enterPrime_keeps (hk : Keeps z s) (gesso flash) : Keeps z (enterPrime s gesso flash) := by
  unfold enterPrime
  extract_lets s1 s2 s3
  have h1 : Keeps z s1 := setMode_keeps (setFld_keeps hk ..) ..
  have h2 : Keeps z (setReg s2 PTP_RATE.addr 0) := setReg_keeps (s := s2) h1 ..
  have h3 : Keeps z s3 := domsUp_keeps (epochStart_keeps h2) _
  exact stacksInit_keeps (glazeApply_keeps (gessoAll_keeps (easelStart_keeps h3) _) _)

theorem execBootImageCheck_keeps (hk : Keeps z s) (found len readOk sigOk dev svn ver edges gesso flash) :
    OutKeeps z (execBootImageCheck found len readOk sigOk dev svn ver edges gesso flash s) := by
  grind [execBootImageCheck, act_keeps, setReg_keeps, setFld_keeps, setPwr_keeps, bootFail_keeps, enterPrime_keeps]

theorem bootGo_keeps (hk : Keeps z s) : Keeps z (bootGo s) := by
  grind [bootGo, emitOut_keeps, setFld_keeps, setPwr_keeps]

theorem execCtlBootGo_keeps (hk : Keeps z s) : OutKeeps z (execCtlBootGo s) := by
  grind [execCtlBootGo, act_keeps, bootGo_keeps]

theorem setupDone_keeps (hk : Keeps z s) : Keeps z (setupDone s) := by
  grind [setupDone, setFld_keeps]

theorem execSysSetupDone_keeps (hk : Keeps z s) : OutKeeps z (execSysSetupDone s) := by
  grind [execSysSetupDone, act_keeps, setupDone_keeps]

theorem primeTrain_keeps (hk : Keeps z s) (res k) : Keeps z (primeTrain res s k) := by
  grind [primeTrain, setLive_keeps, setPc_keeps]

theorem execPrimeTraining_keeps (hk : Keeps z s) (res) : OutKeeps z (execPrimeTraining res s) := by
  grind [execPrimeTraining, act_keeps, setPwr_keeps, repairsApply_keeps, primeTrain_keeps, foldl_keeps]

theorem budgetsLock_keeps (hk : Keeps z s) : Keeps z (budgetsLock s) := by
  grind [budgetsLock, setFld_keeps, raise_keeps, foldl_keeps]

theorem poolsLock_keeps (hk : Keeps z s) : Keeps z (poolsLock s) := by
  grind [poolsLock, setBit_keeps]

theorem execPrimeComplete_keeps (hk : Keeps z s) : OutKeeps z (execPrimeComplete s) := by
  refine act_fresh_keeps hk fun s hk => ?_
  extract_lets s1
  split
  · exact hk
  · have h1 : Keeps z s1 := setFld_keeps (setFld_keeps hk ..) ..
    exact enterRun_keeps (masksApply_keeps (poolsLock_keeps (budgetsLock_keeps h1))) _

theorem modeReq_keeps (hk : Keeps z s) (h target) : Keeps z (modeReq h target s).1 := by
  grind [modeReq, stage_keeps, setPwr_keeps]

theorem modeReqCmd_keeps (hk : Keeps z s) (h target) : OutKeeps z (modeReqCmd h target s) := by
  grind [modeReqCmd, act_keeps, commandLong_keeps, setPwr_keeps, modeReq_keeps]

theorem execPwrModeReqRun_keeps (hk : Keeps z s) (h) : OutKeeps z (execPwrModeReqRun h s) := by
  grind [execPwrModeReqRun, modeReqCmd_keeps, act_keeps]

theorem execPwrModeReqDrain_keeps (hk : Keeps z s) (h) : OutKeeps z (execPwrModeReqDrain h s) := by
  grind [execPwrModeReqDrain, modeReqCmd_keeps, act_keeps]

theorem execPwrModeReqDoze_keeps (hk : Keeps z s) (h) : OutKeeps z (execPwrModeReqDoze h s) := by
  grind [execPwrModeReqDoze, modeReqCmd_keeps, act_keeps]

theorem execPwrModeReqSleep_keeps (hk : Keeps z s) (h) : OutKeeps z (execPwrModeReqSleep h s) := by
  grind [execPwrModeReqSleep, modeReqCmd_keeps, act_keeps]

theorem pwrNext_keeps (hk : Keeps z s) (n) : Keeps z (pwrNext s n) := by
  fun_induction pwrNext s n <;> grind [complete_keeps, setPwr_keeps, modeReq_keeps]

theorem transDone_keeps (hk : Keeps z s) : Keeps z (transDone s) := by
  grind [transDone, complete_keeps, setPwr_keeps, pwrNext_keeps]

theorem dozeLose_keeps (hk : Keeps z s) : Keeps z (dozeLose s) := platesFree_keeps (no_cores_kept hk)

theorem pwrModeApply_keeps (hk : Keeps z s) (m cause) : Keeps z (pwrModeApply s m cause) := by
  grind [pwrModeApply, setFld_keeps, setMode_keeps, enterRun_keeps, transDone_keeps, dozeLose_keeps]

theorem execDozeDomainsOff_keeps (hk : Keeps z s) : OutKeeps z (execDozeDomainsOff s) := by
  grind [execDozeDomainsOff, act_keeps, transDone_keeps]

theorem execDozeExitReady_keeps (hk : Keeps z s) : OutKeeps z (execDozeExitReady s) := by
  grind [execDozeExitReady, act_keeps, setFld_keeps, stage_keeps, setPwr_keeps, storesWrite_keeps]

theorem gpioLatch_keeps (hk : Keeps z s) : Keeps z (gpioLatch s) := by
  grind [gpioLatch, setPwr_keeps]

theorem execSleepEntry_keeps (hk : Keeps z s) : OutKeeps z (execSleepEntry s) := by
  refine act_fresh_keeps hk fun s hk => ?_
  split
  · exact hk
  · extract_lets s1 s2 s3 e1 s4 e2
    split
    · exact hk
    · have h2 : Keeps z s2 := gpioLatch_keeps (platesFree_keeps (keyResetAll_keeps hk))
      have h3 : Keeps z s3 := setFld_keeps (setFld_keeps (setFld_keeps h2 ..) ..) ..
      have h4 : Keeps z { s3 with easel := { e1 with running := false } } := h3
      exact setPwr_keeps (ppsLower_keeps (tickCut_keeps h4)) _

theorem linksRetrain_keeps (hk : Keeps z s) : Keeps z (linksRetrain s) := by
  grind [linksRetrain, setFld_keeps, linkDrop_keeps, mshStop_keeps, foldl_keeps]

theorem execClockStop_keeps (hk : Keeps z s) : OutKeeps z (execClockStop s) := by
  refine act_fresh_keeps hk fun s hk => ?_
  extract_lets e1 s1 e2 s2 e3 e4 e5 e6 s3
  split
  · exact hk
  · have h1 : Keeps z s1 := setPwr_keeps hk _
    have h3 : Keeps z s3 := no_cores_kept h1
    exact lowerTo_keeps (setFld_keeps h3 ..) _

theorem execEthSignalWake_keeps (hk : Keeps z s) (p) : OutKeeps z (execEthSignalWake p s) := by
  grind [execEthSignalWake, act_keeps, wakeLatch_keeps]

theorem execPcieWake_keeps (hk : Keeps z s) : OutKeeps z (execPcieWake s) := by
  grind [execPcieWake, act_keeps, wakeLatch_keeps]

theorem execSleepTimerWake_keeps (hk : Keeps z s) : OutKeeps z (execSleepTimerWake s) := by
  grind [execSleepTimerWake, act_keeps, wakeLatch_keeps]

theorem execWakePatternDetect_keeps (hk : Keeps z s) (m bursts) : OutKeeps z (execWakePatternDetect m bursts s) := by
  grind [execWakePatternDetect, act_keeps, wakeLatch_keeps, foldl_keeps]

theorem execWake_keeps (hk : Keeps z s) : OutKeeps z (execWake s) := by
  unfold execWake
  refine act_keeps ?_
  dsimp only
  (repeat' split) <;> grind [act_keeps, setFld_keeps, setPwr_keeps, storesWrite_keeps, wakeRetrain_keeps, foldl_keeps]

theorem execClockRestart_keeps (hk : Keeps z s) (c) : OutKeeps z (execClockRestart c s) := by
  unfold execClockRestart
  refine act_keeps ?_
  dsimp only
  (repeat' split) <;> grind [act_keeps, setPwr_keeps, enterRun_keeps, setPtp_keeps, epochStart_keeps, easelStart_keeps,
    transDone_keeps, linksRetrain_keeps]

theorem execPcieLinkUp_keeps (hk : Keeps z s) : OutKeeps z (execPcieLinkUp s) := by
  grind [execPcieLinkUp, act_keeps, setPwr_keeps]

theorem wakeReport_keeps (hk : Keeps z s) : Keeps z (wakeReport s) := by
  grind [wakeReport, raise_keeps, setPwr_keeps]

theorem execPwrResidency_keeps (hk : Keeps z s) (h clr addr) : OutKeeps z (execPwrResidency h clr addr s) := by
  grind [execPwrResidency, act_keeps, hostWrites_keeps, command_keeps, setPwr_keeps]

theorem execPwrSilHoldSet_keeps (hk : Keeps z s) (h v) : OutKeeps z (execPwrSilHoldSet h v s) := by
  grind [execPwrSilHoldSet, act_keeps, command_keeps, stage_keeps]

theorem silHoldApply_keeps (hk : Keeps z s) (v) : Keeps z (silHoldApply s v) := by
  grind [silHoldApply, setFld_keeps, groupWake_keeps, foldl_keeps]

theorem execPwrThermal_keeps (hk : Keeps z s) (h) : OutKeeps z (execPwrThermal h s) := by
  grind [execPwrThermal, act_keeps, command_keeps]

theorem thermalShutdown_keeps (hk : Keeps z s) (cause) : Keeps z (thermalShutdown s cause) := by
  grind [thermalShutdown, setBit_keeps, alertSet_keeps, enterReset_keeps, lowerTo_keeps]

theorem thermTo_keeps (hk : Keeps z s) (st t) : Keeps z (thermTo s st t) := by
  grind [thermTo, setFld_keeps, setBit_keeps, raise_keeps, admRefresh_keeps, alertSet_keeps]

theorem tempTaken_keeps (hk : Keeps z s) (t i) : Keeps z (tempTaken s t i) := by
  unfold tempTaken
  dsimp only
  repeat' split
  all_goals grind [setFld_keeps, setPwr_keeps]

theorem tempJudge_keeps (hk : Keeps z s) (t) : Keeps z (tempJudge s t) := by
  unfold tempJudge
  have h1 : Keeps z (if fld s PWR_THERM_STATE = 0 ∧ (fld s PWR_WARN_C : Int) ≤ t then thermTo s 1 t
      else if fld s PWR_THERM_STATE = 1 ∧ t ≤ (fld s PWR_WARN_C : Int) - fld s PWR_HYST_C then thermTo s 0 t
      else s) := ite_keeps (thermTo_keeps hk ..) (ite_keeps (thermTo_keeps hk ..) hk)
  dsimp only
  generalize (if fld s PWR_THERM_STATE = 0 ∧ (fld s PWR_WARN_C : Int) ≤ t then thermTo s 1 t
    else if fld s PWR_THERM_STATE = 1 ∧ t ≤ (fld s PWR_WARN_C : Int) - fld s PWR_HYST_C then thermTo s 0 t
    else s) = u at h1 ⊢
  have h2 : Keeps z (thermTo u 2 t) := thermTo_keeps h1 ..
  generalize thermTo u 2 t = v at h2 ⊢
  exact ite_keeps h1 (ite_keeps (stage_keeps (setPwr_keeps h2 _) ..) (thermalShutdown_keeps h2 _))

theorem execTempReading_keeps (hk : Keeps z s) (raw) : OutKeeps z (execTempReading raw s) := by
  grind [execTempReading, act_keeps, tempTaken_keeps, tempJudge_keeps]

theorem releaseAll_keeps (hk : Keeps z s) (f) : Keeps z (releaseAll s f) := by
  grind [releaseAll, legRelease_keeps, layoutRelease_keeps, confClose_keeps, foldl_keeps]

theorem execCritDrainExpiry_keeps (hk : Keeps z s) : OutKeeps z (execCritDrainExpiry s) := by
  grind [execCritDrainExpiry, act_keeps, setPwr_keeps, releaseAll_keeps]

theorem execThermalTrip_keeps (hk : Keeps z s) : OutKeeps z (execThermalTrip s) := by
  grind [execThermalTrip, act_keeps, setBit_keeps, thermalShutdown_keeps]

theorem execPmbusPoll_keeps (hk : Keeps z s) : OutKeeps z (execPmbusPoll s) := by
  grind [execPmbusPoll, act_keeps, emitOut_keeps, setPwr_keeps, foldl_keeps]

theorem execFirmwareStop_keeps (hk : Keeps z s) : OutKeeps z (execFirmwareStop s) := by
  grind [execFirmwareStop, act_keeps, setPwr_keeps, alertSet_keeps]

/-! ## The host interface at work -/

theorem ringErr_keeps (hk : Keeps z s) (f q err) : Keeps z (ringErr s f q err) := by
  grind [ringErr, setFld_keeps, setBit_keeps, raise_keeps]

theorem ringServe_keeps (hk : Keeps z s) (f q) : Keeps z (ringServe s f q) := by
  grind [ringServe, setFld_keeps, setRing_keeps, drainEvts_keeps, raise_keeps, drainCpls_keeps]

theorem ringEnable_keeps (hk : Keeps z s) (f q) : Keeps z (ringEnable s f q) := by
  unfold ringEnable
  extract_lets s1 s2 e1 s3 e2
  split
  · exact hk
  · have h1 : Keeps z s1 := setFld_keeps (setFld_keeps (setFld_keeps hk ..) ..) ..
    have h3 : Keeps z s3 := setFn_keeps (setRing_keeps h1 ..) ..
    exact ite_keeps (setMedia_keeps h3 ..) (ite_keeps (ringServe_keeps h3 ..) h3)

theorem ringDisable_keeps (hk : Keeps z s) (f q) : Keeps z (ringDisable s f q) := by
  grind [ringDisable, setFld_keeps, setMedia_keeps]

theorem ringWrite_keeps (hk : Keeps z s) (f q en) : Keeps z (ringWrite s f q en) := by
  grind [ringWrite, ringEnable_keeps, ringDisable_keeps]

theorem execHifRingEn_keeps (hk : Keeps z s) (f q en) : OutKeeps z (execHifRingEn f q en s) := by
  grind [execHifRingEn, act_keeps, ringWrite_keeps]

theorem execRingDrainDone_keeps (hk : Keeps z s) (f q) : OutKeeps z (execRingDrainDone f q s) := by
  grind [execRingDrainDone, act_keeps, setFld_keeps]

theorem fnEnWrite_keeps (hk : Keeps z s) (f en) : Keeps z (fnEnWrite s f en) :=
  ite_keeps (setFld_keeps (setFld_keeps hk ..) ..) (setFld_keeps hk ..)

theorem execHifFnEn_keeps (hk : Keeps z s) (f en) : OutKeeps z (execHifFnEn f en s) := by
  grind [execHifFnEn, act_keeps, fnEnWrite_keeps]

theorem fnReset_keeps (hk : Keeps z s) (f cause) : Keeps z (fnReset s f cause) := by
  unfold fnReset
  split
  · exact hk
  · have hfree : Keeps z (((releaseAll s (some f)).aud.media.filter (fun m => m.1 / 64 = f && m.2.point.isSome)).foldl
        (fun t m => stage t (effTick s) (.mediaUnbind m.1)) (releaseAll s (some f))) :=
      foldl_keeps (releaseAll_keeps hk _) (fun t m ht => stage_keeps ht ..) _
    dsimp only
    generalize ((releaseAll s (some f)).aud.media.filter (fun m => m.1 / 64 = f && m.2.point.isSome)).foldl
      (fun t m => stage t (effTick s) (.mediaUnbind m.1)) (releaseAll s (some f)) = u at hfree ⊢
    exact setFld_keeps (setFn_keeps (setFld_keeps (setFld_keeps (s := { u with
      hif := { u.hif with
        waiting := u.hif.waiting.filter (fun w => w.h.fn.toNat ≠ f), reads := u.hif.reads.filter (fun r => r.1 ≠ f) }
      net := { u.net with egress := u.net.egress.filter (fun x => ¬(x.kind = 3 ∧ x.handle = f)), hpa := tdel u.net.hpa f } })
      hfree ..) ..) ..) ..

theorem execFunctionLevelReset_keeps (hk : Keeps z s) (f) : OutKeeps z (execFunctionLevelReset f s) := by
  grind [execFunctionLevelReset, act_keeps, fnReset_keeps, foldl_keeps]

theorem vfClear_keeps (hk : Keeps z s) : Keeps z (vfClear s) := by
  grind [vfClear, fnReset_keeps, foldl_keeps]

theorem execVfEnableClear_keeps (hk : Keeps z s) : OutKeeps z (execVfEnableClear s) := by
  grind [execVfEnableClear, act_keeps, vfClear_keeps]

theorem execHifFnReset_keeps (hk : Keeps z s) (f) : OutKeeps z (execHifFnReset f s) := by
  grind [execHifFnReset, act_keeps, fnReset_keeps]

theorem pageReset_keeps (hk : Keeps z s) (f) : Keeps z (pageReset s f) :=
  ⟨fun hz => ⟨mcanon_filter _ (hk.1 hz).1, (hk.1 hz).2⟩, hk.2⟩

theorem execFnResetComplete_keeps (hk : Keeps z s) (f) : OutKeeps z (execFnResetComplete f s) := by
  refine act_fresh_keeps hk fun s hk => ?_
  extract_lets g x held s1 e1 e2 e3 s2 s3 s4 s5 s6
  split
  · exact hk
  · have h1 : Keeps z s1 := keyResetFn_keeps hk _
    have h4 : Keeps z s4 := setFn_keeps (setFld_keeps (pageReset_keeps (s := s2) h1 _) ..) ..
    have h5 : Keeps z s5 := ite_keeps (setFld_keeps (setFld_keeps h4 ..) ..) h4
    have h6 : Keeps z s6 := ite_keeps h5 (raise_keeps h5 ..)
    exact foldl_keeps h6 (fun t c ht => complete_keeps ht ..) _

theorem execGenNop_keeps (hk : Keeps z s) (h) : OutKeeps z (execGenNop h s) := by
  grind [execGenNop, act_keeps, command_keeps]

theorem execGenFnInfo_keeps (hk : Keeps z s) (h) : OutKeeps z (execGenFnInfo h s) := by
  grind [execGenFnInfo, act_keeps, command_keeps]

theorem execGenEventMask_keeps (hk : Keeps z s) (h enable code) : OutKeeps z (execGenEventMask h enable code s) := by
  grind [execGenEventMask, act_keeps, setFn_keeps, command_keeps]

theorem execGenVfReset_keeps (hk : Keeps z s) (h f) : OutKeeps z (execGenVfReset h f s) := by
  grind [execGenVfReset, act_keeps, setFn_keeps, commandLong_keeps, fnReset_keeps]

theorem runCmd_keeps (hk : Keeps z s) (i) : Keeps z (runCmd s i) := by
  refine meant_keeps hk ?_
  cases i with
  | genNop h => exact execGenNop_keeps hk h
  | genFnInfo h => exact execGenFnInfo_keeps hk h
  | genEventMask h enable code => exact execGenEventMask_keeps hk h enable code
  | genVfReset h f => exact execGenVfReset_keeps hk h f
  | admConfOpen h conf audPmax vidPmax hops => exact execAdmConfOpen_keeps hk h conf audPmax vidPmax hops
  | admConfClose h conf => exact execAdmConfClose_keeps hk h conf
  | admLegAdmit h conf leg addr dma => exact execAdmLegAdmit_keeps hk h conf leg addr dma
  | admLegModify h conf leg addr dma => exact execAdmLegModify_keeps hk h conf leg addr dma
  | admLegRelease h leg => exact execAdmLegRelease_keeps hk h leg
  | admLegStats h clr hd => exact execAdmLegStats_keeps hk h clr hd
  | admFnBudgetSet h f r v => exact execAdmFnBudgetSet_keeps hk h f r v
  | admLayoutAdmit => exact execAdmLayoutAdmit_keeps hk _ _ _ _ _ _ _ _ _
  | admLayoutRelease h id => exact execAdmLayoutRelease_keeps hk h id
  | netStreamBind h hd addr dma => exact execNetStreamBind_keeps hk h hd addr dma
  | netStreamUnbind h hd => exact execNetStreamUnbind_keeps hk h hd
  | netPortStats h clr p u addr => exact execNetPortStats_keeps hk h clr p u addr
  | netJbSet h reanchor hd run => exact execNetJbSet_keeps hk h reanchor hd run
  | netQueueFlush h hd => exact execNetQueueFlush_keeps hk h hd
  | fwdSubSet => exact execFwdSubSet_keeps hk _ _ _ _ _ _ _ _ _ _ _ _ _ _ _ _ _ _
  | fwdSubClear h id => exact execFwdSubClear_keeps hk h id
  | fwdSubCap => exact execFwdSubCap_keeps hk _ _ _ _ _ _ _
  | fwdEstRead h leg => exact execFwdEstRead_keeps hk h leg
  | fwdKeyPicReq h i hd => exact execFwdKeyPicReq_keeps hk h i hd
  | fwdPaceSet => exact execFwdPaceSet_keeps hk _ _ _ _ _ _
  | keyKekInfo h addr => exact execKeyKekInfo_keeps hk h addr
  | kekAgree h addr dma => exact execKekAgree_keeps hk h addr dma
  | keyImport h suite slot addr dma => exact execKeyImport_keeps hk h suite slot addr dma
  | keyDerive h master sess => exact execKeyDerive_keeps hk h master sess
  | keyErase h slot => exact execKeyErase_keeps hk h slot
  | cipBind => exact execCipBind_keeps hk _ _ _ _ _ _ _ _ _ _ _ _ _ _
  | cipUnbind h dir hd => exact execCipUnbind_keeps hk h dir hd
  | cipStats => exact execCipStats_keeps hk _ _ _ _ _ _
  | audRouteSet => exact execAudRouteSet_keeps hk _ _ _ _ _ _ _ _ _ _ _ _ _ _ _ _
  | audBusSetting h bus conf n => exact execAudBusSetting_keeps hk h bus conf n
  | audRouteClear h leg xf => exact execAudRouteClear_keeps hk h leg xf
  | audSinkDyn => exact execAudSinkDyn_keeps hk _ _ _ _ _ _ _ _ _ _ _
  | audTonePlay => exact execAudTonePlay_keeps hk _ _ _ _ _ _ _ _ _ _ _ _ _
  | audToneStop h onBus bus id => exact execAudToneStop_keeps hk h onBus bus id
  | audLevels h clr leg => exact execAudLevels_keeps hk h clr leg
  | audMediaBind => exact execAudMediaBind_keeps hk _ _ _ _ _ _
  | audMediaUnbind h m => exact execAudMediaUnbind_keeps hk h m
  | brsProgLoad h prog addr dma bad => exact execBrsProgLoad_keeps hk h prog addr dma bad
  | brsProgUnload h prog => exact execBrsProgUnload_keeps hk h prog
  | brsTaskBind => exact execBrsTaskBind_keeps hk _ _ _ _ _ _ _ _
  | brsTaskUnbind h pt leg => exact execBrsTaskUnbind_keeps hk h pt leg
  | brsStats h clr pt leg => exact execBrsStats_keeps hk h clr pt leg
  | vidDecOpen => exact execVidDecOpen_keeps hk _ _ _ _ _ _ _
  | vidDecClose h ctx => exact execVidDecClose_keeps hk h ctx
  | vidEncOpen => exact execVidEncOpen_keeps hk _ _ _ _ _ _ _ _ _ _ _
  | vidEncClose h ctx => exact execVidEncClose_keeps hk h ctx
  | vidEncRate => exact execVidEncRate_keeps hk _ _ _ _ _ _
  | vidKeyPic h ctx => exact execVidKeyPic_keeps hk h ctx
  | vidMediaBind => exact execVidMediaBind_keeps hk _ _ _ _ _ _
  | vidMediaUnbind h m => exact execVidMediaUnbind_keeps hk h m
  | vidStats h clr enc ctx addr => exact execVidStats_keeps hk h clr enc ctx addr
  | cnvLayoutSet => exact execCnvLayoutSet_keeps hk _ _ _ _ _ _ _
  | cnvLayerSet => exact execCnvLayerSet_keeps hk _ _ _ _ _ _ _ _ _ _ _ _ _ _ _ _ _ _
  | cnvLayerClear h group layer layout => exact execCnvLayerClear_keeps hk h group layer layout
  | cnvGroupFlip h group layout => exact execCnvGroupFlip_keeps hk h group layout
  | cnvVarnishLoad => exact execCnvVarnishLoad_keeps hk _ _ _ _ _ _ _ _ _ _
  | cnvVarnishDrop h plate => exact execCnvVarnishDrop_keeps hk h plate
  | ptpStep h newEpoch set v n => exact execPtpStep_keeps hk h newEpoch set v n
  | ptpRate h synced r => exact execPtpRate_keeps hk h synced r
  | ptpServoCfg => exact execPtpServoCfg_keeps hk _ _ _ _ _ _ _ _ _ _
  | ptpStatus h => exact execPtpStatus_keeps hk h
  | mshPortCfg => exact execMshPortCfg_keeps hk _ _ _ _ _ _ _ _
  | mshRouteSet h node m => exact execMshRouteSet_keeps hk h node m
  | mshStreamExport h hd relay dst remove => exact execMshStreamExport_keeps hk h hd relay dst remove
  | mshStreamImport => exact execMshStreamImport_keeps hk _ _ _ _ _ _ _ _ _
  | mshTraceSet h id => exact execMshTraceSet_keeps hk h id
  | mshApsCmd h m req lane => exact execMshApsCmd_keeps hk h m req lane
  | mshPeerStatus h m => exact execMshPeerStatus_keeps hk h m
  | mshWakeSend h mask => exact execMshWakeSend_keeps hk h mask
  | memSweep h repair t => exact execMemSweep_keeps hk h repair t
  | memSoftRepair h t m row => exact execMemSoftRepair_keeps hk h t m row
  | softRepairClearAll h t m row => exact execSoftRepairClearAll_keeps hk h t m row
  | memSpareStatus h => exact execMemSpareStatus_keeps hk h
  | memErrLog h clr addr => exact execMemErrLog_keeps hk h clr addr
  | calGlazeLoad h clear addr dma => exact execCalGlazeLoad_keeps hk h clear addr dma
  | calGlazeRead h sel addr => exact execCalGlazeRead_keeps hk h sel addr
  | calLiveRead h cls first count addr => exact execCalLiveRead_keeps hk h cls first count addr
  | calGessoRead h cls idx addr => exact execCalGessoRead_keeps hk h cls idx addr
  | pwrModeReqRun h => exact execPwrModeReqRun_keeps hk h
  | pwrModeReqDrain h => exact execPwrModeReqDrain_keeps hk h
  | pwrModeReqDoze h => exact execPwrModeReqDoze_keeps hk h
  | pwrModeReqSleep h => exact execPwrModeReqSleep_keeps hk h
  | pwrResidency h clr addr => exact execPwrResidency_keeps hk h clr addr
  | pwrSilHoldSet h v => exact execPwrSilHoldSet_keeps hk h v
  | pwrThermal h => exact execPwrThermal_keeps hk h
  | _ => exact next_keeps hk

theorem pump_keeps (hk : Keeps z s) (n) : Keeps z (pump s n) := by
  fun_induction pump s n <;> grind [complete_keeps, runCmd_keeps]

theorem pumpAll_keeps (hk : Keeps z s) : Keeps z (pumpAll s) := by
  grind [pumpAll, pump_keeps]

theorem fetched_keeps (hk : Keeps z s) (f q i) : Keeps z (fetched s f q i) := by
  grind [fetched, setFn_keeps]

theorem execDescriptorFetch_keeps (hk : Keeps z s) (f q words dma bad imgs) :
    OutKeeps z (execDescriptorFetch f q words dma bad imgs s) := by
  grind [execDescriptorFetch, act_keeps, setRing_keeps, dmaErr_keeps, ringErr_keeps, pumpAll_keeps, fetched_keeps]

theorem fnPoll_keeps (hk : Keeps z s) (f) : Keeps z (fnPoll s f) := by
  grind [fnPoll, setFld_keeps]

theorem execDoorbellPoll_keeps (hk : Keeps z s) : OutKeeps z (execDoorbellPoll s) := by
  grind [execDoorbellPoll, act_keeps, advanceTo_keeps, wakeReport_keeps, pumpAll_keeps, fnPoll_keeps, foldl_keeps]

theorem takeIndex_keeps (hk : Keeps z s) (f q v media) : Keeps z (takeIndex s f q v media) := by
  grind [takeIndex, setFn_keeps, setRing_keeps, mediaPost_keeps, ringErr_keeps, ringServe_keeps]

theorem execDoorbellLineRead_keeps (hk : Keeps z s) (f line words media) :
    OutKeeps z (execDoorbellLineRead f line words media s) := by
  grind [execDoorbellLineRead, act_keeps, dmaErr_keeps, pumpAll_keeps, takeIndex_keeps, foldl_keeps]

theorem stallCount_keeps (hk : Keeps z s) : Keeps z (stallCount s) := by
  grind [stallCount, setRing_keeps, foldl_keeps]

theorem execHostStall_keeps (hk : Keeps z s) (f q) : OutKeeps z (execHostStall f q s) := by
  grind [execHostStall, act_keeps, setFld_keeps, setBit_keeps, setRing_keeps, sendErrVec_keeps, raise_keeps]

theorem execModerationPoint_keeps (hk : Keeps z s) (f) : OutKeeps z (execModerationPoint f s) := by
  grind [execModerationPoint, act_keeps, advanceTo_keeps, setFn_keeps, sendMsi_keeps, foldl_keeps]

/-! ## Staged changes take effect -/

theorem agendaDrop_keeps (hk : Keeps z s) (p) : Keeps z (agendaDrop s p) := by
  grind [agendaDrop]

theorem subFree_keeps (hk : Keeps z s) (id) : Keeps z (subFree s id) := by
  grind [subFree, subGoneApply_keeps, agendaDrop_keeps]

theorem ctxFree_keeps (hk : Keeps z s) (enc k) : Keeps z (ctxFree s enc k) := by
  grind [ctxFree, vidGoneApply_keeps, agendaDrop_keeps]

theorem exportsEnd_keeps (hk : Keeps z s) (hd) : Keeps z (exportsEnd s hd) := by
  grind [exportsEnd]

theorem importsEnd_keeps (hk : Keeps z s) (hd) : Keeps z (importsEnd s hd) := by
  grind [importsEnd]

theorem streamStop_keeps (hk : Keeps z s) (hd) : Keeps z (streamStop s hd) := by
  grind [streamStop, netUnbindApply_keeps, exportsEnd_keeps]

theorem streamGone_keeps (hk : Keeps z s) (hd) : Keeps z (streamGone s hd) := by
  grind [streamGone, netGoneApply_keeps, vidFlush_keeps, importsEnd_keeps]

theorem subEnd_keeps (hk : Keeps z s) (id) : Keeps z (subEnd s id) := by
  grind [subEnd, stageEnd_keeps, subStopApply_keeps, agendaDrop_keeps]

theorem ctxsInForce_keeps (hk : Keeps z s) (leg old prof) : Keeps z (ctxsInForce s leg old prof) := by
  grind [ctxsInForce, encLimits_keeps, foldl_keeps]

theorem legInForce_keeps (hk : Keeps z s) (leg prof jobs first) : Keeps z (legInForce s leg prof jobs first) := by
  grind [legInForce, policeFill_keeps, estStart_keeps, ctxsInForce_keeps, foldl_keeps]

theorem legEnd_keeps (hk : Keeps z s) (leg) : Keeps z (legEnd s leg) := by
  grind [legEnd, audStop_keeps, brsStopApply_keeps, encLimits_keeps, vidStopApply_keeps, streamStop_keeps, subEnd_keeps,
    foldl_keeps]

theorem legFree_keeps (hk : Keeps z s) (leg) : Keeps z (legFree s leg) := by
  grind [legFree, brsGoneApply_keeps, agendaDrop_keeps, ctxFree_keeps, streamGone_keeps, foldl_keeps]

theorem layoutEnd_keeps (hk : Keeps z s) (id) : Keeps z (layoutEnd s id) := by
  grind [layoutEnd, vidStopApply_keeps, foldl_keeps]

theorem layoutFree_keeps (hk : Keeps z s) (id) : Keeps z (layoutFree s id) := by
  grind [layoutFree, cnvLayoutGone_keeps, ctxFree_keeps, foldl_keeps]

theorem busesEnd_keeps (hk : Keeps z s) (c) : Keeps z (busesEnd s c) := by
  grind [busesEnd, mediaUnbindApply_keeps, toneEnd_keeps, endingDrop_keeps, foldl_keeps]

theorem confFree_keeps (hk : Keeps z s) (c) : Keeps z (confFree s c) := by
  grind [confFree, agendaDrop_keeps, busesEnd_keeps]

theorem shareApply_keeps (hk : Keeps z s) (f r v) : Keeps z (shareApply s f r v) := by
  grind [shareApply, setFld_keeps]

theorem applyChange_keeps (hk : Keeps z s) (c) : Keeps z (applyChange s c) := by
  cases c with
  | legApply => exact legInForce_keeps hk ..
  | legStop leg =>
    rw [applyChange]
    exact legEnd_keeps hk leg
  | legGone => exact legFree_keeps hk ..
  | layoutStop => exact layoutEnd_keeps hk ..
  | layoutGone => exact layoutFree_keeps hk ..
  | share => exact shareApply_keeps hk ..
  | netBind => exact audBound_keeps (netBindApply_keeps hk ..) ..
  | netUnbind => exact streamStop_keeps hk ..
  | netGone => exact streamGone_keeps hk ..
  | jbReanchor => exact jbReanchorApply_keeps hk ..
  | jbLate => exact jbLateApply_keeps hk ..
  | subStart => exact subStartApply_keeps hk ..
  | subStop => exact subStopApply_keeps hk ..
  | subGone => exact subFree_keeps hk ..
  | subCap => exact subCapApply_keeps hk ..
  | subTarget => exact subTargetApply_keeps hk ..
  | pace => exact paceApply_keeps hk ..
  | keyErase => exact keyEraseApply_keeps hk ..
  | keyUnit => exact keyUnitApply_keeps hk ..
  | cipRx => exact cipRxApply_keeps hk ..
  | cipTx => exact cipTxApply_keeps hk ..
  | cipUnbind => exact cipUnbindApply_keeps hk ..
  | confGone c =>
    rw [applyChange]
    exact confFree_keeps hk c
  | mixN => exact setAudConf_keeps hk ..
  | sinkDyn leg d =>
    unfold applyChange
    exact ite_keeps (setAudLeg_keeps hk ..) hk
  | tonePlay => exact tonePlayApply_keeps hk ..
  | toneStop => exact toneEnd_keeps hk ..
  | mediaBind => exact mediaBindApply_keeps hk ..
  | mediaUnbind => exact mediaUnbindApply_keeps hk ..
  | brsStart => exact brsStartApply_keeps hk ..
  | brsStop => exact brsStopApply_keeps hk ..
  | brsGone => exact brsGoneApply_keeps hk ..
  | vidStart => exact vidStartApply_keeps hk ..
  | vidStop => exact vidStopApply_keeps hk ..
  | vidGone => exact ctxFree_keeps hk ..
  | encRate => exact encRateApply_keeps hk ..
  | plateDrop => exact plateDropApply_keeps hk ..
  | mshPort => exact mshPortApply_keeps hk ..
  | mshTrace id =>
    rw [applyChange]
    exact mshTraceApply_keeps hk id
  | mshAps m req lane =>
    rw [applyChange]
    exact mshApsApply_keeps hk m req lane
  | pwrMode m cause => exact pwrModeApply_keeps hk m cause
  | silHold => exact silHoldApply_keeps hk ..
  | layoutApply => exact hk
  | mshRoute => exact hk
  | mshExport => exact hk
  | mshExportEnd => exact hk

theorem agendaStart_keeps (hk : Keeps z s) (n) : Keeps z (agendaStart s n) := by
  grind [agendaStart, applyChange_keeps, foldl_keeps]

theorem agendaEnd_keeps (hk : Keeps z s) (n) : Keeps z (agendaEnd s n) := by
  grind [agendaEnd, applyChange_keeps, foldl_keeps]

/-! ## The Easel's tick -/

theorem audSkip_keeps (hk : Keeps z s) (k leg) : Keeps z (audSkip s k leg) := by
  grind [audSkip, setAudLeg_keeps]

theorem skipWork_keeps (hk : Keeps z s) : Keeps z (skipWork s) := by
  grind [skipWork, decSkip_keeps, ctxSkip_keeps, audSkip_keeps, foldl_keeps]

theorem spillErr_keeps (hk : Keeps z s) (hd ue) : Keeps z (spillErr s hd ue) := by
  grind [spillErr, setFld_keeps, setBit_keeps, bump_keeps, raise_keeps, setBound_keeps]

theorem releaseItem_keeps (hk : Keeps z s) (hd p) : Keeps z (releaseItem s hd p) := by
  grind [releaseItem, fwdRelease_keeps, setAudLeg_keeps]

theorem releaseStream_keeps (hk : Keeps z s) (errs slow q) : Keeps z (releaseStream errs slow s q) := by
  unfold releaseStream
  dsimp only
  repeat' split
  all_goals grind [setBound_keeps, countAccepted_keeps, setAudLeg_keeps, vidRelease_keeps, spillErr_keeps, releaseItem_keeps, foldl_keeps]

theorem gatherEnd_keeps (hk : Keeps z s) : Keeps z (gatherEnd s) := by
  grind [gatherEnd, advanceTo_keeps, overrun_keeps, setAudLeg_keeps, foldl_keeps]

theorem workOpen_keeps (hk : Keeps z s) : Keeps z (workOpen s) := by
  grind [workOpen, advanceTo_keeps, setPwr_keeps, selectAll_keeps, peersOpen_keeps, gatherEnd_keeps, foldl_keeps]

theorem workEnd_keeps (hk : Keeps z s) : Keeps z (workEnd s) := by
  unfold workEnd
  split
  · exact hk
  · have hend : Keeps z (cnvEnd (encEnd (decEnd (audioEnd (brushEnd (advanceTo s (s.easel.start + 708333))))))) :=
      cnvEnd_keeps (encEnd_keeps (decEnd_keeps (audioEnd_keeps (brushEnd_keeps (advanceTo_keeps hk ..)))))
    dsimp only
    generalize cnvEnd (encEnd (decEnd (audioEnd (brushEnd (advanceTo s (s.easel.start + 708333)))))) = u at hend ⊢
    exact groupsGate_keeps (s := { u with easel := { u.easel with work := false } }) hend

theorem emitEnd_keeps (hk : Keeps z s) : Keeps z (emitEnd s) := by
  grind [emitEnd, toEmitEnd_keeps, overrun_keeps, partialEnd_keeps, thermalShutdown_keeps, agendaEnd_keeps, foldl_keeps]

theorem hostFrame_keeps (hk : Keeps z s) (f i b) : Keeps z (hostFrame s f i b) := by
  grind [hostFrame, stat_keeps, hpaSent_keeps, schedule'_keeps]

theorem hostFrames_keeps (hk : Keeps z s) (f) : Keeps z (hostFrames s f) := by
  grind [hostFrames, setHpa_keeps, hostFrame_keeps, foldl_keeps]

theorem emitLeg_keeps (hk : Keeps z s) (t leg) : Keeps z (emitLeg s t leg) := by
  grind [emitLeg, schedule'_keeps, forwardLeg_keeps, ownAudio_keeps, ownVideo_keeps, foldl_keeps]

theorem emitOpen_keeps (hk : Keeps z s) : Keeps z (emitOpen s) := by
  have hopen : Keeps z (workEnd (emitEnd (workOpen s))) := workEnd_keeps (emitEnd_keeps (workOpen_keeps hk))
  unfold emitOpen
  split
  · exact hk
  · dsimp only
    generalize workEnd (emitEnd (workOpen s)) = v at hopen ⊢
    have hat : Keeps z (advanceTo v (v.easel.start + 708333)) := advanceTo_keeps hopen _
    generalize advanceTo v (v.easel.start + 708333) = u at hat ⊢
    refine foldl_keeps (partialSend_keeps (relaySr_keeps (kpSendAll_keeps ?_ _) _) _)
      (fun u p hu => ite_keeps (hostFrames_keeps hu _) hu) _
    exact foldl_keeps (s := { u with easel := { u.easel with emit := some (curTick u), emitted := true, emitEndCyc := none } })
      hat (fun u p hu => emitLeg_keeps hu ..) _

theorem nextTick_keeps (hk : Keeps z s) : Keeps z (nextTick s) := by
  grind [nextTick]

theorem padsRelease_keeps (hk : Keeps z s) : Keeps z (padsRelease s) := by
  grind [padsRelease, setFld_keeps, setPwr_keeps]

theorem modeCount_keeps (hk : Keeps z s) : Keeps z (modeCount s) := by
  grind [modeCount, setPwr_keeps]

theorem fwData_keeps (hk : Keeps z s) (d) : Keeps z (fwData s d) := by
  unfold fwData
  dsimp only
  repeat' split
  all_goals grind [legRelease_keeps, layoutRelease_keeps, degrade_keeps, vidClose_keeps]

theorem tickOpened_keeps (hk : Keeps z s) : Keeps z (skipWork (modeCount (agendaStart (padsRelease (stallCount
    (nextTick (tsDrain (advanceTo s s.easel.due))))) (curTick (padsRelease (stallCount
    (nextTick (tsDrain (advanceTo s s.easel.due)))))))) ) :=
  skipWork_keeps (modeCount_keeps (agendaStart_keeps
    (padsRelease_keeps (stallCount_keeps (nextTick_keeps (tsDrain_keeps (advanceTo_keeps hk _))))) _))

theorem tickServed_keeps (hk : Keeps z s) :
    Keeps z (vidInject (quietAll (routesApply { s with easel := { s.easel with skipped := [] } }))) :=
  vidInject_keeps (quietAll_keeps (routesApply_keeps (s := { s with easel := { s.easel with skipped := [] } }) hk))

theorem tickWoken_keeps (hk : Keeps z s) : Keeps z (groupsWake (if s.pwr.fwStop then s else encStartAll s)) :=
  groupsWake_keeps (ite_keeps hk (encStartAll_keeps hk))

theorem tickStart_keeps (hk : Keeps z s) (errs slow hits fw) : Keeps z (tickStart errs slow hits fw s) := by
  unfold tickStart
  have h1 : Keeps z (boundaryMoves (emitOpen s)) := boundaryMoves_keeps (emitOpen_keeps hk)
  refine ite_keeps hk ?_
  generalize boundaryMoves (emitOpen s) = t at h1 ⊢
  refine ite_keeps h1 ?_
  extract_lets +onlyGivenNames s2 s3 s4 s5
  have h5 : Keeps z s5 := tickOpened_keeps h1
  clear_value s5
  extract_lets +onlyGivenNames s6
  have h6 : Keeps z s6 := foldl_keeps h5 (fun t p ht => releaseStream_keeps ht ..) _
  clear_value s6
  extract_lets +onlyGivenNames e s7 s8
  have h8 : Keeps z s8 := tickServed_keeps h6
  clear_value s8
  dsimp only
  exact foldl_keeps (eccHits_keeps (tickWoken_keeps h8) hits) (fun t d ht => fwData_keeps ht d) fw

theorem outPulse_keeps (hk : Keeps z s) (n start t) : Keeps z (outPulse s n start t) := by
  grind [outPulse, emitOut_keeps, advanceTo_keeps]

theorem tickOutPulse_keeps (hk : Keeps z s) : Keeps z (tickOutPulse s) := by
  grind [tickOutPulse, outPulse_keeps]

theorem execTickStart_keeps (hk : Keeps z s) (errs slow hits fw) : OutKeeps z (execTickStart errs slow hits fw s) := by
  grind [execTickStart, act_keeps, tickStart_keeps]

theorem execWorkOpen_keeps (hk : Keeps z s) : OutKeeps z (execWorkOpen s) := by
  grind [execWorkOpen, act_keeps, workOpen_keeps]

theorem execEmitOpen_keeps (hk : Keeps z s) : OutKeeps z (execEmitOpen s) := by
  grind [execEmitOpen, act_keeps, emitOpen_keeps]

theorem execPhaseEnd_keeps (hk : Keeps z s) (phase) : OutKeeps z (execPhaseEnd phase s) := by
  grind [execPhaseEnd, act_keeps, gatherEnd_keeps, workEnd_keeps, emitEnd_keeps]

theorem execLatchPoint_keeps (hk : Keeps z s) : OutKeeps z (execLatchPoint s) := by
  grind [execLatchPoint, act_keeps, advanceTo_keeps]

theorem execTickOutPulse_keeps (hk : Keeps z s) : OutKeeps z (execTickOutPulse s) := by
  grind [execTickOutPulse, act_keeps, tickOutPulse_keeps]

/-! ## The JTAG port -/

theorem setJtag_keeps (hk : Keeps z s) (j) : Keeps z (setJtag s j) := by
  grind [setJtag]

theorem tapAct_keeps (hk : Keeps z s) (tdi) : Keeps z (tapAct s tdi) := by
  grind [tapAct, emitOut_keeps, setJtag_keeps]

theorem jtagEdge_keeps (hk : Keeps z s) (tms tdi trst) : Keeps z (jtagEdge s tms tdi trst) := by
  grind [jtagEdge, emitOut_keeps, setJtag_keeps, tapAct_keeps]

/-! ## Accesses to the registers -/

theorem readAt_keeps (hk : Keeps z s) (a) : Keeps z (readAt s a).1 := by
  grind [readAt, setReg_keeps, setBit_keeps, foldl_keeps]

theorem setRdata_keeps (hk : Keeps z s) (d) : Keeps z (setRdata s d) := by
  grind [setRdata]

theorem latchRead_keeps (hk : Keeps z s) (a wide) : Keeps z (latchRead s a wide) := by
  grind [latchRead, readAt_keeps, setRdata_keeps]

theorem eccClear_keeps (hk : Keeps z s) (t) : Keeps z (eccClear s t) := by
  grind [eccClear, setFld_keeps]

theorem ovrLastClear_keeps (hk : Keeps z s) : Keeps z (ovrLastClear s) := by
  grind [ovrLastClear]

theorem clearBits_keeps (hk : Keeps z s) (a d) : Keeps z (clearBits s a d) := by
  grind [clearBits, setFld_keeps, eccClear_keeps, ovrLastClear_keeps, foldl_keeps]

theorem padRelease_keeps (hk : Keeps z s) (bits) : Keeps z (padRelease s bits) := by
  grind [padRelease, setPwr_keeps]

theorem hpaEnable_keeps (hk : Keeps z s) (f en) : Keeps z (hpaEnable s f en) := by
  grind [hpaEnable, setFld_keeps, setHpa_keeps]

theorem tickSource_keeps (hk : Keeps z s) (old) : Keeps z (tickSource s old) := by
  grind [tickSource, setReg_keeps, setFld_keeps]

theorem vecModWritten_keeps (hk : Keeps z s) (f v) : Keeps z (vecModWritten s f v) := by
  grind [vecModWritten, sendMsi_keeps]

theorem regActs_keeps (hk : Keeps z s) (a d old) : Keeps z (regActs s a d old) := by
  unfold regActs
  extract_lets b
  refine ite_keeps (ite_keeps (setupDone_keeps hk) hk) ?_
  refine ite_keeps (ite_keeps (bootGo_keeps hk) hk) ?_
  refine ite_keeps (hostClose_keeps hk _) ?_
  refine ite_keeps (tickSource_keeps hk _) ?_
  refine ite_keeps (ite_keeps hk (tickCut_keeps hk)) ?_
  refine ite_keeps (ppsCut_keeps (ite_keeps (setPtp_keeps hk _) hk)) ?_
  refine ite_keeps (padRelease_keeps hk _) ?_
  refine ite_keeps (setPwr_keeps hk _) ?_
  refine ite_keeps (ite_keeps (alertSet_keeps hk ..) hk) ?_
  refine ite_keeps (ite_keeps hk (hpaEnable_keeps hk ..)) ?_
  split
  · exact ite_keeps (ringWrite_keeps hk ..) hk
  · exact ite_keeps (vecModWritten_keeps hk ..) (ite_keeps (fnEnWrite_keeps (ite_keeps (fnReset_keeps hk ..) hk) ..) (clearBits_keeps hk ..))

theorem regWrite_keeps (hk : Keeps z s) (a d) : Keeps z (regWrite s a d) := by
  grind [regWrite, setReg_keeps, setFld_keeps, setBit_keeps, regActs_keeps, foldl_keeps]

theorem msixWrite_keeps (hk : Keeps z s) (f o d) : Keeps z (msixWrite s f o d) := by
  grind [msixWrite, sendMsi_keeps]

theorem windowWrite_keeps (hk : Keeps z s) (f o d) : Keeps z (windowWrite s f o d) := by
  grind [windowWrite, setBit_keeps, regWrite_keeps, msixWrite_keeps]

theorem sriovWrite_keeps (hk : Keeps z s) (d) : Keeps z (sriovWrite s d) := by
  grind [sriovWrite, vfClear_keeps]

theorem msixCapWrite_keeps (hk : Keeps z s) (f d) : Keeps z (msixCapWrite s f d) := by
  grind [msixCapWrite, sendMsi_keeps, foldl_keeps]

theorem aerWrite_keeps (hk : Keeps z s) (f o d) : Keeps z (aerWrite s f o d) := by
  refine ite_keeps hk ?_
  split <;> grind [setAer_keeps]

theorem windowRead_keeps (hk : Keeps z s) (f o) : Keeps z (windowRead s f o).1 := by
  grind [windowRead, setBit_keeps, readAt_keeps]

theorem cfgRead_keeps (hk : Keeps z s) (w) : Keeps z (cfgRead s w).1 := by
  grind [cfgRead]

theorem busOne_keeps (hk : Keeps z s) (p rd o d) : Keeps z (busOne s p rd o d).1 := by
  cases p <;> cases rd
  case bar0.true => exact readAt_keeps hk _
  case bar0.false => exact regWrite_keeps hk ..
  case window.true => exact windowRead_keeps hk ..
  case window.false => exact windowWrite_keeps hk ..
  case sriov.true => exact cfgRead_keeps hk _
  case sriov.false => exact sriovWrite_keeps hk _
  case msixCap.true => exact cfgRead_keeps hk _
  case msixCap.false => exact msixCapWrite_keeps hk ..
  case aer.true => exact cfgRead_keeps hk _
  case aer.false => exact aerWrite_keeps hk ..
  case jtag.true => exact jtagEdge_keeps hk ..
  case jtag.false => exact jtagEdge_keeps hk ..

theorem busAccess_keeps (hk : Keeps z s) (acc) : Keeps z (busAccess s acc) := by
  grind [busAccess, setBit_keeps, setRdata_keeps, busOne_keeps]

theorem clearWrite_keeps (hk : Keeps z s) (c) : Keeps z (clearWrite s c) := by
  grind [clearWrite, regWrite_keeps]

theorem execTikOutEn_keeps (hk : Keeps z s) (en) : OutKeeps z (execTikOutEn en s) := by
  grind [execTikOutEn, act_keeps, regWrite_keeps]

theorem execPadRelTime_keeps (hk : Keeps z s) : OutKeeps z (execPadRelTime s) := by
  grind [execPadRelTime, act_keeps, regWrite_keeps]

theorem execPadRelGpio_keeps (hk : Keeps z s) : OutKeeps z (execPadRelGpio s) := by
  grind [execPadRelGpio, act_keeps, regWrite_keeps]

theorem execTikNowLo_keeps (hk : Keeps z s) (wide) : OutKeeps z (execTikNowLo wide s) := by
  grind [execTikNowLo, act_keeps, latchRead_keeps]

theorem execTikOvrLastLo_keeps (hk : Keeps z s) (wide) : OutKeeps z (execTikOvrLastLo wide s) := by
  grind [execTikOvrLastLo, act_keeps, latchRead_keeps]

theorem execPtpTimeNs_keeps (hk : Keeps z s) (wide) : OutKeeps z (execPtpTimeNs wide s) := by
  grind [execPtpTimeNs, act_keeps, latchRead_keeps]

theorem execPtpSleepCntLo_keeps (hk : Keeps z s) (wide) : OutKeeps z (execPtpSleepCntLo wide s) := by
  grind [execPtpSleepCntLo, act_keeps, latchRead_keeps]

theorem execSysSerialLo_keeps (hk : Keeps z s) (wide) : OutKeeps z (execSysSerialLo wide s) := by
  grind [execSysSerialLo, act_keeps, latchRead_keeps]

theorem execRegisterWrite_keeps (hk : Keeps z s) (acc) : OutKeeps z (execRegisterWrite acc s) := by
  grind [execRegisterWrite, act_keeps, busAccess_keeps]

theorem execTikClrLast_keeps (hk : Keeps z s) : OutKeeps z (execTikClrLast s) := by
  grind [execTikClrLast, act_keeps, clearWrite_keeps]

theorem execTikClrHold_keeps (hk : Keeps z s) : OutKeeps z (execTikClrHold s) := by
  grind [execTikClrHold, act_keeps, clearWrite_keeps]

theorem execTikClrSkip_keeps (hk : Keeps z s) : OutKeeps z (execTikClrSkip s) := by
  grind [execTikClrSkip, act_keeps, clearWrite_keeps]

theorem execTikClrEmit_keeps (hk : Keeps z s) : OutKeeps z (execTikClrEmit s) := by
  grind [execTikClrEmit, act_keeps, clearWrite_keeps]

theorem execTikClrWork_keeps (hk : Keeps z s) : OutKeeps z (execTikClrWork s) := by
  grind [execTikClrWork, act_keeps, clearWrite_keeps]

theorem execTikClrGather_keeps (hk : Keeps z s) : OutKeeps z (execTikClrGather s) := by
  grind [execTikClrGather, act_keeps, clearWrite_keeps]

theorem execSpqClrUe_keeps (hk : Keeps z s) : OutKeeps z (execSpqClrUe s) := by
  grind [execSpqClrUe, act_keeps, clearWrite_keeps]

theorem execSpqClrCe_keeps (hk : Keeps z s) : OutKeeps z (execSpqClrCe s) := by
  grind [execSpqClrCe, act_keeps, clearWrite_keeps]

theorem execFwdClrKp_keeps (hk : Keeps z s) : OutKeeps z (execFwdClrKp s) := by
  grind [execFwdClrKp, act_keeps, clearWrite_keeps]

theorem execFwdClrStale_keeps (hk : Keeps z s) : OutKeeps z (execFwdClrStale s) := by
  grind [execFwdClrStale, act_keeps, clearWrite_keeps]

theorem execFwdClrLimit_keeps (hk : Keeps z s) : OutKeeps z (execFwdClrLimit s) := by
  grind [execFwdClrLimit, act_keeps, clearWrite_keeps]

theorem execCipClrRetry_keeps (hk : Keeps z s) : OutKeeps z (execCipClrRetry s) := by
  grind [execCipClrRetry, act_keeps, clearWrite_keeps]

theorem execCipClrRefuse_keeps (hk : Keeps z s) : OutKeeps z (execCipClrRefuse s) := by
  grind [execCipClrRefuse, act_keeps, clearWrite_keeps]

theorem execCipClrReplay_keeps (hk : Keeps z s) : OutKeeps z (execCipClrReplay s) := by
  grind [execCipClrReplay, act_keeps, clearWrite_keeps]

theorem execCipClrAuth_keeps (hk : Keeps z s) : OutKeeps z (execCipClrAuth s) := by
  grind [execCipClrAuth, act_keeps, clearWrite_keeps]

theorem execKeyClrUnwrap_keeps (hk : Keeps z s) : OutKeeps z (execKeyClrUnwrap s) := by
  grind [execKeyClrUnwrap, act_keeps, clearWrite_keeps]

theorem execAudClrPart_keeps (hk : Keeps z s) : OutKeeps z (execAudClrPart s) := by
  grind [execAudClrPart, act_keeps, clearWrite_keeps]

theorem execAudClrSat_keeps (hk : Keeps z s) : OutKeeps z (execAudClrSat s) := by
  grind [execAudClrSat, act_keeps, clearWrite_keeps]

theorem execAudClrClip_keeps (hk : Keeps z s) : OutKeeps z (execAudClrClip s) := by
  grind [execAudClrClip, act_keeps, clearWrite_keeps]

theorem execBrsClrFault_keeps (hk : Keeps z s) : OutKeeps z (execBrsClrFault s) := by
  grind [execBrsClrFault, act_keeps, clearWrite_keeps]

theorem execVidClrBound_keeps (hk : Keeps z s) : OutKeeps z (execVidClrBound s) := by
  grind [execVidClrBound, act_keeps, clearWrite_keeps]

theorem execVidClrDrop_keeps (hk : Keeps z s) : OutKeeps z (execVidClrDrop s) := by
  grind [execVidClrDrop, act_keeps, clearWrite_keeps]

theorem execVidClrMin_keeps (hk : Keeps z s) : OutKeeps z (execVidClrMin s) := by
  grind [execVidClrMin, act_keeps, clearWrite_keeps]

theorem execVidClrDmg_keeps (hk : Keeps z s) : OutKeeps z (execVidClrDmg s) := by
  grind [execVidClrDmg, act_keeps, clearWrite_keeps]

theorem execCnvClrUe_keeps (hk : Keeps z s) : OutKeeps z (execCnvClrUe s) := by
  grind [execCnvClrUe, act_keeps, clearWrite_keeps]

theorem execCnvClrOmit_keeps (hk : Keeps z s) : OutKeeps z (execCnvClrOmit s) := by
  grind [execCnvClrOmit, act_keeps, clearWrite_keeps]

theorem execCnvClrFlip_keeps (hk : Keeps z s) : OutKeeps z (execCnvClrFlip s) := by
  grind [execCnvClrFlip, act_keeps, clearWrite_keeps]

theorem execPtpClrRxdrop_keeps (hk : Keeps z s) : OutKeeps z (execPtpClrRxdrop s) := by
  grind [execPtpClrRxdrop, act_keeps, clearWrite_keeps]

theorem execPtpClrLaunch_keeps (hk : Keeps z s) : OutKeeps z (execPtpClrLaunch s) := by
  grind [execPtpClrLaunch, act_keeps, clearWrite_keeps]

theorem execPtpClrTslost_keeps (hk : Keeps z s) : OutKeeps z (execPtpClrTslost s) := by
  grind [execPtpClrTslost, act_keeps, clearWrite_keeps]

theorem execMshClrCredit_keeps (hk : Keeps z s) : OutKeeps z (execMshClrCredit s) := by
  grind [execMshClrCredit, act_keeps, clearWrite_keeps]

theorem execMshClrMedia_keeps (hk : Keeps z s) : OutKeeps z (execMshClrMedia s) := by
  grind [execMshClrMedia, act_keeps, clearWrite_keeps]

theorem execMshClrLate_keeps (hk : Keeps z s) : OutKeeps z (execMshClrLate s) := by
  grind [execMshClrLate, act_keeps, clearWrite_keeps]

theorem execMshClrDrop_keeps (hk : Keeps z s) : OutKeeps z (execMshClrDrop s) := by
  grind [execMshClrDrop, act_keeps, clearWrite_keeps]

theorem execMshClrUnit_keeps (hk : Keeps z s) : OutKeeps z (execMshClrUnit s) := by
  grind [execMshClrUnit, act_keeps, clearWrite_keeps]

theorem execMemClrPoison_keeps (hk : Keeps z s) : OutKeeps z (execMemClrPoison s) := by
  grind [execMemClrPoison, act_keeps, clearWrite_keeps]

theorem execEccClr_keeps (hk : Keeps z s) (t) : OutKeeps z (execEccClr t s) := by
  grind [execEccClr, act_keeps, regWrite_keeps]

theorem execCalClrWide_keeps (hk : Keeps z s) : OutKeeps z (execCalClrWide s) := by
  grind [execCalClrWide, act_keeps, clearWrite_keeps]

theorem execCalClrHeld_keeps (hk : Keeps z s) : OutKeeps z (execCalClrHeld s) := by
  grind [execCalClrHeld, act_keeps, clearWrite_keeps]

/-! ## The meaning of every command -/

/-- Every command of the model keeps the stores and the Brush array in order: one case for each row. -/
theorem exec_keeps (hk : Keeps z s) (i : Instr) : OutKeeps z (exec i s) := by
  cases i with
  | tickStart errs slow hits fw => exact execTickStart_keeps hk errs slow hits fw
  | workOpen => exact execWorkOpen_keeps hk
  | emitOpen => exact execEmitOpen_keeps hk
  | packetLaunch p u => exact execPacketLaunch_keeps hk p u
  | phaseEnd phase => exact execPhaseEnd_keeps hk phase
  | latchPoint => exact execLatchPoint_keeps hk
  | tickOutPulse => exact execTickOutPulse_keeps hk
  | stepApply => exact execStepApply_keeps hk
  | tickLockLost => exact execTickLockLost_keeps hk
  | audioDecode hd pcm ns hits => exact execAudioDecode_keeps hk hd pcm ns hits
  | mix late => exact execMix_keeps hk late
  | activeSpeakerSwap conf bus => exact execActiveSpeakerSwap_keeps hk conf bus
  | dominantSpeakerChange conf => exact execDominantSpeakerChange_keeps hk conf
  | audioEncode hd pay sid hits => exact execAudioEncode_keeps hk hd pay sid hits
  | groupWake g => exact execGroupWake_keeps hk g
  | silHoldReached leg => exact execSilHoldReached_keeps hk leg
  | taskArrival leg pt => exact execTaskArrival_keeps hk leg pt
  | move b dst src => exact execMove_keeps hk b dst src
  | ldi b dst imm => exact execLdi_keeps hk b dst imm
  | ldH b d e => exact execLdH_keeps hk b d e
  | ldL b d e => exact execLdL_keeps hk b d e
  | stH b d e => exact execStH_keeps hk b d e
  | stL b d e => exact execStL_keeps hk b d e
  | ldbus b n e => exact execLdbus_keeps hk b n e
  | stbus b n e => exact execStbus_keeps hk b n e
  | movd b d n => exact execMovd_keeps hk b d n
  | movdR b d n => exact execMovdR_keeps hk b d n
  | mul b n x y => exact execMul_keeps hk b n x y
  | mla b n x y => exact execMla_keeps hk b n x y
  | mls b n x y => exact execMls_keeps hk b n x y
  | mulR b n x y => exact execMulR_keeps hk b n x y
  | mlaR b n x y => exact execMlaR_keeps hk b n x y
  | mlaM b n x y => exact execMlaM_keeps hk b n x y
  | mlsM b n x y => exact execMlsM_keeps hk b n x y
  | mla2 => exact execMla2_keeps hk _ _ _ _ _ _ _
  | add b n m => exact execAdd_keeps hk b n m
  | sub b n m => exact execSub_keeps hk b n m
  | neg b n => exact execNeg_keeps hk b n
  | abs b n => exact execAbs_keeps hk b n
  | clr b n => exact execClr_keeps hk b n
  | cmp b n m => exact execCmp_keeps hk b n m
  | shl b n k => exact execShl_keeps hk b n k
  | shr b n k => exact execShr_keeps hk b n k
  | rndc b n => exact execRndc_keeps hk b n
  | sat b n => exact execSat_keeps hk b n
  | cls b d n => exact execCls_keeps hk b d n
  | addd b d x y => exact execAddd_keeps hk b d x y
  | subd b d x y => exact execSubd_keeps hk b d x y
  | and b d x y => exact execAnd_keeps hk b d x y
  | or b d x y => exact execOr_keeps hk b d x y
  | xor b d x y => exact execXor_keeps hk b d x y
  | not b d x => exact execNot_keeps hk b d x
  | lsl b d x k => exact execLsl_keeps hk b d x k
  | lsr b d x k => exact execLsr_keeps hk b d x k
  | asrd b d x k => exact execAsrd_keeps hk b d x k
  | cmpd b x y => exact execCmpd_keeps hk b x y
  | lea b p m => exact execLea_keeps hk b p m
  | br b t => exact execBr_keeps hk b t
  | brCond b c t => exact execBrCond_keeps hk b c t
  | call b t => exact execCall_keeps hk b t
  | ret b => exact execRet_keeps hk b
  | loop b n e => exact execLoop_keeps hk b n e
  | leave b => exact execLeave_keeps hk b
  | clrf b => exact execClrf_keeps hk b
  | nop b => exact execNop_keeps hk b
  | xferR b d p y len => exact execXferR_keeps hk b d p y len
  | xferW b d p y len => exact execXferW_keeps hk b d p y len
  | xferComplete core bad hits => exact execXferComplete_keeps hk core bad hits
  | wait b => exact execWait_keeps hk b
  | sig b => exact execSig_keeps hk b
  | halt b => exact execHalt_keeps hk b
  | waitTimeout core => exact execWaitTimeout_keeps hk core
  | instanceSuspend leg pt => exact execInstanceSuspend_keeps hk leg pt
  | videoDecodeSlice ctx facts hits => exact execVideoDecodeSlice_keeps hk ctx facts hits
  | videoEncodeSlice ctx blocks units params hits => exact execVideoEncodeSlice_keeps hk ctx blocks units params hits
  | keyIntExpiry ctx => exact execKeyIntExpiry_keeps hk ctx
  | canvasSlice ctx hits skip lost => exact execCanvasSlice_keeps hk ctx hits skip lost
  | frameBoundary ctx => exact execFrameBoundary_keeps hk ctx
  | flipTimeout layout => exact execFlipTimeout_keeps hk layout
  | layerStale layout layer => exact execLayerStale_keeps hk layout layer
  | plateValid plate => exact execPlateValid_keeps hk plate
  | doorbellPoll => exact execDoorbellPoll_keeps hk
  | doorbellLineRead f line words media => exact execDoorbellLineRead_keeps hk f line words media
  | hpaControlRead f line slots => exact execHpaControlRead_keeps hk f line slots
  | descriptorFetch => exact execDescriptorFetch_keeps hk _ _ _ _ _ _
  | hostStall f q => exact execHostStall_keeps hk f q
  | moderationPoint f => exact execModerationPoint_keeps hk f
  | mediaEntryFinish f m => exact execMediaEntryFinish_keeps hk f m
  | ringDrainDone f q => exact execRingDrainDone_keeps hk f q
  | functionLevelReset f => exact execFunctionLevelReset_keeps hk f
  | vfEnableClear => exact execVfEnableClear_keeps hk
  | hifFnReset f => exact execHifFnReset_keeps hk f
  | fnResetComplete f => exact execFnResetComplete_keeps hk f
  | hifFnEn f en => exact execHifFnEn_keeps hk f en
  | hifRingEn f q en => exact execHifRingEn_keeps hk f q en
  | genNop h => exact execGenNop_keeps hk h
  | genFnInfo h => exact execGenFnInfo_keeps hk h
  | genEventMask h enable code => exact execGenEventMask_keeps hk h enable code
  | genVfReset h f => exact execGenVfReset_keeps hk h f
  | admConfOpen h conf audPmax vidPmax hops => exact execAdmConfOpen_keeps hk h conf audPmax vidPmax hops
  | admConfClose h conf => exact execAdmConfClose_keeps hk h conf
  | admLegAdmit h conf leg addr dma => exact execAdmLegAdmit_keeps hk h conf leg addr dma
  | admLegModify h conf leg addr dma => exact execAdmLegModify_keeps hk h conf leg addr dma
  | admLegRelease h leg => exact execAdmLegRelease_keeps hk h leg
  | admLegStats h clr hd => exact execAdmLegStats_keeps hk h clr hd
  | admFnBudgetSet h f r v => exact execAdmFnBudgetSet_keeps hk h f r v
  | admLayoutAdmit => exact execAdmLayoutAdmit_keeps hk _ _ _ _ _ _ _ _ _
  | admLayoutRelease h id => exact execAdmLayoutRelease_keeps hk h id
  | admHostClose v => exact execAdmHostClose_keeps hk v
  | netStreamBind h hd addr dma => exact execNetStreamBind_keeps hk h hd addr dma
  | netStreamUnbind h hd => exact execNetStreamUnbind_keeps hk h hd
  | netPortStats h clr p u addr => exact execNetPortStats_keeps hk h clr p u addr
  | netJbSet h reanchor hd run => exact execNetJbSet_keeps hk h reanchor hd run
  | netQueueFlush h hd => exact execNetQueueFlush_keeps hk h hd
  | frameReceive p u fcsOk frame => exact execFrameReceive_keeps hk p u fcsOk frame
  | lateRunReached hd ix => exact execLateRunReached_keeps hk hd ix
  | linkDown p u => exact execLinkDown_keeps hk p u
  | linkUp p u => exact execLinkUp_keeps hk p u
  | fwdSubSet => exact execFwdSubSet_keeps hk _ _ _ _ _ _ _ _ _ _ _ _ _ _ _ _ _ _
  | fwdSubClear h id => exact execFwdSubClear_keeps hk h id
  | fwdSubCap => exact execFwdSubCap_keeps hk _ _ _ _ _ _ _
  | fwdEstRead h leg => exact execFwdEstRead_keeps hk h leg
  | fwdKeyPicReq h ix hd => exact execFwdKeyPicReq_keeps hk h ix hd
  | fwdPaceSet => exact execFwdPaceSet_keeps hk _ _ _ _ _ _
  | estUpdate leg => exact execEstUpdate_keeps hk leg
  | upHoldReached id => exact execUpHoldReached_keeps hk id
  | kpGapEnd hd ix => exact execKpGapEnd_keeps hk hd ix
  | kpWaitExpiry id => exact execKpWaitExpiry_keeps hk id
  | keyKekInfo h addr => exact execKeyKekInfo_keeps hk h addr
  | kekAgree h addr dma => exact execKekAgree_keeps hk h addr dma
  | keyImport h suite slot addr dma => exact execKeyImport_keeps hk h suite slot addr dma
  | keyDerive h master sess => exact execKeyDerive_keeps hk h master sess
  | keyErase h slot => exact execKeyErase_keeps hk h slot
  | cipBind => exact execCipBind_keeps hk _ _ _ _ _ _ _ _ _ _ _ _ _ _
  | cipUnbind h dir hd => exact execCipUnbind_keeps hk h dir hd
  | cipStats => exact execCipStats_keeps hk _ _ _ _ _ _
  | rxOverlapEnd hd => exact execRxOverlapEnd_keeps hk hd
  | reseed pass => exact execReseed_keeps hk pass
  | entropyHealthFail => exact execEntropyHealthFail_keeps hk
  | audRouteSet => exact execAudRouteSet_keeps hk _ _ _ _ _ _ _ _ _ _ _ _ _ _ _ _
  | audBusSetting h bus conf n => exact execAudBusSetting_keeps hk h bus conf n
  | audRouteClear h leg xf => exact execAudRouteClear_keeps hk h leg xf
  | audSinkDyn => exact execAudSinkDyn_keeps hk _ _ _ _ _ _ _ _ _ _ _
  | audTonePlay => exact execAudTonePlay_keeps hk _ _ _ _ _ _ _ _ _ _ _ _ _
  | audToneStop h onBus bus id => exact execAudToneStop_keeps hk h onBus bus id
  | audLevels h clr leg => exact execAudLevels_keeps hk h clr leg
  | audMediaBind => exact execAudMediaBind_keeps hk _ _ _ _ _ _
  | audMediaUnbind h m => exact execAudMediaUnbind_keeps hk h m
  | brsProgLoad h prog addr dma bad => exact execBrsProgLoad_keeps hk h prog addr dma bad
  | brsProgUnload h prog => exact execBrsProgUnload_keeps hk h prog
  | brsTaskBind => exact execBrsTaskBind_keeps hk _ _ _ _ _ _ _ _
  | brsTaskUnbind h pt leg => exact execBrsTaskUnbind_keeps hk h pt leg
  | brsStats h clr pt leg => exact execBrsStats_keeps hk h clr pt leg
  | vidDecOpen => exact execVidDecOpen_keeps hk _ _ _ _ _ _ _
  | vidDecClose h ctx => exact execVidDecClose_keeps hk h ctx
  | vidEncOpen => exact execVidEncOpen_keeps hk _ _ _ _ _ _ _ _ _ _ _
  | vidEncClose h ctx => exact execVidEncClose_keeps hk h ctx
  | vidEncRate => exact execVidEncRate_keeps hk _ _ _ _ _ _
  | vidKeyPic h ctx => exact execVidKeyPic_keeps hk h ctx
  | vidMediaBind => exact execVidMediaBind_keeps hk _ _ _ _ _ _
  | vidMediaUnbind h m => exact execVidMediaUnbind_keeps hk h m
  | vidStats h clr enc ctx addr => exact execVidStats_keeps hk h clr enc ctx addr
  | cnvLayoutSet => exact execCnvLayoutSet_keeps hk _ _ _ _ _ _ _
  | cnvLayerSet => exact execCnvLayerSet_keeps hk _ _ _ _ _ _ _ _ _ _ _ _ _ _ _ _ _ _
  | cnvLayerClear h group layer layout => exact execCnvLayerClear_keeps hk h group layer layout
  | cnvGroupFlip h group layout => exact execCnvGroupFlip_keeps hk h group layout
  | cnvVarnishLoad => exact execCnvVarnishLoad_keeps hk _ _ _ _ _ _ _ _ _ _
  | cnvVarnishDrop h plate => exact execCnvVarnishDrop_keeps hk h plate
  | ptpStep h newEpoch set v n => exact execPtpStep_keeps hk h newEpoch set v n
  | ptpRate h synced r => exact execPtpRate_keeps hk h synced r
  | ptpServoCfg => exact execPtpServoCfg_keeps hk _ _ _ _ _ _ _ _ _ _
  | ptpStatus h => exact execPtpStatus_keeps hk h
  | delayReqSend ofs => exact execDelayReqSend_keeps hk ofs
  | announceTimeout => exact execAnnounceTimeout_keeps hk
  | measurementTimeout => exact execMeasurementTimeout_keeps hk
  | holdoverLimit => exact execHoldoverLimit_keeps hk
  | ppsOutPulse => exact execPpsOutPulse_keeps hk
  | ppsInEdge falling => exact execPpsInEdge_keeps hk falling
  | ppsInLoss => exact execPpsInLoss_keeps hk
  | ptpLaunchMiss => exact execPtpLaunchMiss_keeps hk
  | mshPortCfg => exact execMshPortCfg_keeps hk _ _ _ _ _ _ _ _
  | mshRouteSet h node m => exact execMshRouteSet_keeps hk h node m
  | mshStreamExport h hd relay dst remove => exact execMshStreamExport_keeps hk h hd relay dst remove
  | mshStreamImport => exact execMshStreamImport_keeps hk _ _ _ _ _ _ _ _ _
  | mshTraceSet h id => exact execMshTraceSet_keeps hk h id
  | mshApsCmd h m req lane => exact execMshApsCmd_keeps hk h m req lane
  | mshPeerStatus h m => exact execMshPeerStatus_keeps hk h m
  | mshWakeSend h mask => exact execMshWakeSend_keeps hk h mask
  | laneFrameReceive => exact execLaneFrameReceive_keeps hk _ _ _ _ _ _
  | amLock m l => exact execAmLock_keeps hk m l
  | amLoss m l => exact execAmLoss_keeps hk m l
  | traceAccept m l => exact execTraceAccept_keeps hk m l
  | sfHoldoffExpiry m l => exact execSfHoldoffExpiry_keeps hk m l
  | apsSelect m => exact execApsSelect_keeps hk m
  | wtrExpiry m => exact execWtrExpiry_keeps hk m
  | partialUnitReceive m body cut => exact execPartialUnitReceive_keeps hk m body cut
  | mediaUnitReceive m body cut => exact execMediaUnitReceive_keeps hk m body cut
  | tickMarkerReceive m body => exact execTickMarkerReceive_keeps hk m body
  | creditUnitReceive m body => exact execCreditUnitReceive_keeps hk m body
  | controlUnitReceive m type vc body cut => exact execControlUnitReceive_keeps hk m type vc body cut
  | creditUnitSend m => exact execCreditUnitSend_keeps hk m
  | tickMarkerSend ofs => exact execTickMarkerSend_keeps hk ofs
  | mediaUnitTimeout m => exact execMediaUnitTimeout_keeps hk m
  | partForget conf node => exact execPartForget_keeps hk conf node
  | tickLockAcquire => exact execTickLockAcquire_keeps hk
  | wakePatternDetect m bursts => exact execWakePatternDetect_keeps hk m bursts
  | memSweep h repair t => exact execMemSweep_keeps hk h repair t
  | sweepComplete read skipped hits => exact execSweepComplete_keeps hk read skipped hits
  | memSoftRepair h t m row => exact execMemSoftRepair_keeps hk h t m row
  | softRepairClearAll h t m row => exact execSoftRepairClearAll_keeps hk h t m row
  | memSpareStatus h => exact execMemSpareStatus_keeps hk h
  | memErrLog h clr addr => exact execMemErrLog_keeps hk h clr addr
  | hbmRefresh st p => exact execHbmRefresh_keeps hk st p
  | hbmTempRead st temp => exact execHbmTempRead_keeps hk st temp
  | retrainInterval st p => exact execRetrainInterval_keeps hk st p
  | retrainPiece st p cand margin good => exact execRetrainPiece_keeps hk st p cand margin good
  | pcFail st p => exact execPcFail_keeps hk st p
  | migrationChunk st hits => exact execMigrationChunk_keeps hk st hits
  | migrationEnd st => exact execMigrationEnd_keeps hk st
  | bucketLeak => exact execBucketLeak_keeps hk
  | bucketOverflow t synd addr => exact execBucketOverflow_keeps hk t synd addr
  | calGlazeLoad h clear addr dma => exact execCalGlazeLoad_keeps hk h clear addr dma
  | calGlazeRead h sel addr => exact execCalGlazeRead_keeps hk h sel addr
  | calLiveRead h cls first count addr => exact execCalLiveRead_keeps hk h cls first count addr
  | calGessoRead h cls idx addr => exact execCalGessoRead_keeps hk h cls idx addr
  | serdesTrimSlot => exact execSerdesTrimSlot_keeps hk _ _ _ _ _ _ _
  | sensorTrimSlot temps volts osc => exact execSensorTrimSlot_keeps hk temps volts osc
  | pwrModeReqRun h => exact execPwrModeReqRun_keeps hk h
  | pwrModeReqDrain h => exact execPwrModeReqDrain_keeps hk h
  | pwrModeReqDoze h => exact execPwrModeReqDoze_keeps hk h
  | pwrModeReqSleep h => exact execPwrModeReqSleep_keeps hk h
  | pwrResidency h clr addr => exact execPwrResidency_keeps hk h clr addr
  | pwrSilHoldSet h v => exact execPwrSilHoldSet_keeps hk h v
  | pwrThermal h => exact execPwrThermal_keeps hk h
  | dozeDomainsOff => exact execDozeDomainsOff_keeps hk
  | dozeExitReady => exact execDozeExitReady_keeps hk
  | sleepEntry => exact execSleepEntry_keeps hk
  | clockStop => exact execClockStop_keeps hk
  | ethSignalWake p => exact execEthSignalWake_keeps hk p
  | pcieWake => exact execPcieWake_keeps hk
  | sleepTimerWake => exact execSleepTimerWake_keeps hk
  | wake => exact execWake_keeps hk
  | clockRestart c => exact execClockRestart_keeps hk c
  | powerupTimeout src => exact execPowerupTimeout_keeps hk src
  | powerupRetry => exact execPowerupRetry_keeps hk
  | railRaise => exact execRailRaise_keeps hk
  | railLower => exact execRailLower_keeps hk
  | railFault ix => exact execRailFault_keeps hk ix
  | coldReset => exact execColdReset_keeps hk
  | coldResetEnd => exact execColdResetEnd_keeps hk
  | perstNAssert width taken => exact execPerstNAssert_keeps hk width taken
  | sysResetNAssert width taken => exact execSysResetNAssert_keeps hk width taken
  | resetRelease => exact execResetRelease_keeps hk
  | bootImageCheck => exact execBootImageCheck_keeps hk _ _ _ _ _ _ _ _ _ _
  | primeTraining res => exact execPrimeTraining_keeps hk res
  | primeComplete => exact execPrimeComplete_keeps hk
  | tempReading raw => exact execTempReading_keeps hk raw
  | critDrainExpiry => exact execCritDrainExpiry_keeps hk
  | thermalTrip => exact execThermalTrip_keeps hk
  | pmbusPoll => exact execPmbusPoll_keeps hk
  | firmwareStop => exact execFirmwareStop_keeps hk
  | sysSetupDone => exact execSysSetupDone_keeps hk
  | ctlBootGo => exact execCtlBootGo_keeps hk
  | tikOutEn en => exact execTikOutEn_keeps hk en
  | padRelTime => exact execPadRelTime_keeps hk
  | padRelGpio => exact execPadRelGpio_keeps hk
  | tikNowLo wide => exact execTikNowLo_keeps hk wide
  | tikOvrLastLo wide => exact execTikOvrLastLo_keeps hk wide
  | ptpTimeNs wide => exact execPtpTimeNs_keeps hk wide
  | ptpSleepCntLo wide => exact execPtpSleepCntLo_keeps hk wide
  | sysSerialLo wide => exact execSysSerialLo_keeps hk wide
  | registerWrite acc => exact execRegisterWrite_keeps hk acc
  | tikClrLast => exact execTikClrLast_keeps hk
  | tikClrHold => exact execTikClrHold_keeps hk
  | tikClrSkip => exact execTikClrSkip_keeps hk
  | tikClrEmit => exact execTikClrEmit_keeps hk
  | tikClrWork => exact execTikClrWork_keeps hk
  | tikClrGather => exact execTikClrGather_keeps hk
  | spqClrUe => exact execSpqClrUe_keeps hk
  | spqClrCe => exact execSpqClrCe_keeps hk
  | fwdClrKp => exact execFwdClrKp_keeps hk
  | fwdClrStale => exact execFwdClrStale_keeps hk
  | fwdClrLimit => exact execFwdClrLimit_keeps hk
  | cipClrRetry => exact execCipClrRetry_keeps hk
  | cipClrRefuse => exact execCipClrRefuse_keeps hk
  | cipClrReplay => exact execCipClrReplay_keeps hk
  | cipClrAuth => exact execCipClrAuth_keeps hk
  | keyClrUnwrap => exact execKeyClrUnwrap_keeps hk
  | audClrPart => exact execAudClrPart_keeps hk
  | audClrSat => exact execAudClrSat_keeps hk
  | audClrClip => exact execAudClrClip_keeps hk
  | brsClrFault => exact execBrsClrFault_keeps hk
  | vidClrBound => exact execVidClrBound_keeps hk
  | vidClrDrop => exact execVidClrDrop_keeps hk
  | vidClrMin => exact execVidClrMin_keeps hk
  | vidClrDmg => exact execVidClrDmg_keeps hk
  | cnvClrUe => exact execCnvClrUe_keeps hk
  | cnvClrOmit => exact execCnvClrOmit_keeps hk
  | cnvClrFlip => exact execCnvClrFlip_keeps hk
  | ptpClrRxdrop => exact execPtpClrRxdrop_keeps hk
  | ptpClrLaunch => exact execPtpClrLaunch_keeps hk
  | ptpClrTslost => exact execPtpClrTslost_keeps hk
  | mshClrCredit => exact execMshClrCredit_keeps hk
  | mshClrMedia => exact execMshClrMedia_keeps hk
  | mshClrLate => exact execMshClrLate_keeps hk
  | mshClrDrop => exact execMshClrDrop_keeps hk
  | mshClrUnit => exact execMshClrUnit_keeps hk
  | memClrPoison => exact execMemClrPoison_keeps hk
  | eccClr t => exact execEccClr_keeps hk t
  | calClrWide => exact execCalClrWide_keeps hk
  | calClrHeld => exact execCalClrHeld_keeps hk
  | pcieLinkUp => exact execPcieLinkUp_keeps hk
  | cycleBudgetReached core => exact execCycleBudgetReached_keeps hk core
  | wakePatternSendEnd m => exact execWakePatternSendEnd_keeps hk m

end Sys2Proof.Machine

/-!
One step keeps the stores of words and the Brush array in order.
-/
namespace Sys2Proof.Machine

/-- A step runs the front command on the state with the rest of the queue, or idles; neither puts the four parts out of order. -/
theorem step_keeps (s : State) : OutKeeps s (step s) := by
  unfold step
  split
  · next c r _ => exact exec_keeps (s := { s with pending := r }) (keeps_refl s) c
  · rintro t ⟨⟩
    exact idle_keeps (keeps_refl s)

theorem Keeps.storesCanon {s t : State} (hk : Keeps s t) (hs : StoresCanon s) : StoresCanon t := hk.1 hs

theorem Keeps.brushWf {s t : State} (hk : Keeps s t) (hs : BrushWf s) : BrushWf t := hk.2 hs

/-- Settles O6, by `step_keeps`: every operation keeps both stores in canonical form. -/
theorem stepKeepsStoresCanon : Obligations.StepKeepsStoresCanon :=
  fun s t hs ht => (step_keeps s t ht).storesCanon hs

/-- Settles O23, by `step_keeps`: every operation keeps the banks and windows in order. -/
theorem stepKeepsBrushWf : Obligations.StepKeepsBrushWf :=
  fun s t hs ht => (step_keeps s t ht).brushWf hs

/-- Settles O22, by the rules of an instruction's issue, of TASK_ARRIVAL and of XFER_COMPLETE. -/
theorem brushStateKeepsShape : Obligations.BrushStateKeepsShape :=
  ⟨fun s b op hs => (brushIssue_keeps (keeps_refl s) b op).brushWf hs,
    fun s t leg pt hs ht => (exec_keeps (keeps_refl s) (.taskArrival leg pt) t ht).brushWf hs,
    fun s t c bad hits hs ht => (exec_keeps (keeps_refl s) (.xferComplete c bad hits) t ht).brushWf hs⟩

end Sys2Proof.Machine

/-!
One step of the block: what it runs, the queue it leaves, an idle cycle, and the state after reset.
-/
namespace Sys2Proof.Machine

/-- Settles O3, by cases on the command: each row is an `act`, whose next state has the queue of the state before. -/
theorem everyCommandCompletes : Obligations.EveryCommandCompletes := by
  intro c s
  cases c <;> exact ⟨_, rfl, rfl⟩

/-- Settles O1: the front of the queue decides `step`'s branch. -/
theorem stepRunsFrontCommand : Obligations.StepRunsFrontCommand := by
  intro s c r hs
  simp only [step, hs]

theorem portFrames_pending (s : State) (m : Nat) : (portFrames s m).pending = s.pending := by
  have hf (l : List Nat) (f : State → Nat → OutMsg) (t : State) : (l.foldl (fun s a => emitOut s (f s a)) t).pending = t.pending := by
    induction l generalizing t with
    | nil => rfl
    | cons a l ih => exact ih _
  exact hf _ (fun t l => .mshFrame m l (laneFrame t m l l _ (0, 0) _)) _

theorem portSend_pending (s : State) (m : Nat) : (portSend s m).pending = s.pending := by
  unfold portSend
  grind [portFrames_pending, setMshPort]

theorem idle_pending (s : State) : (idle s).pending = s.pending := by
  simp only [idle, List.foldl_cons, List.foldl_nil, portSend_pending, cycles]

/-- Settles O5, by O3 on the front command. -/
theorem stepKeepsQueueWf : Obligations.StepKeepsQueueWf := by
  intro s hs
  cases hp : s.pending with
  | nil =>
    refine ⟨idle s, by simp only [step, hp], ?_, ?_⟩
    · simp [QueueWf, idle_pending, hp]
    · simp [idle_pending, hp]
  | cons c r =>
    obtain ⟨t, ht, hr⟩ := everyCommandCompletes c { s with pending := r }
    have hr' : t.pending = r := hr
    refine ⟨t, by rw [stepRunsFrontCommand s c r hp, ht], fun d hd => ?_, hr'⟩
    rw [hr'] at hd
    exact hs d (by rw [hp]; exact List.mem_cons_of_mem c hd)

/-- Settles O4: reset lists nothing in any store, table or queue. -/
theorem resetHoldsInvariants : Obligations.ResetHoldsInvariants := by
  refine ⟨?_, ?_, ?_, rfl, ?_, ?_, rfl⟩
  all_goals decide

/-! ## An idle cycle -/

/-- A fold of frames only adds to what is sent. -/
theorem out_subset_foldl_emitOut {α : Type} (f : State → α → OutMsg) (l : List α) (s : State) {x : OutMsg} (hx : x ∈ s.out) :
    x ∈ (l.foldl (fun s a => emitOut s (f s a)) s).out := by
  induction l generalizing s with
  | nil => exact hx
  | cons a l ih => exact ih _ (List.mem_append_left _ hx)

/-- Each member of the list has sent its frame. -/
theorem mem_foldl_emitOut {α : Type} (f : State → α → OutMsg) {l : List α} (s : State) {a : α} (ha : a ∈ l) :
    ∃ t, f t a ∈ (l.foldl (fun s a => emitOut s (f s a)) s).out := by
  induction l generalizing s with
  | nil => exact absurd ha List.not_mem_nil
  | cons b l ih =>
    rcases List.mem_cons.1 ha with rfl | hl
    · exact ⟨s, out_subset_foldl_emitOut f l _ (List.mem_append_right _ (List.mem_singleton.2 rfl))⟩
    · exact ih _ hl

theorem out_subset_portFrames (s : State) (m : Nat) {x : OutMsg} (hx : x ∈ s.out) : x ∈ (portFrames s m).out :=
  List.mem_append_left _ (out_subset_foldl_emitOut (fun t l => .mshFrame m l (laneFrame t m l l _ (0, 0) _)) _ _ hx)

theorem out_subset_portSend (s : State) (m : Nat) {x : OutMsg} (hx : x ∈ s.out) : x ∈ (portSend s m).out := by
  unfold portSend
  grind [out_subset_portFrames, setMshPort]

/-- A port sends a frame on every lane below its width, however wide it is. -/
theorem lane_mem_portFrames (s : State) {m l : Nat} (hl : l < (mshPort s m).live.w) (h0 : l ≠ 0) :
    ∃ bs, OutMsg.mshFrame m l bs ∈ (portFrames s m).out := by
  obtain ⟨t, ht⟩ := mem_foldl_emitOut (fun t l => .mshFrame m l (laneFrame t m l l _ (0, 0) _)) _
    (List.mem_filter (p := fun l => l ≠ 0 || (mshPort s m).waking.isNone).2 ⟨List.mem_range.2 hl, by simp [h0]⟩)
  exact ⟨_, List.mem_append_left _ ht⟩

theorem mshPort_setMshPort (s : State) (m : Nat) (x : MshPort) : mshPort (setMshPort s m x) m = x := by
  simp [mshPort, setMshPort]

/-- An enabled port sends its first frames in the first cycle of a running clock. -/
theorem portSend_first (s : State) (m : Nat) (hen : (mshPort s m).live.en = true) (hrun : s.clk.running = true)
    (hfrom : (mshPort s m).txFrom = none) :
    portSend s m = portFrames (setMshPort s m { mshPort s m with txFrom := some s.clk.cyc, txN := 0 }) m := by
  simp [portSend, hen, hrun, hfrom]

/-- What port 0 has sent at the end of an idle cycle's first part is still sent at its end. -/
theorem mem_idle_out {s : State} {x : OutMsg} (hx : x ∈ (portSend (cycles s 1) 0).out) : x ∈ (idle s).out := by
  simp only [idle, List.foldl_cons, List.foldl_nil]
  exact out_subset_portSend _ _ (out_subset_portSend _ _ (out_subset_portSend _ _ hx))

/-- A port of ten lanes, which no register can set, enabled on a running clock. -/
def tenLanes : State :=
  { State.reset with
    clk := { State.reset.clk with running := true }
    msh := { State.reset.msh with ports := [(0, { live := { en := true, w := 10 } })] } }

/-- Refutes O2: in `tenLanes` port 0 sends a frame on lane 9 in an idle cycle, and the statement lets no frame be of a lane above 8. -/
theorem not_stepIdlesOneCycle : ¬ Obligations.StepIdlesOneCycle := by
  rintro ⟨_, _, _, _, h, _⟩
  obtain ⟨f0, f1, f2, f3, hout, _, hlane⟩ := h tenLanes
  have h9 : ∃ bs, OutMsg.mshFrame 0 9 bs ∈ (portSend (cycles tenLanes 1) 0).out := by
    rw [portSend_first (cycles tenLanes 1) 0 rfl rfl rfl]
    exact lane_mem_portFrames _ (by rw [mshPort_setMshPort]; decide) (by decide)
  obtain ⟨bs, hbs⟩ := h9
  have hidle : OutMsg.mshFrame 0 9 bs ∈ (idle tenLanes).out :=
    mem_idle_out hbs
  rw [hout, show tenLanes.out = [] from rfl] at hidle
  have hp : ∃ p ∈ [(0, f0), (1, f1), (2, f2), (3, f3)], OutMsg.mshFrame 0 9 bs ∈ p.2 := by
    simpa [or_assoc] using hidle
  obtain ⟨p, hp, hx⟩ := hp
  obtain ⟨l, bs', hl, heq⟩ := hlane p hp _ hx
  simp only [OutMsg.mshFrame.injEq] at heq
  omega

end Sys2Proof.Machine

/-!
Registers field by field: what a fold of field writes leaves, and with it what a write, a read and the reset leave in the fields of every
register of the map.
-/
namespace Sys2Proof.Machine

/-- The fields of a register lie in its 32 bits, hold their reset values and do not overlap. -/
abbrev FieldsOk (fs : List FieldDef) : Prop :=
  (∀ f ∈ fs, f.lo ≤ f.hi ∧ f.hi < 32 ∧ f.rst < 2 ^ (f.hi + 1 - f.lo)) ∧
  fs.Pairwise (fun f g => g.hi < f.lo ∨ f.hi < g.lo)

theorem regMapAt_fieldsOk (a : Nat) : ∀ r ∈ regMapAt a, FieldsOk r.fields := by
  unfold regMapAt
  split
  case h_8 => split <;> decide
  all_goals decide

theorem fieldsOk_of_regAt {a : Nat} {r : RegDef} (hr : regAt a = some r) : FieldsOk r.fields :=
  regMapAt_fieldsOk a r (List.mem_of_find?_eq_some hr)

/-! ## A fold of field writes -/

section
variable {fs : List FieldDef} (v : FieldDef → Nat)

theorem bitsOf_foldl_setBits_apart (hfs : ∀ g ∈ fs, g.lo ≤ g.hi ∧ g.hi < 32) {hi lo : Nat} (hap : ∀ g ∈ fs, hi < g.lo ∨ g.hi < lo)
    (w : Word) : bitsOf (fs.foldl (fun w f => setBits w f.hi f.lo (v f)) w) hi lo = bitsOf w hi lo := by
  induction fs generalizing w with
  | nil => rfl
  | cons g fs ih =>
    simp only [List.forall_mem_cons] at hfs hap
    rw [List.foldl_cons, ih hfs.2 hap.2, Laws.bitsOf_setBits_ne w _ hfs.1.1 hfs.1.2 hap.1]

/-- A bit of no field stays as it is. -/
theorem getLsbD_foldl_setBits_apart (hfs : ∀ g ∈ fs, g.lo ≤ g.hi ∧ g.hi < 32) {j : Nat} (hap : ∀ g ∈ fs, j < g.lo ∨ g.hi < j)
    (w : Word) : (fs.foldl (fun w f => setBits w f.hi f.lo (v f)) w).getLsbD j = w.getLsbD j := by
  induction fs generalizing w with
  | nil => rfl
  | cons g fs ih =>
    simp only [List.forall_mem_cons] at hfs hap
    have hj : ¬ (g.lo ≤ j ∧ j ≤ g.hi) := by omega
    rw [List.foldl_cons, ih hfs.2 hap.2]
    simp only [BitVec.getLsbD, Laws.testBit_setBits w _ j hfs.1.1 hfs.1.2, if_neg hj]

/-- A field holds what was written to it, cut to its width: no other field's write reaches it. -/
theorem bitsOf_foldl_setBits (hfs : FieldsOk fs) {f : FieldDef} (hf : f ∈ fs) (w : Word) :
    bitsOf (fs.foldl (fun w f => setBits w f.hi f.lo (v f)) w) f.hi f.lo = v f % 2 ^ (f.hi + 1 - f.lo) := by
  induction fs generalizing w with
  | nil => exact absurd hf List.not_mem_nil
  | cons g fs ih =>
    obtain ⟨hin, hpw⟩ := hfs
    simp only [List.forall_mem_cons, List.pairwise_cons] at hin hpw
    rw [List.foldl_cons]
    rcases List.mem_cons.1 hf with rfl | hf
    · rw [bitsOf_foldl_setBits_apart v (fun g hg => ⟨(hin.2 g hg).1, (hin.2 g hg).2.1⟩) (fun g hg => (hpw.1 g hg).symm),
        Laws.bitsOf_setBits w _ hin.1.1 hin.1.2.1]
    · exact ih ⟨hin.2, hpw.2⟩ hf _

end

theorem bitsOf_lt (w : Word) (hi lo : Nat) : bitsOf w hi lo < 2 ^ (hi + 1 - lo) := Nat.mod_lt _ (Nat.two_pow_pos _)

/-! ## One register -/

section
variable {r : RegDef} (hr : FieldsOk r.fields)
include hr

theorem bitsOf_reset {f : FieldDef} (hf : f ∈ r.fields) : bitsOf r.reset f.hi f.lo = f.rst := by
  rw [RegDef.reset, bitsOf_foldl_setBits (fun f => f.rst) hr hf, Nat.mod_eq_of_lt (hr.1 f hf).2.2]

theorem getLsbD_reset {j : Nat} (hj : ∀ f ∈ r.fields, j < f.lo ∨ f.hi < j) : r.reset.getLsbD j = false := by
  rw [RegDef.reset, getLsbD_foldl_setBits_apart (fun f => f.rst) (fun f hf => ⟨(hr.1 f hf).1, (hr.1 f hf).2.1⟩) hj]
  simp

theorem bitsOf_write {f : FieldDef} (hf : f ∈ r.fields) (locked : Bool) (w d : Word) :
    bitsOf (r.write locked w d) f.hi f.lo =
      f.write locked (bitsOf w f.hi f.lo) (bitsOf d f.hi f.lo) % 2 ^ (f.hi + 1 - f.lo) :=
  bitsOf_foldl_setBits (fun f => f.write locked (bitsOf w f.hi f.lo) (bitsOf d f.hi f.lo)) hr hf w

theorem getLsbD_write {j : Nat} (hj : ∀ f ∈ r.fields, j < f.lo ∨ f.hi < j) (locked : Bool) (w d : Word) :
    (r.write locked w d).getLsbD j = w.getLsbD j :=
  getLsbD_foldl_setBits_apart (fun f => f.write locked (bitsOf w f.hi f.lo) (bitsOf d f.hi f.lo))
    (fun f hf => ⟨(hr.1 f hf).1, (hr.1 f hf).2.1⟩) hj w

omit hr in
/-- Two fields of a list whose fields lie apart. -/
theorem apart_of_pairwise {l : List FieldDef} (h : l.Pairwise (fun f g => g.hi < f.lo ∨ f.hi < g.lo)) {f g : FieldDef} (hf : f ∈ l)
    (hg : g ∈ l) (hne : f ≠ g) : g.hi < f.lo ∨ f.hi < g.lo := by
  induction h with
  | nil => exact absurd hf List.not_mem_nil
  | cons hhead _ ih =>
    rcases List.mem_cons.1 hf with rfl | hf'
    · exact hhead g ((List.mem_cons.1 hg).resolve_left (Ne.symm hne))
    · rcases List.mem_cons.1 hg with rfl | hg'
      · exact (hhead f hf').symm
      · exact ih hf' hg'

/-- A read gives 0 for a field that is only written, and every other field as it is. -/
theorem bitsOf_readMask {f : FieldDef} (hf : f ∈ r.fields) (w : Word) :
    bitsOf (r.readMask w) f.hi f.lo = if f.acc = .wo then 0 else bitsOf w f.hi f.lo := by
  have hwo : r.readMask w = (r.fields.filter (fun g => decide (g.acc = .wo))).foldl (fun w g => setBits w g.hi g.lo 0) w := by
    rw [List.foldl_filter]
    simp [RegDef.readMask]
  have hsub := List.filter_sublist (l := r.fields) (p := fun g => decide (g.acc = .wo))
  rw [hwo]
  split
  · next hacc =>
    rw [bitsOf_foldl_setBits (fun _ => 0) ⟨fun g hg => hr.1 g (hsub.subset hg), hr.2.sublist hsub⟩ (List.mem_filter.2 ⟨hf, by simp [hacc]⟩),
      Nat.zero_mod]
  · next hacc =>
    refine bitsOf_foldl_setBits_apart (fun _ => 0) (fun g hg => ?_) (fun g hg => ?_) w
    · exact ⟨(hr.1 g (hsub.subset hg)).1, (hr.1 g (hsub.subset hg)).2.1⟩
    · have hne : f ≠ g := by
        rintro rfl
        exact hacc (by simpa using (List.mem_filter.1 hg).2)
      exact (apart_of_pairwise hr.2 hf (hsub.subset hg) hne).symm

end

/-- Settles O11: the store lists nothing at reset, and a register's reset value is a fold of field writes. -/
theorem registersAtReset : Obligations.RegistersAtReset := by
  intro a r hr
  have hok := fieldsOk_of_regAt hr
  have hreg : reg State.reset a = r.reset := by
    show regReset a = r.reset
    simp only [regReset, hr]
  rw [hreg]
  exact ⟨fun f hf => bitsOf_reset hok hf, fun j _ hj => getLsbD_reset hok hj⟩

/-! ## One field -/

/-- A write of 1 clears: the bits that the written value sets are gone. -/
theorem testBit_clear {n old v : Nat} (hold : old < 2 ^ n) (j : Nat) :
    (old &&& (v ^^^ (2 ^ n - 1))).testBit j = (old.testBit j && !v.testBit j) := by
  rw [Nat.testBit_and, Nat.testBit_xor, Nat.testBit_two_pow_sub_one]
  by_cases hj : j < n
  · simp [hj]
  · have hb : old.testBit j = false := Nat.testBit_lt_two_pow (Nat.lt_of_lt_of_le hold (Nat.pow_le_pow_right (by omega) (by omega)))
    simp [hb]

theorem ite_lt {c : Prop} [Decidable c] {a b n : Nat} (ha : a < n) (hb : b < n) : (if c then a else b) < n := by
  split
  · exact ha
  · exact hb

/-- What a field takes from a write fits it. -/
theorem fieldWrite_lt (f : FieldDef) (locked : Bool) {old d : Nat} (hold : old < 2 ^ (f.hi + 1 - f.lo)) (hd : d < 2 ^ (f.hi + 1 - f.lo)) :
    f.write locked old d < 2 ^ (f.hi + 1 - f.lo) := by
  have hand (x : Nat) : old &&& x < 2 ^ (f.hi + 1 - f.lo) := Nat.lt_of_le_of_lt Nat.and_le_left hold
  have htake : (if f.least ≤ d ∧ d ≤ f.most then d else old) < 2 ^ (f.hi + 1 - f.lo) := ite_lt hd hold
  unfold FieldDef.write
  cases f.acc with
  | ro => exact hold
  | rof => exact hold
  | wo => exact hold
  | rw => exact htake
  | rws => exact htake
  | rwl => exact ite_lt hold htake
  | rw1c => exact hand _
  | rwsc => exact hand _

/-- Settles O10: a field's write by its access type, carried through the fold over the register's fields. -/
theorem registerFieldsByAccessType : Obligations.RegisterFieldsByAccessType := by
  refine ⟨fun a r hr locked w d => ?_, ?_⟩
  · have hok := fieldsOk_of_regAt hr
    refine ⟨?_, fun j _ hj => getLsbD_write hok hj locked w d⟩
    rintro f hf old new v rfl rfl rfl
    have hold := bitsOf_lt w f.hi f.lo
    have hv := bitsOf_lt d f.hi f.lo
    rw [bitsOf_write hok hf, Nat.mod_eq_of_lt (fieldWrite_lt f locked hold hv), bitsOf_readMask hok hf]
    unfold FieldDef.write
    refine ⟨?_, ?_, ?_, ?_, ?_, fun h => by rw [if_pos h], fun h => by rw [if_neg h]⟩
    · rintro (h | h | h) <;> rw [h]
    · rintro (h | h) <;> rw [h] <;> grind
    · intro h hl
      simp [h, hl]
    · intro h hl
      rw [h, hl]
      grind
    · rintro (h | h) j <;> rw [h] <;> exact testBit_clear hold j
  · rintro s t a r d new hr ha rfl rfl
    simp only [regWrite, ha, hr, Bool.not_true, Bool.false_eq_true, if_false]

end Sys2Proof.Machine

/-!
Descriptors: what a field reads of a word put together from its fields, and with it that decoding undoes encoding (R92, R118).
-/
namespace Sys2Proof.Machine

/-! ## A field of a word -/

theorem fieldSum_dvd {k : Nat} {r : List (Nat × Nat)} (h : r.all (fun p => decide (k ≤ p.1)) = true) : 2 ^ k ∣ fieldSum r := by
  induction r with
  | nil => exact Nat.dvd_zero _
  | cons p r ih =>
    simp only [List.all_cons, Bool.and_eq_true, decide_eq_true_eq] at h
    rw [show fieldSum (p :: r) = p.2 * 2 ^ p.1 + fieldSum r from rfl]
    exact Nat.dvd_add (Nat.dvd_trans (Nat.pow_dvd_pow 2 h.1) (Nat.dvd_mul_left _ _)) (ih h.2)

theorem testBit_bitsOf_fw (fs : List (Nat × Nat)) (hi lo i : Nat) :
    (bitsOf (fw fs) hi lo).testBit i = (decide (i < hi + 1 - lo) && (decide (lo + i < 32) && (fieldSum fs).testBit (lo + i))) := by
  rw [Laws.testBit_bitsOf, fw, BitVec.toNat_ofNat, Nat.testBit_mod_two_pow]

/-- The bits of a field's value, moved up, and of the fields above it. -/
theorem testBit_fieldSum_cons {i n v : Nat} {r : List (Nat × Nat)} (hv : v < 2 ^ n) (hr : r.all (fun p => decide (i + n ≤ p.1)) = true)
    (j : Nat) : (fieldSum ((i, v) :: r)).testBit j = if j < i + n then decide (i ≤ j) && v.testBit (j - i) else (fieldSum r).testBit j := by
  obtain ⟨q, hq⟩ := fieldSum_dvd hr
  have hlt : v * 2 ^ i < 2 ^ (i + n) := by
    rw [Nat.add_comm, Nat.pow_add]
    exact Nat.mul_lt_mul_of_pos_right hv (Nat.two_pow_pos i)
  rw [show fieldSum ((i, v) :: r) = v * 2 ^ i + fieldSum r from rfl, hq, Nat.add_comm, Nat.testBit_two_pow_mul_add _ hlt]
  split
  · rw [Nat.mul_comm v, Nat.testBit_two_pow_mul]
  · next hj => rw [Nat.testBit_two_pow_mul, decide_eq_true (by omega), Bool.true_and]

@[simp] theorem bitsOf_fw_nil (hi lo : Nat) : bitsOf (fw []) hi lo = 0 := by
  simp [bitsOf, fw, fieldSum]

/-- A field reads what was put in it. -/
theorem bitsOf_fw_hit {hi lo v : Nat} {r : List (Nat × Nat)} (hv : v < 2 ^ (hi + 1 - lo))
    (hr : (decide (lo ≤ hi) && decide (hi < 32) && r.all (fun p => decide (lo + (hi + 1 - lo) ≤ p.1))) = true) :
    bitsOf (fw ((lo, v) :: r)) hi lo = v := by
  simp only [Bool.and_eq_true, decide_eq_true_eq] at hr
  apply Nat.eq_of_testBit_eq
  intro j
  rw [testBit_bitsOf_fw, testBit_fieldSum_cons hv hr.2]
  by_cases hj : j < hi + 1 - lo
  · simp [hj, show lo + j < 32 by omega]
  · simp [hj, Nat.testBit_lt_two_pow (Nat.lt_of_lt_of_le hv (Nat.pow_le_pow_right (by omega) (by omega : hi + 1 - lo ≤ j)))]

/-- A field below the one read. -/
theorem bitsOf_fw_below {hi lo i n v : Nat} {r : List (Nat × Nat)} (hv : v < 2 ^ n)
    (hr : (decide (i + n ≤ lo) && r.all (fun p => decide (i + n ≤ p.1))) = true) :
    bitsOf (fw ((i, v) :: r)) hi lo = bitsOf (fw r) hi lo := by
  simp only [Bool.and_eq_true, decide_eq_true_eq] at hr
  apply Nat.eq_of_testBit_eq
  intro j
  rw [testBit_bitsOf_fw, testBit_bitsOf_fw, testBit_fieldSum_cons hv hr.2, if_neg (by omega)]

/-- A field above the one read. -/
@[simp] theorem bitsOf_fw_above {hi lo i v : Nat} {r : List (Nat × Nat)} (h : decide (hi < i) = true) :
    bitsOf (fw ((i, v) :: r)) hi lo = bitsOf (fw r) hi lo := by
  apply Nat.eq_of_testBit_eq
  intro j
  rw [testBit_bitsOf_fw, testBit_bitsOf_fw, show fieldSum ((i, v) :: r) = v * 2 ^ i + fieldSum r from rfl]
  by_cases hj : j < hi + 1 - lo
  · have hi' : lo + j < i := by have := of_decide_eq_true h; omega
    have hmod : (v * 2 ^ i + fieldSum r) % 2 ^ i = fieldSum r % 2 ^ i := by rw [Nat.add_comm, Nat.add_mul_mod_self_right]
    have e : ((v * 2 ^ i + fieldSum r) % 2 ^ i).testBit (lo + j) = (fieldSum r % 2 ^ i).testBit (lo + j) := by rw [hmod]
    rw [Nat.testBit_mod_two_pow, Nat.testBit_mod_two_pow, decide_eq_true hi', Bool.true_and, Bool.true_and] at e
    rw [e]
  · simp [hj]

/-! ## The same for the kinds of values that fields hold -/

@[simp] theorem bitsOf_fw_bv {n hi lo : Nat} {v : BitVec n} {r : List (Nat × Nat)} (hn : decide (hi + 1 - lo = n) = true)
    (hr : (decide (lo ≤ hi) && decide (hi < 32) && r.all (fun p => decide (lo + (hi + 1 - lo) ≤ p.1))) = true) :
    bitsOf (fw ((lo, v.toNat) :: r)) hi lo = v.toNat :=
  bitsOf_fw_hit (of_decide_eq_true hn ▸ v.isLt) hr

@[simp] theorem bitsOf_fw_bv_below {n hi lo i : Nat} {v : BitVec n} {r : List (Nat × Nat)}
    (hr : (decide (i + n ≤ lo) && r.all (fun p => decide (i + n ≤ p.1))) = true) :
    bitsOf (fw ((i, v.toNat) :: r)) hi lo = bitsOf (fw r) hi lo :=
  bitsOf_fw_below v.isLt hr

@[simp] theorem bitsOf_fw_bool {lo : Nat} {b : Bool} {r : List (Nat × Nat)}
    (hr : (decide (lo ≤ lo) && decide (lo < 32) && r.all (fun p => decide (lo + (lo + 1 - lo) ≤ p.1))) = true) :
    bitsOf (fw ((lo, b.toNat) :: r)) lo lo = b.toNat :=
  bitsOf_fw_hit (by rw [Nat.add_sub_cancel_left]; exact b.toNat_lt) hr

@[simp] theorem bitsOf_fw_bool_below {hi lo i : Nat} {b : Bool} {r : List (Nat × Nat)}
    (hr : (decide (i + 1 ≤ lo) && r.all (fun p => decide (i + 1 ≤ p.1))) = true) :
    bitsOf (fw ((i, b.toNat) :: r)) hi lo = bitsOf (fw r) hi lo :=
  bitsOf_fw_below b.toNat_lt hr

@[simp] theorem toNat_eq_one (b : Bool) : decide (b.toNat = 1) = b := by cases b <;> rfl

@[simp] theorem bv_ofNat_toNat {n : Nat} (v : BitVec n) : BitVec.ofNat n v.toNat = v := by simp

/-! ## Words of the command area -/

@[simp] theorem cw_eq (a : List Word) (i hi lo n : Nat) : cw a i hi lo n = BitVec.ofNat n (bitsOf (a.getD i 0) hi lo) := rfl

@[simp] theorem cb_eq (a : List Word) (i b : Nat) : cb a i b = decide (bitsOf (a.getD i 0) b b = 1) := rfl

@[simp] theorem ca_eq (a : List Word) (i : Nat) : ca a i = a.getD (i + 1) 0 ++ a.getD i 0 := rfl

/-- A host address is its two words. -/
@[simp] theorem fw_cat_addr (v : BitVec 64) : fw [(0, v.toNat / 4294967296)] ++ fw [(0, v.toNat % 4294967296)] = v := Laws.cat32 v

/-- A flag that stands alone in its word. -/
@[simp] theorem bitsOf_fw_flag {k : Nat} (h : k < 32) : bitsOf (fw [(k, 1)]) k k = 1 :=
  bitsOf_fw_hit (by rw [Nat.add_sub_cancel_left]; decide) (by simp [h])

/-! ## Two commands of their own shape -/

theorem encode_ptpStep_unit {h h' : CmdHdr} {e st : Bool} {v : BitVec 64} {n : BitVec 30} {op : Nat} {a : List Word} {x : CmdData}
    (he : encodeCmd (.ptpStep h' e st v n) = some (h, op, a, x)) : op / 256 = 9 := by
  simp only [encodeCmd] at he
  split at he
  · cases he; rfl
  · split at he
    · cases he; rfl
    · cases he

theorem decode_ptpStep {h h' : CmdHdr} {e st : Bool} {v : BitVec 64} {n : BitVec 30} {op : Nat} {a : List Word} {x : CmdData}
    (he : encodeCmd (.ptpStep h' e st v n) = some (h, op, a, x)) : decodeCmd h op a x = some (.ptpStep h' e st v n) := by
  simp only [encodeCmd] at he
  split at he
  · next hs =>
    cases he
    obtain ⟨rfl, hv⟩ : st = true ∧ v.toNat < 2 ^ 48 := by simpa using hs
    have hlo : bitsOf (fw [(0, v.toNat % 2 ^ 32)]) 31 0 = v.toNat % 2 ^ 32 := bitsOf_fw_hit (by omega) rfl
    have hhi : bitsOf (fw [(0, v.toNat / 2 ^ 32)]) 15 0 = v.toNat / 2 ^ 32 := bitsOf_fw_hit (by omega) rfl
    have hset : bitsOf (fw [(30, 1), (31, e.toNat)]) 30 30 = 1 := bitsOf_fw_hit (by decide) rfl
    have hnew : bitsOf (fw [(30, 1), (31, e.toNat)]) 31 31 = e.toNat := by
      rw [bitsOf_fw_below (n := 1) (by decide) rfl, bitsOf_fw_bool rfl]
    have hcat := Laws.cat32 v
    simp only [fw, fieldSum, Nat.pow_zero, Nat.mul_one, Nat.add_zero] at hcat
    simp (disch := simp) only [decodeCmd, decodePtp, cw_eq, cb_eq, List.getD_cons_zero, List.getD_cons_succ, hlo, hhi, hset, hnew, hcat,
      bitsOf_fw_bv, bv_ofNat_toNat, toNat_eq_one]
    simp
  · split at he
    · next hs =>
      cases he
      obtain ⟨rfl, rfl⟩ : st = false ∧ n = 0 := by simpa using hs
      simp [decodeCmd, decodePtp]
    · cases he

/-- Four bytes in the order of a trace identifier, the first in the top bits. -/
theorem toNat_append_bytes (b0 b1 b2 b3 : BitVec 8) :
    ((b0 ++ b1 ++ (b2 ++ b3 : BitVec 16) : BitVec 32)).toNat = b0.toNat * 2 ^ 24 + b1.toNat * 2 ^ 16 + b2.toNat * 2 ^ 8 + b3.toNat := by
  have happ {m n : Nat} (x : BitVec m) (y : BitVec n) : (x ++ y).toNat = x.toNat * 2 ^ n + y.toNat := by
    rw [BitVec.toNat_append, ← Nat.shiftLeft_add_eq_or_of_lt y.isLt, Nat.shiftLeft_eq]
  simp only [happ]
  omega

/-- Byte `i` of a trace identifier, byte 0 first. -/
def traceByte (id : BitVec 112) (i : Nat) : BitVec 8 := BitVec.ofNat 8 (id.toNat / 2 ^ (8 * (13 - i)))

/-- The number that `k` bytes from the lowest up spell. -/
theorem bytes_sum (x k : Nat) : ((List.range k).map (fun i => x / 2 ^ (8 * i) % 2 ^ 8 * 2 ^ (8 * i))).sum = x % 2 ^ (8 * k) := by
  induction k with
  | zero => simp [Nat.mod_one]
  | succ k ih =>
    rw [List.range_succ, List.map_append, List.sum_append, ih, Nat.mul_add, Nat.mul_one, Nat.pow_add, Nat.mod_mul]
    simp [Nat.mul_comm]

theorem traceBytes_sum (id : BitVec 112) :
    ([13, 12, 11, 10, 9, 8, 7, 6, 5, 4, 3, 2, 1, 0].map (fun i => (traceByte id i).toNat * 2 ^ (8 * (13 - i)))).sum = id.toNat := by
  have h14 := bytes_sum id.toNat 14
  have hlt : id.toNat % 2 ^ (8 * 14) = id.toNat := Nat.mod_eq_of_lt id.isLt
  rw [hlt, show List.range 14 = [0, 1, 2, 3, 4, 5, 6, 7, 8, 9, 10, 11, 12, 13] from rfl] at h14
  simpa only [traceByte, BitVec.toNat_ofNat, List.map_nil, List.map_cons] using h14

/-- The words of a trace identifier, put together from its bytes. -/
theorem traceWords_eq {b0 b1 b2 b3 b4 b5 b6 b7 b8 b9 b10 b11 b12 b13 x : Nat} (hx : x < 2 ^ 112)
    (h : b13 * 2 ^ 0 + (b12 * 2 ^ 8 + (b11 * 2 ^ 16 + (b10 * 2 ^ 24 + (b9 * 2 ^ 32 + (b8 * 2 ^ 40 + (b7 * 2 ^ 48 + (b6 * 2 ^ 56
      + (b5 * 2 ^ 64 + (b4 * 2 ^ 72 + (b3 * 2 ^ 80 + (b2 * 2 ^ 88 + (b1 * 2 ^ 96 + (b0 * 2 ^ 104 + 0))))))))))))) = x) :
    ((b0 * 2 ^ 24 + b1 * 2 ^ 16 + b2 * 2 ^ 8 + b3) * 2 ^ 80 + (b4 * 2 ^ 24 + b5 * 2 ^ 16 + b6 * 2 ^ 8 + b7) * 2 ^ 48
      + (b8 * 2 ^ 24 + b9 * 2 ^ 16 + b10 * 2 ^ 8 + b11) * 2 ^ 16
      + (b12 * 2 ^ 24 + b13 * 2 ^ 16 + 0 % 2 ^ 8 * 2 ^ 8 + 0 % 2 ^ 8) / 2 ^ 16) % 2 ^ 112 = x := by
  omega

theorem sum_map_fourteen (f : Nat → Nat) : ([13, 12, 11, 10, 9, 8, 7, 6, 5, 4, 3, 2, 1, 0].map f).sum =
    f 13 + (f 12 + (f 11 + (f 10 + (f 9 + (f 8 + (f 7 + (f 6 + (f 5 + (f 4 + (f 3 + (f 2 + (f 1 + (f 0 + 0))))))))))))) := by
  simp only [List.map_nil, List.map_cons, List.sum_cons, List.sum_nil]

theorem decode_mshTraceSet {h h' : CmdHdr} {id : BitVec 112} {op : Nat} {a : List Word} {x : CmdData}
    (he : encodeCmd (.mshTraceSet h' id) = some (h, op, a, x)) : decodeCmd h op a x = some (.mshTraceSet h' id) := by
  have hb (i : Nat) : id.toNat / 2 ^ (8 * (13 - i)) % 2 ^ 8 = (traceByte id i).toNat := by simp [traceByte]
  simp only [encodeCmd, hb] at he
  cases he
  simp (disch := simp) only [decodeCmd, decodeMsh, cw_eq, List.getD_cons_zero, List.getD_cons_succ, bitsOf_fw_bv, bitsOf_fw_bv_below,
    bitsOf_fw_nil, bv_ofNat_toNat, toNat_append_bytes]
  congr 2
  apply BitVec.eq_of_toNat_eq
  simp only [BitVec.toNat_ofNat]
  exact traceWords_eq id.isLt ((sum_map_fourteen _).symm.trans (traceBytes_sum id))

/-! ## The commands of all units -/

/-- The units up to the Brush array. -/
theorem decode_encode_low {i : Instr} {h : CmdHdr} {op : Nat} {a : List Word} {x : CmdData} (he : encodeCmd i = some (h, op, a, x))
    (hu : op / 256 < 7) : decodeCmd h op a x = some i := by
  cases i
  case ptpStep h' e st v n => exact absurd (encode_ptpStep_unit he ▸ hu) (by decide)
  all_goals cases he
  all_goals try exact absurd hu (by decide)
  all_goals simp [decodeCmd, decodeGen, decodeAdm, decodeNet, decodeKey, decodeAud, decodeBrs]

/-- The units from the video engines on. -/
theorem decode_encode_high {i : Instr} {h : CmdHdr} {op : Nat} {a : List Word} {x : CmdData} (he : encodeCmd i = some (h, op, a, x))
    (hu : ¬ op / 256 < 7) : decodeCmd h op a x = some i := by
  cases i
  case ptpStep h' e st v n => exact decode_ptpStep he
  case mshTraceSet h' id => exact decode_mshTraceSet he
  all_goals cases he
  all_goals try exact absurd (by decide) hu
  all_goals simp [decodeCmd, decodeVid, decodeCnv, decodePtp, decodeMsh, decodeMem, decodeCal, decodePwr]
  all_goals simp [bitsOf, fw, fieldSum]

/-- Settles O7: each field of a descriptor reads what the encoding put in it. -/
theorem descriptorRoundTrip : Obligations.DescriptorRoundTrip := by
  intro i h op a x he
  by_cases hu : op / 256 < 7
  · exact decode_encode_low he hu
  · exact decode_encode_high he hu

end Sys2Proof.Machine

/-!
Host commands that are refused: by R94's common checks, in their order.
-/
namespace Sys2Proof.Machine

theorem command_unserved {h : CmdHdr} {s : State} (hu : unserved s h.fn.toNat = true) (op : BitVec 16) (p : Pre)
    (k : State → State × Res) : command h op p k s = s := by
  simp only [command, hu, if_true]

theorem command_status {h : CmdHdr} {p : Pre} {s : State} {st : BitVec 16} (hu : unserved s h.fn.toNat = false)
    (hp : p.status s h = some st) (op : BitVec 16) (k : State → State × Res) :
    command h op p k s = complete (if st = GEN_ST_DMA then dmaErr s h.fn.toNat else s) h op st [] := by
  simp only [command, hu, hp, Bool.false_eq_true, if_false]

theorem commandLong_unserved {h : CmdHdr} {s : State} (hu : unserved s h.fn.toNat = true) (op : BitVec 16) (p : Pre)
    (k : State → State × Option Res) : commandLong h op p k s = s := by
  simp only [commandLong, hu, if_true]

theorem commandLong_status {h : CmdHdr} {p : Pre} {s : State} {st : BitVec 16} (hu : unserved s h.fn.toNat = false)
    (hp : p.status s h = some st) (op : BitVec 16) (k : State → State × Option Res) :
    commandLong h op p k s = complete (if st = GEN_ST_DMA then dmaErr s h.fn.toNat else s) h op st [] := by
  simp only [commandLong, hu, hp, Bool.false_eq_true, if_false]

/-- What steps 1 to 3 of R94 give, by the layout of the opcode. -/
theorem descWaiting_early {h : CmdHdr} {ws : List Word} (x : CmdData) {l : Layout}
    (hl : layoutOfOp (bitsOf (ws.getD 0 0) 31 16) (ws.drop 4) = some l) :
    (descWaiting h ws x).early = if l.fn0 && h.fn ≠ 0 then some GEN_ST_NOT_PERMITTED
      else if !reservedClear ws l.mask || (descWaiting h ws x).cmd.isNone then some GEN_ST_RESERVED else none := by
  simp only [descWaiting, hl]

/-- Settles O12: each clause is one branch of `command`, of `descWaiting` or of `Pre.status`. -/
theorem refusedCommandsHaveNoEffect : Obligations.RefusedCommandsHaveNoEffect := by
  refine ⟨fun h op p k s => ⟨fun hu => command_unserved hu op p k, fun st hu hp hst => ?_, fun hu hp => ?_⟩,
    fun h op p k s => ⟨fun hu => commandLong_unserved hu op p k, fun st hu hp hst => ?_, fun hu hp => ?_⟩,
    fun h op st s => ⟨Laws.hostSide_complete .., Laws.hostRest_dmaErr ..⟩, fun h ws x => ⟨fun hn => ?_, fun l hl => ⟨?_, ?_⟩⟩, fun h p s => ?_⟩
  · rw [command_status hu hp, if_neg hst]
  · rw [command_status hu hp, if_pos rfl]
  · rw [commandLong_status hu hp, if_neg hst]
  · rw [commandLong_status hu hp, if_pos rfl]
  · simp only [descWaiting, hn]
  · intro hfn hne
    rw [descWaiting_early x hl, if_pos (by rw [hfn, decide_eq_true hne]; rfl)]
  · intro hfn hres
    rw [descWaiting_early x hl, if_neg (by simpa using hfn), hres]
    rfl
  · refine ⟨?_, ?_, ?_, ?_, ?_, ?_⟩
    all_goals
      intros
      simp_all [Pre.status]

end Sys2Proof.Machine

/-!
Host commands that their chapters refuse (R48 to R258): what the chapter's check finds is the command's whole effect.
-/
namespace Sys2Proof.Machine

theorem refused_next {h : CmdHdr} {op : BitVec 16} {p : Pre} {k : State → State × Res} {s : State} {st : BitVec 16} (hp : Passes s h p)
    (hk : k (fresh s) = (fresh s, no st)) : act (command h op p k) s = .next (keepQueue s (complete (fresh s) h op st [])) := by
  have e := Laws.command_next (op := op) hp hk
  simp only [no] at e
  exact e

theorem refusedLong_next {h : CmdHdr} {op : BitVec 16} {p : Pre} {k : State → State × Option Res} {s : State} {st : BitVec 16}
    (hp : Passes s h p) (hk : k (fresh s) = (fresh s, some (no st))) :
    act (commandLong h op p k) s = .next (keepQueue s (complete (fresh s) h op st [])) := by
  have e := Laws.commandLong_done (op := op) hp hk
  simp only [no] at e
  exact e

/-- Settles O13, clause by clause: the chapter's check on the fresh state gives the status and leaves the state. -/
theorem refusalsOfChapters3To9HaveNoEffect : Obligations.RefusalsOfChapters3To9HaveNoEffect := by
  refine ⟨?_, ?_, ?_, ?_, ?_, ?_, ?_, ?_, ?_, ?_, ?_, ?_, ?_, ?_, ?_, ?_, ?_, ?_, ?_, ?_⟩
  · intro s h code hp hu
    exact refused_next hp (by simp [hu])
  · intro s h f hp hf
    exact refusedLong_next hp (by simp [show fnExists (fresh s) f.toNat = false from hf])
  · intro s h conf leg addr dma hp hadm
    exact refused_next hp (by simp [legAdmit, show admOpen (fresh s) = false from hadm])
  · intro s h conf leg addr dma hp hadm hconf
    exact refused_next hp (by
      simp [legAdmit, show admOpen (fresh s) = true from hadm, show tget (fresh s).adm.confs conf.toNat = none from hconf])
  · intro s h conf c hp hconf hown
    exact refused_next hp (by simp [show tget (fresh s).adm.confs conf.toNat = some c from hconf, hown])
  · intro s h conf c hp hconf hown hbusy
    exact refused_next hp (by
      simp [show tget (fresh s).adm.confs conf.toNat = some c from hconf, hown, show confHolds (fresh s) conf.toNat = true from hbusy])
  · intro s h f r v hp hpeak
    exact refused_next hp (by simp [show v.toNat < fnPeak (fresh s) f.toNat r.toNat from hpeak])
  · intro s h id hp hnone
    exact refused_next hp (by simp [show tget (fresh s).adm.layouts id.toNat = none from hnone])
  · intro s h hd addr dma hp hleg
    exact refused_next hp (by simp [streamBind, show legIn (fresh s) (hd.toNat / 4) = none from hleg])
  · intro s h hd hp hown
    exact refused_next hp (by simp [boundFor, show streamForeign (fresh s) h.fn.toNat hd.toNat = true from hown])
  · intro s h hd hp hown hnone
    exact refused_next hp (by
      simp [boundFor, show streamForeign (fresh s) h.fn.toNat hd.toNat = false from hown, show tget (fresh s).net.bound hd.toNat = none from hnone])
  · intro s h id hp hnone
    exact refused_next hp (by simp [subFor, show tget (fresh s).fwd.subs id.toNat = none from hnone])
  · intro s h id x hp hsub hown
    exact refused_next hp (by simp [subFor, show tget (fresh s).fwd.subs id.toNat = some x from hsub, hown])
  · intro s h ix hd hp hleg
    exact refused_next hp (by simp [fwdLegFor, show legIn (fresh s) (hd.toNat / 4) = none from hleg])
  · intro s h slot hp hnone
    exact refused_next hp (by simp [show tget (fresh s).key.slots slot.toNat = none from hnone])
  · intro s h slot k hp hslot hown her hbound
    exact refused_next hp (by
      simp [show tget (fresh s).key.slots slot.toNat = some k from hslot, hown, her, show slotBound (fresh s) slot.toNat = true from hbound])
  · intro s h dir hd hp hown hbound hdir hnone
    exact refused_next hp (by
      simp [show streamForeign (fresh s) h.fn.toNat hd.toNat = false from hown, show isBound (fresh s) hd.toNat = true from hbound,
        show dirEnabled (fresh s) hd.toNat dir = true from hdir, show dirBind (fresh s) hd.toNat dir = none from hnone])
  · intro s h bus id hp htone hnone
    exact refused_next hp (by
      simp [show toneFor (fresh s) h.fn.toNat false bus.toNat id.toNat = .ok (sinkTgt id.toNat) from htone,
        show thas (fresh s).aud.tones (sinkTgt id.toNat) = false from hnone])
  · intro s h prog hp hnone
    exact refused_next hp (by simp [show tget (fresh s).brs.progs prog.toNat = none from hnone])
  · intro s h prog p hp hprog hown hbusy
    exact refused_next hp (by
      simp only [show tget (fresh s).brs.progs prog.toNat = some p from hprog, hown, ne_eq, not_true, if_false,
        show (fresh s).brs.insts.any (fun i => i.2.prog = prog.toNat) = true from hbusy, if_true])

/-- Settles O14, clause by clause, as O13. -/
theorem refusalsOfChapters10To16HaveNoEffect : Obligations.RefusalsOfChapters10To16HaveNoEffect := by
  refine ⟨?_, ?_, ?_, ?_, ?_, ?_, ?_, ?_, ?_, ?_, ?_, ?_⟩
  · intro s h fir opS opT holds dpb hd hp hleg
    exact refused_next hp (by simp [decOpen, show legIn (fresh s) (hd.toNat / 4) = none from hleg])
  · intro s h ctx st hp hown
    exact refused_next hp (by simp [show ctxOwner (fresh s) h.fn.toNat false ctx.toNat = some st from hown])
  · intro s h group layout l hp hlay hnone
    refine refused_next hp ?_
    simp only [show layoutFor (fresh s) h.fn.toNat layout.toNat = .ok l from hlay,
      show (layoutOf (fresh s) layout.toNat).groups.find? (fun g => g.group = group.toNat) = none from hnone]
  · intro s h plate hp hnone
    exact refused_next hp (by simp [show tget (fresh s).cnv.plates plate.toNat = none from hnone])
  · intro s h synced r hp hr
    exact refused_next hp (if_pos hr)
  · intro s h synced r hp hr hservo
    exact refused_next hp (by
      simp only [Int.not_lt.2 hr, if_false, show (fresh s).ptp.servo = true from hservo, if_true])
  · intro s h m hp hen
    exact refused_next hp (by simp [show (mshPort (fresh s) m.toNat).live.en = false from hen])
  · intro s h repair k hp hk
    exact refusedLong_next hp (by simp [hk])
  · intro s h repair k hp hk hsweep
    exact refusedLong_next hp (by simp [Nat.not_lt.2 hk, show (fresh s).mem.sweep.isSome = true from hsweep])
  · intro s h cls idx addr hp hcount
    exact refused_next hp (by simp [hcount])
  · intro s h v hp hv hlt
    exact refused_next hp (by simp only [ne_eq, hv, hlt, not_false_eq_true, and_self, if_true])
  · intro s h hp htrans hmode hfull
    refine refusedLong_next hp ?_
    simp [modeReq, show (fresh s).pwr.trans = none from htrans, show mode (fresh s) = 5 from hmode, show notEmpty (fresh s) = true from hfull]

end Sys2Proof.Machine

/-!
The host interface: functions, rings and vectors after an update, what an entry written to a ring leaves, and with them the numbering of
events (R98 to R100), the moderation of interrupts (R107, R108) and the completion entry (R93).
-/
namespace Sys2Proof.Machine

/-! ## Functions, rings and vectors after an update -/

theorem fnOf_setFn (s : State) (f g : Nat) (x : Fn) : fnOf (setFn s f x) g = if g = f then x else fnOf s g := by
  simp only [fnOf, setFn, Laws.tget_tset]
  split <;> rfl

theorem fnOf_setFn_self (s : State) (f : Nat) (x : Fn) : fnOf (setFn s f x) f = x := by rw [fnOf_setFn, if_pos rfl]

theorem fnOf_setFn_ne (s : State) {f g : Nat} (x : Fn) (h : g ≠ f) : fnOf (setFn s f x) g = fnOf s g := by rw [fnOf_setFn, if_neg h]

/-- What an interrupt of function `f` can change: vectors of that function and what is sent out. -/
structure IrqOnly (s t : State) (f : Nat) : Prop where
  hostMem : t.hostMem = s.hostMem
  others : ∀ g, g ≠ f → fnOf t g = fnOf s g
  own : ∃ vs, fnOf t f = { fnOf s f with vecs := vs }

theorem irqOnly_refl (s : State) (f : Nat) : IrqOnly s s f := ⟨rfl, fun _ _ => rfl, _, rfl⟩

theorem irqOnly_setVec {s t : State} {f : Nat} (h : IrqOnly s t f) (v : Nat) (x : Vec) : IrqOnly s (setVec t f v x) f := by
  refine ⟨h.hostMem, fun g hg => ?_, tset (fnOf t f).vecs v x, ?_⟩
  · rw [setVec, fnOf_setFn_ne _ _ hg, h.others g hg]
  · obtain ⟨vs, hvs⟩ := h.own
    rw [setVec, fnOf_setFn_self, hvs]

theorem irqOnly_sendMsi {s t : State} {f : Nat} (h : IrqOnly s t f) (v : Nat) : IrqOnly s (sendMsi t f v) f := by
  unfold sendMsi
  split
  · exact h
  · split
    · exact irqOnly_setVec h ..
    · have h' := irqOnly_setVec h v {}
      exact ⟨h'.hostMem, h'.others, h'.own⟩

theorem irqOnly_ringIrq {s t : State} {f : Nat} (h : IrqOnly s t f) (q : Nat) (now : Bool) : IrqOnly s (ringIrq t f q now) f := by
  simp only [ringIrq, vecIrq]
  split
  · split
    · exact irqOnly_sendMsi (irqOnly_setVec h ..) _
    · exact irqOnly_setVec h ..
  · exact h

/-! ## An entry written to a ring -/

theorem hostWrites_hif (s : State) (a : Nat) (ws : List Word) : (hostWrites s a ws).hif = s.hif := by
  induction ws generalizing s a with
  | nil => rfl
  | cons w ws ih => exact ih _ _

/-- Word `j` of a list written to host memory at a word's address. -/
theorem hostWord_hostWrites (s : State) {a : Nat} (ha : a % 4 = 0) (ws : List Word) {j : Nat} (hj : j < ws.length) :
    hostWord (hostWrites s a ws) (a + 4 * j) = ws[j] := by
  induction ws generalizing s a j with
  | nil => simp at hj
  | cons w ws ih =>
    cases j with
    | zero =>
      rw [hostWrites, Laws.hostWord_hostWrites_ne _ _ _ _ (by omega), Laws.hostWord_hostWrite, if_pos (by omega)]
      rfl
    | succ j =>
      have hrec := ih (hostWrite s a w) (a := a + 4) (by omega) (j := j) (by simpa using hj)
      rw [hostWrites, show a + 4 * (j + 1) = a + 4 + 4 * j by omega, hrec]
      rfl

/-- The words of an entry with the ring's phase in its fourth word (R85). -/
def entryWords (s : State) (f q : Nat) (ws : List Word) : List Word :=
  ws.modify 3 (· ||| BitVec.ofNat 32 (passPhase (ringOf s f q).devIdx (ringSize s f q) * 2 ^ 31))

/-- Where the entry goes. -/
def entryAddr (s : State) (f q : Nat) (ws : List Word) : Nat :=
  ringBase s f q + ringSlot (ringOf s f q).devIdx (ringSize s f q) * (4 * ws.length)

theorem pushEntry_hostMem (s : State) (f q : Nat) (ws : List Word) (now : Bool) :
    (pushEntry s f q ws now).hostMem = (hostWrites s (entryAddr s f q ws) (entryWords s f q ws)).hostMem :=
  (irqOnly_ringIrq (irqOnly_refl _ f) q now).hostMem

theorem pushEntry_others (s : State) {f g : Nat} (q : Nat) (ws : List Word) (now : Bool) (hg : g ≠ f) :
    fnOf (pushEntry s f q ws now) g = fnOf s g := by
  have h := (irqOnly_ringIrq (irqOnly_refl (setRing (hostWrites s (entryAddr s f q ws) (entryWords s f q ws)) f q
    { ringOf s f q with devIdx := (ringOf s f q).devIdx + 1 }) f) q now).others g hg
  refine h.trans ?_
  rw [setRing, fnOf_setFn_ne _ _ hg]
  simp only [fnOf, hostWrites_hif]

theorem pushEntry_own (s : State) (f q : Nat) (ws : List Word) (now : Bool) :
    ∃ vs, fnOf (pushEntry s f q ws now) f =
      { fnOf s f with rings := tset (fnOf s f).rings q { ringOf s f q with devIdx := (ringOf s f q).devIdx + 1 }, vecs := vs } := by
  obtain ⟨vs, hvs⟩ := (irqOnly_ringIrq (irqOnly_refl (setRing (hostWrites s (entryAddr s f q ws) (entryWords s f q ws)) f q
    { ringOf s f q with devIdx := (ringOf s f q).devIdx + 1 }) f) q now).own
  refine ⟨vs, hvs.trans ?_⟩
  rw [setRing, fnOf_setFn_self]
  simp only [fnOf, hostWrites_hif]

/-- After an entry the ring's device index is one further. -/
theorem pushEntry_devIdx (s : State) (f q : Nat) (ws : List Word) (now : Bool) :
    (ringOf (pushEntry s f q ws now) f q).devIdx = (ringOf s f q).devIdx + 1 := by
  obtain ⟨vs, hvs⟩ := pushEntry_own s f q ws now
  rw [ringOf, hvs]
  simp only [Laws.tget_tset_self, Option.getD_some]

/-- Words outside the entry read as before. -/
theorem pushEntry_hostWord_ne (s : State) (f q : Nat) (ws : List Word) (now : Bool) {b : Nat}
    (hb : b / 4 < entryAddr s f q ws / 4 ∨ entryAddr s f q ws / 4 + ws.length ≤ b / 4) :
    hostWord (pushEntry s f q ws now) b = hostWord s b := by
  rw [hostWord, pushEntry_hostMem, ← hostWord, Laws.hostWord_hostWrites_ne]
  simpa [entryWords] using hb

/-- Word `j` of the entry. -/
theorem pushEntry_hostWord (s : State) (f q : Nat) (ws : List Word) (now : Bool) (ha : entryAddr s f q ws % 4 = 0) {j : Nat}
    (hj : j < (entryWords s f q ws).length) :
    hostWord (pushEntry s f q ws now) (entryAddr s f q ws + 4 * j) = (entryWords s f q ws)[j] := by
  rw [hostWord, pushEntry_hostMem, ← hostWord, hostWord_hostWrites s ha _ hj]

theorem entryAddr_mod_four (s : State) (f q : Nat) (ws : List Word) : entryAddr s f q ws % 4 = 0 := by
  simp only [entryAddr, ringBase, Nat.mul_left_comm _ 4]
  omega

/-! ## Numbering of events (R98 to R100) -/

theorem fnOf_setBit (s : State) (b : Field) (g : Nat) : fnOf (setBit s b) g = fnOf s g := rfl

theorem fnOf_bump (s : State) (b : Field) (n g : Nat) : fnOf (bump s b n) g = fnOf s g := rfl

theorem ringOf_setBit (s : State) (b : Field) (g : Nat) : ringOf (setBit s b) g = ringOf s g := rfl

theorem ringOf_bump (s : State) (b : Field) (n g : Nat) : ringOf (bump s b n) g = ringOf s g := rfl

theorem ringOf_setFn (s : State) (f q : Nat) {x : Fn} (hx : x.rings = (fnOf s f).rings) : ringOf (setFn s f x) q = ringOf s q := by
  funext r
  simp only [ringOf, fnOf_setFn]
  split
  next h => rw [hx, h]
  next => rfl

/-- An event takes its number, whatever becomes of it. -/
def takeNumber (s : State) (f : Nat) : State := setFn s f { fnOf s f with seq := (fnOf s f).seq + 1 }

theorem fnOf_takeNumber (s : State) (f : Nat) : fnOf (takeNumber s f) f = { fnOf s f with seq := (fnOf s f).seq + 1 } := fnOf_setFn_self ..

theorem ringOf_takeNumber (s : State) (f : Nat) : ringOf (takeNumber s f) f = ringOf s f :=
  ringOf_setFn s f f (x := { fnOf s f with seq := (fnOf s f).seq + 1 }) rfl

theorem ringOpen_setFn (s : State) (f q : Nat) {x : Fn} (hx : x.rings = (fnOf s f).rings) : ringOpen (setFn s f x) f q = ringOpen s f q := by
  simp only [ringOpen, ringOf_setFn s f f hx]
  rfl

/-- The event that `raise` numbers. -/
def nextEvt (s : State) (f : Nat) (c src : BitVec 16) (p0 p1 p2 p3 : Word) : Evt :=
  ⟨c, (fnOf s f).seq, BitVec.ofNat 64 (curTick s), src, p0, p1, p2, p3⟩

/-- An event of an enabled code with nothing before it and room in the ring is written at once. -/
theorem raise_written {s : State} {f : Nat} {c src : BitVec 16} (p0 p1 p2 p3 : Word) (hr : resetting s f = false)
    (hm : (fnOf s f).masked.contains c = false ∨ unmaskable c = true) (hh : (fnOf s f).heldEvts = []) (hl : (fnOf s f).lostFirst = none)
    (ho : ringOpen s f 32 = true) :
    raise s f c src p0 p1 p2 p3 = pushEntry (takeNumber s f) f 32 (nextEvt s f c src p0 p1 p2 p3).words false := by
  have hm' : ¬((fnOf s f).masked.contains c = true ∧ ¬ unmaskable c = true) := by rintro ⟨h1, h2⟩; simp_all
  have ho' := (ringOpen_setFn s f 32 (x := { fnOf s f with seq := (fnOf s f).seq + 1 }) rfl).trans ho
  rw [raise, if_neg (by simp only [hr, hm', Bool.false_eq_true, or_self, not_false_eq_true]), if_pos ⟨hh, hl, ho'⟩]
  rfl

/-- The function with an event held. -/
def holdEvt (x : Fn) (e : Evt) : Fn := { x with heldEvts := x.heldEvts ++ [e] }

/-- The function with an event of number `q` lost. -/
def loseEvt (x : Fn) (q : BitVec 16) : Fn :=
  { x with lostFirst := some (x.lostFirst.getD q), lostCnt := min (x.lostCnt + 1) 0xffffffff }

theorem raise_late {s : State} {f : Nat} {c src : BitVec 16} (p0 p1 p2 p3 : Word) (hr : resetting s f = false)
    (hm : (fnOf s f).masked.contains c = false ∨ unmaskable c = true)
    (hw : (fnOf s f).heldEvts ≠ [] ∨ (fnOf s f).lostFirst.isSome = true ∨ ringOpen s f 32 = false) :
    raise s f c src p0 p1 p2 p3 =
      if (fnOf s f).heldEvts.length < 32 then
        setFn (takeNumber s f) f (holdEvt { fnOf s f with seq := (fnOf s f).seq + 1 } (nextEvt s f c src p0 p1 p2 p3))
      else setBit (bump (setFn (takeNumber s f) f (loseEvt { fnOf s f with seq := (fnOf s f).seq + 1 } (fnOf s f).seq))
        (HIF_EVT_LOST_CNT f) 1) (HIF_ST_EVT_LOST f) := by
  have hm' : ¬((fnOf s f).masked.contains c = true ∧ ¬ unmaskable c = true) := by rintro ⟨h1, h2⟩; simp_all
  have ho' := ringOpen_setFn s f 32 (x := { fnOf s f with seq := (fnOf s f).seq + 1 }) rfl
  rw [raise, if_neg (by simp only [hr, hm', Bool.false_eq_true, or_self, not_false_eq_true]), if_neg]
  · simp only [takeNumber, holdEvt, loseEvt, nextEvt, fnOf_setFn_self]
  · rintro ⟨h1, h2, h3⟩
    rw [ho'] at h3
    simp_all

/-! ## An entry of eight words -/

/-- What an entry of eight words leaves in host memory and in its ring. -/
theorem pushEntry_eight (s : State) (f q : Nat) (w0 w1 w2 w3 w4 w5 w6 w7 : Word) (now : Bool) {t : State} {a : Nat}
    (ht : t = pushEntry s f q [w0, w1, w2, w3, w4, w5, w6, w7] now)
    (ha : a = ringBase s f q + ringSlot (ringOf s f q).devIdx (ringSize s f q) * 32) :
    hostWord t a = w0 ∧ hostWord t (a + 4) = w1 ∧ hostWord t (a + 8) = w2 ∧
    hostWord t (a + 12) = w3 ||| BitVec.ofNat 32 (passPhase (ringOf s f q).devIdx (ringSize s f q) * 2 ^ 31) ∧
    hostWord t (a + 16) = w4 ∧ hostWord t (a + 20) = w5 ∧ hostWord t (a + 24) = w6 ∧ hostWord t (a + 28) = w7 ∧
    (∀ b, b / 4 < a / 4 ∨ a / 4 + 8 ≤ b / 4 → hostWord t b = hostWord s b) ∧
    (ringOf t f q).devIdx = (ringOf s f q).devIdx + 1 := by
  subst ht
  have hword := fun j (hj : j < 8) => pushEntry_hostWord s f q [w0, w1, w2, w3, w4, w5, w6, w7] now (entryAddr_mod_four ..) (j := j)
    (by simpa [entryWords] using hj)
  rw [show entryAddr s f q [w0, w1, w2, w3, w4, w5, w6, w7] = a from ha.symm] at hword
  refine ⟨hword 0 (by decide), hword 1 (by decide), hword 2 (by decide), hword 3 (by decide), hword 4 (by decide), hword 5 (by decide),
    hword 6 (by decide), hword 7 (by decide), fun b hb => pushEntry_hostWord_ne _ _ _ _ _ ?_, pushEntry_devIdx ..⟩
  rw [show entryAddr s f q [w0, w1, w2, w3, w4, w5, w6, w7] = a from ha.symm]
  exact hb

/-- The source and the phase share a word without meeting. -/
theorem source_or_phase (src : BitVec 16) (i : BitVec 32) (n : Nat) :
    src.setWidth 32 ||| BitVec.ofNat 32 (passPhase i n * 2 ^ 31) = BitVec.ofNat 32 (passPhase i n * 2 ^ 31 + src.toNat) := by
  have hs := src.isLt
  apply BitVec.eq_of_toNat_eq
  simp only [BitVec.toNat_or, BitVec.toNat_setWidth, BitVec.toNat_ofNat]
  rw [Nat.or_comm, Nat.mod_eq_of_lt (show src.toNat < 2 ^ 32 by omega), Nat.mul_comm]
  unfold passPhase
  split
  · rw [Nat.mod_eq_of_lt (by omega), Nat.mod_eq_of_lt (by omega), Nat.two_pow_add_eq_or_of_lt (by omega)]
  · simp; omega

theorem tick_low (n : Nat) : (BitVec.ofNat 64 n).setWidth 32 = BitVec.ofNat 32 n := by
  apply BitVec.eq_of_toNat_eq
  simp only [BitVec.toNat_setWidth, BitVec.toNat_ofNat]
  omega

theorem tick_high (n : Nat) : (BitVec.ofNat 64 n >>> 32).setWidth 32 = BitVec.ofNat 32 (n % 2 ^ 64 / 2 ^ 32) := by
  apply BitVec.eq_of_toNat_eq
  simp only [BitVec.toNat_setWidth, BitVec.toNat_ofNat, BitVec.toNat_ushiftRight, Nat.shiftRight_eq_div_pow]

/-- No other function sees an event. -/
theorem raise_others (s : State) {f g : Nat} (c src : BitVec 16) (p0 p1 p2 p3 : Word) (hg : g ≠ f) :
    fnOf (raise s f c src p0 p1 p2 p3) g = fnOf s g := by
  simp only [raise]
  split
  · rfl
  split
  · rw [pushEntry_others _ _ _ _ hg, fnOf_setFn_ne _ _ hg]
  split
  · rw [fnOf_setFn_ne _ _ hg, fnOf_setFn_ne _ _ hg]
  · rw [fnOf_setBit, fnOf_bump, fnOf_setFn_ne _ _ hg, fnOf_setFn_ne _ _ hg]

/-- An event of an enabled code takes the next number, whether written, held or lost. -/
theorem raise_seq {s : State} {f : Nat} {c : BitVec 16} (src : BitVec 16) (p0 p1 p2 p3 : Word) (hr : resetting s f = false)
    (hm : (fnOf s f).masked.contains c = false ∨ unmaskable c = true) :
    (fnOf (raise s f c src p0 p1 p2 p3) f).seq = (fnOf s f).seq + 1 := by
  by_cases hw : (fnOf s f).heldEvts ≠ [] ∨ (fnOf s f).lostFirst.isSome = true ∨ ringOpen s f 32 = false
  · rw [raise_late p0 p1 p2 p3 hr hm hw]
    split
    · rw [fnOf_setFn_self, holdEvt]
    · rw [fnOf_setBit, fnOf_bump, fnOf_setFn_self, loseEvt]
  · simp only [not_or, ne_eq, Decidable.not_not, Bool.not_eq_true, Bool.not_eq_false, Option.isSome_eq_false_iff, Option.isNone_iff_eq_none] at hw
    obtain ⟨hh, hl, ho⟩ := hw
    rw [raise_written p0 p1 p2 p3 hr hm hh hl ho]
    obtain ⟨vs, hvs⟩ := pushEntry_own (takeNumber s f) f 32 (nextEvt s f c src p0 p1 p2 p3).words false
    rw [hvs, fnOf_takeNumber]

/-- Writing an event's entry at once. -/
theorem raise_written_words {s t : State} {f : Nat} {c src : BitVec 16} {p0 p1 p2 p3 : Word} (ht : t = raise s f c src p0 p1 p2 p3)
    (hr : resetting s f = false) (hm : (fnOf s f).masked.contains c = false ∨ unmaskable c = true) {n a : Nat} {i : BitVec 32}
    (hh : (fnOf s f).heldEvts = []) (hl : (fnOf s f).lostFirst = none) (ho : ringOpen s f 32 = true)
    (hn : n = ringSize s f 32) (hi : i = (ringOf s f 32).devIdx) (ha : a = ringBase s f 32 + ringSlot i n * 32) :
    hostWord t a = c ++ (fnOf s f).seq ∧ hostWord t (a + 4) = BitVec.ofNat 32 (curTick s) ∧
    hostWord t (a + 8) = BitVec.ofNat 32 (curTick s % 2 ^ 64 / 2 ^ 32) ∧
    hostWord t (a + 12) = BitVec.ofNat 32 (passPhase i n * 2 ^ 31 + src.toNat) ∧
    hostWord t (a + 16) = p0 ∧ hostWord t (a + 20) = p1 ∧ hostWord t (a + 24) = p2 ∧ hostWord t (a + 28) = p3 ∧
    (∀ b, b / 4 < a / 4 ∨ a / 4 + 8 ≤ b / 4 → hostWord t b = hostWord s b) ∧ (ringOf t f 32).devIdx = i + 1 := by
  have hring : (ringOf (takeNumber s f) f 32).devIdx = i := by rw [hi, ringOf_takeNumber]
  rw [raise_written p0 p1 p2 p3 hr hm hh hl ho] at ht
  have h := pushEntry_eight (takeNumber s f) f 32 _ _ _ _ _ _ _ _ false ht (a := a) (by rw [hring, ha, hn]; rfl)
  rw [hring, show ringSize (takeNumber s f) f 32 = n from hn.symm, source_or_phase] at h
  obtain ⟨h0, h1, h2, h3, hrest⟩ := h
  exact ⟨h0, h1.trans (tick_low _), h2.trans (tick_high _), h3, hrest⟩

/-- An event that finds its ring full, or others waiting, is held. -/
theorem raise_held {s t : State} {f : Nat} {c src : BitVec 16} {p0 p1 p2 p3 : Word} (ht : t = raise s f c src p0 p1 p2 p3)
    (hr : resetting s f = false) (hm : (fnOf s f).masked.contains c = false ∨ unmaskable c = true)
    (hw : (fnOf s f).heldEvts ≠ [] ∨ (fnOf s f).lostFirst.isSome = true ∨ ringOpen s f 32 = false) (hlt : (fnOf s f).heldEvts.length < 32) :
    (fnOf t f).lostFirst = (fnOf s f).lostFirst ∧ (fnOf t f).lostCnt = (fnOf s f).lostCnt ∧
      (fnOf t f).heldEvts = (fnOf s f).heldEvts ++ [⟨c, (fnOf s f).seq, BitVec.ofNat 64 (curTick s), src, p0, p1, p2, p3⟩] := by
  rw [ht, raise_late p0 p1 p2 p3 hr hm hw, if_pos hlt, fnOf_setFn_self, holdEvt]
  exact ⟨rfl, rfl, rfl⟩

/-- Beyond 32 held events an event is lost and counted. -/
theorem raise_lost {s t : State} {f : Nat} {c src : BitVec 16} {p0 p1 p2 p3 : Word} (ht : t = raise s f c src p0 p1 p2 p3)
    (hr : resetting s f = false) (hm : (fnOf s f).masked.contains c = false ∨ unmaskable c = true)
    (hw : (fnOf s f).heldEvts ≠ [] ∨ (fnOf s f).lostFirst.isSome = true ∨ ringOpen s f 32 = false) (hge : 32 ≤ (fnOf s f).heldEvts.length) :
    (fnOf t f).heldEvts = (fnOf s f).heldEvts ∧ (fnOf t f).lostFirst = some ((fnOf s f).lostFirst.getD (fnOf s f).seq) ∧
      (fnOf t f).lostCnt = min ((fnOf s f).lostCnt + 1) (2 ^ 32 - 1) ∧
      fld t (HIF_EVT_LOST_CNT f) = min (fld s (HIF_EVT_LOST_CNT f) + 1) (2 ^ 32 - 1) ∧ bit t (HIF_ST_EVT_LOST f) = true := by
  rw [ht, raise_late p0 p1 p2 p3 hr hm hw, if_neg (by omega), fnOf_setBit, fnOf_bump, fnOf_setFn_self, loseEvt]
  have hok : Laws.FieldOk (HIF_EVT_LOST_CNT f) := by simp [Laws.FieldOk, HIF_EVT_LOST_CNT]
  have hok' : Laws.FieldOk (HIF_ST_EVT_LOST f) := by simp [Laws.FieldOk, HIF_ST_EVT_LOST]
  refine ⟨rfl, rfl, rfl, ?_, Laws.bit_setBit _ hok' rfl⟩
  rw [setBit, Laws.fld_setFld_ne _ _ hok' (.inl (by simp [HIF_EVT_LOST_CNT, HIF_ST_EVT_LOST])), Laws.fld_bump _ _ hok]
  rfl

theorem hostMem_takeNumber (s : State) (f : Nat) : (takeNumber s f).hostMem = s.hostMem := Laws.setFn_hostMem ..

/-- A held or lost event writes nothing. -/
theorem raise_late_quiet {s t : State} {f : Nat} {c src : BitVec 16} {p0 p1 p2 p3 : Word} (ht : t = raise s f c src p0 p1 p2 p3)
    (hr : resetting s f = false) (hm : (fnOf s f).masked.contains c = false ∨ unmaskable c = true)
    (hw : (fnOf s f).heldEvts ≠ [] ∨ (fnOf s f).lostFirst.isSome = true ∨ ringOpen s f 32 = false) :
    t.hostMem = s.hostMem ∧ ringOf t f = ringOf s f := by
  subst ht
  rw [raise_late p0 p1 p2 p3 hr hm hw]
  split
  next =>
    rw [Laws.setFn_hostMem, hostMem_takeNumber, ringOf_setFn _ _ _ (by rw [holdEvt, fnOf_takeNumber]), ringOf_takeNumber]
    exact ⟨rfl, rfl⟩
  next =>
    rw [Laws.setBit_hostMem, Laws.bump_hostMem, Laws.setFn_hostMem, hostMem_takeNumber, ringOf_setBit, ringOf_bump,
      ringOf_setFn _ _ _ (by rw [loseEvt, fnOf_takeNumber]), ringOf_takeNumber]
    exact ⟨rfl, rfl⟩

/-- The loss record is reported when space returns. -/
theorem writeLost_open {s : State} {f : Nat} {q : BitVec 16} (hl : (fnOf s f).lostFirst = some q) (ho : ringOpen s f 32 = true) :
    writeLost s f = pushEntry (setFn s f { fnOf s f with lostFirst := none, lostCnt := 0 }) f 32
      [EV_GEN_EVT_LOST ++ q, BitVec.ofNat 32 (curTick s), BitVec.ofNat 32 (curTick s % 2 ^ 64 / 2 ^ 32), 0,
       BitVec.ofNat 32 (fnOf s f).lostCnt, 0, 0, 0] false := by
  simp only [writeLost, hl, if_pos ho, Evt.words, tick_low, tick_high]
  rfl

/-- Settles O16, by what `raise` does with an event that is ignored, written at once, held or lost. -/
theorem eventsNumberedHeldLost : Obligations.EventsNumberedHeldLost := by
  unfold Obligations.EventsNumberedHeldLost
  refine ⟨fun s t f c src p0 p1 p2 p3 ht => ⟨fun hr => ?_, fun hm hu => ?_, fun hr hm => ⟨ht ▸ raise_seq src p0 p1 p2 p3 hr hm, ?_, ?_⟩, ?_⟩,
    fun s f q => writeLost_open⟩
  · rw [ht, raise, if_pos (.inl hr)]
  · rw [ht, raise, if_pos (.inr ⟨hm, by simp [hu]⟩)]
  · intro n a i
    exact raise_written_words ht hr hm
  · intro hw
    obtain ⟨hmem, hdev⟩ := raise_late_quiet ht hr hm hw
    exact ⟨hmem, by rw [hdev], raise_held ht hr hm hw, raise_lost ht hr hm hw⟩
  · intro g hg
    rw [ht, raise_others s c src p0 p1 p2 p3 hg]

/-! ## Interrupt vectors (R107, R108) -/

theorem vecOf_setVec (s : State) (f v : Nat) (x : Vec) (g w : Nat) :
    vecOf (setVec s f v x) g w = if (g, w) = (f, v) then x else vecOf s g w := by
  simp only [vecOf, setVec, fnOf_setFn, Prod.mk.injEq]
  by_cases hg : g = f
  · subst hg
    by_cases hw : w = v
    · simp [hw, Laws.tget_tset_self]
    · simp [hw, Laws.tget_tset]
  · simp [hg]

theorem vecOf_setVec_self (s : State) (f v : Nat) (x : Vec) : vecOf (setVec s f v x) f v = x := by rw [vecOf_setVec, if_pos rfl]

theorem vecOf_setVec_ne (s : State) {f v g w : Nat} (x : Vec) (h : (g, w) ≠ (f, v)) : vecOf (setVec s f v x) g w = vecOf s g w := by
  rw [vecOf_setVec, if_neg h]

theorem sendMsi_open {s : State} {f v : Nat} (hr : resetting s f = false) (hm : vecMasked s f v = false) :
    sendMsi s f v = emitOut (setVec s f v {}) (.msi f v) := by
  rw [sendMsi, hr, hm]
  rfl

theorem sendMsi_masked {s : State} {f v : Nat} (hr : resetting s f = false) (hm : vecMasked s f v = true) :
    sendMsi s f v = setVec s f v { vecOf s f v with pba := true } := by
  rw [sendMsi, hr, hm]
  rfl

theorem vecOf_sendMsi_ne (s : State) {f v g w : Nat} (h : (g, w) ≠ (f, v)) : vecOf (sendMsi s f v) g w = vecOf s g w := by
  unfold sendMsi
  split
  · rfl
  split
  · exact vecOf_setVec_ne s _ h
  · exact vecOf_setVec_ne s _ h

/-- The vector after an entry that asks for its message. -/
def countEntry (s : State) (f v : Nat) : State :=
  setVec s f v { vecOf s f v with pending := true, count := (vecOf s f v).count + 1 }

/-- A vector's message is due: no moderation, IRQ_NOW, or its count reached (R107). -/
def MsiDue (s : State) (f v : Nat) (now : Bool) : Prop :=
  fld s (HIF_VEC_MOD_TICKS f v) = 0 ∨ now = true ∨
    (fld s (HIF_VEC_MOD_CNT f v) ≠ 0 ∧ fld s (HIF_VEC_MOD_CNT f v) ≤ (vecOf s f v).count + 1)

theorem vecIrq_due {s : State} {f v : Nat} {now : Bool} (h : MsiDue s f v now) : vecIrq s f v now = sendMsi (countEntry s f v) f v := if_pos h

theorem vecIrq_not_due {s : State} {f v : Nat} {now : Bool} (h : ¬ MsiDue s f v now) : vecIrq s f v now = countEntry s f v := if_neg h

/-- Settles O24, by whether the vector's message is due, and then whether the vector is masked. -/
theorem interruptModeration : Obligations.InterruptModeration := by
  unfold Obligations.InterruptModeration
  rintro s t f v now x rfl rfl hr
  refine ⟨fun hdue hm => ?_, fun hdue hm => ?_, fun hticks hnow hcnt => ?_, fun g w hne => ?_⟩
  · rw [vecIrq_due hdue, sendMsi_open (s := countEntry s f v) hr hm]
    exact ⟨rfl, vecOf_setVec_self ..⟩
  · rw [vecIrq_due hdue, sendMsi_masked (s := countEntry s f v) hr hm, vecOf_setVec_self]
    exact ⟨rfl, rfl⟩
  · have hnot : ¬ MsiDue s f v now := by
      rintro (h | h | ⟨h1, h2⟩)
      · exact hticks h
      · exact absurd h (by simp [hnow])
      · omega
    rw [vecIrq_not_due hnot, countEntry, vecOf_setVec_self]
    exact ⟨rfl, rfl, rfl⟩
  · by_cases hdue : MsiDue s f v now
    · rw [vecIrq_due hdue, vecOf_sendMsi_ne _ hne, countEntry, vecOf_setVec_ne _ _ hne]
    · rw [vecIrq_not_due hdue, countEntry, vecOf_setVec_ne _ _ hne]

/-! ## The completion entry (R93) -/

/-- Function 0 with its completion ring 16 enabled, on a device whose firmware has stopped. -/
def stoppedFirmware : State :=
  setBit { State.reset with pwr := { State.reset.pwr with fwStop := true } } (HIF_RING_EN 0 16)

/-- Refutes O15: a device whose firmware has stopped writes no completion entry, and the statement asks one of every state. -/
theorem not_completionEntryWritten : ¬ Obligations.CompletionEntryWritten := by
  intro h
  have hlast := h stoppedFirmware _ { fn := 0, ring := 0, idx := 0, tag := 0, irqNow := false } 0 0 0 0 0 0 16 0 _ _ _
    rfl (by decide) (by decide) (by decide) (by decide) rfl rfl rfl rfl
  have hdev := hlast.2.2.2.2.2.2.2.2.2
  exact absurd hdev (by decide)

end Sys2Proof.Machine

/-!
The arithmetic of the Brush cores: accumulator results (R244, R245), the loop-end test and the depth of both stacks (R252 to R254), and
addressing in modulo buffers (R250, R251).
-/
namespace Sys2Proof.Machine

/-! ## Accumulators -/

theorem ra_wa_self (k : BBank) (n : BitVec 2) (v : BitVec 56) (h : k.a.length = 4) : (k.wa n v).ra n = v := by
  have hn := n.isLt
  simp [BBank.ra, BBank.wa, List.getD_eq_getElem?_getD, h, hn]

theorem ra_wa_ne (k : BBank) {n m : BitVec 2} (v : BitVec 56) (h : m ≠ n) : (k.wa n v).ra m = k.ra m := by
  have hne : n.toNat ≠ m.toNat := fun he => h (BitVec.eq_of_toNat_eq he.symm)
  simp [BBank.ra, BBank.wa, List.getD_eq_getElem?_getD, List.getElem?_set_ne hne]

theorem reduce56_snd (sam : Bool) (x : Int) : (reduce56 sam x).2 = true ↔ x < -(2 ^ 55) ∨ 2 ^ 55 - 1 < x := by
  simp [reduce56]

/-- A result within 56 bits is kept as it is. -/
theorem reduce56_toInt {x : Int} (sam : Bool) (h1 : -(2 ^ 55) ≤ x) (h2 : x ≤ 2 ^ 55 - 1) : (reduce56 sam x).1.toInt = x := by
  have hin : (decide (x < -(2 ^ 55)) || decide (2 ^ 55 - 1 < x)) = false := by
    simp only [Bool.or_eq_false_iff, decide_eq_false_iff_not]
    omega
  rw [reduce56, hin]
  exact BitVec.toInt_ofInt_eq_self (by decide) (by omega) (by omega)

theorem reduce56_wrap (x : Int) : (reduce56 false x).1 = BitVec.ofInt 56 x := by simp [reduce56]

theorem reduce56_high {x : Int} (h : 2 ^ 55 - 1 < x) : (reduce56 true x).1.toInt = 2 ^ 55 - 1 := by
  have hneg : ¬ x < 0 := by omega
  simp only [reduce56, h, hneg, decide_true, Bool.or_true, Bool.and_self, if_true, if_false]
  decide

theorem reduce56_low {x : Int} (h : x < -(2 ^ 55)) : (reduce56 true x).1.toInt = -(2 ^ 55) := by
  have hneg : x < 0 := by omega
  simp only [reduce56, h, hneg, decide_true, Bool.true_or, Bool.and_self, if_true]
  decide

/-- Settles O18, by what `reduce56` keeps inside the range of 56 bits, modulo 2^56 and at the ends of the range. -/
theorem brushAccumulatorReduction : Obligations.BrushAccumulatorReduction := by
  unfold Obligations.BrushAccumulatorReduction
  rintro k t n x v hlen rfl rfl
  have hv : (k.acc n x).ra n = (reduce56 k.sam x).1 := ra_wa_self k n _ hlen
  rw [hv]
  refine ⟨?_, fun h1 h2 => reduce56_toInt _ h1 h2, fun hs => ?_, fun hs h => ?_, fun hs h => ?_, ?_, ?_, ?_, rfl, rfl,
    fun m hm => ra_wa_ne k _ hm, rfl, rfl, rfl⟩
  · simp [BBank.acc, reduce56_snd]
  · rw [hs, reduce56_wrap]
  · rw [hs, reduce56_high h]
  · rw [hs, reduce56_low h]
  · simp [BBank.acc]
  · simp [BBank.acc]
  · simp [BBank.acc]

/-! ## Loops and calls -/

theorem fall_end (k : BBank) {l : BLoop} {r : List BLoop} {nx : Nat} (hk : k.loops = l :: r) (hl : l.le = nx) :
    k.fall nx = { k with loops := (loopEnd nx (l :: r)).1, pc := BitVec.ofNat 16 (loopEnd nx (l :: r)).2 } := by
  simp [BBank.fall, hk, hl]

theorem fall_inside (k : BBank) {l : BLoop} {r : List BLoop} {nx : Nat} (hk : k.loops = l :: r) (hl : l.le ≠ nx) :
    k.fall nx = { k with pc := BitVec.ofNat 16 nx } := by
  simp [BBank.fall, hk, hl]

theorem loopEnd_again {l : BLoop} {r : List BLoop} {le : Nat} (hl : l.le = le) (hc : 1 < l.lc) :
    loopEnd le (l :: r) = ({ l with lc := l.lc - 1 } :: r, l.ls) := by
  simp [loopEnd, hl, hc]

/-- A loop whose last pass ends is taken off, and the test goes on with the loop around it. -/
theorem loopEnd_last {l : BLoop} {r : List BLoop} {le : Nat} (hl : l.le = le) (hc : l.lc ≤ 1) : loopEnd le (l :: r) = loopEnd le r := by
  rw [loopEnd, if_neg (by simp [hl]), if_neg (by omega)]

theorem loopEnd_outer {l : BLoop} {r : List BLoop} {le : Nat} (hl : l.le ≠ le) : loopEnd le (l :: r) = (l :: r, le) := by
  rw [loopEnd, if_pos hl]

/-- Settles O19, by the cases of the loop-end test and the depths that an instruction without a fault keeps. -/
theorem brushLoopsAndCalls : Obligations.BrushLoopsAndCalls := by
  unfold Obligations.BrushLoopsAndCalls
  refine ⟨fun k l r nx hk hl hc => ?_, fun k l nx hk hl hc => ?_, fun k l m r nx hk hl hc hm => ?_, fun k l m r nx hk hl hc hm => ?_,
    fun k l r nx hk hl => fall_inside k hk hl, fun k r p n e t => ⟨?_, ?_, ?_⟩, fun op k r p i nx hf hl hc => ?_⟩
  · rw [fall_end k hk hl, loopEnd_again hl hc]
  · rw [fall_end k hk hl, loopEnd_last hl hc, loopEnd]
  · rw [fall_end k hk hl, loopEnd_last hl hc, fall_end { k with loops := m :: r } rfl hm]
  · rw [fall_end k hk hl, loopEnd_last hl hc, loopEnd_outer hm]
  · simp [fault_loop]
  · simp [fault_call]
  · simp [fault_ret]
  · obtain ⟨hloop, hcall⟩ := room_of_fault_none hf
    have hl' := loops_eq_of_shape (shape_run op k i)
    have hc' := calls_eq_of_shape (shape_run op k i)
    obtain ⟨_, h1, h2⟩ := shape_flow op (op.run k i).1 nx (hl' ▸ hl) (hc' ▸ hc) (fun n e h => hl' ▸ hloop n e h) (fun t h => hc' ▸ hcall t h)
    exact ⟨h1, h2⟩

/-! ## Modulo buffers -/

theorem rp_wp (k : BBank) (n : BitVec 3) (v : Nat) (h : k.p.length = 8) : (k.wp n v).rp n = BitVec.ofNat 14 v := by
  have hn := n.isLt
  simp [BBank.rp, BBank.wp, List.getD_eq_getElem?_getD, h, hn]

/-- An address taken modulo 2^14 is what the pointer holds. -/
theorem rp_wp_emod (k : BBank) (n : BitVec 3) (q : Int) (h : k.p.length = 8) :
    (((k.wp n (q % 16384).toNat).rp n).toNat : Int) = q % 16384 := by
  rw [rp_wp k n _ h, BitVec.toNat_ofNat]
  omega

theorem rel_wp (k : BBank) (n m : BitVec 3) (v : Nat) : (k.wp n v).rel m = k.rel m := rfl

/-- The pointer's step without a buffer. -/
theorem postMod_plain {k : BBank} {n : BitVec 3} (m : Int) (h : k.rel n = 0) :
    k.postMod n m = k.wp n ((((k.rp n).toNat : Int) + m) % 16384).toNat := by
  simp [BBank.postMod, h]

/-- Where a step of the pointer goes in its buffer. -/
def bufStep (B E : Nat) (q : Int) : Int := if B + E ≤ q then q - E else if q < B then q + E else q

/-- A step in a buffer whose length no write has changed, or one that does not wrap. -/
theorem postMod_keep {k : BBank} {n : BitVec 3} {m : Int} (h : k.rel n ≠ 0)
    (hk : k.rpl n = k.rel n ∨ ((k.rb n : Int) ≤ (k.rp n).toNat + m ∧ (k.rp n).toNat + m < k.rb n + k.rel n)) :
    k.postMod n m = k.wp n (bufStep (k.rb n) (k.rel n) ((k.rp n).toNat + m) % 16384).toNat := by
  unfold BBank.postMod
  extract_lets el p b q wrapped q1 el' q2
  have hw : ¬((wrapped && decide (k.rpl n ≠ k.rel n)) = true) := by
    simp only [wrapped, q, b, el, p, Bool.and_eq_true, Bool.or_eq_true, decide_eq_true_eq]
    omega
  rw [if_neg (by simpa [el] using h), if_neg hw]
  rfl

/-- The bank with the written length in force. -/
def BBank.takeLen (k : BBank) (n : BitVec 3) : BBank := { k with el := k.el.set n.toNat (k.pl.getD n.toNat 0) }

/-- A step that wraps takes the new length and folds the pointer once. -/
theorem postMod_wrap {k : BBank} {n : BitVec 3} {m : Int} (h : k.rel n ≠ 0) (hne : k.rpl n ≠ k.rel n)
    (hw : (k.rb n : Int) + k.rel n ≤ (k.rp n).toNat + m ∨ ((k.rp n).toNat : Int) + m < k.rb n) {q : Int}
    (hq : q = bufStep (k.rb n) (k.rel n) ((k.rp n).toNat + m)) :
    k.postMod n m = (k.takeLen n).wp n
      ((if (k.rpl n : Int) ≠ 0 ∧ k.rb n + k.rpl n ≤ q then q - k.rpl n else q) % 16384).toNat := by
  subst hq
  unfold BBank.postMod
  extract_lets el p b q wrapped q1 el' q2
  have hw' : (wrapped && decide (k.rpl n ≠ k.rel n)) = true := by
    simp only [wrapped, q, b, el, p, Bool.and_eq_true, Bool.or_eq_true, decide_eq_true_eq]
    exact ⟨hw, hne⟩
  rw [if_neg (by simpa [el] using h), if_pos hw']
  rfl

/-- A step no longer than the buffer goes round it. -/
theorem bufStep_round {B L : Nat} {P m : Int} (h1 : B ≤ P) (h2 : P < B + L) (h3 : -(L : Int) ≤ m) (h4 : m ≤ L) :
    bufStep B L (P + m) = B + (P - B + m) % L := by
  unfold bufStep
  split
  · rw [← Int.sub_emod_right, Int.emod_eq_of_lt (by omega) (by omega)]; omega
  split
  · rw [← Int.add_emod_right, Int.emod_eq_of_lt (by omega) (by omega)]; omega
  · rw [Int.emod_eq_of_lt (by omega) (by omega)]; omega

theorem rel_take (k : BBank) (n : BitVec 3) (h : k.el.length = 8) :
    (k.takeLen n).rel n = k.rpl n := by
  have hn := n.isLt
  simp [BBank.takeLen, BBank.rel, BBank.rpl, List.getD_eq_getElem?_getD, h, hn]

theorem getD_set_self {w : Nat} {l : List (BitVec w)} {i : Nat} (v : BitVec w) (h : i < l.length) : (l.set i v).getD i 0 = v := by
  simp [List.getD_eq_getElem?_getD, h]

/-- What a write to Ln leaves (R251). -/
theorem wl_fields (k : BBank) (n : BitVec 3) (v : BitVec 15) (h1 : k.pl.length = 8) (h2 : k.el.length = 8) (h3 : k.b.length = 8) :
    (k.wl n v).rpl n = v.toNat ∧ (k.wl n v).rel n = (if k.rel n = 0 ∨ v = 0 then v.toNat else k.rel n) ∧
    (k.wl n v).rb n = (if k.rel n = 0 ∧ v ≠ 0 then (k.rp n).toNat else k.rb n) ∧ (k.wl n v).p = k.p := by
  have hn := n.isLt
  refine ⟨?_, ?_, ?_, rfl⟩
  · simp only [BBank.rpl, BBank.wl, getD_set_self v (show n.toNat < k.pl.length by omega)]
  · by_cases hc : k.rel n = 0 ∨ v = 0
    · simp only [BBank.wl, if_pos hc]
      rw [BBank.rel, getD_set_self v (by omega)]
    · simp only [BBank.wl, if_neg hc]
      rfl
  · by_cases hc : k.rel n = 0 ∧ v ≠ 0
    · simp only [BBank.wl, if_pos hc]
      rw [BBank.rb, getD_set_self _ (by omega)]
    · simp only [BBank.wl, if_neg hc]
      rfl

/-- Settles O20, by a step without a buffer, one that keeps its buffer's length and one that wraps into a new length. -/
theorem brushModuloAddressing : Obligations.BrushModuloAddressing := by
  unfold Obligations.BrushModuloAddressing
  refine ⟨?_, ?_, ?_, ?_, wl_fields⟩
  · rintro k n m B L P hp rfl rfl rfl hL hpl h1 h2 h3 h4 h5
    rw [postMod_keep hL (.inl hpl), rp_wp_emod k n _ hp, rel_wp, bufStep_round (by omega) (by omega) h4 h5]
    have hpos := Int.emod_nonneg ((k.rp n).toNat - k.rb n + m : Int) (b := k.rel n) (by omega)
    have hlt := Int.emod_lt_of_pos ((k.rp n).toNat - k.rb n + m : Int) (b := k.rel n) (by omega)
    exact ⟨Int.emod_eq_of_lt (by omega) (by omega), rfl⟩
  · rintro k n m q B E L hp hel rfl rfl rfl hE hL hq
    have hstep : q = bufStep (k.rb n) (k.rel n) ((k.rp n).toNat + m) := by
      unfold bufStep
      split
      · omega
      split <;> omega
    rw [postMod_wrap hE hL (by omega) hstep, rp_wp_emod (k.takeLen n) n _ hp, rel_wp, rel_take k n hel]
    refine ⟨rfl, rfl, ?_⟩
    simp only [ne_eq, Int.natCast_eq_zero]
  · intro k n m hp hE h1 h2
    rw [postMod_keep hE (.inr ⟨h1, h2⟩), rp_wp_emod k n _ hp, bufStep, if_neg (by omega), if_neg (by omega)]
    exact ⟨rfl, rfl⟩
  · intro k n m hp hE
    rw [postMod_plain m hE, rp_wp_emod k n _ hp]

end Sys2Proof.Machine

/-!
The indices of protected packets (R196, R197): what a refusal, a count and a rekey event leave of a direction's records, and the record that
a packet leaves behind.
-/
namespace Sys2Proof.Machine

theorem raise_cip (s : State) (f : Nat) (c src : BitVec 16) (p0 p1 p2 p3 : Word) : (raise s f c src p0 p1 p2 p3).cip = s.cip := by
  obtain ⟨_, _, _, _, _, _, _, _, hcip, _⟩ := Laws.hostSide_fields (Laws.hostSide_raise s f c src p0 p1 p2 p3)
  exact hcip

theorem setBit_cip (s : State) (b : Field) : (setBit s b).cip = s.cip := rfl

theorem bump_cip (s : State) (b : Field) (n : Nat) : (bump s b n).cip = s.cip := rfl

theorem rekeyEvt_tx (s : State) (hd cause : Nat) (ssrc : Word) (idx : Nat) : (rekeyEvt s hd cause ssrc idx).cip.tx = s.cip.tx := by
  unfold rekeyEvt
  split
  · extract_lets last
    split
    · rfl
    · rw [raise_cip]
      rfl
  · rfl

theorem maybe_rekeyEvt_tx (s : State) (p : Prop) [Decidable p] (hd cause : Nat) (ssrc : Word) (idx : Nat) :
    (if p then rekeyEvt s hd cause ssrc idx else s).cip.tx = s.cip.tx := by
  split
  · exact rekeyEvt_tx ..
  · rfl

theorem txRefuse_tx (s : State) (hd cause : Nat) (ssrc : Word) (idx : Nat) : (txRefuse s hd cause ssrc idx).cip.tx = s.cip.tx := by
  rw [txRefuse, rekeyEvt_tx, setBit_cip, txRefused, bump_cip]
  rfl

theorem setTx_tx (s : State) (hd : Nat) (d : TxDir) : tget (setTx s hd d).cip.tx hd = some d := Laws.tget_tset_self ..

/-- A packet's record replaces the one of its SSRC. -/
theorem find_putRec (rs : List TxRec) (e : TxRec) : (putRec rs e).find? (fun x => x.ssrc = e.ssrc) = some e := by
  unfold putRec
  split
  next h =>
    induction rs with
    | nil => simp at h
    | cons r rs ih =>
      by_cases hr : r.ssrc = e.ssrc
      · simp [hr]
      · simp only [List.any_cons, hr, decide_false, Bool.false_or] at h
        simpa [hr] using ih h
  next h =>
    rw [List.find?_append, List.find?_eq_none.mpr (by simpa using h)]
    simp

/-- The record that a packet finds. -/
def txRecOf (d : TxDir) (ssrc : Word) : TxRec := (d.recs.find? (fun x => x.ssrc = ssrc)).getD { ssrc := ssrc, roc0 := 0 }

theorem txRecOf_ssrc (d : TxDir) (ssrc : Word) : (txRecOf d ssrc).ssrc = ssrc := by
  unfold txRecOf
  cases h : d.recs.find? (fun x => x.ssrc = ssrc) with
  | none => rfl
  | some e => simpa using List.find?_some h

/-- The index that a record gives a packet. -/
def packetIdx (e : TxRec) (sq : Nat) : Int := if e.started then estimateIdx e.r e.sl sq else (e.roc0 * 65536 + sq : Nat)

/-- The record after a packet of index `n`. -/
def TxRec.sent (e : TxRec) (n sq : Nat) : TxRec := { e with h := some n, r := n / 65536, sl := sq, started := true, retired := false }

/-- What becomes of a packet under a bound slot: refused with the records as they were, or sent with an index above those used. -/
theorem txSrtp_cases (s : State) {hd sq slot : Nat} (ssrc : Word) (hdr pay : List Byte) {d : TxDir} (hd' : tget s.cip.tx hd = some d)
    (hslot : d.slot = some slot) :
    ((txSrtp s hd ssrc sq hdr pay).2 = none ∧ (txSrtp s hd ssrc sq hdr pay).1.cip.tx = s.cip.tx) ∨
    ((txSrtp s hd ssrc sq hdr pay).2 ≠ none ∧ ¬(d.recs.find? (fun x => x.ssrc = ssrc) = none ∧ d.evicted = true) ∧ 0 ≤ packetIdx (txRecOf d ssrc) sq ∧
      packetIdx (txRecOf d ssrc) sq ≤ 2 ^ 48 - 1 ∧
      ((txRecOf d ssrc).started = true → ∀ o, (txRecOf d ssrc).h = some o → (o : Int) < packetIdx (txRecOf d ssrc) sq) ∧
      tget (txSrtp s hd ssrc sq hdr pay).1.cip.tx hd =
        some { d with recs := putRec d.recs ((txRecOf d ssrc).sent (packetIdx (txRecOf d ssrc) sq).toNat sq) }) := by
  unfold txSrtp
  simp -zeta only [hd', hslot]
  extract_lets e? e x n e'
  split
  next => exact .inl ⟨rfl, txRefuse_tx ..⟩
  next hev =>
    split
    next => exact .inl ⟨rfl, txRefuse_tx ..⟩
    next hneg =>
      split
      next => exact .inl ⟨rfl, txRefuse_tx ..⟩
      next hold =>
        split
        next => exact .inl ⟨rfl, txRefuse_tx ..⟩
        next hbig =>
          split
          next => exact .inl ⟨rfl, txRefuse_tx ..⟩
          next =>
            refine .inr ⟨by simp, fun ⟨h1, h2⟩ => hev ⟨by simp [e?, h1], h2, rfl⟩, Int.not_lt.mp hneg, Int.not_lt.mp hbig, fun hs o ho => ?_, ?_⟩
            · refine Int.not_le.mp fun hle => hold ⟨hs, ?_⟩
              rw [show e.h = some o from ho]
              simpa using (show x ≤ o from hle)
            · exact (congrArg (tget · hd) (maybe_rekeyEvt_tx ..)).trans (setTx_tx ..)

/-- Settles O21, by the two things that become of a packet under a bound slot. -/
theorem transmitIndicesRise : Obligations.TransmitIndicesRise := by
  unfold Obligations.TransmitIndicesRise
  rintro s t hd sq slot ssrc hdr pay d e out hd' hslot he heq
  change e = txRecOf d ssrc at he
  subst he
  have hcases := txSrtp_cases s (sq := sq) ssrc hdr pay hd' hslot
  simp only [heq] at hcases
  obtain ⟨hout, htx⟩ | ⟨hsome, hrec, h0, h48, hrise, htx⟩ := hcases
  · exact ⟨fun q hq => absurd (hq.symm.trans hout) (by simp), fun _ _ => hout, fun _ => ⟨d, htx ▸ hd', rfl⟩⟩
  · refine ⟨fun q _ => ⟨_, (txRecOf d ssrc).sent (packetIdx (txRecOf d ssrc) sq).toNat sq, _, htx, ?_, rfl, Int.toNat_of_nonneg h0, by omega, fun hs o ho => ?_,
      rfl, rfl, rfl⟩, fun h1 h2 => absurd ⟨h1, h2⟩ hrec, fun h => absurd h hsome⟩
    · have h := find_putRec d.recs ((txRecOf d ssrc).sent (packetIdx (txRecOf d ssrc) sq).toNat sq)
      rwa [show ((txRecOf d ssrc).sent (packetIdx (txRecOf d ssrc) sq).toNat sq).ssrc = ssrc from txRecOf_ssrc d ssrc] at h
    · have := hrise hs o ho
      omega

end Sys2Proof.Machine

/-!
The fresh state a command starts from: it differs from the state before only in what was sent out, which no check reads.
-/
namespace Sys2Proof.Machine

/-! ## Its fields -/

@[simp] theorem fresh_pending (s : State) : (fresh s).pending = s.pending := rfl
@[simp] theorem fresh_clk (s : State) : (fresh s).clk = s.clk := rfl
@[simp] theorem fresh_easel (s : State) : (fresh s).easel = s.easel := rfl
@[simp] theorem fresh_agenda (s : State) : (fresh s).agenda = s.agenda := rfl
@[simp] theorem fresh_adm (s : State) : (fresh s).adm = s.adm := rfl
@[simp] theorem fresh_net (s : State) : (fresh s).net = s.net := rfl
@[simp] theorem fresh_fwd (s : State) : (fresh s).fwd = s.fwd := rfl
@[simp] theorem fresh_key (s : State) : (fresh s).key = s.key := rfl
@[simp] theorem fresh_cip (s : State) : (fresh s).cip = s.cip := rfl
@[simp] theorem fresh_aud (s : State) : (fresh s).aud = s.aud := rfl
@[simp] theorem fresh_brs (s : State) : (fresh s).brs = s.brs := rfl
@[simp] theorem fresh_vid (s : State) : (fresh s).vid = s.vid := rfl
@[simp] theorem fresh_cnv (s : State) : (fresh s).cnv = s.cnv := rfl
@[simp] theorem fresh_mem (s : State) : (fresh s).mem = s.mem := rfl
@[simp] theorem fresh_cal (s : State) : (fresh s).cal = s.cal := rfl
@[simp] theorem fresh_ptp (s : State) : (fresh s).ptp = s.ptp := rfl
@[simp] theorem fresh_msh (s : State) : (fresh s).msh = s.msh := rfl
@[simp] theorem fresh_pwr (s : State) : (fresh s).pwr = s.pwr := rfl
@[simp] theorem fresh_jtag (s : State) : (fresh s).jtag = s.jtag := rfl
@[simp] theorem fresh_regs (s : State) : (fresh s).regs = s.regs := rfl
@[simp] theorem fresh_hostMem (s : State) : (fresh s).hostMem = s.hostMem := rfl
@[simp] theorem fresh_hif (s : State) : (fresh s).hif = s.hif := rfl

/-! ## What checks read of it -/

@[simp] theorem fnOf_fresh (s : State) : fnOf (fresh s) = fnOf s := rfl
@[simp] theorem fld_fresh (s : State) : fld (fresh s) = fld s := rfl
@[simp] theorem bit_fresh (s : State) : bit (fresh s) = bit s := rfl
@[simp] theorem fnExists_fresh (s : State) : fnExists (fresh s) = fnExists s := rfl
@[simp] theorem mode_fresh (s : State) : mode (fresh s) = mode s := rfl
@[simp] theorem curTick_fresh (s : State) : curTick (fresh s) = curTick s := rfl
@[simp] theorem effTick_fresh (s : State) : effTick (fresh s) = effTick s := rfl
@[simp] theorem admOpen_fresh (s : State) : admOpen (fresh s) = admOpen s := rfl
@[simp] theorem legFor_fresh (s : State) : legFor (fresh s) = legFor s := rfl
@[simp] theorem policeOf_fresh (s : State) : policeOf (fresh s) = policeOf s := rfl
@[simp] theorem fnPeak_fresh (s : State) : fnPeak (fresh s) = fnPeak s := rfl
@[simp] theorem shareSet_fresh (s : State) : shareSet (fresh s) = shareSet s := rfl
@[simp] theorem share_fresh (s : State) : share (fresh s) = share s := rfl
@[simp] theorem profileChecks_fresh (s : State) : profileChecks (fresh s) = profileChecks s := rfl
@[simp] theorem capacityCheck_fresh (s : State) : capacityCheck (fresh s) = capacityCheck s := rfl
@[simp] theorem legItem_fresh (s : State) : legItem (fresh s) = legItem s := rfl
@[simp] theorem allItems_fresh (s : State) : allItems (fresh s) = allItems s := rfl
@[simp] theorem otherItems_fresh (s : State) : otherItems (fresh s) = otherItems s := rfl
@[simp] theorem poolCheck_fresh (s : State) : poolCheck (fresh s) = poolCheck s := rfl
@[simp] theorem confHolds_fresh (s : State) : confHolds (fresh s) = confHolds s := rfl
@[simp] theorem legIn_fresh (s : State) : legIn (fresh s) = legIn s := rfl
@[simp] theorem bindCheck_fresh (s : State) : bindCheck (fresh s) = bindCheck s := rfl
@[simp] theorem boundFor_fresh (s : State) : boundFor (fresh s) = boundFor s := rfl
@[simp] theorem subportOk_fresh (s : State) : subportOk (fresh s) = subportOk s := rfl
@[simp] theorem recOf_fresh (s : State) : recOf (fresh s) = recOf s := rfl
@[simp] theorem subSetCheck_fresh (s : State) : subSetCheck (fresh s) = subSetCheck s := rfl
@[simp] theorem subFor_fresh (s : State) : subFor (fresh s) = subFor s := rfl
@[simp] theorem srcKind_fresh (s : State) : srcKind (fresh s) = srcKind s := rfl
@[simp] theorem fwdLegFor_fresh (s : State) : fwdLegFor (fresh s) = fwdLegFor s := rfl
@[simp] theorem estOf_fresh (s : State) : estOf (fresh s) = estOf s := rfl
@[simp] theorem kekWord_fresh (s : State) : kekWord (fresh s) = kekWord s := rfl
@[simp] theorem slotOver_fresh (s : State) : slotOver (fresh s) = slotOver s := rfl
@[simp] theorem slotForeign_fresh (s : State) : slotForeign (fresh s) = slotForeign s := rfl
@[simp] theorem slotBound_fresh (s : State) : slotBound (fresh s) = slotBound s := rfl
@[simp] theorem cipBindCheck_fresh (s : State) : cipBindCheck (fresh s) = cipBindCheck s := rfl
@[simp] theorem streamForeign_fresh (s : State) : streamForeign (fresh s) = streamForeign s := rfl
@[simp] theorem isBound_fresh (s : State) : isBound (fresh s) = isBound s := rfl
@[simp] theorem dirEnabled_fresh (s : State) : dirEnabled (fresh s) = dirEnabled s := rfl
@[simp] theorem dirBind_fresh (s : State) : dirBind (fresh s) = dirBind s := rfl
@[simp] theorem txSsrc_fresh (s : State) : txSsrc (fresh s) = txSsrc s := rfl
@[simp] theorem audFor_fresh (s : State) : audFor (fresh s) = audFor s := rfl
@[simp] theorem audConfFor_fresh (s : State) : audConfFor (fresh s) = audConfFor s := rfl
@[simp] theorem toneFor_fresh (s : State) : toneFor (fresh s) = toneFor s := rfl
@[simp] theorem toneTargets_fresh (s : State) : toneTargets (fresh s) = toneTargets s := rfl
@[simp] theorem audLeg_fresh (s : State) : audLeg (fresh s) = audLeg s := rfl
@[simp] theorem levelWords_fresh (s : State) : levelWords (fresh s) = levelWords s := rfl
@[simp] theorem mediaCaps_fresh (s : State) : mediaCaps (fresh s) = mediaCaps s := rfl
@[simp] theorem mediaPointFor_fresh (s : State) : mediaPointFor (fresh s) = mediaPointFor s := rfl
@[simp] theorem mediaOf_fresh (s : State) : mediaOf (fresh s) = mediaOf s := rfl
@[simp] theorem storeFree_fresh (s : State) : storeFree (fresh s) = storeFree s := rfl
@[simp] theorem instFor_fresh (s : State) : instFor (fresh s) = instFor s := rfl
@[simp] theorem homeOf_fresh (s : State) : homeOf (fresh s) = homeOf s := rfl
@[simp] theorem groupItems_fresh (s : State) : groupItems (fresh s) = groupItems s := rfl
@[simp] theorem groupFits_fresh (s : State) : groupFits (fresh s) = groupFits s := rfl

@[simp] theorem coreSum_fresh (s : State) : coreSum (fresh s) = coreSum s := rfl

@[simp] theorem coreBest_fresh (s : State) (cs : List Nat) : coreBest (fresh s) cs = coreBest s cs := by
  induction cs with
  | nil => rfl
  | cons c cs ih =>
    simp only [coreBest, ih, coreSum_fresh]
    rfl

@[simp] theorem coreRoom_fresh (s : State) : coreRoom (fresh s) = coreRoom s := rfl
@[simp] theorem coreMem_fresh (s : State) : coreMem (fresh s) = coreMem s := rfl
@[simp] theorem studioFree_fresh (s : State) : studioFree (fresh s) = studioFree s := rfl
@[simp] theorem winBase_fresh (s : State) : winBase (fresh s) = winBase s := rfl
@[simp] theorem coreOf_fresh (s : State) : coreOf (fresh s) = coreOf s := rfl
@[simp] theorem poolLeft_fresh (s : State) : poolLeft (fresh s) = poolLeft s := rfl
@[simp] theorem decLoad_fresh (s : State) : decLoad (fresh s) = decLoad s := rfl
@[simp] theorem engineLimit_fresh (s : State) : engineLimit (fresh s) = engineLimit s := rfl
@[simp] theorem newCtx_fresh (s : State) : newCtx (fresh s) = newCtx s := rfl
@[simp] theorem ctxOwner_fresh (s : State) : ctxOwner (fresh s) = ctxOwner s := rfl
@[simp] theorem dpbReserved_fresh (s : State) : dpbReserved (fresh s) = dpbReserved s := rfl
@[simp] theorem encTarget_fresh (s : State) : encTarget (fresh s) = encTarget s := rfl
@[simp] theorem encLoad_fresh (s : State) : encLoad (fresh s) = encLoad s := rfl
@[simp] theorem cnvLoad_fresh (s : State) : cnvLoad (fresh s) = cnvLoad s := rfl
@[simp] theorem fPkt_fresh (s : State) : fPkt (fresh s) = fPkt s := rfl
@[simp] theorem tickCap_fresh (s : State) : tickCap (fresh s) = tickCap s := rfl
@[simp] theorem ctxRec_fresh (s : State) : ctxRec (fresh s) = ctxRec s := rfl
@[simp] theorem layoutFor_fresh (s : State) : layoutFor (fresh s) = layoutFor s := rfl
@[simp] theorem layoutOf_fresh (s : State) : layoutOf (fresh s) = layoutOf s := rfl
@[simp] theorem geometryOk_fresh (s : State) : geometryOk (fresh s) = geometryOk s := rfl
@[simp] theorem demandCheck_fresh (s : State) : demandCheck (fresh s) = demandCheck s := rfl
@[simp] theorem varnishFree_fresh (s : State) : varnishFree (fresh s) = varnishFree s := rfl
@[simp] theorem plateNamed_fresh (s : State) : plateNamed (fresh s) = plateNamed s := rfl
@[simp] theorem stepInRange_fresh (s : State) : stepInRange (fresh s) = stepInRange s := rfl
@[simp] theorem lastTick_fresh (s : State) : lastTick (fresh s) = lastTick s := rfl
@[simp] theorem nextB_fresh (s : State) : nextB (fresh s) = nextB s := rfl
@[simp] theorem mshPort_fresh (s : State) : mshPort (fresh s) = mshPort s := rfl
@[simp] theorem mshStream_fresh (s : State) : mshStream (fresh s) = mshStream s := rfl
@[simp] theorem mshUp_fresh (s : State) : mshUp (fresh s) = mshUp s := rfl
@[simp] theorem poolFree_fresh (s : State) : poolFree (fresh s) = poolFree s := rfl
@[simp] theorem peerWords_fresh (s : State) : peerWords (fresh s) = peerWords s := rfl
@[simp] theorem ptpStatusWords_fresh (s : State) : ptpStatusWords (fresh s) = ptpStatusWords s := rfl
@[simp] theorem outOfService_fresh (s : State) : outOfService (fresh s) = outOfService s := rfl
@[simp] theorem targetOn_fresh (s : State) : targetOn (fresh s) = targetOn s := rfl
@[simp] theorem stackOf_fresh (s : State) : stackOf (fresh s) = stackOf s := rfl
@[simp] theorem notEmpty_fresh (s : State) : notEmpty (fresh s) = notEmpty s := rfl
@[simp] theorem wakeEnabled_fresh (s : State) : wakeEnabled (fresh s) = wakeEnabled s := rfl

end Sys2Proof.Machine

/-!
Host commands of the host interface, admission, the network, forwarding, keys and the cipher (R82 to R203): each completes with its own effect.
-/
namespace Sys2Proof.Machine

/-- Settles O25, each command by its chapter's effect on the fresh state. -/
theorem genericCommandsComplete : Obligations.GenericCommandsComplete := by
  refine ⟨?_, ?_, ?_, ?_, ?_⟩
  · intro s h hp
    exact Laws.command_ok hp rfl
  · intro s h hp
    exact Laws.command_ok hp rfl
  · intro s h code hp hu
    exact Laws.command_ok hp (by simp [hu])
  · intro s h code hp hu hm
    have hm' : code ∉ (fnOf s h.fn.toNat).masked := by simpa using hm
    exact Laws.command_ok hp (by simp [hu, hm'])
  · intro s h f hp hf
    exact Laws.commandLong_next hp (by simp [hf])

/-- Settles O26, each command by the checks that let it through. -/
theorem admissionCommandsComplete : Obligations.AdmissionCommandsComplete := by
  refine ⟨?_, ?_, ?_, ?_, ?_, ?_, ?_, ?_, ?_⟩
  · intro s h c ap vp n hp hc
    exact Laws.command_ok hp (by simp [hc])
  · intro s h c x hp hc hown hholds
    exact Laws.command_ok hp (by simp [hc, hown, hholds])
  · intro s h c leg addr ws x hp hopen hc hown hleg hprof hcap
    exact Laws.command_ok hp (by simp [dmaWords, legAdmit, hopen, hc, hown, hleg, hprof, hcap, ownedByOther, thas]; rfl)
  · intro s h c leg addr ws x l hp hc hown hleg hl hrel hconf hprof hmore hcap
    exact Laws.command_ok hp (by simp [dmaWords, legModify, hc, hown, hleg, hl, hrel, hconf, hprof, hmore, hcap]; rfl)
  · intro s h leg l hp hl
    exact Laws.command_ok hp (by simp [hl])
  · intro s h clr hd l hp hl
    exact Laws.command_ok hp (by simp [hl])
  · intro s h f r v hp hpeak hsum
    exact Laws.command_ok hp (by simp [Nat.not_lt.mpr hpeak, Nat.not_lt.mpr hsum])
  · intro s h id c w ht per codec cprof depth x hp hopen hc hown hlay hvid hper hdiv hlim hrate hcap
    exact Laws.command_ok hp (by
      simp [layoutAdmit, hopen, hc, hown, hlay, hvid, hper, hdiv, Nat.not_lt.mpr hlim, Nat.not_lt.mpr hrate, hcap, ownedByOther, thas])
  · intro s h id l hp hl hown hrel
    exact Laws.command_ok hp (by simp [hl, hown, hrel])

theorem setBound_nextOrder (s : State) (hd : Nat) (b : Bound) : (setBound s hd b).net.nextOrder = s.net.nextOrder := rfl

/-- Settles O27, each command by the checks that let it through. -/
theorem networkCommandsComplete : Obligations.NetworkCommandsComplete := by
  refine ⟨?_, ?_, ?_, ?_, ?_⟩
  · intro s h hd addr ws l hp hl hen hown hbind
    have hen' : ¬((l.prof.rec' (hd.toNat % 4)).rxEn = false ∧ (l.prof.rec' (hd.toNat % 4)).txEn = false) := by
      rintro ⟨hrx, htx⟩
      rw [hrx, htx] at hen
      exact absurd hen (by decide)
    exact Laws.command_ok hp (by simp [dmaWords, streamBind, hl, hen', hown, hbind, setBound_nextOrder])
  · intro s h hd b hp hb
    exact Laws.command_ok hp (by simp [hb])
  · intro s h clr p u addr hp hsub
    exact Laws.command_ok hp (by simp [hsub])
  · intro s h re hd run b hp hb hrx
    exact Laws.command_ok hp (by simp [hb, hrx])
  · intro s h hd b hp hb hrx
    exact Laws.command_ok hp (by simp [hb, hrx])

/-- Settles O28, each command by the checks that let it through. -/
theorem forwardingCommandsComplete : Obligations.ForwardingCommandsComplete := by
  refine ⟨?_, ?_, ?_, ?_, ?_, ?_⟩
  · intro s h id src dst ssrc ofs sq ptEn pt di do' fi fo pause fir prio cs ct hp hcheck
    exact Laws.command_ok hp (by simp only [srcKind_fresh, subSetCheck_fresh, effTick_fresh, hcheck])
  · intro s h id x hp hx
    exact Laws.command_ok hp (by simp [hx])
  · intro s h id pause fir prio cs ct x hp hx
    exact Laws.command_ok hp (by simp [hx])
  · intro s h leg l hp hl
    exact Laws.command_ok hp (by simp only [fwdLegFor_fresh, estOf_fresh, hl]; rfl)
  · intro s h i hd l b hp hl hb hgone hvalid
    exact Laws.command_ok hp (by simp [hl, hb, hgone, hvalid])
  · intro s h em leg line init max l hp hl
    exact Laws.command_ok hp (by simp [hl])

/-- Settles O29, each command by the checks that let it through. -/
theorem keyCommandsComplete : Obligations.KeyCommandsComplete := by
  refine ⟨?_, ?_, ?_, ?_, ?_⟩
  · intro s h addr hp
    exact Laws.command_ok hp rfl
  · intro s h addr ws hp hvalid
    exact Laws.command_ok hp (by simp [dmaWords, hvalid])
  · intro s h suite slot addr ws su kek p hp hsu hslot hkek hover hunwrap hver hsuite hzero hpad
    have hp' : Passes s h { reserved := (suiteOf suite.toNat).isNone, modes := keyModes, misaligned := addr.toNat % 64 ≠ 0 } := by
      rw [hsu]
      exact hp
    exact Laws.command_ok hp' (by
      simp [dmaWords, keyImport, hsu, hslot, hkek, hover, hunwrap, hver, hsuite, hzero, hpad])
  · intro s h ms ss m su hp hm hown hsess hss hsu hover
    exact Laws.command_ok hp (by simp [slotForeign, hm, hown, hsess, hss, hsu, hover])
  · intro s h slot k hp hk hown herase hbound
    exact Laws.command_ok hp (by simp [hk, hown, herase, hbound])

/-- Settles O30, each command by the checks that let it through. -/
theorem cipherCommandsComplete : Obligations.CipherCommandsComplete := by
  refine ⟨?_, ?_, ?_, ?_⟩
  · intro s h keep clear w dir hd slot roc sq r0 r1 r2 r3 ti hp hcheck
    exact Laws.command_ok hp (by simp [hcheck])
  · intro s h dir hd hp hforeign hbound hdir hbind
    exact Laws.command_ok hp (by simp [hforeign, hbound, hdir, Option.isSome_iff_ne_none.1 hbind])
  · intro s h clr i hd addr d hp hforeign hbound hdir htx
    exact Laws.command_ok hp (by simp [hforeign, hbound, hdir, htx])
  · intro s h clr i hd addr d hp hforeign hbound hdir hrx
    exact Laws.command_ok hp (by simp [hforeign, hbound, hdir, hrx])

end Sys2Proof.Machine

/-!
Host commands of the audio unit, the Brush array, the video engines and the canvas (R212 to R333): each completes with its own effect.
-/
namespace Sys2Proof.Machine

/-- Settles O31, each command by the checks that let it through. -/
theorem audioCommandsComplete : Obligations.AudioCommandsComplete := by
  refine ⟨?_, ?_, ?_, ?_, ?_, ?_, ?_, ?_, ?_⟩
  · intro s h leg contrib listen minus force dtx xf c0 c1 c2 c3 l0 l1 l2 l3 r hp hr hdec hen hdtx
    have hdec' : ¬((contrib ≠ 0 ∧ ¬ r.rxDec) ∨ ((listen ≠ 0 ∨ minus ≠ 0) ∧ ¬ r.txEn)) := by
      rintro (⟨h1, h2⟩ | ⟨h1, h2⟩)
      · exact h2 (hdec h1)
      · exact h2 (hen h1)
    have hdtx' : ¬(dtx = true ∧ ¬ (r.txEn ∧ hasDtx r.codec)) := fun ⟨h1, h2⟩ => h2 (hdtx h1)
    exact Laws.command_ok hp (by
      simp only [audFor_fresh, hr, if_neg hdec', if_neg hdtx']
      rfl)
  · intro s h bus conf n hp hconf
    exact Laws.command_ok hp (by simp [hconf])
  · intro s h leg xf r hp hr
    exact Laws.command_ok hp (by simp only [audFor_fresh, hr]; rfl)
  · intro s h compEn limEn leg thr ratio att rel makeup ceil limRel r hp hr hen
    exact Laws.command_ok hp (by simp [hr, hen])
  · intro s h onBus replace bus id tone rep onT offT f1 f2 l1 l2 tgt os cad once hp htgt hroom hspec
    have hroom' : ¬(¬ (toneTargets s).contains tgt = true ∧ 4096 ≤ (toneTargets s).length) := by
      rintro ⟨h1, h2⟩
      rcases hroom with h | h
      · exact h1 (List.contains_iff_mem.2 h)
      · omega
    exact Laws.command_ok hp (by simp only [toneFor_fresh, htgt, toneTargets_fresh, if_neg hroom', hspec, effTick_fresh])
  · intro s h onBus bus id tgt hp htgt htone
    exact Laws.command_ok hp (by simp [htgt, htone])
  · intro s h clr leg r hp hr
    exact Laws.command_ok hp (by simp [hr])
  · intro s h m point id bus gain p hp hpt hring hfree
    exact Laws.command_ok hp (by simp [hpt, hring, hfree])
  · intro s h m pt id bus gain hp hpt
    exact Laws.command_ok hp (by simp [hpt])

theorem setCore_adm (s : State) (c : Nat) (x : BCore) : (setCore s c x).adm = s.adm := rfl

/-- Settles O32, each command by the checks that let it through. -/
theorem brushCommandsComplete : Obligations.BrushCommandsComplete := by
  refine ⟨?_, ?_, ?_, ?_, ?_⟩
  · intro s h prog addr ws hp hfree hhead hroom
    exact Laws.command_ok hp (by simp [dmaWords, hfree, hhead, Nat.not_lt.mpr hroom])
  · intro s h prog p hp hprog hown hidle
    exact Laws.command_ok hp (by simp only [fresh_brs, hprog, hown, hidle]; simp)
  · intro s h prog pt leg p0 p1 p2 p3 l p c xb yb hp hl hpt hown hprog hpown hfree hopen hcap hgroup hbest hstudio hx hy
    have hcores : ((List.range 32).map (fun c => 32 * homeOf s leg.toNat + c)).filter (fun c => coreRoom s c p) ≠ [] := by
      intro hnil
      rw [hnil] at hbest
      simp [coreBest] at hbest
    exact Laws.command_ok hp (by
      simp only [taskBind, legIn_fresh, hl, hpt, hown, fresh_brs, hprog, hfree, admOpen_fresh, hopen, allItems_fresh,
        capacityCheck_fresh, hcap, homeOf_fresh, groupItems_fresh, groupFits_fresh, hgroup, coreRoom_fresh, hcores, coreMem_fresh,
        coreBest_fresh, hbest, studioFree_fresh, Nat.not_lt.mpr hstudio, winBase_fresh, hx, hy]
      simp [hpown, setCore_adm])
  · intro s h pt leg i hp hi
    exact Laws.command_ok hp (by simp [hi])
  · intro s h clr pt leg i hp hi
    exact Laws.command_ok hp (by simp [hi])

/-- Settles O33, each command by the checks that let it through. -/
theorem videoCommandsComplete : Obligations.VideoCommandsComplete := by
  refine ⟨?_, ?_, ?_, ?_, ?_, ?_, ?_, ?_, ?_, ?_, ?_⟩
  · intro s h fir opS opT holds dpb hd l e k hp hl hown hrx hdec hvid hbound hfree hop hpool heng hctx
    have hop' : ¬(((l.prof.rec' (hd.toNat % 4)).codec ≠ 0x12 && (opS.toNat ≠ 0 || opT.toNat ≠ 0)) = true) := by
      simp only [Bool.and_eq_true, Bool.or_eq_true, decide_eq_true_eq]
      rintro ⟨h1, h2⟩
      obtain ⟨h3, h4⟩ := hop h1
      omega
    exact Laws.command_ok hp (by
      simp only [decOpen, legIn_fresh, hl, hown, hrx, hdec, hvid, fresh_net, hbound, fresh_vid, hfree, if_neg hop', poolLeft_fresh,
        Nat.not_lt.mpr hpool, decLoad_fresh, engineLimit_fresh, heng, newCtx_fresh, hctx]
      simp)
  · intro s h ctx hp hctx
    exact Laws.command_ok hp (by simp [hctx])
  · intro s h own id topW topH sl tl ext pt keyInt ts lay w ht p codec cprof depth e c k x hp htgt hx hfree hparam hpool heng hceng hctx
    subst hx
    exact Laws.command_ok hp (by
      simp only [encOpen, encTarget_fresh, htgt, fresh_vid, hfree, hparam, poolLeft_fresh, Nat.not_lt.mpr hpool, encLoad_fresh,
        engineLimit_fresh, heng, cnvLoad_fresh, hceng, newCtx_fresh, hctx]
      rfl)
  · intro s h ctx hp hctx
    exact Laws.command_ok hp (by simp [hctx])
  · intro s h ctx kbps cap pct mult x hp hctx hx hcap
    exact Laws.command_ok hp (by simp [hctx, hx, hcap])
  · intro s h ctx hp hctx
    exact Laws.command_ok hp (by simp [hctx])
  · intro s h m ctx w ht x hp hctx hx hw hh hring hcaps hfree
    have hp' : Passes s h { modes := audModes, reserved := (2 : BitVec 2) = 3 || ((2 : BitVec 2) = 2 && decide (1024 ≤ ctx.toNat)) } := by
      simpa using hp
    exact Laws.command_ok hp' (by simp [hctx, hx, hw, hh, hring, hcaps, hfree])
  · intro s h point m ctx w ht hp hpt hctx hw hh hring hcaps hfree
    have hne : ¬ point = 2#2 := by
      rintro rfl
      exact absurd hpt (by decide)
    have hp' : Passes s h { modes := audModes, reserved := point = 3 || (point = 2#2 && decide (1024 ≤ ctx.toNat)) } := by
      simpa [hne] using hp
    refine Laws.command_ok hp' ?_
    cases henc : tget s.vid.enc ctx.toNat with
    | none =>
      simp [hctx, hne, hw, hh, hring, hcaps, hfree, henc]
      rfl
    | some x =>
      simp [hctx, hne, hw, hh, hring, hcaps, hfree, henc]
      rfl
  · intro s h m c w ht ten enc hp hpt
    refine Laws.command_ok hp ?_
    cases enc <;> simp [hpt]
  · intro s h clr ctx addr x hp hctx hx
    exact Laws.command_ok hp (by simp [hctx, hx])
  · intro s h clr ctx addr x hp hctx hx
    exact Laws.command_ok hp (by simp [hctx, hx])

/-- The source that a layer names stands and belongs to function `f`, so that neither check of R316 refuses the layer. -/
theorem source_checks {f : Nat} {l : Layer} {s : State} (hd : l.kind = 0 → ∃ d, tget s.vid.dec l.src = some d ∧ d.gone = false ∧ d.owner = f)
    (hp : l.kind = 1 → ∃ p, tget s.cnv.plates l.src = some p ∧ p.gone = false ∧ p.owner = f) :
    ((l.kind = 0 && (((tget s.vid.dec l.src).bind (fun x => if x.gone then none else some x)).map (fun x => decide (x.owner ≠ f))).getD false)
      || (l.kind = 1 && (((tget s.cnv.plates l.src).bind (fun p => if p.gone then none else some p)).map
        (fun x => decide (x.owner ≠ f))).getD false)) = false ∧
    ((l.kind = 0 && ((tget s.vid.dec l.src).bind (fun x => if x.gone then none else some x)).isNone)
      || (l.kind = 1 && ((tget s.cnv.plates l.src).bind (fun p => if p.gone then none else some p)).isNone)) = false := by
  by_cases h0 : l.kind = 0
  · obtain ⟨d, hdec, hgone, hown⟩ := hd h0
    simp [h0, hdec, hgone, hown]
  · by_cases h1 : l.kind = 1
    · obtain ⟨p, hpl, hgone, hown⟩ := hp h1
      simp [h1, hpl, hgone, hown]
    · simp [h0, h1]

/-- Settles O34, each command by the checks that let it through. -/
theorem canvasCommandsComplete : Obligations.CanvasCommandsComplete := by
  refine ⟨?_, ?_, ?_, ?_, ?_, ?_⟩
  · intro s h id mtx full y cb cr a hp ha
    exact Laws.command_ok hp (by simp [ha])
  · intro s h kind hideDmg selfHide g i id src x y w ht cx cy cw ch alpha fence a l hp hl ha hdec hplate hstaged hgeo hdemand
    subst hl
    obtain ⟨hown, hsrc⟩ := source_checks hdec hplate
    exact Laws.command_ok hp (by
      simp only [layerSet, layoutFor_fresh, ha, fresh_vid, fresh_cnv, hown, hsrc, layoutOf_fresh, hstaged, geometryOk_fresh, hgeo,
        demandCheck_fresh, hdemand]
      rfl)
  · intro s h g i id a hp ha hstaged hlayer
    have hempty : ¬(¬ thas (layoutOf s id.toNat).layers i.toNat = true ∧
        ¬ (layoutOf s id.toNat).groups.any (fun g => g.changes.any (fun c => c.layer = i.toNat)) = true) := by
      rintro ⟨hno, hnone⟩
      exact (Bool.or_eq_true_iff.1 hlayer).elim hno hnone
    exact Laws.command_ok hp (by
      simp only [layoutFor_fresh, ha, layoutOf_fresh, hstaged, effTick_fresh]
      exact if_neg hempty)
  · intro s h g id a x hp ha hx hflip
    exact Laws.command_ok hp (by simp [ha, hx, hflip])
  · intro s h k w ht mtx full count addr ws imgs p hp hpl hown hload hgone hw hh hw2 hh2 hw8 hh8 helem hroom
    subst hpl
    exact Laws.commandLong_next hp (by
      simp only [fresh_cnv, hown, hw, hh, hload, hgone, Nat.not_lt.mpr hw2, Nat.not_lt.mpr hh2, Nat.not_lt.mpr hw8, Nat.not_lt.mpr hh8,
        dmaWords, varnishFree_fresh, Nat.not_lt.mpr hroom]
      simpa using helem)
  · intro s h k p hp hpl hgone hown hload hnamed
    exact Laws.command_ok hp (by simp [hpl, hgone, hown, hload, hnamed])

end Sys2Proof.Machine

/-!
Host commands of the time unit and the Meash (R339 to R386): each completes with its own effect, and what a Meash command stages.
-/
namespace Sys2Proof.Machine

/-- Settles O35, each command by the checks that let it through. -/
theorem timeCommandsComplete : Obligations.TimeCommandsComplete := by
  refine ⟨?_, ?_, ?_, ?_, ?_, ?_⟩
  · intro s h v set n hp hrange hservo hstaged hused
    exact Laws.command_ok hp (by simp [hrange, hservo, hstaged, hused])
  · intro s h v set n hp hrange hstaged hset
    have hplain : ¬(set = false ∧ v = 0#64) := by
      rintro ⟨h1, h2⟩
      rcases hset with h3 | h3
      · exact absurd (h1.symm.trans h3) (by decide)
      · exact h3 h2
    exact Laws.command_ok hp (by simp [hrange, hstaged, hplain])
  · intro s h hp hrange hstaged
    have hrange' : stepInRange s false 0#64 0#30 = true := hrange
    exact Laws.command_ok hp (by simp [hrange', hstaged])
  · intro s h synced r hp hr hservo
    exact Laws.command_ok hp (by simp only [Int.not_lt.mpr hr, fresh_ptp, hservo]; simp)
  · intro s h en src ports domain dest prio stepNs lockCnt lockNs hp h1 h2 hcnt hns hprio hport hd1 hd2
    have hns' : ¬ lockNs = 0#16 := hns
    have hp' : Passes s h { fn0 := true, reserved := decide (2 ≤ src.toNat) || lockNs = 0, modes := timeModes } := by
      simpa [hns'] using hp
    exact Laws.command_ok hp' (by
      simp only [Nat.not_lt.mpr h1, Nat.not_lt.mpr h2, hcnt, hprio, subportOk_fresh, hport, Nat.not_lt.mpr hd1, Nat.not_lt.mpr hd2]
      simp)
  · intro s h hp
    exact Laws.command_ok hp rfl

/-! ## The Meash commands -/

theorem mshPortCfg_next {s : State} {h : CmdHdr} (m : BitVec 2) (en : Bool) {w : BitVec 2} (tree exp wake : Bool) (node : BitVec 5) {c : MshCfg}
    (hp : Passes s h { fn0 := true, reserved := w = 3, modes := timeModes })
    (hc : c = { en := en, w := 2 * 2 ^ w.toNat, tree := tree, exp := exp, wake := wake, node := node.toNat }) :
    exec (.mshPortCfg h m en w tree exp wake node) s = .next (keepQueue s (complete
      (stage (setMshPort (fresh s) m.toNat { mshPort s m.toNat with cfg := c }) (effTick s) (.mshPort m.toNat c))
      h OP_MSH_PORT_CFG ST_OK (effArea (effTick s)))) := by
  subst hc
  exact Laws.command_ok hp rfl

theorem mshRouteSet_next {s : State} {h : CmdHdr} (node : BitVec 5) {m : BitVec 2} (hp : Passes s h { fn0 := true, modes := timeModes })
    (hen : (mshPort s m.toNat).cfg.en = true) :
    exec (.mshRouteSet h node m) s = .next (keepQueue s (complete
      (stage (fresh s) (effTick s) (.mshRoute node.toNat m.toNat)) h OP_MSH_PORT_CFG ST_OK (effArea (effTick s)))) :=
  Laws.command_ok hp (by simp [hen])

theorem mshStreamExport_next {s : State} {h : CmdHdr} {hd : BitVec 16} {r : BitVec 20} (dst : BitVec 5) {x : StreamRec}
    (hp : Passes s h { reserved := hd.toNat % 4 = 3, modes := timeModes }) (hx : mshStream s h.fn.toNat hd.toNat (fun r => r.rxEn) = .ok x)
    (hfree : (thas s.msh.exports r.toNat || thas s.msh.imports r.toNat) = false) :
    exec (.mshStreamExport h hd r dst false) s = .next (keepQueue s (complete
      (stage { fresh s with msh := { s.msh with exports := tset s.msh.exports r.toNat { hd := hd.toNat, dst := dst.toNat } } }
        (effTick s) (.mshExport r.toNat)) h OP_MSH_PORT_CFG ST_OK (effArea (effTick s)))) :=
  Laws.command_ok hp (by
    simp only [mshStream_fresh, hx, fresh_msh, hfree]
    rfl)

theorem mshStreamExport_end {s : State} {h : CmdHdr} {hd : BitVec 16} {r : BitVec 20} (dst : BitVec 5) {x : StreamRec} {e : Export}
    (hp : Passes s h { reserved := hd.toNat % 4 = 3, modes := timeModes }) (hx : mshStream s h.fn.toNat hd.toNat (fun r => r.rxEn) = .ok x)
    (he : tget s.msh.exports r.toNat = some e) (hhd : e.hd = hd.toNat) (hgone : e.gone = false) :
    exec (.mshStreamExport h hd r dst true) s = .next (keepQueue s (complete
      (stage { fresh s with msh := { s.msh with exports := tset s.msh.exports r.toNat { e with gone := true } } }
        (effTick s) (.mshExportEnd r.toNat)) h OP_MSH_PORT_CFG ST_OK (effArea (effTick s)))) :=
  Laws.command_ok hp (by
    simp only [mshStream_fresh, hx, fresh_msh, he, hhd, hgone]
    rfl)

/-- The state with relay `r` imported into stream `hd`, its queue bound. -/
def imported (s : State) (hd r v : Nat) (ssrcs : List Word) (limit : Nat) : State :=
  setBound { fresh s with net := { s.net with nextOrder := s.net.nextOrder + 1 }
                          msh := { s.msh with imports := tset s.msh.imports r hd } } hd
    { blk := { port := 4, ssrcs := ssrcs, valid := v }, order := s.net.nextOrder + 1, limit := limit }

theorem mshStreamImport_next {s : State} {h : CmdHdr} {hd : BitVec 16} {r : BitVec 20} (v : BitVec 4) (s0 s1 s2 s3 : BitVec 32) {x : StreamRec}
    (hp : Passes s h { reserved := hd.toNat % 4 = 3, modes := timeModes })
    (hx : mshStream s h.fn.toNat hd.toNat (fun r => r.rxEn && r.rxFwd && !r.txEn) = .ok x) (hb : thas s.net.bound hd.toNat = false)
    (hfree : (thas s.msh.exports r.toNat || thas s.msh.imports r.toNat) = false) (hpool : queueLimit x ≤ poolFree s) :
    exec (.mshStreamImport h hd r v s0 s1 s2 s3 false) s = .next (keepQueue s (complete
      (stage (imported s hd.toNat r.toNat v.toNat [s0, s1, s2, s3] (queueLimit x)) (effTick s) (.netBind hd.toNat)) h OP_MSH_PORT_CFG ST_OK
      (effArea (effTick s) ++ [(Config.queueId hd.toNat (s.net.nextOrder + 1)).setWidth 32]))) :=
  Laws.command_ok hp (by
    simp only [mshStream_fresh, hx, fresh_net, hb, fresh_msh, hfree, poolFree_fresh, Nat.not_lt.mpr hpool]
    rfl)

theorem mshStreamImport_end {s : State} {h : CmdHdr} {hd : BitVec 16} {r : BitVec 20} (v : BitVec 4) (s0 s1 s2 s3 : BitVec 32) {x : StreamRec}
    (hp : Passes s h { reserved := hd.toNat % 4 = 3, modes := timeModes })
    (hx : mshStream s h.fn.toNat hd.toNat (fun r => r.rxEn && r.rxFwd && !r.txEn) = .ok x) (hr : tget s.msh.imports r.toNat = some hd.toNat)
    (hb : isBound s hd.toNat = true) :
    exec (.mshStreamImport h hd r v s0 s1 s2 s3 true) s = .next (keepQueue s (complete
      (streamRelease (fresh s) hd.toNat (effTick s)) h OP_MSH_PORT_CFG ST_OK
      (effArea (effTick s) ++ [(Config.queueId hd.toNat (((tget s.net.bound hd.toNat).map (·.order)).getD 0)).setWidth 32]))) :=
  Laws.command_ok hp (by simp [hx, hr, hb])

theorem mshTraceSet_next {s : State} {h : CmdHdr} (id : BitVec 112) (hp : Passes s h { fn0 := true, modes := timeModes }) :
    exec (.mshTraceSet h id) s = .next (keepQueue s (complete
      (stage (fresh s) (effTick s) (.mshTrace id.toNat)) h OP_MSH_TRACE_SET ST_OK (effArea (effTick s)))) :=
  Laws.command_ok hp rfl

/-- The reserved encodings of a request for the protection lane. -/
abbrev apsReserved (req lane : BitVec 4) : Bool :=
  !([0x0, 0x7, 0xd, 0xf].contains req.toNat) || (if req = 0 ∨ req = 0xf then decide (lane ≠ 15) else decide (7 < lane.toNat))

theorem mshApsCmd_next {s : State} {h : CmdHdr} {m : BitVec 2} {req lane : BitVec 4}
    (hp : Passes s h { fn0 := true, modes := timeModes, reserved := apsReserved req lane }) (hen : (mshPort s m.toNat).cfg.en = true)
    (hprio : req = 0 ∨ apsPrio req.toNat ≤ apsPrio (mshPort s m.toNat).force.1) :
    exec (.mshApsCmd h m req lane) s = .next (keepQueue s
      (let f := (mshPort (mshApsApply (fresh s) m.toNat req.toNat lane.toNat) m.toNat).force
       complete (stage (fresh s) (effTick s) (.mshAps m.toNat req.toNat lane.toNat)) h OP_MSH_APS_CMD ST_OK
         (effArea (effTick s) ++ [BitVec.ofNat 32 (f.1 * 16 + f.2)]))) := by
  have hden : ¬(req ≠ 0 ∧ apsPrio (mshPort s m.toNat).force.1 < apsPrio req.toNat) := by
    rintro ⟨h1, h2⟩
    rcases hprio with h3 | h3
    · exact h1 h3
    · omega
  exact Laws.command_ok hp (by
    simp only [mshPort_fresh, hen, effTick_fresh, Bool.not_true, Bool.false_eq_true, if_false]
    exact if_neg hden)

theorem mshPeerStatus_next {s : State} {h : CmdHdr} {m : BitVec 2} (hp : Passes s h { modes := timeModes })
    (hen : (mshPort s m.toNat).live.en = true) :
    exec (.mshPeerStatus h m) s = .next (keepQueue s (complete (fresh s) h OP_MSH_PEER_STATUS ST_OK (peerWords s m.toNat))) :=
  Laws.command_ok hp (by simp [hen])

/-- The ports that a mask names. -/
def maskPorts (mask : BitVec 4) : List Nat := [0, 1, 2, 3].filter (fun m => mask.getLsbD m)

/-- The wake pattern starts on a port. -/
def wakePort (s : State) (m : Nat) : State :=
  emitOut (setMshPort s m { mshPort s m with waking := some (localNs s) }) (.mshWake m true)

theorem mshWakeSend_next {s : State} {h : CmdHdr} {mask : BitVec 4} (hp : Passes s h { fn0 := true, modes := timeModes })
    (hports : ∀ m ∈ maskPorts mask, (mshPort s m).live.en = true ∧ mshUp s m = false) :
    exec (.mshWakeSend h mask) s = .next (keepQueue s (complete ((maskPorts mask).foldl wakePort (fresh s)) h OP_MSH_WAKE_SEND ST_OK [])) := by
  have hen : (maskPorts mask).any (fun m => !(mshPort s m).live.en) = false := by
    simp only [List.any_eq_false]
    intro m hm
    simp [(hports m hm).1]
  have hup : (maskPorts mask).any (mshUp s) = false := by
    simp only [List.any_eq_false]
    intro m hm
    simp [(hports m hm).2]
  exact Laws.command_ok hp ((if_neg (ne_true_of_eq_false hen)).trans ((if_neg (ne_true_of_eq_false hup)).trans rfl))

/-! ### What a command that completes leaves -/

theorem complete_fields (s : State) (h : CmdHdr) (op st : BitVec 16) (res : List Word) :
    (complete s h op st res).agenda = s.agenda ∧ (complete s h op st res).clk = s.clk ∧ (complete s h op st res).net = s.net ∧
    (complete s h op st res).msh = s.msh := by
  obtain ⟨_, hclk, _, hagenda, _, hnet, _, _, _, _, _, _, _, _, _, _, hmsh, _⟩ := Laws.hostSide_fields (Laws.hostSide_complete s h op st res)
  exact ⟨hagenda, hclk, hnet, hmsh⟩

/-- A Meash command that stages one change: what it leaves of the Meash is what its effect leaves. -/
theorem meashStages_of_next {i : Instr} {s u : State} {c : Change} {h : CmdHdr} {op st : BitVec 16} {a : List Word} {P : Msh → Net → Prop}
    (hx : exec i s = .next (keepQueue s (complete (stage u (effTick s) c) h op st a))) (hag : u.agenda = s.agenda) (hclk : u.clk = s.clk)
    (hP : P u.msh u.net) : MeashStages i s c (fun t => P t.msh t.net) := by
  obtain ⟨h1, h2, h3, h4⟩ := complete_fields (stage u (effTick s) c) h op st a
  refine ⟨_, hx, rfl, h1.trans ?_, h2.trans hclk, ?_⟩
  · rw [stage, hag]
  · show P (complete (stage u (effTick s) c) h op st a).msh (complete (stage u (effTick s) c) h op st a).net
    rw [h3, h4]
    exact hP

theorem mshStream_ok {s : State} {f hd : Nat} {good : StreamRec → Bool} {l : Leg} (hl : legIn s (hd / 4) = some l) (hown : l.item.owner = f)
    (hgood : good (l.prof.rec' (hd % 4)) = true) : mshStream s f hd good = .ok (l.prof.rec' (hd % 4)) := by
  simp [mshStream, hl, hown, hgood]

theorem mshPort_setMshPort_ne (s : State) {m n : Nat} (x : MshPort) (h : n ≠ m) : mshPort (setMshPort s m x) n = mshPort s n := by
  rw [mshPort, setMshPort, Laws.tget_tset_ne _ _ h]
  rfl

/-- What starting the wake pattern on ports leaves of everything else. -/
theorem wakePorts_fields (ms : List Nat) (s : State) :
    (ms.foldl wakePort s).agenda = s.agenda ∧ (ms.foldl wakePort s).clk = s.clk := by
  induction ms generalizing s with
  | nil => exact ⟨rfl, rfl⟩
  | cons m ms ih => exact ih (wakePort s m)

theorem mshPort_wakePort (s : State) (m n : Nat) :
    mshPort (wakePort s m) n = if n = m then { mshPort s m with waking := some (localNs s) } else mshPort s n := by
  rw [wakePort, mshPort, emitOut, ← mshPort]
  split
  next h =>
    subst h
    exact mshPort_setMshPort ..
  next h => exact mshPort_setMshPort_ne _ _ h

theorem mshPort_wakePorts (ms : List Nat) (s : State) (n : Nat) :
    mshPort (ms.foldl wakePort s) n = if n ∈ ms then { mshPort s n with waking := some (localNs s) } else mshPort s n := by
  induction ms generalizing s with
  | nil => rfl
  | cons m ms ih =>
    rw [List.foldl_cons, ih, mshPort_wakePort, show localNs (wakePort s m) = localNs s from rfl]
    by_cases h1 : n = m
    · subst h1
      simp
    · simp [h1]

theorem mem_maskPorts {mask : BitVec 4} {m : Nat} : m ∈ maskPorts mask ↔ m < 4 ∧ mask.getLsbD m = true := by
  simp only [maskPorts, List.mem_filter, List.mem_cons, List.not_mem_nil, or_false]
  constructor
  · rintro ⟨h, hm⟩
    exact ⟨by omega, hm⟩
  · rintro ⟨h, hm⟩
    exact ⟨by omega, hm⟩

/-- Settles O36, each command by the checks that let it through, and what it stages by what its completion leaves. -/
theorem meashCommandsComplete : Obligations.MeashCommandsComplete := by
  refine ⟨?_, ?_, ?_, ?_, ?_, ?_, ?_, ?_, ?_, ?_, ?_, ?_, ?_, ?_, ?_, ?_, ?_, ?_⟩
  · intro s h m en w tree exp wake node hp
    exact mshPortCfg_next m en tree exp wake node hp rfl
  · intro s h node m hp hen
    exact mshRouteSet_next node hp hen
  · intro s h hd r dst x hp hx hfree
    exact mshStreamExport_next dst hp hx hfree
  · intro s h hd r dst x e hp hx he hhd hgone
    exact mshStreamExport_end dst hp hx he hhd hgone
  · intro s h hd r v s0 s1 s2 s3 x hp hx hb hfree hpool
    exact mshStreamImport_next v s0 s1 s2 s3 hp hx hb hfree hpool
  · intro s h hd r v s0 s1 s2 s3 x b hp hx hr hb hbound
    have hnext := mshStreamImport_end v s0 s1 s2 s3 hp hx hr hb
    rwa [hbound] at hnext
  · intro s h id hp
    exact mshTraceSet_next id hp
  · intro s h m req lane hp hen hprio
    exact mshApsCmd_next hp hen hprio
  · intro s h m hp hen
    exact mshPeerStatus_next hp hen
  · intro s h mask hp hports
    exact mshWakeSend_next hp hports
  · intro s h m en w tree exp wake node c hp hc
    refine meashStages_of_next (P := fun x _ => ((tget x.ports m.toNat).getD {}).cfg = c ∧
      ((tget x.ports m.toNat).getD {}).live = (mshPort s m.toNat).live ∧ ∀ n, n ≠ m.toNat → (tget x.ports n).getD {} = mshPort s n)
      (mshPortCfg_next m en tree exp wake node hp hc) rfl rfl ?_
    have hport := mshPort_setMshPort (fresh s) m.toNat { mshPort s m.toNat with cfg := c }
    rw [mshPort] at hport
    refine ⟨by rw [hport], by rw [hport], fun n hn => mshPort_setMshPort_ne (fresh s) _ hn⟩
  · intro s h node m hp hen
    exact meashStages_of_next (P := fun x _ => x = s.msh) (mshRouteSet_next node hp hen) rfl rfl rfl
  · intro s h hd r dst l hp hl hown hrx
    have hx := mshStream_ok (good := fun r => r.rxEn) hl hown hrx
    refine ⟨fun he hi => ?_, fun e he hhd hgone => ?_⟩
    · exact meashStages_of_next (P := fun x _ => tget x.exports r.toNat = some { hd := hd.toNat, dst := dst.toNat } ∧
        ∀ k, k ≠ r.toNat → tget x.exports k = tget s.msh.exports k)
        (mshStreamExport_next dst hp hx (by rw [he, hi]; rfl)) rfl rfl
        ⟨Laws.tget_tset_self .., fun k hk => Laws.tget_tset_ne _ _ hk⟩
    · exact meashStages_of_next (P := fun x _ => tget x.exports r.toNat = some { e with gone := true } ∧
        ∀ k, k ≠ r.toNat → tget x.exports k = tget s.msh.exports k)
        (mshStreamExport_end dst hp hx he hhd hgone) rfl rfl
        ⟨Laws.tget_tset_self .., fun k hk => Laws.tget_tset_ne _ _ hk⟩
  · intro s h hd r v s0 s1 s2 s3 l hp hl hown hrx hfwd htx
    have hx := mshStream_ok (good := fun r => r.rxEn && r.rxFwd && !r.txEn) hl hown (by simp [hrx, hfwd, htx])
    refine ⟨fun hb he hi hpool => ?_, fun hr hb => ?_⟩
    · exact meashStages_of_next (P := fun x n => tget x.imports r.toNat = some hd.toNat ∧ ∃ b, tget n.bound hd.toNat = some b ∧
        b.blk = { port := 4, ssrcs := [s0, s1, s2, s3], valid := v.toNat } ∧ b.limit = queueLimit (l.prof.rec' (hd.toNat % 4)))
        (mshStreamImport_next v s0 s1 s2 s3 hp hx hb (by rw [he, hi]; rfl) hpool) rfl rfl
        ⟨Laws.tget_tset_self .., _, Laws.tget_tset_self .., rfl, rfl⟩
    · exact ⟨_, mshStreamImport_end v s0 s1 s2 s3 hp hx hr hb, rfl, (complete_fields ..).1⟩
  · intro s h id hp
    exact meashStages_of_next (P := fun x _ => x = s.msh) (mshTraceSet_next id hp) rfl rfl rfl
  · intro s h m req lane hp hen hprio
    exact meashStages_of_next (P := fun x _ => x = s.msh) (mshApsCmd_next hp hen hprio) rfl rfl rfl
  · intro s h m hp hen
    obtain ⟨hagenda, _, _, hmsh⟩ := complete_fields (fresh s) h OP_MSH_PEER_STATUS ST_OK (peerWords s m.toNat)
    exact ⟨_, mshPeerStatus_next hp hen, rfl, hagenda, hmsh⟩
  · intro s h mask hp hports
    have hnext := mshWakeSend_next hp fun m hm => hports m (mem_maskPorts.1 hm).1 (mem_maskPorts.1 hm).2
    obtain ⟨hagenda, _, _, hmsh⟩ := complete_fields ((maskPorts mask).foldl wakePort (fresh s)) h OP_MSH_WAKE_SEND ST_OK []
    have hport : ∀ n, mshPort (keepQueue s (complete ((maskPorts mask).foldl wakePort (fresh s)) h OP_MSH_WAKE_SEND ST_OK [])) n =
        if n ∈ maskPorts mask then { mshPort s n with waking := some (localNs s) } else mshPort s n := by
      intro n
      refine Eq.trans ?_ (mshPort_wakePorts (maskPorts mask) (fresh s) n)
      show (tget (complete _ h OP_MSH_WAKE_SEND ST_OK []).msh.ports n).getD {} = _
      rw [hmsh, mshPort]
    refine ⟨_, hnext, rfl, hagenda.trans (wakePorts_fields _ _).1, fun m hm hbit => ?_, fun m hm hbit => ?_⟩
    · rw [hport, if_pos (mem_maskPorts.2 ⟨hm, hbit⟩)]
    · rw [hport, if_neg fun hmem => by simp [(mem_maskPorts.1 hmem).2] at hbit]

end Sys2Proof.Machine

/-!
Host commands of memory, calibration and power (R416 to R465): each completes with its own effect.
-/
namespace Sys2Proof.Machine

/-- Settles O37, each command by the checks that let it through. -/
theorem memoryCalibrationCommandsComplete : Obligations.MemoryCalibrationCommandsComplete := by
  refine ⟨?_, ?_, ?_, ?_, ?_, ?_, ?_, ?_, ?_, ?_⟩
  · intro s h repair t hp ht hsweep hon
    exact Laws.commandLong_next (t := { fresh s with mem := { s.mem with sweep := some ⟨h, t.toNat, repair⟩ } }) hp
      (by simp [Nat.not_lt.mpr ht, hsweep, hon])
  · intro s h t m row hp hm hrow hon hroom hnew
    exact Laws.command_ok hp (by
      simp only [Nat.not_le.mpr hm, Nat.not_le.mpr hrow, targetOn_fresh, hon, fresh_mem, Nat.not_le.mpr hroom, hnew]
      simp)
  · intro s h hp
    exact Laws.command_ok hp rfl
  · intro s h hp
    exact Laws.command_ok hp rfl
  · intro s h clr addr hp
    exact Laws.command_ok hp rfl
  · intro s h addr ws hp hform hitem hdup hdelta hmap
    exact Laws.command_ok hp (by
      simp only [Option.getD_some, hform, hitem, hdup, hdelta, hmap]
      rfl)
  · intro s h addr d hp
    exact Laws.command_ok hp rfl
  · intro s h sel addr hp
    exact Laws.command_ok hp rfl
  · intro s h cls first count addr hp hitems hend hfirst
    have hin : ¬(calItems cls.toNat = 0 ∨ calCount cls.toNat < first.toNat + count.toNat ∨ calCount cls.toNat ≤ first.toNat) := by omega
    exact Laws.command_ok hp (if_neg hin)
  · intro s h cls i addr hp hi
    exact Laws.command_ok hp (if_neg (Nat.not_le.mpr hi))

/-! ## Requests for a mode (R449 to R451), on the fresh state -/

theorem modeReq_run_drain {h : CmdHdr} {s : State} (hm : mode s = 5) :
    modeReq h 3 (fresh s) = (stage (setPwr (fresh s) { s.pwr with trans := some ⟨3, effTick s, some h⟩ }) (effTick s) (.pwrMode 3 0), none) := by
  simp only [modeReq, mode_fresh, hm]
  rfl

theorem modeReq_run_doze {h : CmdHdr} {s : State} (hm : mode s = 6) :
    modeReq h 3 (fresh s) = (setPwr (fresh s) { s.pwr with trans := some ⟨3, effTick s, some h⟩,
                                                           up := some ⟨1, s.pwr.rails, fld s PWR_DOM_ON, 0, false⟩ }, none) := by
  simp only [modeReq, mode_fresh, hm]
  rfl

theorem modeReq_drain {h : CmdHdr} {s : State} (hm : mode s = 3 ∨ mode s = 4) :
    modeReq h 5 (fresh s) = (stage (setPwr (fresh s) { s.pwr with trans := some ⟨5, effTick s, some h⟩ }) (effTick s) (.pwrMode 5 0), none) := by
  rcases hm with hm | hm
  all_goals
    simp only [modeReq, mode_fresh, hm]
    rfl

theorem modeReq_doze {h : CmdHdr} {s : State} (hm : mode s = 5) (he : notEmpty s = false) :
    modeReq h 6 (fresh s) = (stage (setPwr (fresh s) { s.pwr with trans := some ⟨6, effTick s, some h⟩ }) (effTick s) (.pwrMode 6 0), none) := by
  simp only [modeReq, mode_fresh, hm, notEmpty_fresh, he]
  rfl

theorem modeReq_sleep {h : CmdHdr} {s : State} (hm : mode s = 5 ∨ mode s = 6) (he : notEmpty s = false) (hw : wakeEnabled s = true) :
    modeReq h 7 (fresh s) = ({ setPwr (fresh s) { s.pwr with trans := some ⟨7, effTick s, none⟩ } with
        easel := { s.easel with stopAt := some (effTick s) } }, some (ok (effArea (effTick s) ++ [7]))) := by
  rcases hm with hm | hm
  all_goals
    simp only [modeReq, mode_fresh, hm, notEmpty_fresh, he, wakeEnabled_fresh, hw]
    rfl

/-- A request with no transition under way goes on as `modeReq` says. -/
theorem modeReqCmd_next {h : CmdHdr} {target : Nat} {s t : State} (hp : Passes s h { fn0 := true, modes := reqModes }) (ht : s.pwr.trans = none)
    (hk : modeReq h target (fresh s) = (t, none)) :
    modeReqCmd h target s = .next (keepQueue s { t with hif := { t.hif with running := t.hif.running ++ [h] } }) :=
  Laws.commandLong_next hp ((if_neg (by simp [ht])).trans hk)

/-- A request that completes at once. -/
theorem modeReqCmd_ok {h : CmdHdr} {target : Nat} {s t : State} {a : List Word} (hp : Passes s h { fn0 := true, modes := reqModes })
    (ht : s.pwr.trans = none) (hk : modeReq h target (fresh s) = (t, some (ok a))) :
    modeReqCmd h target s = .next (keepQueue s (complete t h OP_PWR_MODE_REQ ST_OK a)) :=
  Laws.commandLong_done (r := ok a) hp ((if_neg (by simp [ht])).trans hk)

/-- Settles O38, each command by the checks that let it through. -/
theorem powerCommandsComplete : Obligations.PowerCommandsComplete := by
  refine ⟨?_, ?_, ?_, ?_, ?_, ?_, ?_, ?_⟩
  · intro s h hp htrans hmode
    exact modeReqCmd_next (hp := hp) htrans (modeReq_run_drain hmode)
  · intro s h hp htrans hmode
    exact modeReqCmd_next (hp := hp) htrans (modeReq_run_doze hmode)
  · intro s h hp htrans hmode
    exact modeReqCmd_next (hp := hp) htrans (modeReq_drain hmode)
  · intro s h hp htrans hmode hempty
    exact modeReqCmd_next (hp := hp) htrans (modeReq_doze hmode hempty)
  · intro s h hp htrans hmode hempty hwake
    exact modeReqCmd_ok hp htrans (modeReq_sleep hmode hempty hwake)
  · intro s h clr addr hp
    exact Laws.command_ok hp rfl
  · intro s h v hp hv
    have hin : ¬(v ≠ 0 ∧ v.toNat < 12) := by
      rintro ⟨h1, h2⟩
      rcases hv with h3 | h3
      · exact h1 h3
      · omega
    exact Laws.command_ok hp (if_neg hin)
  · intro s h hp
    exact Laws.command_ok hp rfl

end Sys2Proof.Machine

/-!
Instructions of the Brush cores (R244 to R266): each completes with the next state its group gives.
-/
namespace Sys2Proof.Machine

/-! ## Straight-line instructions -/

/-- The instructions that go on to the next one: all but the control group's branches, calls and loops, SIG and HALT. -/
def BOp.goesOn : BOp → Bool
  | .br _ | .brCond .. | .call _ | .ret | .loop .. | .leave | .sig | .halt => false
  | _ => true

theorem flow_of_goesOn {op : BOp} (h : op.goesOn = true) (k : BBank) (nx : Nat) : op.flow k nx = (k.fall nx, false) := by
  cases op with
  | br => exact Bool.noConfusion (show false = true from h)
  | brCond => exact Bool.noConfusion (show false = true from h)
  | call => exact Bool.noConfusion (show false = true from h)
  | ret => exact Bool.noConfusion (show false = true from h)
  | loop => exact Bool.noConfusion (show false = true from h)
  | leave => exact Bool.noConfusion (show false = true from h)
  | sig => exact Bool.noConfusion (show false = true from h)
  | halt => exact Bool.noConfusion (show false = true from h)
  | _ => rfl

theorem cycles_of_goesOn {op : BOp} (h : op.goesOn = true) : op.cycles false = 1 := by
  cases op with
  | loop => exact Bool.noConfusion (show false = true from h)
  | _ => rfl

/-- The row of an instruction that goes on, from its operation on the bank and on the bound task. -/
theorem goesOn_keep {s : State} {b : BrushRef} {op : BOp} {r : BRun} {i : BInst} {p : BProg} {k : BBank} {nx : Nat} (k1 : BBank) (i1 : BInst)
    (h : Issues s b op r i p) (hk : k = brushBank b s) (hx : nx = brushAfter b s) (hop : op.goesOn = true)
    (h1 : (op.run k (op.clean k i b.bad)).1 = k1) (h2 : (op.run k i).2 = i1) :
    act (brushIssue · b op) s =
      .next (keepQueue s (brushNext s b op r ((op.mems.foldl (fun k m => k.step m.1.p m.1.m) k1).fall nx) i1 1)) := by
  subst hk
  exact Laws.brush_keep false h hx h1 h2 (flow_of_goesOn hop _ _) (cycles_of_goesOn hop) (by rintro rfl; exact absurd hop (by decide))
    (by rintro rfl; exact absurd hop (by decide))

/-! ## The move group -/

/-- Reading an accumulator as it stands never leaves the range (R245). -/
theorem reduce56_ra (sam : Bool) (v : BitVec 56) : (reduce56 sam v.toInt).1.toInt = v.toInt ∧ (reduce56 sam v.toInt).2 = false := by
  have hlow : -36028797018963968 ≤ v.toInt := by simpa using BitVec.le_toInt v
  have hhigh : v.toInt < 36028797018963968 := by simpa using BitVec.toInt_lt (x := v)
  refine ⟨reduce56_toInt sam (by omega) (by omega), Bool.eq_false_iff.2 fun h => ?_⟩
  have hout := (reduce56_snd sam v.toInt).1 h
  omega

theorem run_movd (k : BBank) (i : BInst) (d : BitVec 3) (n : BitVec 2) {v : BitVec 24} {c : Bool} (h : (v, c) = satMove (k.ra n).toInt) :
    (BOp.movd false d n).run k i = ({ k.wd d v with flg := { k.flg with clamp := k.flg.clamp || c } }, i) := by
  obtain ⟨h1, h2⟩ := reduce56_ra k.sam (k.ra n)
  simp only [BOp.run, Bool.false_eq_true, if_false, h1, h2, ← h, Bool.or_false]

theorem run_movd_round (k : BBank) (i : BInst) (d : BitVec 3) (n : BitVec 2) {a : BitVec 56} {o : Bool} {v : BitVec 24} {c : Bool}
    (ha : (a, o) = reduce56 k.sam (roundAcc (k.ra n).toInt)) (h : (v, c) = satMove a.toInt) :
    (BOp.movd true d n).run k i =
      ({ k.wd d v with flg := { k.flg with clamp := k.flg.clamp || c, wrap := k.flg.wrap || o } }, i) := by
  simp only [BOp.run, if_true, ← ha, ← h]

/-- Settles O55, each instruction by its operation on the bank. -/
theorem brushMoveInstructionsComplete : Obligations.BrushMoveInstructionsComplete := by
  intro s b r i p k nx hk hx
  refine ⟨?_, ?_, ?_, ?_, ?_, ?_, ?_, ?_, ?_, ?_, ?_⟩
  · intro d q h hq
    exact goesOn_keep (k.write d (k.read q)) i h hk hx rfl (by rw [Laws.move_run _ _ _ _ hq]) (by rw [Laws.move_run _ _ _ _ hq])
  · intro n m h
    exact goesOn_keep (k.wa n (k.ra m)) i h hk hx rfl rfl rfl
  · intro d v h
    exact goesOn_keep (k.write d v) i h hk hx rfl rfl rfl
  · rintro d e i0 rfl h
    exact goesOn_keep _ i h hk hx rfl rfl rfl
  · rintro d e i0 rfl h
    exact goesOn_keep _ i h hk hx rfl rfl rfl
  · intro d e h
    exact goesOn_keep k _ h hk hx rfl rfl rfl
  · intro d e h
    exact goesOn_keep k _ h hk hx rfl rfl rfl
  · rintro n e i0 rfl h
    exact goesOn_keep _ i h hk hx rfl rfl rfl
  · rintro n e x w rfl rfl h
    exact goesOn_keep _ _ h hk hx rfl rfl rfl
  · intro d n v c hv h
    exact goesOn_keep _ i h hk hx rfl (by rw [run_movd k _ d n hv]) rfl
  · intro d n a o v c ha hv h
    exact goesOn_keep _ i h hk hx rfl (by rw [run_movd_round k _ d n ha hv]) rfl

/-! ## The multiply, accumulator, data and address groups -/

theorem run_mlam_minus (k : BBank) (i : BInst) (n : BitVec 2) (x y : BEa) :
    (BOp.mlam true n x y).run k i = (k.acc n ((k.ra n).toInt - prod (i.hi k x) (i.hi k y)), i) := by
  simp only [BOp.run, if_true, ← Int.sub_eq_add_neg]

/-- Settles O56, each instruction by its operation on the bank. -/
theorem brushMultiplyInstructionsComplete : Obligations.BrushMultiplyInstructionsComplete := by
  intro s b r i p k nx hk hx
  refine ⟨?_, ?_, ?_, ?_, ?_, ?_, ?_, ?_⟩
  · intro n x y h
    exact goesOn_keep (k.acc n (prod (k.rd x) (k.rd y))) i h hk hx rfl rfl rfl
  · intro n x y h
    exact goesOn_keep (k.acc n _) i h hk hx rfl rfl rfl
  · intro n x y h
    exact goesOn_keep (k.acc n _) i h hk hx rfl rfl rfl
  · intro n x y h
    exact goesOn_keep (k.acc n _) i h hk hx rfl rfl rfl
  · intro n x y h
    exact goesOn_keep (k.acc n _) i h hk hx rfl rfl rfl
  · rintro n x y i0 rfl h
    exact goesOn_keep (k.acc n _) i h hk hx rfl rfl rfl
  · rintro n x y i0 rfl h
    exact goesOn_keep (k.acc n _) i h hk hx rfl (by rw [run_mlam_minus]) rfl
  · rintro n u x m v y i0 k1 rfl rfl h
    exact goesOn_keep _ i h hk hx rfl rfl rfl

theorem run_sat_inside {k : BBank} {n : BitVec 2} (i : BInst) (h : beyond (k.ra n).toInt = false) :
    (BOp.sat n).run k i = (k.acc n (k.ra n).toInt, i) := by
  simp only [BOp.run, h, Bool.false_eq_true, if_false]

theorem run_sat_beyond {k : BBank} {n : BitVec 2} (i : BInst) (h : beyond (k.ra n).toInt = true) :
    (BOp.sat n).run k i =
      (({ k with flg := { k.flg with clamp := true } } : BBank).acc n (if (k.ra n).toInt < 0 then -(2 ^ 46) else 2 ^ 46 - 1), i) := by
  simp only [BOp.run, h, if_true]

/-- Settles O57, each instruction by its operation on the bank. -/
theorem brushAccumulatorInstructionsComplete : Obligations.BrushAccumulatorInstructionsComplete := by
  intro s b r i p k nx hk hx
  refine ⟨?_, ?_, ?_, ?_, ?_, ?_, ?_, ?_, ?_, ?_, ?_, ?_⟩
  · intro n m h
    exact goesOn_keep (k.acc n _) i h hk hx rfl rfl rfl
  · intro n m h
    exact goesOn_keep (k.acc n _) i h hk hx rfl rfl rfl
  · intro n h
    exact goesOn_keep (k.acc n _) i h hk hx rfl rfl rfl
  · intro n h
    exact goesOn_keep (k.acc n _) i h hk hx rfl rfl rfl
  · intro n h
    exact goesOn_keep (k.acc n 0) i h hk hx rfl rfl rfl
  · intro n m h
    exact goesOn_keep (k.accFlags _) i h hk hx rfl rfl rfl
  · intro n c h
    exact goesOn_keep (k.acc n _) i h hk hx rfl rfl rfl
  · intro n c h
    exact goesOn_keep (k.acc n _) i h hk hx rfl rfl rfl
  · intro n h
    exact goesOn_keep (k.acc n _) i h hk hx rfl rfl rfl
  · rintro n x rfl h hin
    exact goesOn_keep (k.acc n _) i h hk hx rfl (by rw [run_sat_inside _ hin]) (by rw [run_sat_inside _ hin])
  · rintro n x rfl h hout
    exact goesOn_keep _ i h hk hx rfl (congrArg Prod.fst (run_sat_beyond _ hout)) (congrArg Prod.snd (run_sat_beyond _ hout))
  · rintro d n v rfl h
    exact goesOn_keep _ i h hk hx rfl rfl rfl

/-- Settles O58, each instruction by its operation on the bank. -/
theorem brushDataInstructionsComplete : Obligations.BrushDataInstructionsComplete := by
  intro s b r i p k nx hk hx
  refine ⟨?_, ?_, ?_, ?_, ?_, ?_, ?_, ?_, ?_, ?_, ?_⟩
  · rintro d x y v rfl h
    exact goesOn_keep _ i h hk hx rfl rfl rfl
  · rintro d x y v rfl h
    exact goesOn_keep _ i h hk hx rfl rfl rfl
  · rintro d x y v rfl h
    exact goesOn_keep _ i h hk hx rfl rfl rfl
  · rintro d x y v rfl h
    exact goesOn_keep _ i h hk hx rfl rfl rfl
  · rintro d x y v rfl h
    exact goesOn_keep _ i h hk hx rfl rfl rfl
  · rintro d x v rfl h
    exact goesOn_keep _ i h hk hx rfl rfl rfl
  · rintro d x c v rfl h
    exact goesOn_keep _ i h hk hx rfl rfl rfl
  · rintro d x c v rfl h
    exact goesOn_keep _ i h hk hx rfl rfl rfl
  · rintro d x c v rfl h
    exact goesOn_keep _ i h hk hx rfl rfl rfl
  · intro x y h
    exact goesOn_keep (k.dFlags _ _) i h hk hx rfl rfl rfl
  · intro q m h
    exact goesOn_keep (k.step q m) i h hk hx rfl rfl rfl

/-! ## The control and task groups -/

/-- The row of a control instruction, from where it goes and the cycles it takes. -/
theorem control_keep {s : State} {b : BrushRef} {op : BOp} {r : BRun} {i : BInst} {p : BProg} {k k3 : BBank} {nx n : Nat} (tk : Bool)
    (h : Issues s b op r i p) (hk : k = brushBank b s) (hx : nx = brushAfter b s) (hrun : ∀ j, op.run k j = (k, j)) (hm : op.mems = [])
    (hf : op.flow k nx = (k3, tk)) (hn : op.cycles tk = n) (hh : op ≠ .halt) (hs : op ≠ .sig) :
    act (brushIssue · b op) s = .next (keepQueue s (brushNext s b op r k3 i n)) := by
  subst hk
  exact Laws.brush_keep tk h hx (by rw [hrun]) (by rw [hrun]) (by rw [hm]; exact hf) hn hh hs

/-- Settles O59, each instruction by where it goes. -/
theorem brushControlInstructionsComplete : Obligations.BrushControlInstructionsComplete := by
  intro s b r i p k nx hk hx
  refine ⟨?_, ?_, ?_, ?_, ?_, ?_, ?_, ?_, ?_, ?_⟩
  · intro t h
    exact control_keep true h hk hx (fun _ => rfl) rfl rfl rfl (by simp) (by simp)
  · intro c t h hc
    exact control_keep true h hk hx (fun _ => rfl) rfl (by rw [flow_brCond, if_pos hc]) rfl (by simp) (by simp)
  · intro c t h hc
    exact control_keep false h hk hx (fun _ => rfl) rfl (by rw [flow_brCond, if_neg (ne_true_of_eq_false hc)]) rfl (by simp) (by simp)
  · intro t h
    exact control_keep true h hk hx (fun _ => rfl) rfl rfl rfl (by simp) (by simp)
  · intro a rest h hcalls
    have hflow : BOp.ret.flow k nx = ({ k with pc := k.calls.headD 0, calls := k.calls.tail }, true) := rfl
    exact control_keep true h hk hx (fun _ => rfl) rfl (by rw [hflow, hcalls]; rfl) rfl (by simp) (by simp)
  · rintro n e c rfl h hc
    exact control_keep true h hk hx (fun _ => rfl) rfl (by rw [flow_loop, if_neg hc]) rfl (by simp) (by simp)
  · intro n e h hc hl
    have hend : ¬ (k.loops.head?.map (fun l => decide (l.le = nx))).getD false = true := by
      cases hloops : k.loops.head? with
      | none => simp
      | some l => simpa using hl l hloops
    exact control_keep true h hk hx (fun _ => rfl) rfl (by rw [flow_loop, if_pos hc, if_neg hend]) rfl (by simp) (by simp)
  · intro l rest h hloops
    exact control_keep true h hk hx (fun _ => rfl) rfl (flow_leave_cons hloops nx) rfl (by simp) (by simp)
  · intro h
    exact goesOn_keep _ i h hk hx rfl rfl rfl
  · intro h
    exact goesOn_keep k i h hk hx rfl rfl rfl

/-- Settles O60, each instruction by what its issue leaves. -/
theorem brushTaskInstructionsComplete : Obligations.BrushTaskInstructionsComplete := by
  intro s b r i p k nx hk hx
  refine ⟨?_, ?_, ?_, ?_, ?_⟩
  · intro d q y n h
    exact goesOn_keep k i h hk hx rfl rfl rfl
  · intro d q y n h
    exact goesOn_keep k i h hk hx rfl rfl rfl
  · intro h
    exact goesOn_keep k i h hk hx rfl rfl rfl
  · intro h
    subst hk
    exact Laws.issue_keep (Laws.brush_issue h _ false nx hx rfl)
  · intro h
    subst hk
    exact Laws.issue_keep (Laws.brush_issue h _ false nx hx rfl)

end Sys2Proof.Machine

/-!
Register rows (R493 to R522): clear bits, reads that latch, accesses by the bus, the JTAG port and releases of held pads.
-/
namespace Sys2Proof.Machine

/-! ## Clear bits -/

/-- A register of WO fields, none of which the lock guards. -/
def woReg (a : Nat) : Bool :=
  (regAt a).any (fun r => !r.hasRwl && r.fields.all (fun f => f.acc = .wo && decide (f.lo ≤ f.hi) && decide (f.hi < 32)))

theorem regAt_of_woReg {a : Nat} (h : woReg a = true) : ∃ r, regAt a = some r ∧ r.hasRwl = false ∧
    r.fields.all (fun f => f.acc = .wo && decide (f.lo ≤ f.hi) && decide (f.hi < 32)) = true := by
  obtain ⟨r, hr, hwo⟩ := (Option.any_eq_true ..).1 h
  simp only [Bool.and_eq_true, Bool.not_eq_true'] at hwo
  exact ⟨r, hr, hwo⟩

/-- What makes the bit `x`, written alone, clear the counter `f` and set nothing else off. -/
def clearsOnly (x f : Field) : Bool :=
  decide (f.lo ≤ f.hi ∧ f.hi < 32) &&
  woReg x.addr &&
  decide (x.addr ∉ [SYS_SETUP_DONE.addr, CTL_BOOT_GO.addr, ADM_HOST_CLOSE.addr, TIK_SRC.addr, TIK_OUT_EN.addr, PPS_IN_EN.addr,
        PAD_REL_TIME.addr, PAD_FAN_AUTO.addr, PWR_ALERT_WARN.addr]) &&
  decide (x.addr ∉ [FWD_EST_Q_HI.addr, PWR_CRIT_C.addr, MEM_HASH_BA0.addr, MEM_HASH_BA1.addr, MEM_HASH_BG0.addr, MEM_HASH_BG1.addr]) &&
  decide (¬ (0x401000 ≤ x.addr ∧ x.addr < 0x401800)) && decide (¬ (0x110000 ≤ x.addr ∧ x.addr < 0x150000)) &&
  decide (clears.filter (fun c => decide (c.1.addr = x.addr ∧ bitsOf (BitVec.ofNat 32 (2 ^ x.lo)) c.1.hi c.1.lo = 1)) = [(x, f)]) &&
  decide (¬ (x.addr = TIK_CLR_LAST.addr ∧ bitsOf (BitVec.ofNat 32 (2 ^ x.lo)) TIK_CLR_LAST.hi TIK_CLR_LAST.lo = 1)) &&
  decide (x.addr ≠ ECC_CLR.addr)

theorem clears_of_clearsOnly {c : Instr} {x f : Field} (he : ∀ s, exec c s = act (clearWrite · x) s) (h : clearsOnly x f = true) :
    Laws.Clears c f := by
  simp only [clearsOnly, Bool.and_eq_true, decide_eq_true_eq] at h
  obtain ⟨⟨⟨⟨⟨⟨⟨⟨hf, hreg⟩, hacts⟩, hkept⟩, hhpa⟩, hhif⟩, hone⟩, hlast⟩, hecc⟩ := h
  obtain ⟨r, hr, hlock, hwo⟩ := regAt_of_woReg hreg
  have hsome : (regAt x.addr).isSome = true := by rw [hr]; rfl
  have hget : (regAt x.addr).get hsome = r := by simp [hr]
  exact Laws.clears_row he hf hsome (by rw [hget]; exact hlock) (by rw [hget]; exact hwo) hacts hkept hhpa hhif hone hlast hecc

/-- The rows that clear a counter, in the order of `clears`. -/
def clearInstrs : List Instr :=
  [.tikClrHold, .tikClrSkip, .tikClrEmit, .tikClrWork, .tikClrGather, .spqClrUe, .spqClrCe, .fwdClrKp, .fwdClrStale, .fwdClrLimit,
   .cipClrRetry, .cipClrRefuse, .cipClrReplay, .cipClrAuth, .keyClrUnwrap, .audClrPart, .audClrSat, .audClrClip, .brsClrFault, .vidClrBound,
   .vidClrDrop, .vidClrMin, .vidClrDmg, .cnvClrUe, .cnvClrOmit, .cnvClrFlip, .ptpClrRxdrop, .ptpClrLaunch, .ptpClrTslost, .mshClrCredit,
   .mshClrMedia, .mshClrLate, .mshClrDrop, .mshClrUnit, .memClrPoison, .calClrWide, .calClrHeld]

/-- Each row writes its own clear bit. -/
theorem exec_clearInstrs (s : State) : ∀ p ∈ clearInstrs.zip clears, exec p.1 s = act (clearWrite · p.2.1) s :=
  List.map_inj_left.1 (rfl : (clearInstrs.zip clears).map (fun p => exec p.1 s) = (clearInstrs.zip clears).map (fun p => act (clearWrite · p.2.1) s))

theorem clears_clearsOnly : ∀ p ∈ clearInstrs.zip clears, clearsOnly p.2.1 p.2.2 = true := by decide +kernel

theorem clearInstrs_clear {p : Instr × Field × Field} (hp : p ∈ clearInstrs.zip clears) : Laws.Clears p.1 p.2.2 :=
  clears_of_clearsOnly (fun s => exec_clearInstrs s p hp) (clears_clearsOnly p hp)

/-! ## TIK_CLR_LAST and ECC_CLR -/

/-- A write to a register of WO fields in which no clear bit of a counter is written. -/
theorem clearBits_none {s : State} {a : Nat} {d : Word}
    (h : clears.filter (fun c => decide (c.1.addr = a ∧ bitsOf d c.1.hi c.1.lo = 1)) = []) :
    clearBits s a d =
      let s := if a = TIK_CLR_LAST.addr ∧ bitsOf d TIK_CLR_LAST.hi TIK_CLR_LAST.lo = 1 then ovrLastClear s else s
      if a = ECC_CLR.addr then (List.range 11).foldl (fun s t => if d.getLsbD t then eccClear s t else s) s else s := by
  unfold clearBits
  rw [Laws.fold_if, h]
  rfl

theorem tikClrLast_write {s : State} (h1 : 2 ≤ mode s) (h2 : mode s ≤ 6) :
    clearWrite s TIK_CLR_LAST = ovrLastClear (setReg s TIK_CLR_LAST.addr (reg s TIK_CLR_LAST.addr)) := by
  obtain ⟨r, hr, hlock, hwo⟩ := regAt_of_woReg (show woReg TIK_CLR_LAST.addr = true by decide +kernel)
  rw [clearWrite, Laws.regWrite_wo (Laws.answers_on h1 h2) hr hlock hwo (Laws.keptBits_none (by decide) (by decide) (by decide)), Laws.regActs_clear (by decide) (by decide) (by decide),
    clearBits_none (by decide +kernel)]
  rfl

theorem tikClrLast_clears (s : State) (h1 : 2 ≤ mode s) (h2 : mode s ≤ 6) : ∃ t, exec .tikClrLast s = .next t ∧ t.easel.ovrLast = 0 ∧
    (∀ g : Field, fld t g = fld s g) ∧ { t with regs := s.regs, out := s.out, easel := { t.easel with ovrLast := s.easel.ovrLast } } = s := by
  refine ⟨_, Laws.act_keep (k := (clearWrite · TIK_CLR_LAST)) (tikClrLast_write (s := fresh s) h1 h2), rfl, fun g => ?_, rfl⟩
  exact Laws.fld_setReg_same (fresh s) TIK_CLR_LAST.addr g

/-- The bits of ECC_CLR up to 10 that one written bit sets: its own target, or none. -/
theorem one_target (k : BitVec 4) : (List.range 11).filter (fun t => decide ((BitVec.ofNat 32 (2 ^ k.toNat)).getLsbD t = true)) =
    if k.toNat ≤ 10 then [k.toNat] else [] := by
  revert k
  decide

theorem eccClr_write {s : State} (k : BitVec 4) (h1 : 2 ≤ mode s) (h2 : mode s ≤ 6) :
    regWrite s ECC_CLR.addr (BitVec.ofNat 32 (2 ^ k.toNat)) = eccClear (setReg s ECC_CLR.addr (reg s ECC_CLR.addr)) k.toNat := by
  obtain ⟨r, hr, hlock, hwo⟩ := regAt_of_woReg (show woReg ECC_CLR.addr = true by decide +kernel)
  have hfilter : clears.filter (fun c => decide (c.1.addr = ECC_CLR.addr ∧ bitsOf (BitVec.ofNat 32 (2 ^ k.toNat)) c.1.hi c.1.lo = 1)) = [] := by
    rw [List.filter_eq_nil_iff]
    have hne : ∀ c ∈ clears, c.1.addr ≠ ECC_CLR.addr := by decide +kernel
    intro c hc
    simp [hne c hc]
  rw [Laws.regWrite_wo (Laws.answers_on h1 h2) hr hlock hwo (Laws.keptBits_none (by decide) (by decide) (by decide)), Laws.regActs_clear (by decide) (by decide) (by decide),
    clearBits_none hfilter]
  simp only [if_true]
  rw [if_neg (show ¬(ECC_CLR.addr = TIK_CLR_LAST.addr ∧ _) from fun h => absurd h.1 (by decide)), Laws.fold_if, one_target]
  by_cases hk : k.toNat ≤ 10
  · rw [if_pos hk]
    rfl
  · rw [if_neg hk, eccClear, if_neg hk]
    rfl

theorem eccClr_clears (s : State) (k : BitVec 4) (h1 : 2 ≤ mode s) (h2 : mode s ≤ 6) : ∃ t, exec (.eccClr k) s = .next t ∧
    (k.toNat ≤ 10 → fld t (ECC_CE_CNT k.toNat) = 0 ∧ fld t (ECC_UE_CNT k.toNat) = 0 ∧ fld t (ECC_ADDR_CNT k.toNat) = 0 ∧
      fld t (ECC_BUCKET k.toNat) = 0) ∧
    (∀ g : Field, (k.toNat ≤ 10 → g.addr ≠ (ECC_CE_CNT k.toNat).addr ∧ g.addr ≠ (ECC_UE_CNT k.toNat).addr ∧
      g.addr ≠ (ECC_ADDR_CNT k.toNat).addr ∧ g.addr ≠ (ECC_BUCKET k.toNat).addr) → fld t g = fld s g) ∧
    { t with regs := s.regs, out := s.out } = s := by
  refine ⟨_, Laws.act_keep (k := (regWrite · ECC_CLR.addr (BitVec.ofNat 32 (2 ^ k.toNat)))) (eccClr_write (s := fresh s) k h1 h2), fun hk => ?_, fun g hg => ?_, ?_⟩
  · exact Laws.ecc_fld _ _ hk
  · rw [Laws.keepQueue_fld, Laws.ecc_fld_ne _ _ g hg]
    exact Laws.fld_setReg_same (fresh s) ECC_CLR.addr g
  · rw [Laws.keepQueue_keep, Laws.ecc_keep]
    rfl

/-- Settles O52: each row writes its clear bit to a register of WO fields, and the clear bit's own counter is all that changes. -/
theorem counterClearsComplete : Obligations.CounterClearsComplete := by
  refine ⟨fun p hp => ?_, tikClrLast_clears, eccClr_clears⟩
  obtain ⟨q, hq, rfl⟩ := List.mem_map.1 (show p ∈ (clearInstrs.zip clears).map (fun q => (q.1, q.2.2)) from hp)
  exact clearInstrs_clear hq

/-! ## Reads that latch -/

theorem mode_setReg_ne (s : State) {a : Nat} (w : Word) (h : SYS_MODE.addr ≠ a) : mode (setReg s a w) = mode s := by
  simp only [mode, fld, Laws.reg_setReg_ne s w h]

/-- The copies that a read of `a` takes. -/
def latchAll (s : State) (a : Nat) : State := (latched s a).foldl (fun s p => setReg s p.1 (BitVec.ofNat 32 p.2)) s

/-- No copy lies in the register of the mode. -/
theorem latched_ne_mode (s : State) (a : Nat) : ∀ p ∈ latched s a, SYS_MODE.addr ≠ p.1 := by
  have hmode : SYS_MODE.addr ∉ [TIK_NOW_HI.addr, TIK_SEG.addr, TIK_OVR_LAST_HI.addr, PTP_TIME_SL.addr, PTP_TIME_SH.addr,
    PTP_SLEEP_CNT_HI.addr, SYS_SERIAL_HI.addr] := by decide
  simp only [List.mem_cons, not_or] at hmode
  obtain ⟨hnow, hseg, hovr, hsl, hsh, hslept, hserial, _⟩ := hmode
  unfold latched
  intro p hp
  split at hp
  · simp only [List.mem_cons, List.not_mem_nil, or_false] at hp
    rcases hp with rfl | rfl
    · exact hnow
    · exact hseg
  split at hp
  · rw [List.mem_singleton.1 hp]
    exact hovr
  split at hp
  · simp only [List.mem_cons, List.not_mem_nil, or_false] at hp
    rcases hp with rfl | rfl
    · exact hsl
    · exact hsh
  split at hp
  · rw [List.mem_singleton.1 hp]
    exact hslept
  split at hp
  · rw [List.mem_singleton.1 hp]
    exact hserial
  · exact absurd hp List.not_mem_nil

theorem mode_latchAll (s : State) (a : Nat) : mode (latchAll s a) = mode s := by
  have hfold : ∀ (l : List (Nat × Nat)) (t : State), (∀ p ∈ l, SYS_MODE.addr ≠ p.1) →
      mode (l.foldl (fun s p => setReg s p.1 (BitVec.ofNat 32 p.2)) t) = mode t := by
    intro l
    induction l with
    | nil => exact fun _ _ => rfl
    | cons p l ih =>
      intro t h
      rw [List.foldl_cons, ih _ fun q hq => h q (List.mem_cons_of_mem _ hq), mode_setReg_ne _ _ (h p List.mem_cons_self)]
  exact hfold _ _ (latched_ne_mode s a)

theorem latched_other {s : State} {a : Nat}
    (h : a ∉ [TIK_NOW_LO.addr, TIK_OVR_LAST_LO.addr, PTP_TIME_NS.addr, PTP_SLEEP_CNT_LO.addr, SYS_SERIAL_LO.addr]) : latched s a = [] := by
  simp only [List.mem_cons, not_or, List.not_mem_nil, not_false_eq_true, and_true] at h
  obtain ⟨a1, a2, a3, a4, a5⟩ := h
  simp only [latched, if_neg a1, if_neg a2, if_neg a3, if_neg a4, if_neg a5]

/-- Whether a register answers depends on the mode alone. -/
theorem answers_of_mode {s t : State} (h : mode t = mode s) (a : Nat) : answers t a = answers s a := by
  simp only [answers, h]

/-- A register that answers in the modes 1 to 6. -/
theorem answers_low {s : State} {a : Nat} (h1 : 1 ≤ mode s) (h2 : mode s ≤ 6) (ha : a < 0x200000) : answers s a = true := by
  unfold answers
  split
  · omega
  · omega
  · simp [ha]
  · rfl

/-- What a read that latches leaves and returns, from facts about its register that decide. -/
theorem latch_next {c : Instr} {s : State} {a : Nat} {w : Word} {wide : Bool} (he : exec c s = act (latchRead · a wide) s)
    (h1 : answers s a = true) (h2 : answers s (a + 4) = true) (h3 : liveReg (fresh s) a = some w)
    (h4 : (regAt a).isSome = true ∧ (regAt (a + 4)).isSome = true)
    (h5 : a + 4 ∉ [TIK_NOW_LO.addr, TIK_OVR_LAST_LO.addr, PTP_TIME_NS.addr, PTP_SLEEP_CNT_LO.addr, SYS_SERIAL_LO.addr]) :
    ∃ t, exec c s = .next t ∧ (∀ b, reg t b = reg (latchAll (fresh s) a) b) ∧
      t.hif.rdata = (if wide then regRead t (a + 4) else 0) ++ w := by
  obtain ⟨h4, h6⟩ := h4
  refine ⟨keepQueue s (setRdata (latchAll (fresh s) a) ((if wide then regRead (latchAll (fresh s) a) (a + 4) else 0) ++ w)), ?_, fun _ => rfl, rfl⟩
  rw [he]
  exact Laws.act_keep (k := (latchRead · a wide)) (Laws.latch_run h1 h4 (Laws.read_live h1 h4 h3) rfl rfl
    ((answers_of_mode (mode_latchAll (fresh s) a) _).trans h2) h6 (latched_other h5))

/-- Settles O53, each read by the copies it takes and the live word it returns. -/
theorem latchingReadsComplete : Obligations.LatchingReadsComplete := by
  refine ⟨?_, ?_, ?_, ?_, ?_⟩
  · intro s wide h1 h2
    obtain ⟨t, ht, hreg, hdata⟩ := latch_next (c := .tikNowLo wide) rfl (Laws.answers_on h1 h2) (Laws.answers_on h1 h2) (Laws.liveNow (fresh s))
      (by decide +kernel) (by decide)
    have hl : latchAll (fresh s) TIK_NOW_LO.addr =
        setReg (setReg (fresh s) TIK_NOW_HI.addr (BitVec.ofNat 32 (curTick s / 2 ^ 32))) TIK_SEG.addr (BitVec.ofNat 32 (tikPos s)) := rfl
    exact ⟨t, ht, by rw [hreg, hl, Laws.reg_setReg_ne _ _ (by decide), Laws.reg_setReg_self], by rw [hreg, hl, Laws.reg_setReg_self], hdata⟩
  · intro s wide h1 h2
    obtain ⟨t, ht, hreg, hdata⟩ := latch_next (c := .tikOvrLastLo wide) rfl (Laws.answers_on h1 h2) (Laws.answers_on h1 h2)
      (Laws.liveOvr (fresh s)) (by decide +kernel) (by decide)
    have hl : latchAll (fresh s) TIK_OVR_LAST_LO.addr =
        setReg (fresh s) TIK_OVR_LAST_HI.addr (BitVec.ofNat 32 (s.easel.ovrLast.toNat / 2 ^ 32)) := rfl
    exact ⟨t, ht, by rw [hreg, hl, Laws.reg_setReg_self], hdata⟩
  · intro s wide h1 h2
    obtain ⟨t, ht, hreg, hdata⟩ := latch_next (c := .ptpTimeNs wide) rfl (Laws.answers_on h1 h2) (Laws.answers_on h1 h2)
      (Laws.liveNs (fresh s)) (by decide +kernel) (by decide)
    have hl : latchAll (fresh s) PTP_TIME_NS.addr =
        setReg (setReg (fresh s) PTP_TIME_SL.addr (BitVec.ofNat 32 (ns s / 1000000000))) PTP_TIME_SH.addr
          (BitVec.ofNat 32 (ns s / 1000000000 / 2 ^ 32 % 2 ^ 16)) := rfl
    exact ⟨t, ht, by rw [hreg, hl, Laws.reg_setReg_ne _ _ (by decide), Laws.reg_setReg_self], by rw [hreg, hl, Laws.reg_setReg_self], hdata⟩
  · intro s wide h1 h2
    obtain ⟨t, ht, hreg, hdata⟩ := latch_next (c := .ptpSleepCntLo wide) rfl (Laws.answers_on h1 h2) (Laws.answers_on h1 h2)
      (Laws.liveSleep (fresh s)) (by decide +kernel) (by decide)
    have hl : latchAll (fresh s) PTP_SLEEP_CNT_LO.addr =
        setReg (fresh s) PTP_SLEEP_CNT_HI.addr (BitVec.ofNat 32 (s.pwr.sleepC / 2 ^ 32)) := rfl
    exact ⟨t, ht, by rw [hreg, hl, Laws.reg_setReg_self], hdata⟩
  · intro s wide h1 h2
    obtain ⟨t, ht, hreg, hdata⟩ := latch_next (c := .sysSerialLo wide) rfl (answers_low h1 h2 (by decide)) (answers_low h1 h2 (by decide))
      (Laws.liveSer (fresh s)) (by decide +kernel) (by decide)
    have hl : latchAll (fresh s) SYS_SERIAL_LO.addr =
        setReg (fresh s) SYS_SERIAL_HI.addr (BitVec.ofNat 32 (Config.serial.toNat / 2 ^ 32)) := rfl
    exact ⟨t, ht, by rw [hreg, hl, Laws.reg_setReg_self], hdata⟩

/-! ## Accesses by the bus -/

theorem busAccess_word {s : State} {acc : BusAcc} (hz : acc.size = 4) (ho : acc.offset.toNat % 4 = 0) :
    busAccess s acc =
      let r := busOne s acc.path acc.rd acc.offset.toNat (acc.data.setWidth 32)
      if acc.rd then setRdata r.1 (r.2.setWidth 64) else r.1 := by
  rw [busAccess, if_pos ⟨hz, ho⟩]

theorem busAccess_wide {s : State} {acc : BusAcc} (hz : acc.size = 8) (ho : acc.offset.toNat % 8 = 0) :
    busAccess s acc =
      let r := busOne s acc.path acc.rd acc.offset.toNat (acc.data.setWidth 32)
      let q := busOne r.1 acc.path acc.rd (acc.offset.toNat + 4) ((acc.data >>> 32).setWidth 32)
      if acc.rd then setRdata q.1 (q.2 ++ r.2) else q.1 := by
  rw [busAccess, if_neg (fun h => absurd (hz.symm.trans h.1) (by decide)), if_pos ⟨hz, ho⟩]

/-- A row of an access is `busAccess` on the fresh state. -/
theorem registerWrite_next {s t : State} {acc : BusAcc} (h : busAccess (fresh s) acc = t) : exec (.registerWrite acc) s = .next (keepQueue s t) :=
  Laws.act_keep (k := (busAccess · acc)) h

theorem regWrite_silent {s : State} (a : Nat) (d : Word) (h : answers s a = false) : regWrite s a d = s := by
  rw [regWrite, h]
  rfl

theorem answers_dark {s : State} (a : Nat) (h : mode s = 0 ∨ mode s = 7) : answers s a = false := by
  rcases h with h | h
  all_goals
    rw [answers, h]
    rfl

/-! ## The JTAG port -/

theorem jtagEdge_jtag {s : State} (tms tdi : Bool) (h : ctlOn s = true) :
    (jtagEdge s tms tdi false).jtag = tapFall { (tapAct s tdi).jtag with st := (tapAct s tdi).jtag.st.next tms } := by
  rw [jtagEdge, h]
  simp only [Bool.not_true, Bool.false_eq_true, if_false]
  split <;> rfl

theorem capture_idcode {s : State} (tdi : Bool) (hst : s.jtag.st = .capDr) (hir : s.jtag.ir = .idcode) :
    (tapAct s tdi).jtag = { s.jtag with sh := (List.range 32).map (fun i => idCode.getLsbD i) } := by
  simp only [tapAct, hst, tapCapture, hir, setJtag]

/-- Five edges with TMS high bring the controller to Test-Logic-Reset from every state. -/
theorem five_edges (st : TapState) : ((((st.next true).next true).next true).next true).next true = .reset := by
  cases st <;> rfl

/-! ## Releases of held pads -/

theorem padRel_write {s : State} {d : Word} (h1 : 3 ≤ mode s) (h2 : mode s ≤ 6) :
    regWrite s PAD_REL_TIME.addr d =
      setPwr (setReg s PAD_REL_TIME.addr (reg s PAD_REL_TIME.addr)) { s.pwr with rel := s.pwr.rel ||| d.toNat % 4 } := by
  obtain ⟨r, hr, hlock, hwo⟩ := regAt_of_woReg (show woReg PAD_REL_TIME.addr = true by decide +kernel)
  have hm : mode (setReg s PAD_REL_TIME.addr (reg s PAD_REL_TIME.addr)) = mode s := Laws.fld_setReg_same s _ _
  rw [Laws.regWrite_wo (Laws.answers_on (by omega) h2) hr hlock hwo (Laws.keptBits_none (by decide) (by decide) (by decide)), regActs,
    if_neg (by decide), if_neg (by decide), if_neg (by decide), if_neg (by decide), if_neg (by decide), if_neg (by decide), if_pos rfl,
    padRelease, hm, if_pos ⟨h1, h2⟩]
  rfl

/-- A release of held pads leaves every field as it was. -/
theorem padRel_next {c : Instr} {s : State} {n : Nat} (d : Word) (he : exec c s = act (regWrite · PAD_REL_TIME.addr d) s) (hd : d.toNat % 4 = n)
    (h1 : 3 ≤ mode s) (h2 : mode s ≤ 6) : ∃ t, exec c s = .next t ∧ t.pwr.rel = s.pwr.rel ||| n ∧ (∀ g : Field, fld t g = fld s g) := by
  subst hd
  rw [he]
  exact ⟨_, Laws.act_keep (k := (regWrite · PAD_REL_TIME.addr d)) (padRel_write (s := fresh s) h1 h2), rfl,
    fun g => Laws.fld_setReg_same (fresh s) PAD_REL_TIME.addr g⟩

/-- Settles O54, each access by its path and its width. -/
theorem registerWritesComplete : Obligations.RegisterWritesComplete := by
  refine ⟨?_, ?_, ?_, five_edges, ?_, ?_, ?_, ?_, ?_, ?_, ?_, ?_, ?_, ?_⟩
  · intro s o d ho
    exact registerWrite_next ((busAccess_word rfl ho).trans rfl)
  · intro s o d ho
    exact registerWrite_next ((busAccess_word rfl ho).trans rfl)
  · intro s tdi hctl hst hir
    have hj := jtagEdge_jtag (s := s) false tdi hctl
    rw [capture_idcode tdi hst hir] at hj
    rw [hj, hst]
    refine ⟨rfl, fun i hi => ?_⟩
    show ((List.range 32).map (fun i => idCode.getLsbD i)).getD i false = _
    simp [List.getD_eq_getElem?_getD, hi, idCode]
  · intro s o d ho
    exact registerWrite_next ((busAccess_word rfl ho).trans rfl)
  · intro s o d ho
    exact registerWrite_next ((busAccess_wide rfl ho).trans rfl)
  · intro s f o d ho
    exact registerWrite_next ((busAccess_word rfl ho).trans rfl)
  · intro s o d ho
    exact registerWrite_next ((busAccess_word rfl ho).trans rfl)
  · intro s o z d h4 h8 h1 h2
    refine registerWrite_next ?_
    rw [busAccess, if_neg h4, if_neg h8]
    exact if_pos (Laws.answers_on h1 h2)
  · intro s o d ho hm
    exact registerWrite_next ((busAccess_word rfl ho).trans (regWrite_silent _ _ (answers_dark (s := fresh s) _ hm)))
  · intro s v h1 h2
    exact Laws.act_keep (if_pos (Laws.answers_on h1 h2))
  · intro s en
    rfl
  · intro s h1 h2
    exact padRel_next 1 rfl rfl h1 h2
  · intro s h1 h2
    exact padRel_next 2 rfl rfl h1 h2

end Sys2Proof.Machine

/-!
The events of the tick (R22 to R43): each, when it is due, carries out its part.
-/
namespace Sys2Proof.Machine

/-! ## The phases of a tick when nothing of them is due -/

theorem gatherEnd_idle {s : State} (h : s.easel.gather = false) : gatherEnd s = s := by
  rw [gatherEnd, h]
  rfl

theorem workEnd_idle {s : State} (h : s.easel.work = false) : workEnd s = s := by
  rw [workEnd, h]
  rfl

theorem emitEnd_idle {s : State} (h : s.easel.emit = none) : emitEnd s = s := by
  rw [emitEnd, h]

theorem workOpen_idle {s : State} (h : s.easel.worked = true) : workOpen s = s := by
  rw [workOpen, if_pos (by simp [h])]

theorem emitOpen_idle {s : State} (h : s.easel.issued = true → s.easel.emitted = true) : emitOpen s = s := by
  rw [emitOpen, if_pos]
  cases hi : s.easel.issued with
  | false => rfl
  | true => rw [h hi]; rfl

theorem stepDue_none {s : State} (h : s.ptp.staged = none) : stepDue s = none := by
  rw [stepDue, h]
  rfl

/-- A boundary with no step, no adoption and no change of the source leaves the time line. -/
theorem boundaryMoves_idle {s : State} (h1 : s.ptp.staged = none) (h2 : s.msh.adopt = none) (h3 : s.easel.follow = true → fld s TIK_SRC ≠ 0) :
    boundaryMoves s = s := by
  have hstep : boundaryStep s = s := by
    rw [boundaryStep, stepDue_none h1]
    rfl
  have hsrc : ¬((s.easel.follow && decide (fld s TIK_SRC = 0)) = true) := by
    simp only [Bool.and_eq_true, decide_eq_true_eq]
    exact fun h => h3 h.1 h.2
  rw [boundaryMoves, hstep, adoptApply, h2]
  exact (congrArg (ite _ s) (if_neg hsrc)).trans (ite_self s)

theorem tickStopped_none {e : Easel} (h : e.stopAt = none) : tickStopped e = false := by
  rw [tickStopped, h]
  rfl

/-- A running Easel with nothing staged for its boundary starts the tick. -/
theorem tickStart_run {s : State} (errs : List (BitVec 16 × BitVec 16 × Bool)) (slow : List (BitVec 16)) (hits : List EccHit) (fw : List FwData)
    (hrun : s.easel.running = true) (hstop : s.easel.stopAt = none) (hemit : s.easel.issued = true → s.easel.emitted = true)
    (hstaged : s.ptp.staged = none) (hadopt : s.msh.adopt = none) (hsrc : s.easel.follow = true → fld s TIK_SRC ≠ 0) :
    tickStart errs slow hits fw s =
      (let t := padsRelease (stallCount (nextTick (tsDrain (advanceTo s s.easel.due))))
       let t := skipWork (modeCount (agendaStart t (curTick t)))
       let t := t.net.bound.foldl (releaseStream errs slow) t
       let t := vidInject (quietAll (routesApply { t with easel := { t.easel with skipped := [] } }))
       let t := groupsWake (if t.pwr.fwStop then t else encStartAll t)
       fw.foldl fwData (eccHits t hits)) := by
  have hgo : ¬ tickStopped s.easel = true := by simp [tickStopped_none hstop]
  have hbound : boundaryMoves (emitOpen s) = s := by rw [emitOpen_idle hemit, boundaryMoves_idle hstaged hadopt hsrc]
  rw [tickStart, if_neg (by simp [hrun, tickStopped_none hstop]), hbound]
  refine (if_neg hgo).trans ?_
  with_reducible rfl

/-- EMIT opens with WORK over and no EMIT before it open. -/
theorem emitOpen_run {s : State} (hissued : s.easel.issued = true) (hemitted : s.easel.emitted = false) (hworked : s.easel.worked = true)
    (hwork : s.easel.work = false) (hemit : s.easel.emit = none) :
    emitOpen s =
      (let t := advanceTo s (s.easel.start + 708333)
       let n := curTick t
       let t := { t with easel := { t.easel with
         emit := some n, emitted := true, emitEndCyc := none } }
       let t := t.adm.legs.foldl (fun u p => emitLeg u (s.easel.start + 708333) p.1) t
       let t := kpSendAll t t.fwd.kps
       let t := partialSend (relaySr t t.fwd.srs) n
       t.net.hpa.foldl (fun u p => if bit u (NET_HPA_EN p.1) && fld u (NET_HPA_STATE p.1) ≠ 3 then hostFrames u p.1 else u) t) := by
  rw [emitOpen, if_neg (by simp [hissued, hemitted]), workOpen_idle hworked, emitEnd_idle hemit, workEnd_idle hwork]

/-- With nothing staged the next tick is the one the Easel holds. -/
theorem nextStart_idle {s : State} (h1 : s.ptp.staged = none) (h2 : s.msh.adopt = none) (h3 : s.easel.follow = true → fld s TIK_SRC ≠ 0) :
    nextStart s = (s.easel, s.easel.due) := by
  rw [nextStart, boundaryMoves_idle h1 h2 h3, stepDue_none h1]
  rfl

/-- A staged step moves the time line at its boundary. -/
theorem stepApply_some {s : State} {p : PtpStep} (hp : s.ptp.staged = some p) :
    stepApply s =
      (let t := tsFlush (advanceTo s (stepAt s p))
       let v := p.abs.getD (stepAt s p + p.off).toNat
       let d : Int := (v : Int) - stepAt s p
       let t := { t with
         clk := { t.clk with t := match p.abs with
                                  | some a => a * 2 ^ 48
                                  | none => (t.clk.t + d * 2 ^ 48).toNat }
         ptp := ppsStepped t.ptp v }
       let t := shiftEasel (shiftEgress (stepEvt t p.servo p.epoch d (lastTick s)) d) d
       easelStep (tsEntry t 3 (fld t PTP_EPOCH) 0 0 v) (stepAt s p) v) := by
  unfold stepApply
  split
  · next h => exact absurd (h.symm.trans hp) (by simp)
  · next q hq =>
    obtain rfl := Option.some.inj (hq.symm.trans hp)
    rfl

/-- A pulse that is selected and has not come yet. -/
theorem outPulse_run {s : State} {n start : Nat} (t : Nat) (h1 : s.easel.outDone ≤ n) (h2 : s.easel.outFirst ≤ start)
    (h3 : outSelects s n = true) :
    outPulse s n start t =
      (let u := advanceTo s t
       let u := { u with easel := { u.easel with outDone := n + 1 } }
       let w := outWidth u n
       if fld u PAD_ST_TIME = 2 then emitOut { u with easel := { u.easel with outFall := some (localNs u + w) } } (.tickOut n w) else u) := by
  rw [outPulse, if_neg]
  simp only [h3, Nat.not_lt.mpr h1, Nat.not_lt.mpr h2]
  decide

/-- The pulse of the next tick, when that of the tick in progress has come. -/
theorem tickOutPulse_next {s : State} (hen : bit s TIK_OUT_EN = true) (hrun : s.easel.running = true) (hhold : s.easel.holding = false)
    (hstop : s.easel.stopAt = none) (hdone : s.easel.now < s.easel.outDone) (hstaged : s.ptp.staged = none)
    (hadopt : s.msh.adopt = none) (hsrc : s.easel.follow = true → fld s TIK_SRC ≠ 0) :
    tickOutPulse s = outPulse s s.easel.next s.easel.due (s.easel.due - fld s TIK_OUT_ADV) := by
  have hidle : (!bit s TIK_OUT_EN || !s.easel.running || (s.easel.holding && decide (fld s TIK_OUT_ADV ≠ 0))) = false := by
    rw [hen, hrun, hhold]; rfl
  simp only [tickOutPulse, hidle, nextStart_idle hstaged hadopt hsrc, tickStopped_none hstop, stepDue_none hstaged, Nat.not_le.mpr hdone]
  simp

/-- Settles O39, each event on the fresh state by what its part of the tick finds. -/
theorem tickEventsComplete : Obligations.TickEventsComplete := by
  refine ⟨?_, ?_, ?_, ?_, ?_, ?_, ?_, ?_, ?_⟩
  · intro s errs slow hits fw hrun hstop hemit hstaged hadopt hsrc
    refine Laws.act_keep (k := tickStart errs slow hits fw) ?_
    rw [tickStart_run (s := fresh s) errs slow hits fw hrun hstop hemit hstaged hadopt hsrc, fresh_easel]
  · intro s hissued hworked hgather
    refine Laws.act_keep (k := workOpen) ?_
    have hcur : ∀ t : State, curTick { t with easel := { t.easel with work := true, worked := true } } = curTick t := fun _ => rfl
    rw [workOpen, if_neg (by simp [hissued, hworked]), gatherEnd_idle (s := fresh s) hgather, fresh_easel]
    simp only [hcur]
  · intro s hissued hemitted hworked hwork hemit
    refine Laws.act_keep (k := emitOpen) ?_
    rw [emitOpen_run (s := fresh s) hissued hemitted hworked hwork hemit, fresh_easel]
  · intro s hgather
    refine Laws.act_keep (t := _) (k := gatherEnd) ?_
    rw [gatherEnd, if_neg (by simp [hgather]), fresh_easel]
  · intro s hwork
    refine Laws.act_keep (k := workEnd) ?_
    rw [workEnd, if_neg (by simp [hwork]), fresh_easel]
  · intro s n hemit hshut
    refine Laws.act_keep (k := emitEnd) ?_
    rw [emitEnd, show (fresh s).easel.emit = some n from hemit]
  · intro s hrun hissued hlatched
    have hgo : ¬(!s.easel.running || !s.easel.issued || s.easel.latched) = true := by simp [hrun, hissued, hlatched]
    show execLatchPoint s = _
    exact Laws.act_keep (if_neg hgo)
  · intro s p hp
    refine Laws.act_keep (k := stepApply) ?_
    have hat : stepAt (fresh s) p = stepAt s p := rfl
    have hrun := stepApply_some (s := fresh s) hp
    rw [lastTick_fresh, hat] at hrun
    exact hrun
  · intro s hen hrun hhold hstop hissued hdone hstaged hadopt hsrc hnext hfirst hsel
    exact Laws.act_keep (k := tickOutPulse)
      ((tickOutPulse_next (s := fresh s) hen hrun hhold hstop hdone hstaged hadopt hsrc).trans (outPulse_run _ hnext hfirst hsel))
end Sys2Proof.Machine

/-!
The events of the network (R119 to R145, R507): each with the effect of its rules.
-/
namespace Sys2Proof.Machine

theorem advanceTo_mem (s : State) (t : Nat) : (advanceTo s t).mem = s.mem := by
  rw [advanceTo]
  split <;> rfl

theorem eccBad_congr {s t : State} (h : s.mem = t.mem) (es : List EccHit) (ts : List Nat) : eccBad s es ts = eccBad t es ts := by
  have hf : foundAs s = foundAs t := funext fun e => by
    rw [foundAs, foundAs, poisoned, poisoned, h]
  rw [eccBad, eccBad, hf]

theorem startAt_fresh (s : State) : startAt (fresh s) = startAt s := rfl

/-- What a control packet is sealed to does not depend on what was sent out before. -/
theorem txSrtcp_bytes_fresh (s : State) (hd : Nat) (pkt : List Byte) : (txSrtcp (fresh s) hd pkt).2 = (txSrtcp s hd pkt).2 := by
  have hkeys : ∀ x, slotKeys (fresh s) x = slotKeys s x := fun _ => rfl
  simp only [txSrtcp, fresh_cip, hkeys]
  cases tget s.cip.tx hd with
  | none => rfl
  | some d =>
    cases hslot : d.slot with
    | none => simp only [hslot]
    | some n =>
      simp only [hslot]
      split
      · rfl
      · cases slotKeys s (some n) <;> rfl

theorem protectFrame_bytes_fresh (s : State) (hd : Nat) (f : List Byte) : (protectFrame (fresh s) hd f).2 = (protectFrame s hd f).2 := by
  have hbytes := txSrtcp_bytes_fresh s hd
    (sl f ((parseIp (parseEth f).etype f (parseEth f).off).pay + 8) (be f ((parseIp (parseEth f).etype f (parseEth f).off).pay + 4) 2 - 8))
  simp only [protectFrame]
  split
  · rfl
  · rcases hx : txSrtcp (fresh s) hd _ with ⟨a, x⟩
    rcases hy : txSrtcp s hd _ with ⟨b, y⟩
    rw [hx, hy] at hbytes
    simp only at hbytes
    subst hbytes
    cases x <;> rfl

theorem frameOut_bytes_fresh (s : State) (e : Egr) : (frameOut (fresh s) e).2 = (frameOut s e).2 := by
  simp only [frameOut]
  cases e.prot with
  | none => rfl
  | some hd => exact protectFrame_bytes_fresh s hd e.bytes

theorem frameTime_fresh (s : State) : frameTime (fresh s) = frameTime s := by
  funext e
  rw [frameTime, frameTime, frameOut_bytes_fresh]
  rfl

theorem nextFrame_fresh (s : State) : nextFrame (fresh s) = nextFrame s := by
  funext p u
  simp only [nextFrame, startAt_fresh, fresh_net, frameTime_fresh]
  rfl

/-- Settles O40, each event on the fresh state by the checks its clause passes. -/
theorem networkEventsComplete : Obligations.NetworkEventsComplete := by
  refine ⟨?_, ?_, ?_, ?_, ?_, ?_, ?_⟩
  · intro s p u fcs frame hup hroom
    show execFrameReceive p u fcs frame s = _
    have hlink : ¬(!linkUp (fresh s) p.toNat u.toNat) = true := by simp [show linkUp (fresh s) p.toNat u.toNat = true from hup]
    refine Laws.act_keep (((if_neg hlink).trans (if_neg (Nat.not_le.mpr hroom))).trans ?_)
    simp only [Bool.or_eq_true, Bool.not_eq_true', decide_eq_true_eq]
    rfl
  · intro s hd i b hb
    show execLateRunReached hd i s = _
    refine Laws.act_keep (t := setBound (fresh s) hd.toNat (lateRunClear b i.toNat)) ?_
    simp only [fresh_net, hb]
  · intro s p u hup
    show execLinkDown p u s = _
    have hlink : ¬(!linkUp (fresh s) p.toNat u.toNat) = true := by simp [show linkUp (fresh s) p.toNat u.toNat = true from hup]
    exact Laws.act_keep (if_neg hlink)
  · intro s p u hdown hsub hctl hdom
    show execLinkUp p u s = _
    have hgo : ¬(!ctlOn s || !domOn s 3 || (fld s (NET_LINK_UP p.toNat)).testBit u.toNat || !subportOk s p.toNat u.toNat) = true := by
      simp [hctl, hdom, hdown, hsub]
    exact Laws.act_keep (if_neg hgo)
  · intro s f ws slots hen hrun hfn hrx htx
    show execHpaControlRead f (some ws) slots s = _
    have hgo : ¬(!bit s (NET_HPA_EN f.toNat) || fld s (NET_HPA_STATE f.toNat) = 3 || fld s (HIF_FN_STATE f.toNat) ≠ 1) = true := by
      simp [hen, hrun, hfn]
    exact Laws.act_keep ((if_neg hgo).trans ((if_neg (by simp; exact hrx)).trans (if_neg (by simp; exact htx))))
  · intro s f slots hen hrun hfn
    show execHpaControlRead f none slots s = _
    have hgo : ¬(!bit s (NET_HPA_EN f.toNat) || fld s (NET_HPA_STATE f.toNat) = 3 || fld s (HIF_FN_STATE f.toNat) ≠ 1) = true := by
      simp [hen, hrun, hfn]
    exact Laws.act_keep (if_neg hgo)
  · intro s t p u e b hnext hin hup hout hecc
    show execPacketLaunch p u s = _
    have hbad : eccBad (advanceTo (fresh s) (cdiv (launchPs s e) 1000)) u.hits [4] = false :=
      (eccBad_congr (advanceTo_mem (fresh s) _) _ _).trans hecc
    have hgo : ¬(¬linkUp s e.port e.sub = true ∨ (if e.kind = 4 then (e.launch + 2000) * 1000 ≤ launchPs s e
        else emitShut (advanceTo (fresh s) (cdiv (launchPs s e) 1000)) = true)) := by
      rintro (h | h)
      · exact h hup
      · by_cases hk : e.kind = 4
        · rw [if_pos hk] at h hin
          omega
        · rw [if_neg hk] at h hin
          exact absurd h (by simp [hin])
    refine Laws.act_keep ?_
    rw [nextFrame_fresh, hnext]
    refine (if_neg hgo).trans ?_
    simp only [show launchPs (fresh s) e = launchPs s e from rfl, hout, hbad, Bool.false_eq_true, if_false]
    rfl
end Sys2Proof.Machine

/-!
The events of forwarding, key pictures, ciphers and the entropy source (R164 to R205).
-/
namespace Sys2Proof.Machine

/-- Settles O41, each event on the fresh state by the conditions of its clause. -/
theorem forwardingCipherEventsComplete : Obligations.ForwardingCipherEventsComplete := by
  refine ⟨?_, ?_, ?_, ?_, ?_, ?_, ?_, ?_⟩
  · intro s leg hlive hturn hupd hfw
    show execEstUpdate leg s = _
    have hgo : ¬((fresh s).pwr.fwStop = true ∨ (liveProf (fresh s) leg.toNat).isNone = true ∨ curTick (fresh s) % 24 ≠ leg.toNat % 24 ∨
        (estOf (fresh s) leg.toNat).updAt = some (curTick (fresh s))) := by
      simp [hfw, hturn, hupd, Option.isSome_iff_ne_none.mp (show (liveProf (fresh s) leg.toNat).isSome = true from hlive)]
    exact Laws.act_keep (if_neg hgo)
  · intro s id x hx hhold hfw
    show execUpHoldReached id s = _
    refine Laws.act_keep ?_
    simp only [fresh_fwd, hx]
    exact if_pos ⟨by simp [hfw], hhold⟩
  · intro s id x t hx hup ht hlive
    show execKpWaitExpiry id s = _
    refine Laws.act_keep ?_
    simp only [fresh_fwd, hx]
    exact if_pos ⟨by rw [hup]; exact decide_eq_true ht, hlive⟩
  · intro s hd i r t hr hsent ht
    show execKpGapEnd hd i s = _
    have hend : ¬(r.sentAt.map (fun t => decide (curTick s < t + fld s FWD_KP_GAP))).getD true = true := by
      rw [hsent]
      simpa using ht
    refine Laws.act_keep ?_
    simp only [fresh_fwd, hr]
    exact if_neg hend
  · intro s hd d o e hd' hold he
    show execRxOverlapEnd hd s = _
    refine Laws.act_keep ?_
    simp only [fresh_cip, hd']
    exact if_pos (by rw [hold]; exact decide_eq_true he)
  · intro s hctl
    show execEntropyHealthFail s = _
    exact Laws.act_keep (if_neg (show ¬(!ctlOn s) = true by simp [hctl]))
  · intro s hctl hfail
    show execReseed true s = _
    exact Laws.act_keep ((if_pos hctl).trans (if_pos hfail))
  · intro s hctl hfail
    show execReseed true s = _
    exact Laws.act_keep ((if_pos hctl).trans (if_neg (by simp [hfail])))
end Sys2Proof.Machine

/-!
The events of the audio unit (R38, R216 to R239): each with the effect of its rules.
-/
namespace Sys2Proof.Machine

theorem swapPair_fresh (s : State) : swapPair (fresh s) = swapPair s := rfl

/-- Settles O42, each event on the fresh state by the conditions of its clause. -/
theorem audioEventsComplete : Obligations.AudioEventsComplete := by
  refine ⟨?_, ?_, ?_, ?_, ?_, ?_, ?_, ?_, ?_⟩
  · intro s hd pcm ns hits hmod hwork hmix hquiet hpend hdec
    show execAudioDecode hd pcm ns hits s = _
    have hgo : ¬(hd.toNat % 4 ≠ 0 ∨ ¬s.easel.work = true ∨ legMixed s (hd.toNat / 4) = true ∨ (audLeg s (hd.toNat / 4)).quiet = true ∨
        (audLeg s (hd.toNat / 4)).pend = [] ∨ ¬(audRec s (hd.toNat / 4)).rxDec = true) := by
      simp [hmod, hwork, hmix, hquiet, hpend, hdec]
    exact Laws.act_keep (if_neg hgo)
  · intro s late hwork
    show execMix late s = _
    exact Laws.act_keep (if_pos hwork)
  · rintro s hd pay sid hits l r rfl rfl hmod hwork hmix hsink hdue hecc
    show execAudioEncode hd pay sid hits s = _
    have hgo : ¬(hd.toNat % 4 ≠ 0 ∨ ¬s.easel.work = true ∨ ¬legMixed s (hd.toNat / 4) = true ∨
        (audLeg s (hd.toNat / 4)).sinkIn.isSome = true ∨ ¬encodeDue s (hd.toNat / 4) = true) := by
      simp [hmod, hwork, hmix, hsink, hdue]
    have hok : ¬eccBad s hits [0, 1, 10] = true := by simp [hecc]
    exact Laws.act_keep ((if_neg hgo).trans (if_neg hok))
  · intro s hd pay sid hits hmod hwork hmix hsink hdue hecc
    show execAudioEncode hd pay sid hits s = _
    have hgo : ¬(hd.toNat % 4 ≠ 0 ∨ ¬s.easel.work = true ∨ ¬legMixed s (hd.toNat / 4) = true ∨
        (audLeg s (hd.toNat / 4)).sinkIn.isSome = true ∨ ¬encodeDue s (hd.toNat / 4) = true) := by
      simp [hmod, hwork, hmix, hsink, hdue]
    exact Laws.act_keep ((if_neg hgo).trans (if_pos hecc))
  · intro s c b l w above hpair hhold
    show execActiveSpeakerSwap c b s = _
    refine Laws.act_keep ?_
    simp only [swapPair_fresh, hpair]
    exact if_pos hhold
  · rintro s c ms p rfl hnew
    show execDominantSpeakerChange c s = _
    refine Laws.act_keep ?_
    simp only [show confLegs (fresh s) = confLegs s from rfl, show audConf (fresh s) = audConf s from rfl, fld_fresh, hnew]
  · intro s c n p hp hexp hmiss
    show execPartForget c n s = _
    refine Laws.act_keep ?_
    simp only [show audConf (fresh s) = audConf s from rfl, hp]
    exact if_pos ⟨hexp, hmiss⟩
  · intro s leg l hl hquiet hrun
    show execSilHoldReached leg s = _
    refine Laws.act_keep ?_
    simp only [fresh_aud, hl]
    exact if_pos ⟨hquiet, hrun⟩
  · intro s g hgated hany
    show execGroupWake g s = _
    exact Laws.act_keep ((if_pos hany).trans (if_pos hgated))
end Sys2Proof.Machine

/-!
The events of the Brush array (R263 to R271).
-/
namespace Sys2Proof.Machine

/-- An arrival at a live task whose point has its input. -/
theorem arrive_of_input {s u : State} {k : Nat} {i : BInst} {p : BProg} {xs : List Int} (hi : tget s.brs.insts k = some i)
    (hp : tget s.brs.progs i.prog = some p) (hlive : i.live = true) (hsusp : i.suspended = false)
    (hrun : (coreOf s i.core).run = none) (hinv : i.invAt ≠ some (curTick s)) (hquiet : (audLeg s (k / 4)).quiet = false)
    (hwork : s.easel.work = true) (hu : u = (if k % 4 = 1 then s else if (audLeg s (k / 4)).pend = [] then audPrep s (k / 4) else s))
    (hxs : pointInput u k = some xs) :
    arrive s k =
      setCore (setInst u k { i.setWords false p.inOfs (xs.map (BitVec.ofInt 32)) with invAt := some (curTick u), nInv := i.nInv + 1 })
        i.core { coreOf s i.core with
          act := arrivalBank u p i, idle := (coreOf s i.core).act
          run := some { key := k, input := xs } } := by
  have hgo : ¬(¬i.live = true ∨ i.suspended = true ∨ (coreOf s i.core).run.isSome = true ∨ i.invAt = some (curTick s) ∨
      (audLeg s (k / 4)).quiet = true ∨ ¬s.easel.work = true) := by
    simp [hlive, hsusp, hrun, hinv, hquiet, hwork]
  subst hu
  simp only [arrive, hi, hp]
  refine (if_neg hgo).trans ?_
  simp only [hxs]

/-- A transfer that completes with no stall behind it. -/
theorem xferComplete_of_free {s : State} {c : Nat} {r : BRun} {t : BXfer} {rest : List BXfer} {i : BInst} (bad : List (BitVec 11))
    (hits : List EccHit) (hrun : (coreOf s c).run = some r) (hx : r.xfers = t :: rest) (hi : tget s.brs.insts r.key = some i)
    (hstall : r.stall = none) :
    xferComplete s c bad hits =
      setCore (setInst (eccHits s hits) r.key (xferMove (bad.map (·.toNat)) i t)) c
        { coreOf s c with run := some { r with xfers := rest, dirty := r.dirty || !bad.isEmpty || eccBad s hits [0, 1] } } := by
  simp only [xferComplete, hrun, hx, hi, hstall]

/-- Settles O43, each event on the fresh state by what its core or task is at. -/
theorem brushEventsComplete : Obligations.BrushEventsComplete := by
  refine ⟨?_, ?_, ?_, ?_, ?_⟩
  · intro s u leg pt i p xs hi hp hlive hsusp hrun hinv hquiet hwork hu hxs
    show execTaskArrival leg pt s = _
    exact Laws.act_keep (arrive_of_input (s := fresh s) hi hp hlive hsusp hrun hinv hquiet hwork hu hxs)
  · intro s c bad hits r t rest i hrun hx hi hstall
    show execXferComplete c bad hits s = _
    exact Laws.act_keep (xferComplete_of_free (s := fresh s) bad hits hrun hx hi hstall)
  · intro s c r w hrun hstall hstill
    show execWaitTimeout c s = _
    have hwait : (coreOf (fresh s) c.toNat).run.bind (·.stall) = some w := by
      rw [show (coreOf (fresh s) c.toNat).run = some r from hrun]
      exact hstall
    refine Laws.act_keep ?_
    simp only [hwait]
    rw [show (coreOf (cycles (fresh s) (w.since + 80 * fld (fresh s) SCH_WAIT_TO - (fresh s).clk.cyc)) c.toNat).run = some r from hstill]
    rfl
  · intro s c r i p hrun hi hp hcap
    show execCycleBudgetReached c s = _
    refine Laws.act_keep ?_
    simp only [coreOf_fresh, hrun, fresh_brs, hi, hp, Option.bind_some, Option.map_some, Option.getD_some]
    exact if_pos (decide_eq_true hcap)
  · intro s leg pt i hi hsusp hcount
    show execInstanceSuspend leg pt s = _
    refine Laws.act_keep ?_
    simp only [fresh_brs, hi]
    exact if_neg (by simp [hsusp, hcount])
end Sys2Proof.Machine

/-!
The events of the video engines and the canvas (R295 to R330).
-/
namespace Sys2Proof.Machine

/-- Settles O44, each event on the fresh state by the conditions of its clause. -/
theorem videoCanvasEventsComplete : Obligations.VideoCanvasEventsComplete := by
  refine ⟨?_, ?_, ?_, ?_, ?_, ?_, ?_, ?_⟩
  · intro s c facts hits x hx hwork hlive hran hturn
    show execVideoDecodeSlice c facts hits s = _
    refine Laws.act_keep ?_
    simp only [fresh_vid, hx]
    exact if_neg (by simp [hwork, hlive, hran, show decTurn (fresh s) c.toNat x = true from hturn])
  · intro s c bs us ps hits x p j hx hdue hpic hwork hlive hturn
    show execVideoEncodeSlice c bs us ps hits s = _
    refine Laws.act_keep ?_
    simp only [fresh_vid, hx, show sliceDue (fresh s) x = some j from hdue, hpic]
    exact if_neg (by simp [hwork, hlive, show encTurn (fresh s) c.toNat x = true from hturn])
  · intro s c x t hx hlast hlive hint hdue hnone
    show execKeyIntExpiry c s = _
    refine Laws.act_keep ?_
    simp only [fresh_vid, hx, hlast]
    exact if_pos ⟨hlive, hint, hdue, by simp [hnone]⟩
  · intro s k hits skip lost x c j hx hc hdue hwork hlive
    show execCanvasSlice k hits skip lost s = _
    refine Laws.act_keep ?_
    simp only [fresh_vid, hx, fresh_cnv, hc, show compDue (fresh s) c = some j from hdue]
    exact if_neg (by simp [hwork, hlive])
  · intro s k x c hx hc hdue
    show execFrameBoundary k s = _
    refine Laws.act_keep ?_
    simp only [fresh_vid, hx]
    exact if_pos hdue
  · intro s id g hg
    show execFlipTimeout id s = _
    refine Laws.act_keep ?_
    exact congrArg (List.foldl _ (fresh s)) hg
  · intro s id i k x c h hfind hc hh hpic hstale hn
    show execLayerStale id i s = _
    refine Laws.act_keep ?_
    simp only [fresh_vid, hfind, fresh_cnv, hc, hh]
    exact if_pos ⟨hpic, by simp [hstale], hn⟩
  · intro s k p h img n hp hload hfw
    show execPlateValid k s = _
    refine Laws.act_keep ?_
    simp only [fresh_pwr, hfw, Bool.false_eq_true, if_false, fresh_cnv, hp, hload]
end Sys2Proof.Machine

/-!
The events of the host interface (R82 to R111).
-/
namespace Sys2Proof.Machine

/-- Enabling a function does not touch its state. -/
theorem resetting_setFld_en (s : State) (f v : Nat) : resetting (setFld s (HIF_FN_EN f) v) f = resetting s f := by
  have hstate : fld (setFld s (HIF_FN_EN f) v) (HIF_FN_STATE f) = fld s (HIF_FN_STATE f) :=
    Laws.fld_setFld_ne s v ⟨Nat.le_refl _, by simp [HIF_FN_EN]⟩ (.inl (by simp [HIF_FN_EN, HIF_FN_STATE]))
  rw [resetting, resetting, hstate]

/-- Settles O45, each event on the fresh state by the conditions of its clause. -/
theorem hostInterfaceEventsComplete : Obligations.HostInterfaceEventsComplete := by
  refine ⟨?_, ?_, ?_, ?_, ?_, ?_, ?_, ?_, ?_, ?_, ?_, ?_, ?_, ?_, ?_⟩
  · intro s f q en hring hans
    show execHifRingEn f q en s = _
    exact Laws.act_keep (if_pos (by rw [hring]; exact hans))
  · intro s f q hq hstate hwait hrun hheld
    show execRingDrainDone f q s = _
    refine Laws.act_keep (if_neg ?_)
    rintro (h | h | h | h | h)
    · omega
    · exact h hstate
    · exact Bool.false_ne_true (hwait.symm.trans h)
    · exact Bool.false_ne_true (hrun.symm.trans h)
    · exact Bool.false_ne_true (hheld.symm.trans h)
  · intro s f en hans hreset
    show execHifFnEn f en s = _
    refine Laws.act_keep ((if_pos hans).trans (if_neg ?_))
    rw [resetting_setFld_en]
    exact fun h => Bool.false_ne_true (hreset.symm.trans h)
  · intro s f hf hex hctl
    show execFunctionLevelReset f s = _
    have hon : ¬(!ctlOn s) = true := by simp [hctl]
    exact Laws.act_keep ((if_neg hon).trans ((if_neg hf).trans (if_pos hex)))
  · intro s hctl
    show execFunctionLevelReset 0 s = _
    have hon : ¬(!ctlOn s) = true := by simp [hctl]
    exact Laws.act_keep ((if_neg hon).trans (if_pos rfl))
  · intro s hvf hctl
    show execVfEnableClear s = _
    have hen : ¬(!s.hif.vfEn) = true := by simp [hvf]
    exact Laws.act_keep ((if_pos hctl).trans (if_neg hen))
  · intro s f hans
    show execHifFnReset f s = _
    exact Laws.act_keep (if_pos hans)
  · intro s f hreset hend hrun hstate hfw
    show execFnResetComplete f s = _
    have hgo : ¬(!resetting s f.toNat || s.pwr.fwStop || decide (curTick s < (fnOf s f.toNat).resetEnd) ||
        s.hif.running.any (fun h => h.fn = f)) = true := by
      simp only [hreset, hfw, hrun, Nat.not_lt.mpr hend]
      decide
    refine Laws.act_keep ((if_neg hgo).trans ?_)
    have hheld : ¬fld (fresh s) (HIF_FN_STATE f.toNat) = 3 := hstate
    simp only [hheld, if_false]
    rfl
  · rintro s f q ws dma bad imgs r hfetch hreset hnext rfl
    show execDescriptorFetch f q (some ws) dma bad imgs s = _
    have hgo : ¬(!fetches s || resetting s f.toNat || fetchNext s f.toNat ≠ some q.toNat) = true := by simp [hfetch, hreset, hnext]
    exact Laws.act_keep (if_neg hgo)
  · intro s f q dma bad imgs hfetch hreset hnext
    show execDescriptorFetch f q none dma bad imgs s = _
    have hgo : ¬(!fetches s || resetting s f.toNat || fetchNext s f.toNat ≠ some q.toNat) = true := by simp [hfetch, hreset, hnext]
    exact Laws.act_keep (if_neg hgo)
  · intro s hfetch hissued hpoll
    show execDoorbellPoll s = _
    have hgo : ¬(!fetches s || !s.easel.issued || 2 ^ fld s HIF_DB_POLL_RATE ≤ s.hif.poll) = true := by
      simp [hfetch, hissued, hpoll]
    exact Laws.act_keep (if_neg hgo)
  · intro s f l ws media hread hreset hfetch
    show execDoorbellLineRead f l (some ws) media s = _
    have hgo : ¬(!s.hif.reads.contains (f.toNat, l.toNat) || resetting s f.toNat || !fetches s) = true := by
      rw [hread, hreset, hfetch]
      decide
    exact Laws.act_keep (if_neg hgo)
  · intro s f q hlow hhigh hstalled hheld hreset
    show execHostStall f q s = _
    have hgo : ¬(q.toNat < 16 ∨ 32 < q.toNat ∨ (ringOf s f.toNat q.toNat).stalled = true ∨
        (ringOf s f.toNat q.toNat).held ≤ fld s HIF_HOST_SERVICE_TICKS ∨ resetting s f.toNat = true) := by
      rintro (h | h | h | h | h)
      · omega
      · omega
      · exact Bool.false_ne_true (hstalled.symm.trans h)
      · omega
      · exact Bool.false_ne_true (hreset.symm.trans h)
    exact Laws.act_keep (if_neg hgo)
  · intro s f hrun hissued hmod
    show execModerationPoint f s = _
    have hgo : ¬(!s.easel.running || !s.easel.issued || (fnOf s f.toNat).modAt = some (curTick s)) = true := by
      simp [hrun, hissued, hmod]
    exact Laws.act_keep (if_neg hgo)
  · rintro s f m r e st rfl hdone hreset hen hstate
    show execMediaEntryFinish f m s = _
    refine Laws.act_keep ?_
    have hgo : ¬(resetting s f.toNat = true ∨ ¬bit s (HIF_RING_EN f.toNat (mediaQ m.toNat)) = true) := by simp [hreset, hen]
    simp only [mediaFinish, mediaOf_fresh, hdone]
    exact if_neg hgo
end Sys2Proof.Machine

/-!
The events of the time unit (R342 to R352, R456).
-/
namespace Sys2Proof.Machine

/-- Settles O46, each event on the fresh state by the conditions of its clause. -/
theorem timeEventsComplete : Obligations.TimeEventsComplete := by
  refine ⟨?_, ?_, ?_, ?_, ?_, ?_, ?_, ?_⟩
  · intro s ofs p l hmaster hfw hclk hreq hlaunch
    show execDelayReqSend ofs s = _
    refine Laws.act_keep ?_
    simp only [fresh_ptp, hmaster, hreq, hlaunch]
    exact if_neg (by simp [hfw, hclk])
  · intro s p a hmaster hann
    show execAnnounceTimeout s = _
    refine Laws.act_keep ?_
    simp only [fresh_ptp, hmaster, hann]
    rfl
  · intro s hstate
    show execMeasurementTimeout s = _
    exact Laws.act_keep (if_pos hstate)
  · intro s hstate
    show execHoldoverLimit s = _
    exact Laws.act_keep (if_pos hstate)
  · rintro s n hen hclk hsquelch hstep hstaged rfl
    show execPpsOutPulse s = _
    have hgo : ¬(!bit s PPS_OUT_EN || !s.clk.running || (bit s PPS_SQUELCH && bit s PTP_UNCERTAIN)) = true := by
      simp [hen, hclk, hsquelch]
    refine Laws.act_keep ((if_neg hgo).trans ?_)
    simp only [fresh_ptp, hstaged, hstep, Option.filter_none, Bool.false_and, Bool.false_eq_true, if_false]
    rfl
  · intro s falling hen hedge hclk hgap
    show execPpsInEdge falling s = _
    have hgo : ¬(!bit s PPS_IN_EN || bit s PPS_IN_EDGE != falling || !s.clk.running ||
        (s.ptp.ppsEdge && decide (localNs s < s.ptp.ppsAt + 900000000))) = true := by
      simpa [hen, hedge, hclk] using hgap
    exact Laws.act_keep (if_neg hgo)
  · intro s hen hlost
    show execPpsInLoss s = _
    have hgo : ¬(!bit s PPS_IN_EN || s.ptp.ppsLost) = true := by simp [hen, hlost]
    exact Laws.act_keep (if_neg hgo)
  · intro s e he
    show execPtpLaunchMiss s = _
    refine Laws.act_keep ?_
    rw [show earliest ((fresh s).net.egress.filter (fun e =>
      e.kind = 4 && (!linkUp (fresh s) e.port e.sub || decide (e.launch + 2000 ≤ ns (fresh s))))) = some e from he]
end Sys2Proof.Machine

/-!
The events of the Meash lanes and groups (R364 to R373).
-/
namespace Sys2Proof.Machine

/-! ## One test of a lane for an alignment marker (R364) -/

section
variable {s : State} {m l : Nat} {x : Lane} {b : List Byte} (hx : x = laneOf s m l) (hb : b = sl x.buf x.ofs 16)
include hx hb

/-- In SEARCH an exact marker starts CONFIRM. -/
theorem laneTest_search_hit (h : fld s (MSH_AM_STATE m l) = 0) (hpat : be b 0 6 = AM_PAT) (hcrc : crc16 (sl b 6 4) = be b 10 2) :
    laneTest s m l =
      setFld (setLane s m l { x with cnt := 1, mfc := be b 6 1, phy := be b 7 1 % 16, ofs := 2064 }) (MSH_AM_STATE m l) 1 := by
  subst hb hx
  simp only [laneTest, h]
  exact if_pos (by simp [hpat, hcrc])

/-- In SEARCH anything else moves on by one byte. -/
theorem laneTest_search_miss (h : fld s (MSH_AM_STATE m l) = 0) (hmiss : be b 0 6 ≠ AM_PAT ∨ crc16 (sl b 6 4) ≠ be b 10 2) :
    laneTest s m l = setLane s m l { x with buf := x.buf.tail } := by
  subst hb hx
  simp only [laneTest, h]
  refine if_neg ?_
  simp only [Bool.and_eq_true, decide_eq_true_eq]
  rintro ⟨hpat, hcrc⟩
  exact hmiss.elim (· hpat) (· hcrc)

/-- In CONFIRM the marker that follows is counted. -/
theorem laneTest_confirm_hit (h : fld s (MSH_AM_STATE m l) = 1) (hpat : be b 0 6 = AM_PAT) (hcrc : crc16 (sl b 6 4) = be b 10 2)
    (hnext : be b 6 1 = (x.mfc + 1) % 256) (hphy : be b 7 1 % 16 = x.phy) :
    laneTest s m l = setLane s m l { x with cnt := x.cnt + 1, mfc := be b 6 1, ofs := x.ofs + 2064 } := by
  subst hb hx
  simp only [laneTest, h]
  exact if_pos (by simp only [hpat, hcrc, hnext, hphy]; decide)

/-- In CONFIRM anything else goes back to SEARCH. -/
theorem laneTest_confirm_miss (h : fld s (MSH_AM_STATE m l) = 1)
    (hmiss : be b 0 6 ≠ AM_PAT ∨ crc16 (sl b 6 4) ≠ be b 10 2 ∨ be b 6 1 ≠ (x.mfc + 1) % 256 ∨ be b 7 1 % 16 ≠ x.phy) :
    laneTest s m l = setFld (setLane s m l { x with cnt := 0, buf := x.buf.tail, ofs := 0 }) (MSH_AM_STATE m l) 0 := by
  subst hb hx
  simp only [laneTest, h]
  refine if_neg ?_
  simp only [Bool.and_eq_true, decide_eq_true_eq]
  rintro ⟨⟨⟨hpat, hcrc⟩, hnext⟩, hphy⟩
  rcases hmiss with hm | hm | hm | hm
  · exact hm hpat
  · exact hm hcrc
  · exact hm hnext
  · exact hm hphy

/-- In LOCKED a marker that does not pass is counted and the lane goes on by its own count. -/
theorem laneTest_locked_miss (h : fld s (MSH_AM_STATE m l) = 2)
    (hmiss : 3 < ones (be b 0 6 ^^^ AM_PAT) ∨ crc16 (sl b 6 4) ≠ be b 10 2 ∨ be b 6 1 ≠ (x.mfc + 1) % 256) :
    ∃ y, laneTest s m l = setLane (laneDeliver s m l) m l y ∧ y.bad = x.bad + 1 ∧ y.mfc = (x.mfc + 1) % 256 ∧ y.tti = [] ∧
      y.buf = x.buf.drop x.ofs ∧ y.ofs = 2064 := by
  subst hb hx
  simp only [laneTest, h]
  refine ⟨_, if_neg ?_, rfl, rfl, rfl, rfl, rfl⟩
  simp only [Bool.and_eq_true, decide_eq_true_eq]
  rintro ⟨⟨hpat, hcrc⟩, hnext⟩
  rcases hmiss with hm | hm | hm
  · exact absurd hpat (Nat.not_le.mpr hm)
  · exact hm hcrc
  · exact hm hnext

end

/-- A port forced to no lane lets its lane go. -/
theorem apsSelect_release {s : State} {m : Nat} (hforce : (mshPort s m).live.w ≤ (mshPort s m).force.2) (hsel : (mshPort s m).sel ≠ none) :
    apsSelect s m =
      groupEval (setBit (setMshPort s m (groupFrames 8 { mshPort s m with
        sel := none, skip := if (mshPort s m).sel = some 0 then 2 else (mshPort s m).skip })) MSH_ST_APS) m := by
  have hwant : (if (mshPort s m).force.2 < (mshPort s m).live.w then some (mshPort s m).force.2 else none) = none :=
    if_neg (Nat.not_lt.mpr hforce)
  simp only [apsSelect, hwant]
  refine (if_neg (by simpa using Ne.symm hsel)).trans ?_
  simp

/-- The signal-fail hold-off of a lane, with no signal degrade behind it, ends one hold-off after it began. -/
theorem sfHoldoff_due {x : Lane} {h t : Nat} (hsf : x.sfSince = some t) (hon : x.sfOn = false) (hsd : x.sdSince = none) :
    ([x.sfSince.bind (fun t => if x.sfOn then none else some (t + h)),
      x.sdSince.bind (fun t => if x.sdOn then none else some (t + h))].filterMap id).min? = some (t + h) := by
  rw [hsf, hon, hsd]
  rfl

theorem sfHoldoff_on {x : Lane} {h t : Nat} (hsf : x.sfSince = some t) :
    (x.sfOn || (x.sfSince.map (fun b => decide (b + h ≤ t + h))).getD false) = true := by simp [hsf]

theorem sdHoldoff_off {x : Lane} {h t : Nat} (hsd : x.sdSince = none) :
    (x.sdOn || (x.sdSince.map (fun b => decide (b + h ≤ t + h))).getD false) = x.sdOn := by simp [hsd]

/-- Settles O47, each event on the fresh state by the conditions of its clause. -/
theorem meashLaneEventsComplete : Obligations.MeashLaneEventsComplete := by
  refine ⟨?_, ?_, ?_, ?_, ?_, ?_, ?_, ?_⟩
  · rintro s m l b delay unc sym x hctl hen hl rfl
    show execLaneFrameReceive m l b delay unc sym s = _
    have hgo : ¬(!ctlOn s || !(mshPort s m.toNat).live.en ||
        !(decide (l.toNat < (mshPort s m.toNat).live.w) || decide (l.toNat = 8))) = true := by
      rcases hl with h | h <;> simp [hctl, hen, h]
    exact Laws.act_keep (if_neg hgo)
  · intro s m l x b hx hb
    exact ⟨laneTest_search_hit hx hb, laneTest_search_miss hx hb, laneTest_confirm_hit hx hb, laneTest_confirm_miss hx hb,
      laneTest_locked_miss hx hb⟩
  · intro s m l hl hstate hcnt
    show execAmLock m l s = _
    exact Laws.act_keep ((if_neg (Nat.not_lt.mpr hl)).trans (if_pos ⟨hstate, hcnt⟩))
  · intro s m l hl hstate hbad
    show execAmLoss m l s = _
    exact Laws.act_keep ((if_neg (Nat.not_lt.mpr hl)).trans (if_pos ⟨hstate, hbad⟩))
  · intro s m l a hmulti hl
    show execTraceAccept m l s = _
    refine Laws.act_keep ?_
    simp only [show laneOf (fresh s) = laneOf s from rfl, hmulti]
    exact if_pos ⟨trivial, trivial, hl⟩
  · intro s m l t hsf hon hsd
    show execSfHoldoffExpiry m l s = _
    refine Laws.act_keep ?_
    rw [show fld (fresh s) MSH_HOLDOFF * 100000 = fld s MSH_HOLDOFF * 100000 from rfl, show laneOf (fresh s) = laneOf s from rfl]
    generalize fld s MSH_HOLDOFF * 100000 = h
    simp only [sfHoldoff_due hsf hon hsd, sfHoldoff_on hsf, sdHoldoff_off hsd]
    rfl
  · intro s m hforce hsel
    exact Laws.act_keep (k := (apsSelect · m.toNat)) (apsSelect_release (s := fresh s) hforce hsel)
  · intro s m l t hwtr
    show execWtrExpiry m s = _
    refine Laws.act_keep ?_
    simp only [mshPort_fresh, hwtr]
    rfl
end Sys2Proof.Machine

/-!
The units of the Meash, its markers and its wake patterns (R374 to R387).
-/
namespace Sys2Proof.Machine

/-- A whole unit with a good check and room in its buffers is used. -/
theorem unitRx_ok {s : State} {m v : Nat} {body : List Byte} (good : Bool) (k : State → State) (hup : mshUp s m = true)
    (hroom : (mshPort s m).held.getD v 0 + unitBlocks body ≤ vcSize v) (hcrc : unitCrcOk body = true) (hgood : good = true) :
    unitRx s m v body false good k = k (freeBlocks s m v (unitBlocks body)) := by
  have h1 : ¬(!(mshUp s m || (false && (mshPort s m).live.en))) = true := by simp [hup]
  have h3 : ¬(false || !unitCrcOk body || !good) = true := by simp [hcrc, hgood]
  exact (if_neg h1).trans ((if_neg (Nat.not_lt.mpr hroom)).trans (if_neg h3))

/-! ## A tick marker that comes in (R381 to R385) -/

/-- What a marker of tick `n` does once its arrival stands in the port's record. -/
def markerUse (u : State) (m skip n : Nat) (rx arr : Int) (body : List Byte) : State :=
  let txPeer := (BitVec.ofNat 32 (be body 8 4)).toInt
  let good := (be body 16 1).testBit 7
  if fld u TIK_SRC ≠ 1 ∨ m ≠ fld u MSH_TICK_PORT then u
  else
    match markerPhase u m n rx txPeer (BitVec.ofNat 32 (be body 12 4)) with
    | some (phi, d) =>
      let u := setReg u MSH_TICK_DELAY.addr (i32 d)
      if 0 < skip then
        if good && sameTick u n then { u with msh := { u.msh with lastOk := some (curTick u) } } else u
      else
        let u := setReg u MSH_TICK_PHASE.addr (i32 phi)
        if good then followMarker u n (some phi) (ownStart8 u n - phi) else u
    | none => if good then followMarker u n none (arr - txPeer) else u

/-- A port's record with the arrival `rx` of the marker of tick `n`. -/
def arrived (x : MshPort) (n : Nat) (rx : Int) : MshPort :=
  { x with rx := ((n, rx) :: x.rx.filter (fun q => q.1 ≠ n)).take 3, skip := x.skip - 1 }

/-- A whole marker that arrives within the record's range. -/
theorem tickMarkerReceive_arrived {s : State} {m : BitVec 2} {body : List Byte} {n : Nat} {rx : Int} (hup : mshUp s m.toNat = true)
    (hissued : s.easel.issued = true) (hcrc : unitCrcOk body = true) (hlen : body.length = 21) (hn : n = be body 0 8)
    (hrx : rx = (s.clk.t : Int) / 2 ^ 45 - ownStart8 s n) (hlow : -(2 ^ 31) < rx) (hhigh : rx < 2 ^ 31) :
    exec (.tickMarkerReceive m body) s = .next (keepQueue s
      (markerUse (setMshPort (fresh s) m.toNat (arrived (mshPort s m.toNat) n rx)) m.toNat (mshPort s m.toNat).skip n rx
        ((s.clk.t : Int) / 2 ^ 45) body)) := by
  have hon : ¬(!mshUp s m.toNat || !s.easel.issued) = true := by simp [hup, hissued]
  have hwhole : ¬(!unitCrcOk body || decide (body.length ≠ 21)) = true := by simp [hcrc, hlen]
  have hfits : (decide (-(2 ^ 31) < rx) && decide (rx < 2 ^ 31)) = true := by
    rw [decide_eq_true hlow, decide_eq_true hhigh]
    rfl
  subst hn hrx
  show execTickMarkerReceive m body s = _
  refine Laws.act_keep ((if_neg hon).trans ((if_neg hwhole).trans ?_))
  exact congrArg (fun l => markerUse (setMshPort (fresh s) m.toNat
      { mshPort s m.toNat with rx := List.take 3 l, skip := (mshPort s m.toNat).skip - 1 }) m.toNat (mshPort s m.toNat).skip
      (be body 0 8) ((s.clk.t : Int) / 2 ^ 45 - ownStart8 s (be body 0 8)) ((s.clk.t : Int) / 2 ^ 45) body) (if_pos hfits)

theorem markerUse_off {u : State} {m skip n : Nat} {rx arr : Int} {body : List Byte} (h : fld u TIK_SRC ≠ 1) :
    markerUse u m skip n rx arr body = u := if_pos (.inl h)

section
variable {u : State} {m skip n : Nat} {rx arr : Int} {body : List Byte} (hsrc : fld u TIK_SRC = 1) (hport : m = fld u MSH_TICK_PORT)
include hsrc hport

/-- A good marker whose sender has no echo yet. -/
theorem markerUse_noEcho (hgood : (be body 16 1).testBit 7 = true) (hecho : BitVec.ofNat 32 (be body 12 4) = (0x80000000 : Word)) :
    markerUse u m skip n rx arr body = followMarker u n none (arr - (BitVec.ofNat 32 (be body 8 4)).toInt) := by
  have hphase : markerPhase u m n rx (BitVec.ofNat 32 (be body 8 4)).toInt (BitVec.ofNat 32 (be body 12 4)) = none := if_pos hecho
  simp only [markerUse, hphase]
  refine (if_neg ?_).trans (if_pos hgood)
  simp [hsrc, hport]

/-- A marker whose echo gives a phase, with none left to skip. -/
theorem markerUse_phase {phi d : Int} (hskip : skip = 0)
    (hphase : markerPhase u m n rx (BitVec.ofNat 32 (be body 8 4)).toInt (BitVec.ofNat 32 (be body 12 4)) = some (phi, d)) :
    markerUse u m skip n rx arr body =
      (let v := setReg (setReg u MSH_TICK_DELAY.addr (i32 d)) MSH_TICK_PHASE.addr (i32 phi)
       if (be body 16 1).testBit 7 then followMarker v n (some phi) (ownStart8 v n - phi) else v) := by
  simp only [markerUse, hphase]
  refine (if_neg ?_).trans (if_neg ?_)
  · simp [hsrc, hport]
  · simp [hskip]

end

/-- Settles O48, each event on the fresh state by the conditions of its clause. -/
theorem meashUnitEventsComplete : Obligations.MeashUnitEventsComplete := by
  refine ⟨?_, ?_, ?_, ?_, ?_, ?_, ?_, ?_, ?_, ?_, ?_, ?_, ?_, ?_⟩
  · intro s m body hup hroom hcrc hlen
    show execPartialUnitReceive m body false s = _
    exact Laws.act_keep (unitRx_ok (s := fresh s) _ _ hup hroom hcrc (decide_eq_true hlen))
  · intro s m body hup hroom hcrc hlen
    show execMediaUnitReceive m body false s = _
    exact Laws.act_keep (unitRx_ok (s := fresh s) _ _ hup hroom hcrc (decide_eq_true hlen))
  · intro s m vc body hup hroom hcrc
    show execControlUnitReceive m 5 vc body false s = _
    exact Laws.act_keep ((if_neg (by decide)).trans (unitRx_ok (s := fresh s) _ id hup hroom hcrc (decide_eq_true rfl)))
  · intro s m body hup hcrc hlen hroom
    show execCreditUnitReceive m body s = _
    have hon : ¬(!mshUp s m.toNat) = true := by simp [hup]
    have hwhole : ¬(!unitCrcOk body || decide (body.length ≠ 10)) = true := by simp [hcrc, hlen]
    have hnone : [0, 1, 2].find? (fun v => decide (vcSize v <
        ([be body 0 2, be body 2 2, be body 4 2].getD v 0 + 65536 - (mshPort s m.toNat).sent.getD v 0) % 65536)) = none := by
      rw [List.find?_eq_none]
      intro v hv
      simpa using hroom v hv
    refine Laws.act_keep ((if_neg hon).trans ((if_neg hwhole).trans ?_))
    rw [mshPort_fresh, hnone]
  · intro s m hup
    show execCreditUnitSend m s = _
    have hon : ¬(!mshUp s m.toNat) = true := by simp [hup]
    exact Laws.act_keep (if_neg hon)
  · intro s m t b r hq
    show execMediaUnitTimeout m s = _
    refine Laws.act_keep ?_
    simp only [mshPort_fresh, hq]
    rfl
  · intro s ofs hissued
    show execTickMarkerSend ofs s = _
    have hon : ¬(!s.easel.issued) = true := by simp [hissued]
    exact Laws.act_keep (if_neg hon)
  · intro s m body n rx hup hissued hcrc hlen hn hrx hlow hhigh hsrc
    rw [tickMarkerReceive_arrived hup hissued hcrc hlen hn hrx hlow hhigh, markerUse_off]
    · rfl
    · exact hsrc
  · rintro s t m body n rx hup hissued hcrc hlen hn hrx hlow hhigh hsrc hport hgood hecho rfl
    rw [tickMarkerReceive_arrived hup hissued hcrc hlen hn hrx hlow hhigh, markerUse_noEcho ?_ ?_ hgood hecho]
    · rfl
    · exact hsrc
    · exact hport
  · rintro s t m body n rx phi d hup hissued hcrc hlen hn hrx hlow hhigh hsrc hport hskip rfl hphase
    have harr : arrived (mshPort s m.toNat) n rx = { mshPort s m.toNat with
        rx := ((n, rx) :: (mshPort s m.toNat).rx.filter (fun q => q.1 ≠ n)).take 3, skip := 0 } := by rw [arrived, hskip]
    rw [tickMarkerReceive_arrived hup hissued hcrc hlen hn hrx hlow hhigh, harr, markerUse_phase ?_ ?_ hskip hphase]
    · exact hsrc
    · exact hport
  · rintro s m rfl hsrc hlock hrun
    show execTickLockAcquire s = _
    exact Laws.act_keep (if_pos ⟨hsrc, hlock, hrun⟩)
  · rintro s m rfl hsrc hlock hbad
    show execTickLockLost s = _
    exact Laws.act_keep (if_pos ⟨hsrc, hlock, .inr hbad⟩)
  · intro s m bs hrun hwake
    show execWakePatternDetect m bs s = _
    exact Laws.act_keep (if_pos (Bool.and_eq_true_iff.mpr ⟨decide_eq_true hrun, hwake⟩))
  · intro s m t hwaking
    show execWakePatternSendEnd m s = _
    refine Laws.act_keep ?_
    simp only [mshPort_fresh, hwaking]
    rfl
end Sys2Proof.Machine

/-!
The events of memory and calibration (R398 to R432).
-/
namespace Sys2Proof.Machine

/-! ## What the memory's events read -/

theorem spareState_outPc (s : State) (i v : Nat) : fld (setFld s (MEM_OUT_PC i) v) (MEM_SPARE_STATE i) = fld s (MEM_SPARE_STATE i) :=
  Laws.fld_setFld_ne s v ⟨by simp [MEM_OUT_PC], by simp [MEM_OUT_PC]⟩ (.inr (.inr (by simp [MEM_OUT_PC, MEM_SPARE_STATE])))

theorem spareState_stSpare (s : State) (i : Nat) : fld (setBit s MEM_ST_SPARE) (MEM_SPARE_STATE i) = fld s (MEM_SPARE_STATE i) :=
  Laws.fld_setFld_ne s 1 ⟨by simp [MEM_ST_SPARE], by simp [MEM_ST_SPARE]⟩ (.inl (by simp [MEM_ST_SPARE, MEM_SPARE_STATE]; omega))

/-- Whether a setting may be taken does not turn on where the retrain stands. -/
theorem settingIn_setPc (s : State) (j : Nat) (x : Pc) (k step : Nat) (v : List Int) :
    settingIn (setPc s j x) k step v = settingIn s k step v := rfl

/-- A trim slot that is due is taken. -/
theorem trimSlot_due {s : State} {c i : Nat} (htrims : trims s = true) (hseg : segNow s = 3)
    (hat : tget s.cal.slotAt (calKey c i) ≠ some (curTick s)) :
    trimSlot s c i = some { s with cal := { s.cal with slotAt := tset s.cal.slotAt (calKey c i) (curTick s) } } :=
  if_pos (by simp [htrims, hseg, hat])

/-- A pseudo-channel in service whose interval ends starts to retrain. -/
theorem retrainStart_idle {s : State} {st p : Nat} (hin : retrains s st p = true) (hstep : (pcOf s (32 * st + p)).step = 0) :
    retrainStart s st p = setPc s (32 * st + p) { pcOf s (32 * st + p) with step := 1, pieces := 0 } :=
  if_neg (by simp [hin, hstep])

/-- Settles O49, each event on the fresh state by the conditions of its clause. -/
theorem memoryEventsComplete : Obligations.MemoryEventsComplete := by
  refine ⟨?_, ?_, ?_, ?_, ?_, ?_, ?_, ?_, ?_, ?_, ?_, ?_⟩
  · intro s read skipped hits w hw hfw
    show execSweepComplete read skipped hits s = _
    refine Laws.act_keep ?_
    rw [show (if (fresh s).pwr.fwStop = true then none else (fresh s).mem.sweep) = some w from
      (if_neg (by simp [hfw])).trans hw]
    rfl
  · intro s k p hdom hread hhot hhalf
    show execHbmRefresh k p s = _
    have hnow : decide ((fld s MEM_HOT_C : Int) < memTemp s k.toNat) = true := decide_eq_true hhot
    have hgo : ¬(!domOn s DOM_MEM || (stackOf s k.toNat).tempAt.isNone || bit s (MEM_REF_HALF k.toNat) = true) = true := by
      simp [hdom, hhalf, Option.isSome_iff_ne_none.mp hread]
    refine Laws.act_keep ?_
    simp only [show memTemp (fresh s) = memTemp s from rfl, fld_fresh, hnow]
    exact if_neg hgo
  · intro s k temp hdom hrun hnone
    show execHbmTempRead k temp s = _
    have hgo : ¬(!domOn s DOM_MEM || !s.easel.running ||
        ((stackOf s k.toNat).tempAt.map (fun n => decide (curTick s < n + 12))).getD false) = true := by
      simp [hdom, hrun, hnone]
    exact Laws.act_keep (if_neg hgo)
  · intro s k p hat hin hstep
    show execRetrainInterval k p s = _
    exact Laws.act_keep ((if_neg (Nat.not_lt.mpr hat)).trans (retrainStart_idle (s := fresh s) hin hstep))
  · rintro s st p cand margin good k x rfl rfl hstep hat hmode hrun hset hmore
    show execRetrainPiece st p cand margin good s = _
    have hgo : ¬((pcOf s (32 * st.toNat + p.toNat)).step = 0 || (pcOf s (32 * st.toNat + p.toNat)).pieceAt = some (curTick s, segNow s) ||
        !memModes.contains (mode s) || !s.easel.running) = true := by
      simp [hstep, hat, hmode, hrun, memModes]
    refine Laws.act_keep ((if_neg hgo).trans ?_)
    rw [show (if (pcOf (fresh s) (32 * st.toNat + p.toNat)).step = 1 then good.map (·.toNat)
      else (pcOf (fresh s) (32 * st.toNat + p.toNat)).margins) = good.map (·.toNat) from if_pos hstep]
    refine (if_neg ?_).trans ((if_neg ?_).trans (if_neg ?_))
    · intro h
      rw [settingIn_setPc, show pcOf (fresh s) = pcOf s from rfl, hstep, show settingIn (fresh s) = settingIn s from rfl, hset] at h
      exact Bool.false_ne_true h
    · exact fun h => absurd h.2 (by rw [show pcOf (fresh s) = pcOf s from rfl]; omega)
    · intro h
      rw [show pcOf (fresh s) = pcOf s from rfl, hstep] at h
      omega
  · rintro s st p x rfl hfail hslot hstate hspare
    show execPcFail st p s = _
    have hgo : ¬(!pcFailed s st.toNat p.toNat) = true := by simp [hfail]
    refine Laws.act_keep ((if_neg hgo).trans ((if_pos hslot).trans (if_pos ⟨?_, hspare⟩)))
    rw [spareState_outPc, spareState_stSpare]
    exact hstate
  · intro s st m hmig hchunk hdom hhits
    show execMigrationChunk st [] s = _
    have hgo : ¬(slotChunks ≤ m.chunk ∨ (!domOn s DOM_MEM) = true) := by
      rintro (h | h)
      · exact absurd hchunk (Nat.not_lt.mpr h)
      · simp [hdom] at h
    refine Laws.act_keep ?_
    simp only [show (stackOf (fresh s) st.toNat).mig = some m from hmig]
    refine (if_neg hgo).trans ?_
    rw [show chunkHits (fresh s) st.toNat m [] = [] from hhits, List.foldl_nil, stackOf_fresh, hmig]
    rfl
  · intro s st m hmig hchunk
    show execMigrationEnd st s = _
    refine Laws.act_keep ?_
    simp only [show (stackOf (fresh s) st.toNat).mig = some m from hmig]
    exact if_neg (Nat.not_lt.mpr hchunk)
  · intro s hleak
    show execBucketLeak s = _
    exact Laws.act_keep (if_neg (Nat.not_lt.mpr hleak))
  · intro s k synd addr hok hcount
    show execBucketOverflow k synd addr s = _
    have hgo : ¬((!(EccHit.mk k 0 0 synd addr).ok) = true ∨ fld s (ECC_BUCKET k.toNat) + 1 ≤ fld s ECC_CE_THRESH) := by
      rintro (h | h)
      · rw [Bool.not_eq_true'] at h
        exact Bool.false_ne_true (h.symm.trans hok)
      · omega
    exact Laws.act_keep (if_neg hgo)
  · rintro s t msh lane cand v h v0 h0 c rfl htrims hseg hat hlane hv hh rfl
    show execSerdesTrimSlot msh lane cand v h v0 h0 s = _
    refine Laws.act_keep ?_
    simp only [trimSlot_due (s := fresh s) htrims hseg hat]
    exact if_neg (by simp; omega)
  · rintro s t t0 htrims htick hseg hat rfl
    show execSensorTrimSlot [t0] [] none s = _
    refine Laws.act_keep ?_
    rw [show (if curTick (fresh s) % 1200 = 600 then trimSlot (fresh s) 5 0 else none) = _ from
      (if_pos htick).trans (trimSlot_due (s := fresh s) htrims hseg hat)]
    rfl
end Sys2Proof.Machine

/-!
The events of power, heat and management (R447 to R466, R482, R514).
-/
namespace Sys2Proof.Machine

/-! ## What the events of power leave of the state -/

theorem ppsLower_pwr (s : State) : (ppsLower s).pwr = s.pwr := by
  unfold ppsLower
  split
  · rfl
  · dsimp only
    split <;> rfl

theorem tickLower_pwr (s : State) : (tickLower s).pwr = s.pwr := by
  unfold tickLower
  split
  · rfl
  · dsimp only
    split <;> rfl

theorem tickCut_pwr (s : State) : (tickCut s).pwr = s.pwr := by
  unfold tickCut
  split
  · rfl
  · exact tickLower_pwr s

/-- Messages sent one after another stand in their order behind what was sent before. -/
theorem foldl_emitOut {α : Type} (f : α → OutMsg) (xs : List α) (s : State) :
    xs.foldl (fun s x => emitOut s (f x)) s = { s with out := s.out ++ xs.map f } := by
  induction xs generalizing s with
  | nil => simp
  | cons x xs ih =>
    rw [List.foldl_cons, ih, List.map_cons]
    simp only [emitOut, List.append_assoc, List.singleton_append]

/-- A reading below the warning, with no hot run behind it, changes nothing. -/
theorem tempJudge_cool {s : State} {t : Int} (hstate : fld s PWR_THERM_STATE = 0) (hcool : t < fld s PWR_WARN_C) (hhot : s.pwr.hot < 2) :
    tempJudge s t = s := by
  have hwarm : ¬(fld s PWR_THERM_STATE = 0 ∧ (fld s PWR_WARN_C : Int) ≤ t) := fun h => absurd hcool (Int.not_lt.mpr h.2)
  have hback : ¬(fld s PWR_THERM_STATE = 1 ∧ t ≤ (fld s PWR_WARN_C : Int) - fld s PWR_HYST_C) := fun h => by omega
  simp only [tempJudge, if_neg hwarm, if_neg hback]
  exact if_pos (.inr hhot)

/-- Settles O50, each event on the fresh state by the conditions of its clause. -/
theorem powerEventsComplete : Obligations.PowerEventsComplete := by
  refine ⟨?_, ?_, ?_, ?_, ?_, ?_, ?_, ?_, ?_, ?_, ?_, ?_, ?_, ?_, ?_, ?_⟩
  · intro s e h htrans hmode hfw
    show execDozeDomainsOff s = _
    refine Laws.act_keep ?_
    have hnow : mode (setPwr (fresh s) { s.pwr with trans := none }) = 6 := hmode
    simp only [fresh_pwr, htrans]
    refine (if_pos ⟨hmode, by simp [hfw]⟩).trans ?_
    simp only [transDone, fresh_pwr, htrans, hnow]
    rfl
  · intro s t u htrans hup htarget hmode hkind hwaits htick hfw
    show execDozeExitReady s = _
    refine Laws.act_keep ?_
    simp only [fresh_pwr, htrans, hup]
    exact if_pos ⟨htarget, hmode, hkind, by simp [hwaits], htick, by simp [hfw]⟩
  · intro s e hstop hsaved hemit hout
    show execSleepEntry s = _
    have hgo : ¬(s.pwr.saved || s.easel.emit.isSome || (s.easel.issued && !outOfService s)) = true := by
      simpa [hsaved, hemit] using hout
    refine Laws.act_keep ?_
    simp only [fresh_easel, hstop]
    refine (if_neg hgo).trans ?_
    simp only [ppsLower_pwr, tickCut_pwr]
  · intro s hsaved hrun
    show execClockStop s = _
    have hgo : ¬(!s.pwr.saved || !s.clk.running) = true := by simp [hsaved, hrun]
    exact Laws.act_keep (if_neg hgo)
  · intro s p hen
    show execEthSignalWake p s = _
    exact Laws.act_keep (if_pos hen)
  · intro s hen
    show execPcieWake s = _
    exact Laws.act_keep (if_pos hen)
  · intro s hen htimer hrun
    show execSleepTimerWake s = _
    have hgo : (bit s PWR_WAKE_EN_TIMER && fld s PWR_SLEEP_TIMER ≠ 0 && !s.clk.running) = true := by simp [hen, htimer, hrun]
    exact Laws.act_keep (if_pos hgo)
  · intro s u src port hup hwake hmode hkind hwaits hgood
    show execWake s = _
    refine Laws.act_keep ?_
    simp only [fresh_pwr, hup, hwake]
    refine if_neg ?_
    rintro (h | h | h | h)
    · exact h hmode
    · exact h hkind
    · exact Bool.false_ne_true (hwaits.symm.trans h)
    · exact h hgood
  · intro s c hwoken hrun
    show execClockRestart c s = _
    have hgo : ¬(!s.pwr.woken || s.clk.running) = true := by simp [hwoken, hrun]
    exact Laws.act_keep (if_neg hgo)
  · intro s hdom
    show execPcieLinkUp s = _
    have hgo : ¬(!domOn s 1) = true := by simp [hdom]
    exact Laws.act_keep (if_neg hgo)
  · intro s raw v i hrun hat hmode hhot
    show execTempReading raw s = _
    refine Laws.act_keep ?_
    simp only [show liveOf (fresh s) = liveOf s from rfl, hhot]
    refine if_pos ?_
    rw [if_neg (show ¬mode (fresh s) = 1 from hmode)]
    simp [hrun, hat]
  · intro s t hstate hcool hhot
    exact tempJudge_cool hstate hcool hhot
  · intro s e he hdue
    show execCritDrainExpiry s = _
    refine Laws.act_keep ?_
    simp only [fresh_pwr, he]
    exact if_neg (Nat.not_lt.mpr hdue)
  · intro s hrail
    show execThermalTrip s = _
    exact Laws.act_keep (if_pos hrail)
  · intro s hmode hfw hlast
    show execPmbusPoll s = _
    have hgap : (s.pwr.pmbusAt.map (fun n => decide (curTick s < n + 1200))).getD false = false := by
      cases hat : s.pwr.pmbusAt with
      | none => rfl
      | some n => exact decide_eq_false (Nat.not_lt.mpr (hlast n hat))
    have hgo : ¬(!reqModes.contains (mode s) || s.pwr.fwStop ||
        (s.pwr.pmbusAt.map (fun n => decide (curTick s < n + 1200))).getD false) = true := by
      rw [hmode, hfw, hgap]
      decide
    refine Laws.act_keep ((if_neg hgo).trans ?_)
    rw [foldl_emitOut]
    rfl
  · intro s hdom
    show execFirmwareStop s = _
    exact Laws.act_keep (if_pos hdom)
end Sys2Proof.Machine

/-!
Resets, rails, boot and PRIME (R17 to R20, R399, R416, R440 to R445, R500 to R503).
-/
namespace Sys2Proof.Machine

/-- A pulse of a reset pin that is long enough, or taken, and finds the device not in its cold reset. -/
theorem pinReset_warm {s : State} {pin cause width : Nat} {taken : Bool} (hlong : 100 ≤ width) (htaken : width < 1000 → taken = true)
    (hcold : s.pwr.cold = false) :
    pinReset s pin cause width taken =
      (let t := setPwr s { s.pwr with pins := s.pwr.pins ||| 2 ^ pin }
       let t := if mode t = 0 ∧ !t.pwr.held then t else enterReset t cause t.pwr.held
       setPwr t { t.pwr with alert := 0, up := if t.pwr.held then none else s.pwr.up.filter (fun u => u.kind = 0) }) := by
  have hseen : ¬(width < 100 ∨ (width < 1000 ∧ (!taken) = true)) := by
    rintro (h | ⟨h, hno⟩)
    · omega
    · simp [htaken h] at hno
  have hwarm : ¬(setPwr s { s.pwr with pins := s.pwr.pins ||| 2 ^ pin }).pwr.cold = true := by simp [setPwr, hcold]
  exact (if_neg hseen).trans (if_neg hwarm)

/-- The conditions under which a rail is raised. -/
theorem railRaise_go {s : State} {u : PowerUp} (hwaits : u.waits = false) (hkind : u.kind ≠ 1) (hgood : u.kind = 3 → s.pwr.good ≠ 63)
    (hlower : s.pwr.lower = none) :
    ¬(u.waits || u.kind = 1 || (u.kind = 3 && s.pwr.good = 63) || s.pwr.lower.isSome) = true := by
  simpa [hwaits, hkind, hlower] using hgood

/-- Settles O51, each event on the fresh state by the conditions of its clause. -/
theorem resetEventsComplete : Obligations.ResetEventsComplete := by
  refine ⟨?_, ?_, ?_, ?_, ?_, ?_, ?_, ?_, ?_, ?_, ?_, ?_, ?_, ?_, ?_, ?_, ?_, ?_, ?_, ?_, ?_⟩
  · intro s
    rfl
  · intro s hcold hpins
    show execColdResetEnd s = _
    have hgo : ¬(!s.pwr.cold) = true := by simp [hcold]
    exact Laws.act_keep ((if_neg hgo).trans (if_pos hpins))
  · intro s hcold hpins
    show execColdResetEnd s = _
    have hgo : ¬(!s.pwr.cold) = true := by simp [hcold]
    exact Laws.act_keep ((if_neg hgo).trans (if_neg hpins))
  · intro s w taken hlong hcold
    show execPerstNAssert w taken s = _
    have hseen : ¬(w.toNat < 100 ∨ (w.toNat < 1000 ∧ (!taken) = true)) := by omega
    exact Laws.act_keep ((if_neg hseen).trans (if_pos hcold))
  · intro s w taken hlong htaken hcold
    show execPerstNAssert w taken s = _
    exact Laws.act_keep (pinReset_warm (s := fresh s) hlong htaken hcold)
  · intro s w taken hlong htaken hcold
    show execSysResetNAssert w taken s = _
    exact Laws.act_keep (pinReset_warm (s := fresh s) hlong htaken hcold)
  · intro s hpins hcold
    show execResetRelease s = _
    exact Laws.act_keep ((if_neg hpins).trans (if_neg (show ¬s.pwr.cold = true by simp [hcold])))
  · intro s u i hup hwaits hkind hgood hlower hrail
    show execRailRaise s = _
    refine Laws.act_keep ?_
    simp only [fresh_pwr, hup]
    refine (if_neg (railRaise_go hwaits hkind hgood hlower)).trans ?_
    simp only [setPwr, hrail]
  · intro s u hup hwaits hkind hlower hrail hpins
    show execRailRaise s = _
    refine Laws.act_keep ?_
    simp only [fresh_pwr, hup]
    refine (if_neg (railRaise_go hwaits (by omega) (by omega) hlower)).trans ?_
    simp only [setPwr, hrail]
    exact (if_pos hkind).trans (if_pos hpins)
  · intro s u hup hwaits hkind hgood hlower hrail
    show execRailRaise s = _
    refine Laws.act_keep ?_
    simp only [fresh_pwr, hup]
    refine (if_neg (railRaise_go hwaits (by omega) (fun _ => hgood) hlower)).trans ?_
    simp only [setPwr, hrail]
    exact (if_neg (by omega)).trans (if_pos hkind)
  · intro s left i j hlower htop hnext
    show execRailLower s = _
    refine Laws.act_keep ?_
    simp only [fresh_pwr, hlower, htop, hnext, Option.isNone_some, Bool.false_eq_true, if_false]
    exact if_pos rfl
  · intro s i hgood
    show execRailFault i s = _
    have hgo : ¬(!(s.pwr.good &&& s.pwr.rails).testBit i.toNat) = true := by simpa using hgood
    exact Laws.act_keep (if_neg hgo)
  · intro s src u hup hwaits hfails hlower hmay
    show execPowerupTimeout src s = _
    have hgo : ¬(u.waits || s.pwr.lower.isSome || !mayFail s u src.toNat) = true := by simp [hwaits, hlower, hmay]
    refine Laws.act_keep ?_
    simp only [fresh_pwr, hup]
    exact (if_neg hgo).trans (if_neg (Nat.not_le.mpr hfails))
  · intro s src u hup hwaits hfails hlower hmay
    show execPowerupTimeout src s = _
    have hgo : ¬(u.waits || s.pwr.lower.isSome || !mayFail s u src.toNat) = true := by simp [hwaits, hlower, hmay]
    refine Laws.act_keep ?_
    simp only [fresh_pwr, hup]
    exact (if_neg hgo).trans (if_pos hfails)
  · intro s u i hup hwaits hlower hkind hrail
    show execPowerupRetry s = _
    have hgo : ¬(!u.waits || s.pwr.lower.isSome) = true := by simp [hwaits, hlower]
    refine Laws.act_keep ?_
    simp only [fresh_pwr, hup]
    refine (if_neg hgo).trans ((if_neg hkind).trans ?_)
    simp only [setPwr, hrail]
  · intro s u hup hwaits hlower hkind hrail
    show execPowerupRetry s = _
    have hgo : ¬(!u.waits || s.pwr.lower.isSome) = true := by simp [hwaits, hlower]
    refine Laws.act_keep ?_
    simp only [fresh_pwr, hup]
    refine (if_neg hgo).trans ((if_neg (by omega)).trans ?_)
    simp only [setPwr, hrail]
    exact if_pos hkind
  · intro s len svn ver edges gesso flash hmode hstate hdom hmin hmax hsvn
    show execBootImageCheck true len true true 0x9416 svn ver edges gesso flash s = _
    have hgo : ¬(mode s ≠ 1 ∨ fld s CTL_BOOT_STATE ≠ 1 ∨ (!domOn s 2) = true) := by simp [hmode, hstate, hdom]
    have hfound : ¬(!s.pwr.bootHost && !true) = true := by simp
    have hlen : ¬(len.toNat < 65536 ∨ 6291456 < len.toNat) := by omega
    exact Laws.act_keep ((if_neg hgo).trans ((if_neg hfound).trans ((if_neg hlen).trans (if_neg (Nat.not_lt.mpr hsvn)))))
  · intro s hmode hstate
    show execCtlBootGo s = _
    exact Laws.act_keep (if_pos ⟨hmode, hstate⟩)
  · intro s hlow hhigh
    show execSysSetupDone s = _
    exact Laws.act_keep (if_pos ⟨hlow, hhigh⟩)
  · intro s res hmode htrained hdom
    show execPrimeTraining res s = _
    have hgo : ¬(mode s ≠ 2 ∨ s.pwr.trained = true ∨ (!domOn s DOM_MEM) = true) := by simp [hmode, htrained, hdom]
    exact Laws.act_keep (if_neg hgo)
  · intro s hmode htrained hsetup
    show execPrimeComplete s = _
    have hgo : ¬(mode s ≠ 2 ∨ (!s.pwr.trained) = true ∨ (!bit s SYS_ST_SETUP) = true) := by simp [hmode, htrained, hsetup]
    exact Laws.act_keep (if_neg hgo)
end Sys2Proof.Machine
